-- ==== Sys2Proof/Word.lean ====
section
/-! DEFINITION. The word types of the PL-9600: bytes as they stand in frames, and the plain numbers
behind object values. -/

namespace Sys2Proof

/-- One octet of a frame, packet, DOMAIN or VSTR content (R6, R534). -/
abbrev Byte := BitVec 8

/-- A 32-bit word that the manual numbers by bits: a fault address (R51), a status word (R54). -/
abbrev Word32 := BitVec 32

/-- Number of a session: 0 the module itself, 1 to 16 AOA, 17 to 20 the SDO servers of CAN0 to CAN3 (R544). -/
abbrev Sess := Nat

end Sys2Proof
end

