-- ==== Sys2Proof/Syntax.lean ====
section
/-! DEFINITION. The commands and events of the PL-9600 module: one constructor of `Instr` for each row of
spec/opcode_table.json, with the operands the spec's rules give the row. A command written through an object
carries the session that writes and the value written; a physical event carries what the sensor, the line or
the arithmetic of an engine presented. -/

namespace Sys2Proof

/-- The seven dies of R46, in the order of 2201h and 2202h (R64). -/
inductive Die | c | t | n | g | w | f0 | f1
deriving DecidableEq, Repr

/-- The two field dies of package P3 (R46). -/
inductive FieldDie | f0 | f1
deriving DecidableEq, Repr

/-- The two field-side packages that R63 names. -/
inductive FieldPackage | p2 | p3
deriving DecidableEq, Repr

/-- Why a die enters its halt state (R59). -/
inductive HaltCause | overtemp | powerGoodLost
deriving DecidableEq, Repr

/-- The two safety channels (R385): the safety processor and the Winter logic. -/
inductive Chan | saf | winter
deriving DecidableEq, Repr

/-- The two reset inputs (R85). -/
inductive ResetInput | button | resetN
deriving DecidableEq, Repr

/-- The two supply inputs (R568). -/
inductive SupplyInput | pwrA | pwrB
deriving DecidableEq, Repr

/-- The two DP network ports (R421). -/
inductive DpPort | a | b
deriving DecidableEq, Repr

/-- The AOA interfaces (R432). -/
inductive Iface | dp | svc0 | svc1
deriving DecidableEq, Repr

/-- The external sources of module time (R292). -/
inductive TimeSource | gnss | ptp
deriving DecidableEq, Repr

/-- Where a mode command comes from (R67): an assigned digital input, or a write of 2100h:01 in a session. -/
inductive CmdSource
  | panel (di : Fin 32)
  | session (n : Sess)
deriving DecidableEq, Repr

/-- The head of a kind-1 AOA datagram as it arrives (R432, R434, R560). -/
structure AoaHead where
  iface : Iface
  ip : Nat
  port : Nat
  session : Sess
  seq : Nat
deriving DecidableEq, Repr

/-- What the checks of R94 find of the data kept through a warm reset, in so far as the state of the module
does not decide it: whether each CRC-32C holds, and the age of the last estimate in grains. -/
structure KeptChecks where
  timeCrc : Bool
  ephemerisCrc : Bool
  almanacCrc : Bool
  positionCrc : Bool
  estimateCrc : Bool
  estimateAge : Nat
  mountsCrc : Bool
  recorderCrc : Bool
deriving DecidableEq, Repr

/-- The item whose write response did not return (R53): a recorder commit (R503), a descriptor of a DMA
channel (R517), a result record of a solver engine (R204), or a block named by its address. -/
inductive WriteItem
  | recorderCommit
  | dmaDescriptor (d : Fin 16)
  | solverResult (e : Fin 4)
  | block (addr : Word32)
deriving DecidableEq, Repr

/-- A link between dies or across the barrier, named by the die at its far end (R60). -/
abbrev FarEnd := Die

/-- The descriptor of a solver job (R178). -/
structure JobDesc where
  id : Nat
  ty : Nat
  structureNo : Nat
  iterations : Nat
  warm : Bool
  delta : Bool
  warmTag : Nat
  deadline : Nat
  inputAddr : Nat
  inputLen : Nat
  deltaLen : Nat
  deltaAddr : Nat
  outputAddr : Nat
  outputLen : Nat
deriving DecidableEq, Repr

/-- Where the deadline grain finds a job (the rows of R194); `done` is the number of iterations completed. -/
inductive DeadlinePoint
  | queuedForeground (pos : Nat)
  | queuedBackground (pos : Nat)
  | startChecks
  | assembly (done : Nat)
  | factorisation (done : Nat)
  | solve (done : Nat)
deriving DecidableEq, Repr

/-- What the internal-antenna GNSS-LS solution says at a whole second (R292, R293): satellites used, the
integrity test of R140, the time sigma in ns and the time error in ns (module time minus source time). -/
structure GnssTime where
  sats : Nat
  integrity : Bool
  sigma : Nat
  error : Int
deriving DecidableEq, Repr

/-- The constellations in the serving order of R311. -/
inductive Constellation | gps | galileo | beidou | qzss | glonass | sbas
deriving DecidableEq, Repr

/-- A satellite in view of an antenna with its elevation in microradians (R311). -/
structure SatView where
  system : Constellation
  prn : Nat
  elevation : Int
deriving DecidableEq, Repr

/-- What one GNSS channel latches at an epoch (R313, R314): raw values as the entry of 5110h carries them. -/
structure ChannelObs where
  channel : Fin 64
  halfCycle : Bool
  navData : Bool
  cn0 : Nat
  glonassFreq : Int
  pseudorange : Nat
  carrierPhase : Nat
  doppler : Nat
  sigma : Nat
deriving DecidableEq, Repr

/-- What an epoch shows of the baseline between two antennas (R316): the ambiguity ratio in
thousandths and the length error in 0.1 mm; the channels themselves give the satellites in carrier lock on both. -/
structure BaselineObs where
  ratioMilli : Nat
  lengthError : Nat
deriving DecidableEq, Repr

/-- The measurements of a GNSS epoch as the solution sees them (R140): for each its constellation, its satellite and its residual against the
prediction, normalised by the σ of both. -/
structure EpochFix where
  residuals : List (Constellation × Nat × Rat)
deriving DecidableEq, Repr

/-- A PTP Announce as it bears on R288, R292 and R308. `rank` orders masters under the best master clock
algorithm of IEEE 1588-2019, lower being better. -/
structure Announce where
  clockClass : Nat
  rank : Nat
  grandmaster : Nat
  utcOffset : Int
  utcValid : Bool
  slave : Bool
deriving DecidableEq, Repr

/-- The result of a read of an absolute encoder (R331). -/
structure AbsRead where
  crcOk : Bool
  errorBit : Bool
  warningBit : Bool
  answered : Bool
  turn : Nat
  single : Nat
deriving DecidableEq, Repr

/-- The source a template frame arrived on (R451). -/
inductive FrameSource
  | serial (k : Fin 8)
  | can (c : Fin 4) (ident : Nat) (extended : Bool)
  | udp (p : Fin 4) (port : Nat) (ip : Nat)
deriving DecidableEq, Repr

/-- A CAN frame as it stands on a bus (R437, R445). -/
structure CanFrame where
  ident : Nat
  extended : Bool
  data : List Byte
deriving DecidableEq, Repr

/-- Why a CAN attempt failed (R441). -/
inductive AttemptCause | lostArbitration | ackError | otherError
deriving DecidableEq, Repr

/-- What a DP frame carries, for the classifier of R427. -/
inductive DpPayload
  | setMessage | ptp | dataGroup | republication | control | aoaRequest | other
deriving DecidableEq, Repr

/-- A received DP frame (R423, R426). -/
structure DpFrame where
  source : Nat
  lanId : Option Nat
  seq : Nat
  fragment : Bool
  payload : DpPayload
deriving DecidableEq, Repr

/-- What a datagram on a sensor or service port is, when it is no slot or AOA traffic (R430, R431). -/
inductive PortDatagram | arp | icmpEcho | igmp | other
deriving DecidableEq, Repr

/-- A sensor port or a service port (R430, R431). -/
inductive SidePort
  | sensor (p : Fin 4)
  | service (s : Fin 2)
deriving DecidableEq, Repr

/-- A network port for link events (R425, R430, R431). -/
inductive NetPort
  | dp (p : DpPort)
  | sensor (p : Fin 4)
  | service (s : Fin 2)
deriving DecidableEq, Repr

/-- One write of an object that the mirror forwards (R466 section 7, R468). `part` is the total length and the offset of a
part of a staged write. -/
structure ForwardedWrite where
  index : Nat
  sub : Nat
  value : List Byte
  part : Option (Nat × Nat)
deriving DecidableEq, Repr

/-- What the law used in a degree of freedom (R466 section 3): the position error or joystick demand, the velocity error,
the profile's acceleration and velocity, the wind force, the wave inputs with c × r, the integrator before and after, its
hold, and that the cycle began a hand-over. -/
structure LawUsed where
  e : Int
  ev : Int
  ar : Int
  vr : Int
  fw : Int
  wx : Int
  wv : Int
  wa : Int
  wk : Int
  before : Int
  after : Int
  hold : Bool
  hand : Bool
deriving DecidableEq, Repr

/-- One profile generator's state in the mirror (R231, R466 section 2): position, velocity, acceleration and
target in units of 2^-32. -/
structure GenState where
  p : Int
  v : Int
  a : Int
  target : Int
deriving DecidableEq, Repr

/-- A thruster in section 4 of the mirror (R466), as its cycle's job found it: the arc, set and branch bits of its status
word, its angle code, a transit (angle in µrad, clockwise, the arc it turns to), f_prev and the warm z and u. -/
structure MirrorThruster where
  status : Int
  angle : Int
  transit : Option (Rat × Bool × Nat)
  fPrev : Rat × Rat
  z : Rat × Rat
  u : Rat × Rat
deriving DecidableEq, Repr

/-- Section 4 of the mirror (R466): the problem of the cycle's ALLOC job, and what the cycle made of its result. -/
structure MirrorAlloc where
  demand : List Int
  wave : List Int
  mask : Nat
  thrusters : List MirrorThruster
  x : List Rat
  power : Rat
  codes : List (Int × Int)
  staleRun : Nat
  source : Nat
  entry : Nat
  achieved : List Int
deriving DecidableEq, Repr

/-- Section 5 of the mirror (R466): the state, the covariance (the diagonal, and row by row what lies below it), and for each
slot its fusion state with its counts. -/
structure MirrorEstimate where
  x : List (Option Rat)
  diagonal : List (Option Rat)
  below : List (Option Rat)
  slots : List (Nat × Nat × Nat × Nat)
deriving DecidableEq, Repr

/-- Section 6 of the mirror (R466): AR coefficients, skill, WAVE_READY, the end of the fit window. -/
structure MirrorWave where
  coefficients : List Byte
  skill : Int
  ready : Bool
  windowEnd : Nat
deriving DecidableEq, Repr

/-- The state mirror (R466). Section 1: mode to `changeStamp`, timers in ms; 2: `gens` to `dwell`, the set-points in the order
of their objects 4031h:02–04, 4032h:01–03 and 4033h:04, the dwell that remains in grains; 3: `law`, the outputs u + b, the low-frequency estimate
used in units of 2^-32; 4: `alloc`; 5: `estimate`; 6: `close`; 7: `writes`. -/
structure Mirror where
  mode : Nat
  previousMode : Nat
  target : Nat
  pending : Bool
  blendR : List Int
  blendK : Nat
  blendKk : Nat
  grade : Nat
  hold : Nat
  dispute : Nat
  changeStamp : Nat
  gens : List GenState
  setPoints : List Int
  dwell : Nat
  law : List LawUsed
  lawOutput : List Int
  estNorth : Int
  estEast : Int
  estHeading : Int
  alloc : MirrorAlloc
  estimate : MirrorEstimate
  close : MirrorWave
  writes : List ForwardedWrite
deriving DecidableEq, Repr

/-- The role of a module (R459), with the codes of 2100h:10 in this order. -/
inductive Role | isolated | shadow | lead
deriving DecidableEq, Repr

/-- A complete cycle or relinquish message from a partner (R464). -/
structure SetMessage where
  source : Nat
  seq : Nat
  role : Role
  mode : Nat
  grade : Nat
  health : Nat
  eligible : Bool
  member : Bool
  rejoinHold : Bool
  moduleFault : Bool
  heard : Nat
  setCheck : Nat
  leadSince : Nat
  nominee : Nat
  cls : Nat
  mirror : Option Mirror
deriving DecidableEq, Repr

/-- The item that a republication carries (R470). -/
inductive RepubItem
  | sentence (ch : Fin 8) (bytes : List Byte)
  | template (src : FrameSource) (bytes : List Byte)
  | udpPayload (port : Fin 4) (bytes : List Byte)
  | datagram (group : Fin 16) (bytes : List Byte)
deriving DecidableEq, Repr

/-- An event that SAF reports to the core (R405, R419): the record code, its parameter. -/
structure SafetyEvent where
  code : Nat
  param : Nat
deriving DecidableEq, Repr

/-- A switch of a group in the test rotation of R406: HSg or LSg. -/
structure TestItem where
  high : Bool
  group : Fin 4
deriving DecidableEq, Repr

/-- Which serial character error was seen (R448). -/
inductive CharError | framing | parity
deriving DecidableEq, Repr

/-- The commands and events of the module, in the order of the table. -/
inductive Instr
  | stationCycleStart
  | releaseOverrun
  | servoTick
  | inertialPropagation
  | pllUnlock
  | pllLockHeld
  | stationCycleWrite (w : Sess) (v : Int)
  | cycleChangeEffect
  | snapTriggerWrite (w : Sess) (v : Int)
  | snapProgrammedTime
  | snapTimeWrite (w : Sess) (v : Int)
  | snapLockWrite (w : Sess) (v : Int)
  | clearRefusedCount (w : Sess) (v : Int)
  | clearCycleStatistics (w : Sess) (v : Int)
  | blockFault (addr : Word32)
  | wrespLost (item : WriteItem)
  | linkCheckFail (far : FarEnd)
  | dieTemperatureAlarm (die : Die) (tenths : Int)
  | dieHalt (die : Die) (cause : HaltCause)
  | fieldLogicPowerFail (pkg : FieldPackage)
  | coreBrownout
  | supplyInputChange (input : SupplyInput) (present : Bool)
  | restartBlock (w : Sess) (addr : Word32) (selfTest : Bool)
  | readStatusWordSelect (w : Sess) (addr : Word32)
  | modeCommandDormant (src : CmdSource)
  | modeCommandCommissioning (src : CmdSource)
  | modeCommandStandby (src : CmdSource)
  | modeCommandManualLever (src : CmdSource)
  | modeCommandJoystick (src : CmdSource)
  | modeCommandJoystickAutoHeading (src : CmdSource)
  | modeCommandAutoPosition (src : CmdSource)
  | modeCommandAutoTrack (src : CmdSource)
  | modeCommandFollowTarget (src : CmdSource)
  | modeCommandWeathervane (src : CmdSource)
  | modeCommandCloseHold (src : CmdSource)
  | modeCommandWinter (src : CmdSource)
  | panelInputAssign (w : Sess) (mode : Fin 12) (v : Int)
  | springStepComplete (checkOk : Bool)
  | resetInputRelease (input : ResetInput) (grains : Nat) (kept : KeptChecks)
  | resetInputStuck (input : ResetInput)
  | resetStuckClear (input : ResetInput)
  | powerApplied
  | selfTestComplete (failed : List Word32)
  | springStartComplete (failed : List Word32)
  | slotEnable (w : Sess) (slot : Fin 64) (v : Int)
  | nmeaSentence (ch : Fin 8) (bytes : List Byte)
  | udpbcDatagram (group : Fin 16) (bytes : List Byte)
  | nmea2000Message (ch : Fin 4) (priority : Fin 8) (pgnSource : Nat) (bytes : List Byte)
  | fastPacketTimeout (ch : Fin 4) (pgn : Nat) (source : Nat)
  | templateFrame (src : FrameSource) (bytes : List Byte)
  | lidarSegment (port : Fin 4) (udpPort : Nat) (ip : Nat) (bytes : List Byte)
  | lidarFrameTimeout (slot : Fin 64)
  | landmarkPacket (port : Fin 4) (udpPort : Nat) (ip : Nat) (bytes : List Byte)
  | timeModelBlockEnd (slot : Fin 64)
  | acceptRefined (w : Sess) (entry : Fin 80) (v : Int)
  | mountCommissionedWrite (w : Sess) (entry : Fin 80) (sub : Fin 6) (v : Int)
  | structureModelWrite (w : Sess) (bytes : List Byte)
  | markerTableWrite (w : Sess) (bytes : List Byte)
  | slotClearCounters (w : Sess) (slot : Fin 64) (v : Int)
  | disputeLimit
  | headingDisputeLimit
  | disputeSelection (w : Sess) (v : Int)
  | recaptureOrigin (w : Sess) (v : Int)
  | upgradeTime
  | holdLimit
  | alignIssue
  | suspectClearTime (slot : Fin 64)
  | clearSuspect (w : Sess) (v : Int)
  | jobIssue (d : JobDesc)
  | jobStart (e : Fin 4)
  | jobComplete (e : Fin 4)
  | jobDeadline (e : Fin 4) (point : DeadlinePoint)
  | engineCheckJob (e : Fin 4) (agrees : Bool)
  | structureLoad (w : Sess) (k : Fin 16) (bytes : List Byte)
  | structureSwap (k : Fin 16)
  | testJobDescriptor (w : Sess) (bytes : List Byte)
  | solverClearStatistics (w : Sess) (t : Fin 8) (v : Int)
  | positionSetpointWrite (w : Sess) (longitude : Bool) (v : Int)
  | headingSetpointWrite (w : Sess) (v : Int)
  | relativeMove (w : Sess) (lateral : Bool) (v : Int)
  | relativeTurn (w : Sess) (v : Int)
  | targetOffsetWrite (w : Sess) (axis : Fin 3) (v : Int)
  | weathervaneWrite (w : Sess) (factor : Bool) (v : Int)
  | waypointListWrite (w : Sess) (bytes : List Byte)
  | waypointDwellEnd
  | profileLimitWrite (w : Sess) (limit : Fin 6) (v : Int)
  | waveSample
  | waveRefitIssue
  | waveFitAgeExpiry
  | waveExitTime
  | clearSaturationFlags (w : Sess) (v : Int)
  | thrusterFeedbackFrame (ch : Fin 4) (ident : Nat) (bytes : List Byte)
  | thrustCurveWrite (w : Sess) (thruster : Fin 16) (astern : Bool) (bytes : List Byte)
  | fallbackTableWrite (w : Sess) (bytes : List Byte)
  | generateFallbackTables (w : Sess) (v : Int)
  | testThrusterStart (w : Sess) (v : Int)
  | testThrusterEnd (w : Sess) (v : Int)
  | testDurationExpiry
  | allocationClearStatistics (w : Sess) (v : Int)
  | timeSecond (gnss : Option GnssTime)
  | sourceLost (src : TimeSource)
  | holdoverLimit
  | leapSecond
  | timeSave
  | ptpSync (port : DpPort) (offset : Int) (pathDelay : Nat)
  | ptpAnnounceTimeout
  | secondsRead (w : Sess)
  | ppsPulse (n : Fin 2) (qErr : Int)
  | ppsOnceWrite (w : Sess) (n : Fin 2) (v : Int)
  | ppsGridWrite (w : Sess) (n : Fin 2) (phase : Bool) (v : Int)
  | evtEdge (n : Fin 2) (falling : Bool) (ns : Nat)
  | evtEventRead (w : Sess) (n : Fin 2)
  | channelAssignment (antenna : Fin 3) (view : List SatView)
  | channelLockLoss (antenna : Fin 3) (ch : Fin 64) (code carrier : Bool)
  | gnssEpoch (fix : Option EpochFix) (obs : List (Fin 3 × ChannelObs)) (baselines : List BaselineObs)
  | antennaStateChange (antenna : Fin 3) (limited : Bool) (current : Nat)
  | gnssWake
  | gnssWakeEnd
  | refWarm
  | countEdge (axis : Fin 8) (position : Int) (ns : Nat)
  | comparePulseEnd (axis : Fin 8)
  | axisSignalFault (axis : Fin 8) (cause : Fin 6)
  | absoluteReadStart (axis : Fin 8)
  | absoluteReadDone (axis : Fin 8) (r : AbsRead)
  | speedWindowEnd (axis : Fin 8)
  | compareListWrite (w : Sess) (axis : Fin 8) (bytes : List Byte)
  | compareEntryWrite (w : Sess) (axis : Fin 8) (bytes : List Byte)
  | compareEventRead (w : Sess) (axis : Fin 8)
  | probeLatch (probe : Fin 2) (falling : Bool) (ns : Nat) (glitch : Bool)
  | probeRecordQueued (probe : Fin 2)
  | probeRecordRead (w : Sess) (probe : Fin 2)
  | indexPulse (axis : Fin 8) (count : Int)
  | setPosition (w : Sess) (axis : Fin 8) (v : Int)
  | axisClearCounters (w : Sess) (axis : Fin 8) (v : Int)
  | emulationEnable (w : Sess) (o : Fin 2) (v : Int)
  | filterOutput (ch : Fin 32) (value : Int) (overload : Bool)
  | shuntRetry (ai : Fin 16) (overcurrent : Bool)
  | fieldFrame (die : FieldDie)
  | doCommandWrite (w : Sess) (v : Int)
  | aoCodeWrite (w : Sess) (n : Fin 16) (v : Int)
  | fieldFrameConfirm (die : FieldDie)
  | fieldSilence (die : FieldDie)
  | fldMeasurement (tenMillivolts : Nat)
  | diEdge (n : Fin 32) (level : Bool)
  | doReadback (terminals : Nat) (loaded : Nat)
  | doShort (n : Fin 16)
  | shortRetry (n : Fin 16)
  | doThermal (n : Fin 16) (hot : Bool)
  | groupLimit (g : Fin 2) (milliamps : List Nat)
  | clearLatchedFaults (w : Sess) (v : Int)
  | aoReadback (n : Fin 16) (code : Int) (limiting : Bool)
  | safetyInputChange (chan : Chan) (n : Fin 8) (a b : Bool)
  | discrepancy (chan : Chan) (n : Fin 8)
  | restartPress (chan : Chan) (n : Fin 8) (drift : Int)
  | restartWrite (w : Sess) (v : Int)
  | sectorPulse (axis : Fin 8) (up : Bool)
  | positionFrame (axis : Fin 8) (position : Int)
  | sectorDisagree (axis : Fin 8)
  | sectorHold (axis : Fin 8)
  | channelSilence (observer : Chan)
  | safClockFail
  | testSlot
  | testPulseEnd (readsOpen : Bool)
  | switchFault (item : TestItem)
  | testOverdue (item : TestItem)
  | safetyBlockTransfer
  | startChecksDone (chan : Chan) (step1 step2 : Bool)
  | safetyBlockWrite (w : Sess) (index sub : Nat) (v : Int)
  | checkValueEntry (w : Sess) (v : Int)
  | confirm (w : Sess) (v : Int)
  | safetyReport (ev : SafetyEvent) (ageMicros : Nat)
  | prpFrameReceived (port : DpPort) (f : DpFrame)
  | prpSupervision
  | lanFault (port : DpPort)
  | linkChange (port : NetPort) (up : Bool) (rate : Nat)
  | sfpModuleChange (port : DpPort) (inserted : Bool) (rate : Nat)
  | nodeForget (source : Nat)
  | igmpQuery
  | groupEnable (w : Sess) (k : Fin 16) (v : Int)
  | aoaDatagramDiscard (iface : Iface)
  | aoaRead (h : AoaHead) (index sub : Nat)
  | aoaWrite (h : AoaHead) (index sub : Nat) (data : List Byte)
  | aoaReadSegment (h : AoaHead) (index sub offset length : Nat)
  | aoaWriteSegment (h : AoaHead) (index sub offset : Nat) (data : List Byte) (last : Bool)
  | aoaInformation (h : AoaHead) (index sub : Nat)
  | aoaOpen (h : AoaHead) (identity : List Byte)
  | aoaClose (h : AoaHead)
  | sessionIdle (n : Fin 16)
  | receiveBufferTimeout (w : Sess) (index sub : Nat)
  | setMessageSegmentTimeout
  | cycleMessage (m : SetMessage)
  | relinquishMessage (m : SetMessage)
  | vacancy
  | switchOverRequest (w : Sess) (v : Int)
  | rejoinHoldEnd
  | republication (slot : Fin 64) (item : RepubItem) (arrival : Nat)
  | redundancyClearCounters (w : Sess) (v : Int)
  | canFrameSent (ch : Fin 4)
  | canAttemptFail (ch : Fin 4) (cause : AttemptCause)
  | canBusOffRecovery (ch : Fin 4)
  | canFrameExpiry (ch : Fin 4)
  | canFrameReceived (ch : Fin 4) (f : CanFrame)
  | canChannelWrite (w : Sess) (ch : Fin 4) (sub : Nat) (v : Int)
  | canClearCounters (w : Sess) (ch : Fin 4) (v : Int)
  | serialBreak (ch : Fin 8)
  | serialOverrun (ch : Fin 8)
  | serialClearCounters (w : Sess) (ch : Fin 8) (v : Int)
  | templateWrite (w : Sess) (t : Fin 16) (bytes : List Byte)
  | networkClearCounters (w : Sess) (v : Int)
  | periodBoundary
  | recordCommit
  | commitComplete
  | cursorWrite (w : Sess) (v : Int)
  | cursorAdvance (w : Sess) (v : Int)
  | freeze (w : Sess) (v : Int)
  | freezeRelease (w : Sess) (v : Int)
  | freezeExpiry
  | clearRequest (w : Sess) (v : Int)
  | confirmClear (w : Sess) (v : Int)
  | codeLimitWrite (w : Sess) (sub : Fin 64) (v : Int)
  | dmaEnable (w : Sess) (d : Fin 16) (v : Int)
  | dmaEnqueue (w : Sess) (d : Fin 16) (bytes : List Byte)
  | dmaDescriptorStart (d : Fin 16)
  | dmaDescriptorComplete (d : Fin 16) (readback : Bool)
  | dmaPause (w : Sess) (d : Fin 16) (v : Int) (bytesRead : Nat)
  | dmaPaused (d : Fin 16)
  | dmaResume (w : Sess) (d : Fin 16) (v : Int)
  | dmaReset (w : Sess) (d : Fin 16) (v : Int)
  | dmaCompletionRead (w : Sess) (d : Fin 16)
  | storeSave (w : Sess) (v : Int)
  | saveStepComplete (ok : Bool)
  | eraseStore (w : Sess) (v : Int)
  | parameterWrite (w : Sess) (index sub : Nat) (data : List Byte)
  | sdoDownload (ch : Fin 4) (index sub : Nat) (data : List Byte) (last : Bool)
  | sdoUpload (ch : Fin 4) (index sub : Nat) (last : Bool)
  | sdoBlockDownload (ch : Fin 4) (index sub : Nat) (data : List Byte) (last crcOk : Bool)
  | sdoBlockUpload (ch : Fin 4) (index sub : Nat) (last : Bool)
  | sdoAbort (ch : Fin 4)
  | sdoTimeout (ch : Fin 4)
  | sdoServerEnable (w : Sess) (ch : Fin 4) (v : Int)
  | challengeRead (w : Sess)
  | authorisationResponse (w : Sess) (bytes : List Byte)
  | lockoutEnd
  | giveUpAuthorisation (w : Sess) (v : Int)
  | authorisationKeyWrite (w : Sess) (bytes : List Byte)
  | alarmAcknowledge (w : Sess) (v : Int)
  | canopenHeartbeat
  | heartbeatEdge (observer : Chan) (drift : Int)
  | channelLock (antenna : Fin 3) (ch : Fin 64) (code carrier pll : Bool)
  | canReceiveError (ch : Fin 4) (increment : Nat)
  | ptpAnnounce (port : DpPort) (a : Announce)
  | ptpMasterSync (announce : Bool)
  | sensorPortDatagram (port : SidePort) (kind : PortDatagram)
  | crossBarrierLinkReturn (die : Die)
  | checkValuePlaced (chan : Chan)
  | templateFrameGap (ch : Fin 8)
  | sentenceSyntaxDiscard (ch : Fin 8)
  | serialCharacterError (ch : Fin 8) (err : CharError)
deriving DecidableEq, Repr

end Sys2Proof
end

