-- ==== Sys2Proof/Decode.lean ====
section
/-! DEFINITION. The decoder. spec/opcode_table.json gives no row any bits: commands reach the block as writes, frames and
events, and no word spells one. -/

namespace Sys2Proof

/-- The command that a word spells by the table's bits: none, as no row has bits. -/
def decodeTableWord (_nbits _w : Nat) : Option Instr := none

end Sys2Proof
end

