-- ==== Sys2Proof/Config.lean ====
section
/-! DEFINITION. What one implementation of the module fixes, and the free values: the results that the spec leaves
open. A free value is an opaque constant applied to the counter `State.p1.free`, so nothing can be proved of it. -/

namespace Sys2Proof.Config

/-- A free whole number: the n-th value the spec leaves open (assumption 3). -/
opaque freeNat : Nat → Nat

/-- A free integer (assumption 3). -/
opaque freeInt : Nat → Int

/-- A free real result of an estimator or solver, held exactly (assumption 3). -/
opaque freeRat : Nat → Rat

/-- A free octet string: a challenge of R551 and contents of DOMAINs that the spec leaves open (assumption 3). -/
opaque freeBytes : Nat → List Byte

/-- The build AX of R1; the build AC otherwise. -/
opaque buildAX : Bool

/-- The number from which the serial number 1018h:04 is made. -/
opaque serialRaw : Nat

/-- The serial number (R557): 1 to FFFFFFFFh, never 0. -/
def serialNumber : Nat := 1 + serialRaw % 0xFFFFFFFF

/-- Mask ROM revision, 1018h:03 bits 31 to 16. -/
opaque romRevision : BitVec 16

/-- Board revision, 1018h:03 bits 15 to 0. -/
opaque boardRevision : BitVec 16

/-- MAC address of the DP pair (5900h:02). -/
opaque macDp : BitVec 48

/-- MAC address of a service port (5920h+s:04). -/
opaque macService : Fin 2 → BitVec 48

/-- The factory key of R552. -/
opaque factoryKey : Vector Byte 32

/-- The type code that the information operation answers for an I64, which the table of R534 does not list
(assumption 9). -/
opaque i64Code : BitVec 8

/-- The maximum size that the information operation answers for a DOMAIN whose maximum no rule states. -/
opaque openMaximum : Nat → Nat

/-- That a count interpolated by the module's fixed arithmetic is the higher of the two next to its exact value (assumption 113). -/
opaque roundsUp : Rat → Bool

/-- The full scale of the modulator of a track channel in mV (R330, assumption 28). -/
opaque trackScale : Rat

/-- A free real result that may be a NaN or an infinity (none): a value that an FP64 engine delivers (assumption 3). -/
opaque freeFp : Nat → Option Rat

/-- The result that an FP64 engine delivers for a formula of the spec whose exact value is the second argument: the
spec states no rounding and no order of operations (assumption 4). -/
opaque fp64 : Nat → Rat → Rat

/-- The computations of the estimator and of the solver engines that the spec names with their operands and does not give as
formulas (assumption 98). -/
inductive Work
  | kinematics
  | vessel
  | waves
  | covariance
  | correction
  | start
  | target
  | draught
  | normal
  | side
  | residual
deriving DecidableEq, Repr

/-- What an engine computes: the n-th value the spec leaves open, component k of the result, from its operands. A result that is
not finite is none (assumption 98). -/
opaque engine : Work → Nat → Nat → List (Option Rat) → Option Rat

/-- The threshold of the chi-square test of R140 for a number of residuals (assumption 98). -/
opaque chiSquare : Nat → Rat

/-- The elimination order that SUP finds for a structure of the module's own, by what it is built from (R181): free. -/
opaque ordering : List Nat → List Nat

/-- The sparsity pattern that SUP finds for the ALIGN structure, by what it is built from (R181): free. -/
opaque sparsity : List Nat → List (Nat × Nat)

/-- Where the module's own issuers keep the blocks of a job type in shared SRAM, and the length of its input block (R178):
0 input address, 1 input length, 2 delta address, 3 output address. -/
opaque jobArea : Nat → Nat → Nat

/-- The solution of a small linear system (R272): the matrix's rows, the right side (assumption 4). -/
opaque solve : List (List Rat) → List Rat → List Rat

/-- π as a binary64 number holds it (assumption 4). -/
def pi : Rat := 884279719003555 / 281474976710656

/-- The sine, cosine, arc tangent of two arguments and square root that the FP64 engines compute. The spec states no
algorithm and no rounding for them (assumption 4). -/
opaque sin : Rat → Rat
/-- See `sin`. -/
opaque cos : Rat → Rat
/-- See `sin`; arguments y, x. -/
opaque atan2 : Rat → Rat → Rat
/-- See `sin`. -/
opaque sqrt : Rat → Rat

/-- See `sin`: the natural logarithm. -/
opaque log : Rat → Rat

/-- The poles in the upper half plane of the autoregressive model with these coefficients (R238): real and imaginary parts. The spec
states no algorithm that finds them (assumption 4). -/
opaque poles : List Rat → List (Rat × Rat)

/-- The power 2/3 of R266, as the FP64 engine delivers it (assumption 4). -/
opaque pow23 : Rat → Rat

/-- Metres of northing and easting from a reference latitude and longitude to a latitude and longitude, WGS 84 (R217). -/
opaque northEast : Rat → Rat → Rat → Rat → Rat × Rat

/-- Latitude and longitude a northing and an easting in metres away from a reference, WGS 84. -/
opaque latLon : Rat → Rat → Rat → Rat → Rat × Rat

/-- Clocks of an absolute encoder's frame beyond its data bits, for a signal type: the spec refuses a read period shorter
than the frame time and does not give the frame's length (assumption 25). -/
opaque frameOverhead : Nat → Nat

end Sys2Proof.Config
end

