-- ==== Sys2Proof/Machine/Dict.lean ====
section
/-! DEFINITION. The object dictionary as the object tables of every chapter give it: types, access codes, defaults and
ranges (R534–R537, R561). Value cells of numeric objects live in the state's object map; this table says what an
unlisted cell reads. -/

namespace Sys2Proof.Machine

/-- The types of R534. `q32` is the raw value of a Q32; its shift is a row of its own. `i64` stands in object tables
without a code in R534. -/
inductive Ty
  | bool | u8 | u16 | u32 | u64 | i8 | i16 | i32 | i64 | q32 | f32 | f64 | stamp | vstr | domain
deriving DecidableEq, Repr

/-- The access codes of R537. -/
inductive Acc | ro | rw | rwc | rwa | wo
deriving DecidableEq, Repr

/-- The default of a cell: one value, one value for each subindex of the row, one value for each object of the
group, or a value that steps from object to object. -/
inductive Dflt
  | const (v : Int)
  | each (l : List Int)
  | perEntry (l : List Int)
  | entry (base step : Int)
deriving DecidableEq, Repr

/-- The range of a cell. Bounds of F32 and F64 are raw bits of the type; `own` leaves the test to the object's own
rule; `len` is the maximum size of a VSTR or DOMAIN and `lenOpen` a maximum that no rule states. -/
inductive Rng
  | any
  | span (lo hi : Int)
  | spanOr (lo hi other : Int)
  | among (l : List Int)
  | bits (mask : Nat)
  | realSpan (lo hi : Nat)
  | realPos
  | realNonneg
  | len (n : Nat)
  | lenOpen
  | own
deriving DecidableEq, Repr

/-- One row of an object table: `n` subindices from `sub`. -/
structure Row where
  sub : Nat
  n : Nat
  ty : Ty
  acc : Acc
  dflt : Dflt
  rng : Rng
deriving DecidableEq, Repr

/-- `count` objects from index `base` that share rows. -/
structure Group where
  base : Nat
  count : Nat
  rows : List Row
deriving DecidableEq, Repr

/-- The subindices of object 1000h. -/
def rows1000 : List Row := [
  ⟨0x00, 1, .u32, .ro, .const 0, .any⟩]

/-- The subindices of object 1001h. -/
def rows1001 : List Row := [
  ⟨0x00, 1, .u8, .ro, .const 0, .any⟩]

/-- The subindices of object 1008h. -/
def rows1008 : List Row := [
  ⟨0x00, 1, .vstr, .ro, .const 0, .len 9⟩]

/-- The subindices of object 1009h. -/
def rows1009 : List Row := [
  ⟨0x00, 1, .vstr, .ro, .const 0, .len 4⟩]

/-- The subindices of object 100Ah. -/
def rows100A : List Row := [
  ⟨0x00, 1, .vstr, .ro, .const 0, .len 4⟩]

/-- The subindices of object 1014h. -/
def rows1014 : List Row := [
  ⟨0x00, 1, .u32, .ro, .const 0, .any⟩]

/-- The subindices of object 1017h. -/
def rows1017 : List Row := [
  ⟨0x00, 1, .u16, .rw, .const 1000, .spanOr 10 65535 0⟩]

/-- The subindices of object 1018h. -/
def rows1018 : List Row := [
  ⟨0x01, 1, .u32, .ro, .const 0x48E, .any⟩,
  ⟨0x02, 1, .u32, .ro, .const 0, .any⟩,
  ⟨0x03, 1, .u32, .ro, .const 0, .any⟩,
  ⟨0x04, 1, .u32, .ro, .const 0, .any⟩]

/-- The subindices of object 1F00h. -/
def rows1F00 : List Row := [
  ⟨0x01, 1, .u32, .rw, .const 0, .own⟩,
  ⟨0x02, 1, .u32, .ro, .const 0, .any⟩]

/-- The subindices of object 2000h. -/
def rows2000 : List Row := [
  ⟨0x01, 1, .u8, .rwc, .const 2, .span 0 3⟩,
  ⟨0x02, 1, .u32, .ro, .const 10000, .any⟩,
  ⟨0x03, 1, .u32, .ro, .const 0, .any⟩,
  ⟨0x04, 1, .u64, .ro, .const 0, .any⟩,
  ⟨0x05, 1, .u64, .ro, .const 0, .any⟩]

/-- The subindices of object 2001h. -/
def rows2001 : List Row := [
  ⟨0x01, 1, .u16, .ro, .const 0, .any⟩,
  ⟨0x02, 1, .u16, .ro, .const 0, .any⟩,
  ⟨0x03, 1, .u32, .ro, .const 0, .any⟩,
  ⟨0x04, 1, .u32, .ro, .const 0, .any⟩,
  ⟨0x05, 1, .u8, .wo, .const 0, .span 1 1⟩,
  ⟨0x06, 1, .u32, .ro, .const 0, .any⟩]

/-- The subindices of object 2100h. -/
def rows2100 : List Row := [
  ⟨0x01, 1, .u8, .wo, .const 0, .span 0 11⟩,
  ⟨0x02, 1, .u8, .ro, .const 2, .any⟩,
  ⟨0x03, 1, .u8, .ro, .const 2, .any⟩,
  ⟨0x04, 1, .u32, .ro, .const 0, .any⟩,
  ⟨0x05, 1, .u16, .rw, .const 2000, .span 100 10000⟩,
  ⟨0x06, 1, .u8, .rwc, .const 2, .among [0, 2]⟩,
  ⟨0x07, 1, .u8, .ro, .const 0, .any⟩,
  ⟨0x08, 1, .stamp, .ro, .const 0, .any⟩,
  ⟨0x09, 1, .u16, .ro, .const 0, .any⟩,
  ⟨0x0A, 1, .u8, .ro, .const 0, .any⟩,
  ⟨0x0B, 1, .u8, .ro, .const 0, .any⟩,
  ⟨0x0C, 1, .u16, .ro, .const 0, .any⟩,
  ⟨0x0D, 1, .u32, .ro, .const 0, .any⟩,
  ⟨0x10, 1, .u8, .ro, .const 0, .any⟩,
  ⟨0x11, 1, .u8, .rwc, .const 1, .span 1 3⟩,
  ⟨0x12, 1, .u16, .rwc, .const 1, .span 1 65535⟩]

/-- The subindices of object 2101h. -/
def rows2101 : List Row := [
  ⟨0x01, 12, .u8, .rwc, .const 255, .spanOr 0 31 255⟩]

/-- The subindices of object 2200h. -/
def rows2200 : List Row := [
  ⟨0x01, 1, .u32, .ro, .const 0, .any⟩,
  ⟨0x02, 1, .stamp, .ro, .const 0, .any⟩,
  ⟨0x03, 1, .u16, .ro, .const 0, .any⟩,
  ⟨0x04, 1, .domain, .ro, .const 0, .lenOpen⟩,
  ⟨0x05, 1, .u32, .wo, .const 0, .own⟩,
  ⟨0x06, 1, .u32, .ro, .const 0, .any⟩,
  ⟨0x07, 1, .u32, .rw, .const 0, .own⟩,
  ⟨0x08, 1, .u32, .ro, .const 0, .any⟩]

/-- The subindices of object 2201h. -/
def rows2201 : List Row := [
  ⟨0x01, 7, .i16, .ro, .const (-32768), .any⟩]

/-- The subindices of object 2202h. -/
def rows2202 : List Row := [
  ⟨0x01, 7, .u8, .ro, .const 0, .any⟩]

/-- The subindices of object 2300h. -/
def rows2300 : List Row := [
  ⟨0x01, 1, .u8, .wo, .const 0, .span 1 1⟩,
  ⟨0x02, 1, .bool, .rw, .const 0, .span 0 1⟩,
  ⟨0x03, 1, .u32, .ro, .const 0, .any⟩,
  ⟨0x04, 1, .stamp, .ro, .const 0, .any⟩,
  ⟨0x05, 1, .u8, .ro, .const 0, .any⟩,
  ⟨0x06, 1, .u32, .ro, .const 0, .any⟩,
  ⟨0x07, 1, .u8, .rw, .const 255, .spanOr 0 31 255⟩,
  ⟨0x08, 1, .u8, .rw, .const 0, .span 0 2⟩,
  ⟨0x09, 1, .u16, .rw, .const 0, .any⟩,
  ⟨0x0A, 1, .u64, .rw, .const 0, .own⟩,
  ⟨0x0B, 1, .u64, .ro, .const 0, .any⟩,
  ⟨0x0C, 1, .domain, .ro, .const 0, .lenOpen⟩,
  ⟨0x0D, 1, .u8, .wo, .const 0, .span 1 1⟩]

/-- The subindices of object 3000h. -/
def rows3000 : List Row := [
  ⟨0x01, 1, .u32, .ro, .const 0, .any⟩,
  ⟨0x02, 3, .u8, .rwc, .each [3, 255, 255], .spanOr 0 63 255⟩,
  ⟨0x05, 1, .u8, .ro, .const 255, .any⟩,
  ⟨0x06, 1, .f32, .rw, .const 1082130432, .realSpan 0x40000000 0x41200000⟩,
  ⟨0x07, 1, .u8, .rw, .const 6, .span 5 12⟩,
  ⟨0x08, 1, .u8, .rw, .const 10, .span 3 100⟩,
  ⟨0x09, 1, .u8, .rw, .const 3, .span 1 20⟩,
  ⟨0x0A, 1, .u16, .rw, .const 750, .span 500 1000⟩,
  ⟨0x0C, 1, .u8, .wo, .const 0, .span 0 63⟩,
  ⟨0x0D, 1, .u8, .wo, .const 0, .span 0 63⟩,
  ⟨0x0E, 1, .f32, .rwc, .const 908136368, .any⟩,
  ⟨0x0F, 1, .f32, .rwc, .const 973279855, .any⟩,
  ⟨0x10, 1, .f32, .rw, .const 1084227584, .any⟩,
  ⟨0x11, 1, .f32, .rw, .const 1057360550, .any⟩]

/-- The subindices of object 3001h. -/
def rows3001 : List Row := [
  ⟨0x01, 9, .u16, .rw, .each [800, 200, 0, 100, 200, 0, 0, 0, 0], .any⟩]

/-- The subindices of object 3002h. -/
def rows3002 : List Row := [
  ⟨0x01, 2, .f64, .ro, .const 0, .any⟩,
  ⟨0x03, 1, .f64, .ro, .const 0, .any⟩,
  ⟨0x04, 1, .i32, .ro, .const 0, .any⟩,
  ⟨0x05, 3, .f32, .ro, .const 0, .any⟩,
  ⟨0x08, 1, .f32, .ro, .const 0, .any⟩,
  ⟨0x09, 1, .f32, .ro, .const 0, .any⟩,
  ⟨0x0A, 1, .stamp, .ro, .const 0, .any⟩,
  ⟨0x0B, 2, .f32, .ro, .const 0, .any⟩,
  ⟨0x0D, 3, .f32, .ro, .const 0, .any⟩,
  ⟨0x10, 1, .domain, .ro, .const 0, .len 960⟩,
  ⟨0x11, 1, .domain, .ro, .const 0, .len 960⟩]

/-- The subindices of object 3010h. -/
def rows3010 : List Row := [
  ⟨0x01, 1, .u16, .rw, .const 1000, .span 500 10000⟩,
  ⟨0x02, 1, .u16, .rw, .const 60, .span 10 600⟩,
  ⟨0x03, 1, .f32, .rw, .const 1045220557, .any⟩,
  ⟨0x04, 1, .f32, .rw, .const 1056964608, .any⟩,
  ⟨0x05, 1, .f32, .rw, .const 973279855, .any⟩,
  ⟨0x06, 1, .f32, .rw, .const 996499522, .any⟩,
  ⟨0x07, 1, .u32, .rw, .const 2000, .any⟩,
  ⟨0x08, 1, .u32, .rw, .const 5000, .any⟩,
  ⟨0x09, 1, .u16, .rw, .const 60, .span 10 3600⟩,
  ⟨0x0A, 1, .u8, .rw, .const 16, .span 8 64⟩,
  ⟨0x0B, 1, .u8, .rw, .const 3, .span 1 10⟩,
  ⟨0x0C, 1, .u8, .rwa, .const 0, .span 0 63⟩]

/-- The subindices of object 3020h. -/
def rows3020 : List Row := [
  ⟨0x01, 64, .u8, .rwc, .const 0, .span 0 15⟩]

/-- The subindices of object 3021h. -/
def rows3021 : List Row := [
  ⟨0x01, 64, .bool, .rwc, .const 0, .span 0 1⟩]

/-- The subindices of object 3030h. -/
def rows3030 : List Row := [
  ⟨0x01, 1, .f64, .rwc, .const 0, .any⟩,
  ⟨0x02, 3, .f64, .rwc, .const 0, .any⟩,
  ⟨0x05, 1, .f64, .rwc, .const 0, .any⟩,
  ⟨0x06, 3, .f64, .rwc, .const 0, .any⟩,
  ⟨0x09, 1, .f32, .rwc, .const 1090519040, .realSpan 0x40400000 0x41C80000⟩,
  ⟨0x0A, 1, .f32, .rwc, .const 1036831949, .realSpan 0x3C23D70A 0x3F000000⟩,
  ⟨0x0B, 1, .f32, .rwc, .const 0, .any⟩]

/-- The subindices of object 3031h. -/
def rows3031 : List Row := [
  ⟨0x01, 3, .f32, .rw, .each [1148846080, 1148846080, 1195593728], .any⟩,
  ⟨0x04, 3, .f32, .rw, .each [953267991, 897988541, 841731191], .any⟩]

/-- The subindices of object 3100h + n, n = 0–63 (part 1). -/
def rows3100a : List Row := [
  ⟨0x01, 1, .bool, .rw, .const 0, .span 0 1⟩,
  ⟨0x02, 1, .u8, .rwc, .const 0, .span 0 8⟩,
  ⟨0x03, 1, .u32, .rwc, .const 0, .any⟩,
  ⟨0x04, 1, .u32, .rwc, .const 0, .any⟩,
  ⟨0x05, 1, .vstr, .rwc, .const 0, .len 15⟩,
  ⟨0x06, 1, .u8, .rwc, .const 0, .span 0 10⟩,
  ⟨0x07, 1, .u8, .rwc, .const 0, .span 0 10⟩,
  ⟨0x08, 1, .u32, .rwc, .const 0, .any⟩,
  ⟨0x09, 1, .u8, .rwc, .const 0, .span 0 4⟩,
  ⟨0x0A, 1, .u32, .rwc, .const 100000, .span 1000 10000000⟩,
  ⟨0x0B, 1, .u32, .rwc, .const 0, .span 0 500000000⟩,
  ⟨0x0C, 1, .u32, .rw, .const 200000, .span 1000 10000000⟩,
  ⟨0x0D, 1, .u8, .rwc, .entry 0 1, .span 0 63⟩,
  ⟨0x0E, 1, .f32, .rw, .const 1065353216, .realPos⟩,
  ⟨0x0F, 1, .f32, .rw, .const 1082130432, .realSpan 0x3F800000 0x41A00000⟩,
  ⟨0x10, 1, .u16, .rw, .const 1000, .span 0 1000⟩,
  ⟨0x11, 1, .u16, .rwc, .const 900, .span 1 1000⟩,
  ⟨0x12, 1, .u8, .rwc, .const 0, .span 0 7⟩,
  ⟨0x14, 1, .u32, .ro, .const 0, .any⟩,
  ⟨0x15, 1, .u32, .ro, .const 0, .any⟩,
  ⟨0x16, 1, .u32, .ro, .const 0, .any⟩,
  ⟨0x17, 1, .u32, .ro, .const 0, .any⟩,
  ⟨0x18, 1, .u32, .ro, .const 0, .any⟩,
  ⟨0x19, 1, .u32, .ro, .const 0, .any⟩]

/-- The subindices of object 3100h + n, n = 0–63 (part 2). -/
def rows3100b : List Row := [
  ⟨0x1A, 1, .stamp, .ro, .const 0, .any⟩,
  ⟨0x1B, 1, .stamp, .ro, .const 0, .any⟩,
  ⟨0x1C, 1, .f64, .ro, .const 0, .any⟩,
  ⟨0x1D, 1, .i32, .ro, .const 0, .any⟩,
  ⟨0x1E, 1, .i32, .ro, .const 0, .any⟩,
  ⟨0x1F, 1, .u8, .wo, .const 0, .span 1 1⟩]

/-- The subindices of object 3200h + n, n = 0–79. -/
def rows3200 : List Row := [
  ⟨0x01, 3, .i32, .rwc, .const 0, .span (-2000000) 2000000⟩,
  ⟨0x04, 3, .i32, .rwc, .const 0, .span (-3141592) 3141593⟩,
  ⟨0x07, 3, .i32, .ro, .const 0, .any⟩,
  ⟨0x0A, 3, .i32, .ro, .const 0, .any⟩,
  ⟨0x0D, 1, .bool, .ro, .const 0, .any⟩,
  ⟨0x0E, 1, .u32, .ro, .const 0, .any⟩,
  ⟨0x0F, 1, .u32, .ro, .const 0, .any⟩,
  ⟨0x10, 1, .u8, .rwc, .const 0, .span 1 1⟩,
  ⟨0x11, 1, .u16, .ro, .const 0, .any⟩]

/-- The subindices of object 3300h. -/
def rows3300 : List Row := [
  ⟨0x01, 1, .u8, .ro, .const 0, .any⟩,
  ⟨0x02, 1, .u8, .ro, .const 0, .any⟩,
  ⟨0x03, 1, .u32, .ro, .const 0, .any⟩,
  ⟨0x04, 1, .u16, .rw, .const 120, .span 10 600⟩,
  ⟨0x05, 1, .u16, .rw, .const 20, .span 5 120⟩,
  ⟨0x06, 1, .u16, .rw, .const 30, .span 5 120⟩,
  ⟨0x07, 1, .u16, .rw, .const 30, .span 5 120⟩,
  ⟨0x08, 1, .u16, .rw, .const 5000, .span 1000 60000⟩,
  ⟨0x09, 1, .u16, .rw, .const 30000, .span 1000 60000⟩,
  ⟨0x0A, 1, .u16, .rw, .const 10000, .span 1000 60000⟩,
  ⟨0x0B, 1, .u16, .rw, .const 5000, .span 1000 60000⟩,
  ⟨0x0C, 1, .u16, .rw, .const 2000, .span 500 60000⟩,
  ⟨0x0D, 1, .u32, .ro, .const 0, .any⟩,
  ⟨0x0E, 1, .u32, .ro, .const 0, .any⟩,
  ⟨0x0F, 1, .u8, .ro, .const 0, .any⟩,
  ⟨0x10, 1, .u8, .ro, .const 0, .any⟩,
  ⟨0x11, 1, .u8, .ro, .const 0, .any⟩,
  ⟨0x12, 1, .stamp, .ro, .const 0, .any⟩,
  ⟨0x13, 1, .u64, .ro, .const 0, .any⟩,
  ⟨0x14, 1, .u16, .ro, .const 65535, .any⟩,
  ⟨0x15, 1, .u32, .ro, .const 0, .any⟩]

/-- The subindices of object 3400h. -/
def rows3400 : List Row := [
  ⟨0x01, 1, .domain, .rwa, .const 0, .len 16428⟩,
  ⟨0x02, 1, .u16, .ro, .const 0, .any⟩,
  ⟨0x03, 1, .u32, .ro, .const 0, .any⟩]

/-- The subindices of object 3500h. -/
def rows3500 : List Row := [
  ⟨0x01, 1, .domain, .rwa, .const 0, .len 32812⟩,
  ⟨0x02, 1, .u16, .ro, .const 0, .any⟩,
  ⟨0x03, 1, .u32, .ro, .const 0, .any⟩]

/-- The subindices of object 3510h + n, n = 0–7. -/
def rows3510 : List Row := [
  ⟨0x01, 2, .f64, .rwc, .const 4652007308841189376, .realPos⟩,
  ⟨0x03, 2, .f64, .rwc, .const 0, .any⟩,
  ⟨0x05, 2, .f64, .rwc, .const 0, .any⟩,
  ⟨0x07, 2, .u16, .rwc, .const 0, .any⟩]

/-- The subindices of object 4000h. -/
def rows4000 : List Row := [
  ⟨0x01, 1, .u32, .ro, .const 0, .any⟩,
  ⟨0x02, 1, .u32, .ro, .const 0, .any⟩,
  ⟨0x03, 1, .u32, .ro, .const 0, .any⟩,
  ⟨0x04, 1, .u8, .wo, .const 0, .span 1 1⟩]

/-- The subindices of object 4001h + n, n = 0–2. -/
def rows4001 : List Row := [
  ⟨0x01, 1, .q32, .rw, .const 0, .any⟩,
  ⟨0x02, 1, .u8, .rw, .const 0, .span 0 31⟩,
  ⟨0x03, 1, .q32, .rw, .const 0, .any⟩,
  ⟨0x04, 1, .u8, .rw, .const 0, .span 0 31⟩,
  ⟨0x05, 1, .q32, .rw, .const 0, .any⟩,
  ⟨0x06, 1, .u8, .rw, .const 0, .span 0 31⟩,
  ⟨0x07, 1, .i32, .rw, .const 100000, .span 0 2000000000⟩,
  ⟨0x08, 1, .i32, .rw, .perEntry [100000, 100000, 174533], .span 1 2000000000⟩,
  ⟨0x09, 1, .q32, .rw, .const 0, .any⟩,
  ⟨0x0A, 1, .u8, .rw, .const 0, .span 0 31⟩,
  ⟨0x0B, 1, .q32, .rw, .const 0, .any⟩,
  ⟨0x0C, 1, .u8, .rw, .const 0, .span 0 31⟩,
  ⟨0x0D, 1, .u16, .rw, .const 1000, .span 0 1500⟩,
  ⟨0x0E, 5, .u16, .rw, .each [1000, 1000, 800, 500, 1000], .span 0 2000⟩,
  ⟨0x13, 1, .i32, .ro, .const 0, .any⟩,
  ⟨0x14, 1, .u32, .ro, .const 0, .any⟩,
  ⟨0x15, 1, .i32, .ro, .const 0, .any⟩]

/-- The subindices of object 4010h + n, n = 0–2. -/
def rows4010 : List Row := [
  ⟨0x01, 36, .f32, .rwc, .const 0, .any⟩]

/-- The subindices of object 4020h. -/
def rows4020 : List Row := [
  ⟨0x01, 3, .i16, .rw, .const 0, .span (-1000) 1000⟩,
  ⟨0x04, 3, .i32, .rwc, .const 0, .any⟩,
  ⟨0x07, 1, .bool, .rw, .const 0, .span 0 1⟩,
  ⟨0x08, 1, .u8, .rwc, .const 0, .span 0 1⟩,
  ⟨0x09, 3, .u8, .rwc, .const 255, .spanOr 0 15 255⟩,
  ⟨0x0C, 1, .u16, .rw, .const 20, .span 0 200⟩]

/-- The subindices of object 4030h. -/
def rows4030 : List Row := [
  ⟨0x01, 2, .f64, .rw, .const 0, .any⟩,
  ⟨0x03, 1, .i32, .rw, .const 0, .span 0 6283185⟩,
  ⟨0x04, 2, .i32, .wo, .const 0, .span (-1000000) 1000000⟩,
  ⟨0x06, 1, .i32, .wo, .const 0, .span (-3141592) 3141592⟩]

/-- The subindices of object 4031h. -/
def rows4031 : List Row := [
  ⟨0x01, 1, .u8, .rw, .const 255, .spanOr 0 63 255⟩,
  ⟨0x02, 2, .i32, .rw, .const 0, .any⟩,
  ⟨0x04, 1, .i32, .rw, .const 0, .any⟩]

/-- The subindices of object 4032h. -/
def rows4032 : List Row := [
  ⟨0x01, 2, .f64, .rw, .const 0, .any⟩,
  ⟨0x03, 1, .i32, .rw, .const 0, .span 0 5000000⟩,
  ⟨0x04, 1, .u16, .rw, .const 100, .span 0 1000⟩]

/-- The subindices of object 4033h. -/
def rows4033 : List Row := [
  ⟨0x01, 1, .domain, .rw, .const 0, .len 2068⟩,
  ⟨0x02, 1, .u16, .ro, .const 0, .any⟩,
  ⟨0x03, 1, .u32, .rw, .const 50000, .span 1000 1000000⟩,
  ⟨0x04, 1, .u8, .ro, .const 255, .any⟩]

/-- The subindices of object 4040h. -/
def rows4040 : List Row := [
  ⟨0x01, 1, .u32, .rw, .const 500, .span 1 5000⟩,
  ⟨0x02, 1, .u32, .rw, .const 100, .span 1 2000⟩,
  ⟨0x03, 1, .u32, .rw, .const 50, .span 1 2000⟩,
  ⟨0x04, 1, .u32, .rw, .const 17453, .span 1 174533⟩,
  ⟨0x05, 1, .u32, .rw, .const 8727, .span 1 174533⟩,
  ⟨0x06, 1, .u32, .rw, .const 4363, .span 1 174533⟩,
  ⟨0x07, 1, .u8, .ro, .const 0, .any⟩]

/-- The subindices of object 4060h + n, n = 0–31. -/
def rows4060 : List Row := [
  ⟨0x01, 1, .bool, .rwc, .const 0, .span 0 1⟩,
  ⟨0x02, 1, .u8, .rwc, .const 255, .among (255 :: (List.range 8).map Int.ofNat ++ (List.range 16).map (fun k => Int.ofNat (k + 16)))⟩,
  ⟨0x03, 1, .u8, .rwc, .const 0, .span 0 2⟩,
  ⟨0x04, 1, .u8, .rwc, .const 0, .among ((List.range 48).map Int.ofNat)⟩,
  ⟨0x05, 1, .u8, .rwc, .const 255, .spanOr 0 15 255⟩,
  ⟨0x06, 1, .q32, .rw, .const 0, .any⟩,
  ⟨0x07, 1, .u8, .rw, .const 0, .span 0 31⟩,
  ⟨0x08, 1, .q32, .rw, .const 0, .any⟩,
  ⟨0x09, 1, .u8, .rw, .const 0, .span 0 31⟩,
  ⟨0x0A, 1, .i32, .rw, .const 32767, .any⟩,
  ⟨0x0B, 2, .i16, .rw, .each [-32768, 32767], .any⟩,
  ⟨0x0D, 1, .i32, .ro, .const 0, .any⟩,
  ⟨0x0E, 1, .i16, .ro, .const 0, .any⟩,
  ⟨0x0F, 1, .q32, .rwc, .const 1, .any⟩,
  ⟨0x10, 1, .u8, .rwc, .const 0, .span 0 31⟩]

/-- The subindices of object 4100h + n, n = 0–15 (part 1). -/
def rows4100a : List Row := [
  ⟨0x01, 1, .bool, .rwc, .const 0, .span 0 1⟩,
  ⟨0x02, 1, .u8, .rwc, .const 0, .span 0 4⟩,
  ⟨0x03, 1, .u8, .rwc, .const 0, .span 0 1⟩,
  ⟨0x04, 1, .u8, .rwc, .const 0, .span 0 3⟩,
  ⟨0x05, 2, .u8, .rwc, .const 255, .spanOr 0 15 255⟩,
  ⟨0x07, 1, .u8, .rwc, .const 0, .span 0 1⟩,
  ⟨0x08, 1, .u32, .rwc, .const 4294967295, .own⟩,
  ⟨0x09, 2, .u32, .rwc, .const 0, .any⟩,
  ⟨0x0B, 1, .u32, .rwc, .const 0, .any⟩,
  ⟨0x0C, 1, .u32, .rw, .const 50000, .span 1 10000000⟩,
  ⟨0x0D, 1, .u32, .rw, .const 174533, .span 1 1570796⟩,
  ⟨0x0E, 1, .u16, .rwc, .const 0, .span 0 1000⟩,
  ⟨0x0F, 1, .u32, .rw, .const 50000, .span 1 10000000⟩,
  ⟨0x10, 1, .u32, .rw, .const 5000, .any⟩,
  ⟨0x11, 1, .u32, .rw, .const 0, .any⟩,
  ⟨0x12, 1, .u32, .rw, .const 87266, .span 0 523599⟩,
  ⟨0x13, 1, .u32, .rw, .const 523599, .span 17453 3141593⟩,
  ⟨0x14, 8, .i32, .rwc, .const 0, .span 0 6283184⟩,
  ⟨0x1C, 1, .u16, .rw, .const 1000, .span 0 10000⟩,
  ⟨0x1D, 1, .u16, .rw, .const 100, .span 0 10000⟩,
  ⟨0x1E, 1, .bool, .rwc, .const 0, .span 0 1⟩,
  ⟨0x1F, 1, .i16, .rwc, .const 0, .span (-10000) 10000⟩,
  ⟨0x20, 1, .u16, .rwc, .const 0, .any⟩,
  ⟨0x21, 1, .bool, .rwc, .const 1, .span 0 1⟩]

/-- The subindices of object 4100h + n, n = 0–15 (part 2). -/
def rows4100b : List Row := [
  ⟨0x22, 1, .i32, .rwc, .const 0, .any⟩,
  ⟨0x23, 2, .domain, .rwc, .const 0, .len 36⟩,
  ⟨0x25, 1, .u32, .ro, .const 0, .any⟩,
  ⟨0x26, 1, .i16, .ro, .const 0, .any⟩,
  ⟨0x27, 1, .u16, .ro, .const 0, .any⟩,
  ⟨0x28, 2, .i32, .ro, .const 0, .any⟩,
  ⟨0x2A, 1, .i16, .ro, .const 0, .any⟩,
  ⟨0x2B, 1, .u16, .ro, .const 0, .any⟩,
  ⟨0x2C, 1, .u16, .ro, .const 0, .any⟩,
  ⟨0x2D, 1, .u32, .rwc, .const 610865, .any⟩]

/-- The subindices of object 4200h. -/
def rows4200 : List Row := [
  ⟨0x01, 1, .u32, .ro, .const 0, .any⟩,
  ⟨0x02, 3, .f32, .rwc, .const 1065353216, .realSpan 0x3A83126F 0x447A0000⟩,
  ⟨0x05, 3, .u32, .rwc, .each [100000, 100000, 5000000], .any⟩,
  ⟨0x08, 1, .f32, .rwc, .const 1065353216, .realSpan 0x3C23D70A 0x42C80000⟩,
  ⟨0x09, 1, .u32, .rw, .const 0, .any⟩,
  ⟨0x0A, 1, .u8, .rwc, .const 255, .spanOr 0 15 255⟩,
  ⟨0x0B, 1, .u16, .rw, .const 20, .span 1 1000⟩,
  ⟨0x0C, 3, .u32, .rw, .each [5000, 5000, 50000], .any⟩,
  ⟨0x0F, 1, .u16, .rw, .const 50, .span 0 1000⟩,
  ⟨0x10, 1, .u16, .rwc, .const 256, .span 0 1952⟩,
  ⟨0x11, 1, .u16, .rwc, .const 384, .span 0 2032⟩,
  ⟨0x12, 1, .u16, .ro, .const 0, .any⟩,
  ⟨0x13, 1, .u16, .ro, .const 1000, .any⟩,
  ⟨0x14, 1, .u32, .ro, .const 0, .any⟩,
  ⟨0x15, 1, .u32, .ro, .const 0, .any⟩,
  ⟨0x16, 1, .u32, .ro, .const 0, .any⟩,
  ⟨0x17, 1, .u32, .ro, .const 0, .any⟩,
  ⟨0x18, 1, .u32, .ro, .const 0, .any⟩,
  ⟨0x19, 1, .u8, .wo, .const 0, .span 1 1⟩,
  ⟨0x1A, 1, .u8, .rwc, .const 0, .span 1 1⟩,
  ⟨0x1B, 1, .u8, .rwc, .const 255, .spanOr 0 15 255⟩,
  ⟨0x1C, 1, .i16, .rwc, .const 0, .any⟩,
  ⟨0x1D, 1, .u16, .rwc, .const 0, .any⟩,
  ⟨0x1E, 1, .u16, .rwc, .const 10000, .span 100 60000⟩]

/-- The subindices of object 4201h. -/
def rows4201 : List Row := [
  ⟨0x01, 3, .i32, .ro, .const 0, .any⟩,
  ⟨0x04, 3, .i32, .ro, .const 0, .any⟩,
  ⟨0x07, 3, .i32, .ro, .const 0, .any⟩,
  ⟨0x0A, 1, .u32, .ro, .const 0, .any⟩]

/-- The subindices of object 4210h. -/
def rows4210 : List Row := [
  ⟨0x01, 1, .domain, .rwc, .const 0, .len 8468⟩,
  ⟨0x02, 1, .u8, .ro, .const 0, .any⟩,
  ⟨0x03, 1, .u32, .ro, .const 0, .any⟩]

/-- The subindices of object 4211h. -/
def rows4211 : List Row := [
  ⟨0x01, 32, .u16, .rwc, .const 0, .any⟩]

/-- The subindices of object 4300h. -/
def rows4300 : List Row := [
  ⟨0x02, 1, .u16, .rw, .const 30, .span 10 300⟩,
  ⟨0x03, 1, .u16, .rw, .const 600, .span 120 1800⟩,
  ⟨0x04, 1, .u16, .rw, .const 1500, .span 500 3000⟩,
  ⟨0x05, 1, .u8, .rwc, .const 1, .span 0 1⟩,
  ⟨0x06, 1, .u16, .rw, .const 90, .span 30 900⟩,
  ⟨0x07, 1, .u16, .rw, .const 60, .span 20 600⟩,
  ⟨0x08, 1, .u16, .rw, .const 600, .any⟩,
  ⟨0x09, 1, .u16, .rw, .const 500, .any⟩,
  ⟨0x0A, 1, .u16, .rw, .const 300, .any⟩,
  ⟨0x0B, 1, .u16, .rw, .const 2000, .span 0 30000⟩,
  ⟨0x0C, 1, .u16, .rw, .const 10000, .span 0 60000⟩]

/-- The subindices of object 4301h + n, n = 0–2. -/
def rows4301 : List Row := [
  ⟨0x01, 1, .q32, .rw, .const 0, .any⟩,
  ⟨0x02, 1, .u8, .rw, .const 0, .span 0 31⟩,
  ⟨0x03, 1, .q32, .rw, .const 0, .any⟩,
  ⟨0x04, 1, .u8, .rw, .const 0, .span 0 31⟩,
  ⟨0x05, 1, .q32, .rw, .const 0, .any⟩,
  ⟨0x06, 1, .u8, .rw, .const 0, .span 0 31⟩,
  ⟨0x07, 1, .i32, .rw, .const 200000, .span 0 2000000000⟩,
  ⟨0x08, 1, .i32, .rw, .perEntry [30000, 30000, 52360], .any⟩,
  ⟨0x09, 1, .i32, .rw, .perEntry [200, 200, 1000], .any⟩]

/-- The subindices of object 4304h. -/
def rows4304 : List Row := [
  ⟨0x01, 1, .u16, .ro, .const 0, .any⟩,
  ⟨0x02, 1, .u8, .ro, .const 0, .any⟩,
  ⟨0x03, 1, .u16, .ro, .const 0, .any⟩,
  ⟨0x04, 1, .u64, .ro, .const 0, .any⟩,
  ⟨0x05, 1, .domain, .ro, .const 0, .len 576⟩]

/-- The subindices of object 4400h. -/
def rows4400 : List Row := [
  ⟨0x01, 1, .u32, .ro, .const 0, .any⟩,
  ⟨0x02, 1, .u32, .ro, .const 0, .any⟩,
  ⟨0x03, 1, .u32, .ro, .const 0, .any⟩,
  ⟨0x05, 1, .f32, .rw, .const 1056964608, .realSpan 0x3D4CCCCD 0x40A00000⟩,
  ⟨0x06, 1, .f32, .rw, .const 1028443341, .realSpan 0x3BA3D70A 0x3F800000⟩,
  ⟨0x07, 1, .u32, .rw, .const 500, .span 50 65536⟩,
  ⟨0x08, 1, .u8, .rw, .const 3, .span 1 16⟩,
  ⟨0x09, 1, .f32, .rw, .const 1073741824, .realSpan 0x3E800000 0x41A00000⟩,
  ⟨0x0A, 1, .u16, .rw, .const 100, .span 20 1000⟩,
  ⟨0x0B, 1, .f32, .rw, .const 1056964608, .realSpan 0x3C23D70A 0x40A00000⟩,
  ⟨0x0C, 1, .f32, .rw, .const 1017370378, .realSpan 0x3A83126F 0x3F000000⟩,
  ⟨0x0D, 1, .f32, .rw, .const 1073741824, .realSpan 0x3C23D70A 0x42480000⟩,
  ⟨0x0E, 1, .u32, .rw, .const 100, .span 1 10000⟩,
  ⟨0x0F, 1, .u32, .rw, .const 1000, .span 10 50000⟩,
  ⟨0x10, 1, .u8, .rwc, .const 12, .span 4 24⟩]

/-- The subindices of object 4410h + n, n = 0–11. -/
def rows4410 : List Row := [
  ⟨0x01, 1, .domain, .ro, .const 0, .lenOpen⟩,
  ⟨0x02, 1, .u32, .ro, .const 0, .any⟩,
  ⟨0x03, 1, .u16, .ro, .const 0, .any⟩,
  ⟨0x04, 1, .u32, .ro, .const 0, .any⟩,
  ⟨0x05, 1, .f64, .rwc, .const 4427486594234968593, .realSpan 0 0x3F50624DD2F1A9FC⟩,
  ⟨0x06, 1, .f64, .rwc, .const 4472406533629990549, .realNonneg⟩,
  ⟨0x07, 1, .u16, .ro, .const 0, .any⟩,
  ⟨0x08, 1, .u8, .ro, .const 0, .any⟩]

/-- The subindices of object 441Ch + n, n = 0–3. -/
def rows441C : List Row := [
  ⟨0x01, 1, .domain, .rwc, .const 0, .lenOpen⟩,
  ⟨0x02, 1, .u32, .ro, .const 0, .any⟩,
  ⟨0x03, 1, .u16, .ro, .const 0, .any⟩,
  ⟨0x04, 1, .u32, .ro, .const 0, .any⟩,
  ⟨0x05, 1, .f64, .rwc, .const 4427486594234968593, .realSpan 0 0x3F50624DD2F1A9FC⟩,
  ⟨0x06, 1, .f64, .rwc, .const 4472406533629990549, .realNonneg⟩,
  ⟨0x07, 1, .u16, .ro, .const 0, .any⟩,
  ⟨0x08, 1, .u8, .ro, .const 0, .any⟩]

/-- The subindices of object 4421h + n, n = 0–7. -/
def rows4421 : List Row := [
  ⟨0x01, 1, .u8, .rwc, .perEntry [1, 4, 3, 8, 6, 1, 40, 1], .own⟩,
  ⟨0x02, 1, .u32, .rwc, .perEntry [50, 60, 900000, 5000, 2000, 5000, 120, 5000], .own⟩,
  ⟨0x03, 1, .u32, .ro, .const 0, .any⟩,
  ⟨0x04, 1, .u32, .ro, .const 0, .any⟩,
  ⟨0x05, 1, .u32, .ro, .const 0, .any⟩,
  ⟨0x06, 1, .u32, .ro, .const 0, .any⟩,
  ⟨0x07, 1, .u32, .ro, .const 0, .any⟩,
  ⟨0x08, 1, .u32, .ro, .const 0, .any⟩,
  ⟨0x09, 1, .u32, .ro, .const 0, .any⟩,
  ⟨0x0A, 1, .u32, .ro, .const 0, .any⟩,
  ⟨0x0B, 1, .f64, .ro, .const 0, .any⟩,
  ⟨0x0C, 1, .u32, .ro, .const 0, .any⟩,
  ⟨0x0D, 1, .u8, .wo, .const 0, .span 1 1⟩]

/-- The subindices of object 4430h. -/
def rows4430 : List Row := [
  ⟨0x01, 1, .domain, .rwc, .const 0, .len 64⟩,
  ⟨0x02, 1, .domain, .rwc, .const 0, .len 65536⟩,
  ⟨0x03, 1, .domain, .rwc, .const 0, .len 4194320⟩,
  ⟨0x04, 1, .domain, .ro, .const 0, .lenOpen⟩,
  ⟨0x05, 1, .u8, .ro, .const 0, .any⟩]

/-- The subindices of object 5000h. -/
def rows5000 : List Row := [
  ⟨0x01, 1, .u32, .ro, .const 0, .any⟩,
  ⟨0x02, 1, .u8, .rwc, .const 0, .span 0 4⟩,
  ⟨0x03, 1, .u16, .rw, .const 100, .span 1 500⟩,
  ⟨0x04, 1, .u32, .rw, .const 600, .span 10 86400⟩,
  ⟨0x05, 1, .u16, .rw, .const 100, .span 10 1000⟩,
  ⟨0x06, 1, .u16, .rw, .const 30, .span 10 1000⟩,
  ⟨0x07, 1, .u32, .rw, .const 200, .any⟩,
  ⟨0x08, 1, .u32, .rw, .const 1, .any⟩,
  ⟨0x09, 1, .u32, .ro, .const 4294967295, .any⟩,
  ⟨0x0A, 1, .i32, .ro, .const 0, .any⟩,
  ⟨0x0B, 1, .i32, .ro, .const 0, .any⟩,
  ⟨0x0C, 1, .i16, .ro, .const 37, .any⟩,
  ⟨0x0D, 1, .i16, .rwc, .const 37, .any⟩,
  ⟨0x0E, 1, .i8, .ro, .const 0, .any⟩,
  ⟨0x0F, 1, .u64, .ro, .const 0, .any⟩,
  ⟨0x10, 1, .bool, .rw, .const 0, .span 0 1⟩,
  ⟨0x11, 1, .f64, .ro, .const 0, .any⟩,
  ⟨0x12, 1, .u32, .ro, .const 0, .any⟩]

/-- The subindices of object 5001h. -/
def rows5001 : List Row := [
  ⟨0x01, 1, .u64, .ro, .const 0, .any⟩,
  ⟨0x02, 1, .u64, .ro, .const 0, .any⟩,
  ⟨0x03, 1, .u32, .ro, .const 0, .any⟩]

/-- The subindices of object 5010h. -/
def rows5010 : List Row := [
  ⟨0x01, 1, .u8, .rwc, .const 1, .span 0 3⟩,
  ⟨0x02, 1, .u8, .rwc, .const 1, .span 1 2⟩,
  ⟨0x03, 1, .u8, .rwc, .const 0, .span 0 1⟩,
  ⟨0x04, 1, .u8, .rwc, .const 0, .span 0 127⟩,
  ⟨0x05, 2, .u8, .rwc, .const 128, .span 0 255⟩,
  ⟨0x07, 1, .i8, .rwc, .const (-3), .span (-7) 0⟩,
  ⟨0x08, 1, .i8, .rwc, .const 0, .span 0 3⟩,
  ⟨0x09, 1, .u8, .ro, .const 0, .any⟩,
  ⟨0x0A, 1, .u64, .ro, .const 0, .any⟩,
  ⟨0x0B, 1, .i32, .ro, .const 0, .any⟩,
  ⟨0x0C, 1, .u32, .ro, .const 0, .any⟩,
  ⟨0x0D, 1, .u8, .ro, .const 255, .any⟩]

/-- The subindices of object 5020h + n, n = 0–1. -/
def rows5020 : List Row := [
  ⟨0x01, 1, .u8, .rw, .const 2, .span 0 2⟩,
  ⟨0x02, 1, .u32, .rw, .const 1000000, .span 1000 10000000⟩,
  ⟨0x03, 1, .u32, .rw, .const 0, .own⟩,
  ⟨0x04, 1, .u64, .rw, .const 0, .own⟩,
  ⟨0x05, 1, .u32, .rw, .const 100000, .own⟩,
  ⟨0x06, 1, .bool, .rw, .const 0, .span 0 1⟩,
  ⟨0x07, 1, .u8, .rw, .const 0, .span 0 1⟩,
  ⟨0x08, 1, .u32, .ro, .const 0, .any⟩]

/-- The subindices of object 5022h + n, n = 0–1. -/
def rows5022 : List Row := [
  ⟨0x01, 1, .domain, .ro, .const 0, .len 32⟩,
  ⟨0x02, 1, .u32, .ro, .const 0, .any⟩]

/-- The subindices of object 5024h + n, n = 0–1. -/
def rows5024 : List Row := [
  ⟨0x01, 1, .bool, .rw, .const 0, .span 0 1⟩,
  ⟨0x02, 1, .u8, .rw, .const 0, .span 0 2⟩,
  ⟨0x03, 1, .u8, .ro, .const 0, .any⟩,
  ⟨0x04, 1, .domain, .ro, .const 0, .len 16⟩,
  ⟨0x05, 1, .u32, .ro, .const 0, .any⟩,
  ⟨0x06, 1, .u16, .rwc, .const 0, .span 0 1000⟩]

/-- The subindices of object 5030h. -/
def rows5030 : List Row := [
  ⟨0x01, 1, .u8, .rwc, .const 0, .bits 0xF⟩]

/-- The subindices of object 5100h. -/
def rows5100 : List Row := [
  ⟨0x01, 1, .u32, .ro, .const 0, .any⟩,
  ⟨0x02, 1, .u8, .rwc, .const 3, .span 0 5⟩,
  ⟨0x03, 1, .u16, .rwc, .const 16383, .bits 0x3FFF⟩,
  ⟨0x04, 1, .u32, .rw, .const 87266, .span 0 523599⟩,
  ⟨0x05, 1, .u16, .rw, .const 2500, .any⟩,
  ⟨0x06, 1, .u16, .rw, .const 500, .span 50 5000⟩,
  ⟨0x07, 1, .u16, .rw, .const 15000, .span 2000 40000⟩,
  ⟨0x08, 1, .u16, .rw, .const 5000, .span 1000 20000⟩,
  ⟨0x09, 1, .bool, .rw, .const 1, .span 0 1⟩,
  ⟨0x0A, 1, .u16, .rw, .const 1800, .span 60 3600⟩,
  ⟨0x0B, 1, .u16, .rw, .const 60, .span 10 300⟩,
  ⟨0x0C, 1, .u16, .ro, .const 0, .any⟩,
  ⟨0x0D, 1, .bool, .rw, .const 1, .span 0 1⟩]

/-- The subindices of object 5101h + n, n = 0–2. -/
def rows5101 : List Row := [
  ⟨0x01, 1, .bool, .rwc, .const 1, .span 0 1⟩,
  ⟨0x02, 1, .u8, .ro, .const 0, .any⟩,
  ⟨0x03, 1, .u16, .ro, .const 0, .any⟩,
  ⟨0x04, 1, .u8, .ro, .const 0, .any⟩]

/-- The subindices of object 5110h. -/
def rows5110 : List Row := [
  ⟨0x01, 3, .domain, .ro, .const 0, .len 2592⟩]

/-- The subindices of object 5200h + n, n = 0–7 (part 1). -/
def rows5200a : List Row := [
  ⟨0x01, 1, .bool, .rwc, .const 0, .span 0 1⟩,
  ⟨0x02, 1, .u8, .rwc, .const 0, .span 0 4⟩,
  ⟨0x03, 1, .u8, .rwc, .const 0, .span 0 1⟩,
  ⟨0x04, 1, .u32, .rwc, .const 4096, .span 4 1073741824⟩,
  ⟨0x05, 1, .bool, .rwc, .const 0, .span 0 1⟩,
  ⟨0x06, 1, .u8, .rwc, .const 2, .span 0 10⟩,
  ⟨0x07, 1, .u32, .rwc, .const 0, .own⟩,
  ⟨0x08, 1, .u16, .rwc, .const 1000, .span 100 10000⟩,
  ⟨0x09, 1, .u8, .rwc, .const 3, .span 0 5⟩,
  ⟨0x0A, 1, .u32, .rw, .const 65536, .any⟩,
  ⟨0x0B, 1, .u8, .rwc, .const 0, .span 0 1⟩,
  ⟨0x0C, 1, .u32, .rw, .const 1000000, .any⟩,
  ⟨0x0D, 1, .u32, .rw, .const 500000, .any⟩,
  ⟨0x0E, 1, .u16, .rw, .const 100, .span 1 10000⟩,
  ⟨0x0F, 1, .u8, .rw, .const 10, .span 1 100⟩,
  ⟨0x10, 1, .u8, .rwc, .const 4, .span 0 16⟩,
  ⟨0x11, 1, .u8, .rwc, .const 9, .own⟩,
  ⟨0x12, 1, .i64, .rwc, .const 0, .any⟩,
  ⟨0x13, 1, .u32, .rw, .const 16, .any⟩,
  ⟨0x14, 1, .f64, .rwc, .const 4607182418800017408, .any⟩,
  ⟨0x15, 1, .f64, .rwc, .const 0, .any⟩,
  ⟨0x16, 1, .i64, .ro, .const 0, .any⟩,
  ⟨0x17, 1, .f64, .ro, .const 0, .any⟩,
  ⟨0x18, 1, .i32, .ro, .const 0, .any⟩]

/-- The subindices of object 5200h + n, n = 0–7 (part 2). -/
def rows5200b : List Row := [
  ⟨0x19, 1, .f64, .ro, .const 0, .any⟩,
  ⟨0x1A, 1, .u32, .ro, .const 0, .any⟩,
  ⟨0x1B, 1, .i64, .wo, .const 0, .any⟩,
  ⟨0x1C, 1, .i32, .ro, .const 0, .any⟩,
  ⟨0x1D, 1, .u32, .ro, .const 0, .any⟩,
  ⟨0x1E, 1, .u32, .ro, .const 0, .any⟩,
  ⟨0x1F, 1, .u32, .ro, .const 0, .any⟩,
  ⟨0x20, 1, .u32, .ro, .const 0, .any⟩,
  ⟨0x21, 1, .domain, .rw, .const 0, .len 3984⟩,
  ⟨0x22, 1, .domain, .wo, .const 0, .len 20⟩,
  ⟨0x23, 1, .u16, .rw, .const 1, .span 1 65535⟩,
  ⟨0x24, 1, .u32, .rw, .const 10, .span 1 1000000⟩,
  ⟨0x25, 1, .u8, .rwc, .const 255, .spanOr 0 15 255⟩,
  ⟨0x26, 1, .domain, .ro, .const 0, .len 16⟩,
  ⟨0x27, 1, .u32, .ro, .const 0, .any⟩,
  ⟨0x28, 1, .u32, .ro, .const 0, .any⟩,
  ⟨0x29, 1, .u32, .ro, .const 0, .any⟩,
  ⟨0x2A, 1, .u16, .ro, .const 0, .any⟩,
  ⟨0x2B, 1, .u8, .wo, .const 0, .span 1 1⟩]

/-- The subindices of object 5210h + n, n = 0–1. -/
def rows5210 : List Row := [
  ⟨0x01, 1, .bool, .rw, .const 0, .span 0 1⟩,
  ⟨0x02, 1, .u8, .rwc, .const 255, .spanOr 0 7 255⟩,
  ⟨0x03, 1, .u32, .rwc, .const 1024, .span 1 65536⟩,
  ⟨0x04, 1, .bool, .rwc, .const 0, .span 0 1⟩,
  ⟨0x05, 1, .u8, .ro, .const 0, .any⟩,
  ⟨0x06, 1, .u32, .ro, .const 0, .any⟩]

/-- The subindices of object 5218h + n, n = 0–1. -/
def rows5218 : List Row := [
  ⟨0x01, 1, .bool, .rw, .const 0, .span 0 1⟩,
  ⟨0x02, 1, .u8, .rw, .const 0, .any⟩,
  ⟨0x03, 1, .u8, .rw, .const 0, .span 0 2⟩,
  ⟨0x04, 1, .u16, .rw, .const 0, .span 0 1000⟩,
  ⟨0x05, 1, .u16, .rwc, .const 0, .span 0 1000⟩,
  ⟨0x06, 1, .u8, .ro, .const 0, .any⟩,
  ⟨0x07, 1, .domain, .ro, .const 0, .len 80⟩,
  ⟨0x08, 1, .u32, .ro, .const 0, .any⟩,
  ⟨0x09, 1, .u32, .ro, .const 0, .any⟩]

/-- The subindices of object 5300h. -/
def rows5300 : List Row := [
  ⟨0x01, 1, .u32, .ro, .const 0, .any⟩,
  ⟨0x02, 1, .u32, .ro, .const 0, .any⟩]

/-- The subindices of object 5310h + n, n = 0–31. -/
def rows5310 : List Row := [
  ⟨0x01, 1, .bool, .rwc, .const 0, .span 0 1⟩,
  ⟨0x02, 1, .u8, .rwc, .const 5, .span 0 7⟩,
  ⟨0x03, 1, .u8, .rw, .const 0, .span 0 255⟩,
  ⟨0x04, 1, .u8, .rw, .perEntry ([24, 24, 24, 24, 24, 24, 24, 24, 24, 24, 24, 24, 24, 24, 24, 24] ++ [4, 4, 4, 4, 4, 4, 4, 4, 4, 4, 4, 4, 4, 4, 4, 4]), .span 0 255⟩,
  ⟨0x05, 1, .u32, .rw, .const 0, .any⟩,
  ⟨0x06, 1, .i32, .rw, .const 2147483647, .any⟩,
  ⟨0x07, 1, .i32, .rw, .const (-2147483648), .any⟩,
  ⟨0x08, 1, .u32, .rw, .const 0, .any⟩,
  ⟨0x09, 1, .u8, .rw, .const 0, .bits 0x3⟩,
  ⟨0x0A, 1, .u8, .rw, .const 255, .spanOr 0 15 255⟩,
  ⟨0x0B, 1, .i32, .ro, .const 0, .any⟩,
  ⟨0x0C, 1, .stamp, .ro, .const 0, .any⟩,
  ⟨0x0D, 1, .u16, .ro, .const 0, .any⟩,
  ⟨0x0E, 1, .u32, .ro, .const 0, .any⟩]

/-- The subindices of object 5400h. -/
def rows5400 : List Row := [
  ⟨0x01, 1, .u32, .ro, .const 0, .any⟩,
  ⟨0x02, 1, .u16, .ro, .const 0, .any⟩,
  ⟨0x03, 1, .u16, .rwc, .const 20, .span 2 500⟩,
  ⟨0x04, 1, .u16, .rwc, .const 50, .span 20 1000⟩,
  ⟨0x05, 1, .u32, .ro, .const 0, .any⟩,
  ⟨0x07, 1, .u16, .rw, .const 0, .any⟩,
  ⟨0x08, 1, .u16, .ro, .const 0, .any⟩,
  ⟨0x09, 1, .u16, .rwc, .const 0, .any⟩,
  ⟨0x0A, 1, .u8, .rw, .const 0, .span 0 1⟩,
  ⟨0x0B, 1, .u8, .wo, .const 0, .span 1 1⟩]

/-- The subindices of object 5401h. -/
def rows5401 : List Row := [
  ⟨0x01, 32, .u8, .rwc, .const 3, .span 1 255⟩]

/-- The subindices of object 5402h. -/
def rows5402 : List Row := [
  ⟨0x01, 32, .u32, .ro, .const 0, .any⟩]

/-- The subindices of object 5403h. -/
def rows5403 : List Row := [
  ⟨0x01, 16, .u8, .ro, .const 0, .any⟩]

/-- The subindices of object 5500h. -/
def rows5500 : List Row := [
  ⟨0x01, 16, .u8, .rwc, .const 0, .span 0 1⟩]

/-- The subindices of object 5501h. -/
def rows5501 : List Row := [
  ⟨0x01, 16, .f64, .rwc, .const 4607182418800017408, .any⟩]

/-- The subindices of object 5502h. -/
def rows5502 : List Row := [
  ⟨0x01, 16, .f64, .rwc, .const 0, .any⟩]

/-- The subindices of object 5503h. -/
def rows5503 : List Row := [
  ⟨0x01, 16, .f64, .ro, .const 0, .any⟩]

/-- The subindices of object 5504h. -/
def rows5504 : List Row := [
  ⟨0x01, 16, .u8, .ro, .const 0, .any⟩]

/-- The subindices of object 5505h. -/
def rows5505 : List Row := [
  ⟨0x01, 16, .i16, .rw, .const 0, .span (-32768) 32767⟩]

/-- The subindices of object 5506h. -/
def rows5506 : List Row := [
  ⟨0x01, 16, .i16, .rwc, .const 0, .span (-32768) 32767⟩]

/-- The subindices of object 5507h. -/
def rows5507 : List Row := [
  ⟨0x01, 16, .i16, .ro, .const 0, .any⟩]

/-- The subindices of object 5508h. -/
def rows5508 : List Row := [
  ⟨0x01, 16, .u8, .ro, .const 0, .any⟩]

/-- The subindices of object 5600h + n, n = 0–3. -/
def rows5600 : List Row := [
  ⟨0x01, 1, .u8, .rwc, .const 0, .span 0 3⟩,
  ⟨0x02, 1, .u8, .rwc, .const 2, .span 0 3⟩,
  ⟨0x03, 1, .u8, .rwc, .const 1, .span 0 4⟩,
  ⟨0x04, 1, .u8, .rwc, .const 1, .span 0 2⟩,
  ⟨0x05, 1, .u16, .rwc, .const 800, .span 700 900⟩,
  ⟨0x06, 1, .u16, .rwc, .const 750, .span 600 900⟩,
  ⟨0x07, 1, .bool, .rwc, .const 0, .span 0 1⟩,
  ⟨0x08, 1, .bool, .rwc, .const 0, .span 0 1⟩,
  ⟨0x09, 1, .u16, .rwc, .const 16, .own⟩,
  ⟨0x0A, 4, .u8, .rw, .const 16, .span 1 255⟩,
  ⟨0x0E, 1, .u32, .ro, .const 0, .any⟩,
  ⟨0x0F, 1, .u8, .ro, .const 0, .any⟩,
  ⟨0x10, 1, .u32, .ro, .const 0, .any⟩,
  ⟨0x11, 1, .u32, .ro, .const 0, .any⟩,
  ⟨0x12, 1, .u32, .ro, .const 0, .any⟩,
  ⟨0x13, 1, .u32, .ro, .const 0, .any⟩,
  ⟨0x14, 1, .u32, .ro, .const 0, .any⟩,
  ⟨0x15, 1, .u32, .ro, .const 0, .any⟩,
  ⟨0x16, 1, .u32, .ro, .const 0, .any⟩,
  ⟨0x17, 1, .u32, .ro, .const 0, .any⟩,
  ⟨0x18, 1, .domain, .ro, .const 0, .len 16⟩,
  ⟨0x19, 1, .u8, .wo, .const 0, .span 1 1⟩]

/-- The subindices of object 5700h + n, n = 0–7. -/
def rows5700 : List Row := [
  ⟨0x01, 1, .u8, .rwc, .const 0, .span 0 2⟩,
  ⟨0x02, 1, .u32, .rwc, .const 4800, .span 1200 921600⟩,
  ⟨0x03, 1, .u8, .rwc, .const 0, .span 0 3⟩,
  ⟨0x04, 1, .u8, .rwc, .const 0, .span 0 1⟩,
  ⟨0x05, 1, .u8, .rwc, .const 0, .span 0 15⟩,
  ⟨0x06, 1, .bool, .rwc, .const 0, .span 0 1⟩,
  ⟨0x07, 1, .u32, .ro, .const 0, .any⟩,
  ⟨0x08, 1, .u32, .ro, .const 0, .any⟩,
  ⟨0x09, 1, .u32, .ro, .const 0, .any⟩,
  ⟨0x0A, 1, .u32, .ro, .const 0, .any⟩,
  ⟨0x0B, 1, .u32, .ro, .const 0, .any⟩,
  ⟨0x0C, 1, .u32, .ro, .const 0, .any⟩,
  ⟨0x0D, 1, .u32, .ro, .const 0, .any⟩,
  ⟨0x0E, 1, .u8, .wo, .const 0, .span 1 1⟩]

/-- The subindices of object 5780h + n, n = 0–15. -/
def rows5780 : List Row := [
  ⟨0x01, 1, .domain, .rwc, .const 0, .len 292⟩,
  ⟨0x02, 1, .u32, .ro, .const 0, .any⟩,
  ⟨0x03, 1, .u8, .ro, .const 0, .any⟩]

/-- The subindices of object 5800h + n, n = 0–7. -/
def rows5800 : List Row := [
  ⟨0x01, 1, .u32, .ro, .const 0, .any⟩,
  ⟨0x07, 1, .u8, .ro, .const 0, .any⟩,
  ⟨0x08, 2, .u32, .ro, .const 0, .any⟩,
  ⟨0x0A, 1, .u32, .ro, .const 0, .any⟩,
  ⟨0x0C, 1, .u64, .ro, .const 0, .any⟩,
  ⟨0x0D, 1, .u32, .ro, .const 0, .any⟩]

/-- The subindices of object 5808h + n, n = 0–7. -/
def rows5808 : List Row := [
  ⟨0x01, 1, .u32, .ro, .const 0, .any⟩,
  ⟨0x02, 1, .bool, .rw, .const 0, .span 0 1⟩,
  ⟨0x03, 1, .bool, .rw, .const 0, .span 0 1⟩,
  ⟨0x04, 1, .u8, .wo, .const 0, .span 1 1⟩,
  ⟨0x05, 1, .domain, .wo, .const 0, .len 32⟩,
  ⟨0x06, 1, .domain, .ro, .const 0, .len 16⟩,
  ⟨0x07, 1, .u8, .ro, .const 0, .any⟩,
  ⟨0x08, 2, .u32, .ro, .const 0, .any⟩,
  ⟨0x0A, 1, .u32, .ro, .const 0, .any⟩,
  ⟨0x0B, 1, .u16, .ro, .const 0, .any⟩,
  ⟨0x0C, 1, .u64, .ro, .const 0, .any⟩,
  ⟨0x0D, 1, .u32, .ro, .const 0, .any⟩,
  ⟨0x10, 1, .domain, .rw, .const 0, .len 1048576⟩]

/-- The subindices of object 5900h. -/
def rows5900 : List Row := [
  ⟨0x01, 1, .u32, .ro, .const 0, .any⟩,
  ⟨0x02, 1, .u64, .ro, .const 0, .any⟩,
  ⟨0x03, 1, .u32, .rwc, .const 0, .any⟩,
  ⟨0x04, 1, .u32, .rwc, .const 4294967040, .any⟩,
  ⟨0x05, 1, .u32, .rwc, .const 0, .any⟩,
  ⟨0x06, 1, .u16, .rwc, .const 0, .spanOr 1 4094 0⟩,
  ⟨0x07, 1, .u16, .rwc, .const 2000, .span 500 10000⟩,
  ⟨0x08, 1, .u16, .rwc, .const 60, .span 10 600⟩,
  ⟨0x09, 1, .u32, .rwc, .const 4022362113, .own⟩,
  ⟨0x0A, 1, .u16, .rwc, .const 47601, .span 1024 65535⟩,
  ⟨0x0B, 1, .u32, .ro, .const 0, .any⟩,
  ⟨0x0C, 1, .u16, .ro, .const 0, .any⟩,
  ⟨0x0D, 1, .u32, .ro, .const 0, .any⟩,
  ⟨0x0E, 1, .u32, .ro, .const 0, .any⟩,
  ⟨0x0F, 1, .u32, .ro, .const 0, .any⟩,
  ⟨0x10, 1, .u32, .ro, .const 0, .any⟩,
  ⟨0x11, 1, .u32, .ro, .const 0, .any⟩,
  ⟨0x12, 1, .u8, .wo, .const 0, .span 1 1⟩]

/-- The subindices of object 5910h + n, n = 0–15. -/
def rows5910 : List Row := [
  ⟨0x01, 1, .bool, .rwc, .const 0, .span 0 1⟩,
  ⟨0x02, 1, .u32, .rwc, .entry 0xEFC00001 1, .own⟩,
  ⟨0x03, 1, .u16, .rwc, .entry 60001 1, .span 1024 65535⟩,
  ⟨0x04, 1, .u32, .ro, .const 0, .any⟩,
  ⟨0x05, 1, .u32, .ro, .const 0, .any⟩]

/-- The subindices of object 5920h + n, n = 0–1. -/
def rows5920 : List Row := [
  ⟨0x01, 1, .u32, .rwc, .entry 0xC0A86401 0x100, .any⟩,
  ⟨0x02, 1, .u32, .rwc, .const 4294967040, .any⟩,
  ⟨0x03, 1, .u32, .rwc, .const 0, .any⟩,
  ⟨0x04, 1, .u64, .ro, .const 0, .any⟩]

/-- The subindices of object 5930h + n, n = 0–3. -/
def rows5930 : List Row := [
  ⟨0x01, 1, .bool, .rwc, .const 0, .span 0 1⟩,
  ⟨0x02, 1, .u8, .rwc, .const 7, .bits 0x7⟩,
  ⟨0x03, 1, .u32, .rwc, .entry 0xC0A8C801 0x100, .any⟩,
  ⟨0x04, 1, .u32, .rwc, .const 4294967040, .any⟩,
  ⟨0x05, 1, .u8, .ro, .const 0, .any⟩,
  ⟨0x06, 4, .u32, .rwc, .const 0, .own⟩,
  ⟨0x0A, 1, .u32, .ro, .const 0, .any⟩,
  ⟨0x0B, 1, .u32, .ro, .const 0, .any⟩,
  ⟨0x0C, 1, .u32, .ro, .const 0, .any⟩]

/-- The subindices of object 6000h. -/
def rows6000 : List Row := [
  ⟨0x01, 1, .u32, .ro, .const 0, .any⟩,
  ⟨0x02, 1, .u32, .ro, .const 0, .any⟩,
  ⟨0x03, 1, .u32, .ro, .const 0, .any⟩,
  ⟨0x04, 1, .u32, .ro, .const 0, .any⟩,
  ⟨0x05, 1, .u32, .rwc, .const 3600, .span 60 86400⟩,
  ⟨0x06, 1, .u32, .ro, .const 0, .any⟩,
  ⟨0x07, 1, .u32, .ro, .const 0, .any⟩,
  ⟨0x08, 1, .u32, .ro, .const 0, .any⟩,
  ⟨0x09, 1, .u32, .ro, .const 0, .any⟩]

/-- The subindices of object 6010h + n, n = 0–15. -/
def rows6010 : List Row := [
  ⟨0x01, 1, .u8, .rwc, .const 0, .own⟩,
  ⟨0x02, 1, .f32, .rwc, .const 0, .any⟩,
  ⟨0x03, 1, .f32, .rwc, .const 1065353216, .realPos⟩]

/-- The subindices of object 6030h. -/
def rows6030 : List Row := [
  ⟨0x01, 1, .u32, .rw, .const 10000, .span 1 1000000⟩,
  ⟨0x02, 1, .u16, .rw, .const 100, .span 1 65535⟩]

/-- The subindices of object 6031h. -/
def rows6031 : List Row := [
  ⟨0x01, 64, .u64, .rw, .const 0, .own⟩]

/-- The subindices of object 6100h. -/
def rows6100 : List Row := [
  ⟨0x01, 1, .u32, .rw, .const 0, .span 0 32759⟩,
  ⟨0x02, 1, .domain, .ro, .const 0, .len 4096⟩,
  ⟨0x03, 1, .i16, .wo, .const 0, .any⟩,
  ⟨0x04, 1, .u8, .ro, .const 0, .any⟩,
  ⟨0x05, 1, .u8, .rw, .const 0, .span 0 1⟩,
  ⟨0x06, 1, .u16, .ro, .const 0, .any⟩]

/-- The subindices of object 6110h. -/
def rows6110 : List Row := [
  ⟨0x01, 1, .u8, .rwa, .const 0, .span 1 1⟩,
  ⟨0x02, 1, .u16, .ro, .const 0, .any⟩,
  ⟨0x03, 1, .u16, .rwa, .const 0, .any⟩]

/-- The subindices of object 6120h. -/
def rows6120 : List Row := [
  ⟨0x01, 1, .u64, .ro, .const 0, .any⟩,
  ⟨0x02, 1, .domain, .ro, .const 0, .len 8200⟩,
  ⟨0x03, 1, .domain, .ro, .const 0, .len 4736⟩]

/-- The subindices of object 6200h. -/
def rows6200 : List Row := [
  ⟨0x01, 1, .u16, .ro, .const 0, .any⟩,
  ⟨0x02, 1, .u16, .ro, .const 0, .any⟩,
  ⟨0x03, 1, .u16, .wo, .const 0, .any⟩,
  ⟨0x04, 1, .domain, .ro, .const 0, .len 2048⟩,
  ⟨0x05, 1, .u16, .ro, .const 0, .any⟩,
  ⟨0x06, 1, .u32, .ro, .const 0, .any⟩]

/-- The subindices of object 6400h. -/
def rows6400 : List Row := [
  ⟨0x01, 1, .u32, .ro, .const 0, .any⟩,
  ⟨0x02, 1, .u8, .rwc, .const 1, .span 1 3⟩,
  ⟨0x03, 1, .u16, .rwc, .const 0xFF, .own⟩,
  ⟨0x04, 1, .u16, .rwc, .const 32768, .span 1 65535⟩,
  ⟨0x05, 1, .u16, .ro, .const 0, .any⟩,
  ⟨0x06, 1, .u64, .ro, .const 0, .any⟩,
  ⟨0x07, 1, .u8, .rwc, .const 255, .spanOr 0 15 255⟩,
  ⟨0x08, 1, .u16, .rw, .const 60, .span 10 3600⟩,
  ⟨0x09, 1, .u16, .rw, .const 8192, .any⟩,
  ⟨0x0A, 1, .u32, .ro, .const 0, .any⟩,
  ⟨0x0B, 1, .f32, .rw, .const 1056964608, .realSpan 0x3D4CCCCD 0x41200000⟩,
  ⟨0x0C, 1, .f32, .rw, .const 1008981770, .realSpan 0x3A83126F 0x3E4CCCCD⟩,
  ⟨0x0D, 1, .u8, .rwa, .const 0, .span 1 3⟩,
  ⟨0x0E, 1, .u32, .ro, .const 0, .any⟩,
  ⟨0x0F, 1, .u32, .ro, .const 0, .any⟩,
  ⟨0x10, 1, .u32, .ro, .const 0, .any⟩,
  ⟨0x11, 1, .u32, .ro, .const 0, .any⟩,
  ⟨0x12, 1, .u32, .ro, .const 0, .any⟩,
  ⟨0x13, 1, .u32, .ro, .const 0, .any⟩,
  ⟨0x14, 1, .u32, .ro, .const 0, .any⟩,
  ⟨0x15, 1, .u8, .wo, .const 0, .span 1 1⟩]

/-- The subindices of object 6401h. -/
def rows6401 : List Row := [
  ⟨0x01, 3, .u32, .ro, .const 4294967295, .any⟩]

/-- The subindices of object 6410h. -/
def rows6410 : List Row := [
  ⟨0x01, 64, .u8, .rwc, .const 0, .span 0 3⟩]

/-- The subindices of object 6420h. -/
def rows6420 : List Row := [
  ⟨0x01, 10, .u16, .rw, .each [4000, 4000, 40000, 40000, 20000, 2000, 3000, 8000, 2000, 4000], .span 0 65535⟩]

/-- The subindices of object 6500h. -/
def rows6500 : List Row := [
  ⟨0x01, 1, .u8, .rw, .const 0, .span 1 1⟩,
  ⟨0x02, 1, .u8, .ro, .const 0, .any⟩,
  ⟨0x03, 1, .u8, .ro, .const 0, .any⟩,
  ⟨0x04, 1, .u32, .ro, .const 0, .any⟩,
  ⟨0x05, 1, .u32, .ro, .const 0, .any⟩,
  ⟨0x06, 1, .u32, .ro, .const 0, .any⟩,
  ⟨0x07, 1, .u64, .ro, .const 0, .any⟩,
  ⟨0x08, 1, .u32, .ro, .const 0, .any⟩,
  ⟨0x09, 1, .u32, .ro, .const 0, .any⟩,
  ⟨0x0A, 1, .bool, .rwc, .const 1, .span 0 1⟩,
  ⟨0x0B, 1, .u8, .rwa, .const 0, .span 1 1⟩]

/-- The subindices of object 6600h. -/
def rows6600 : List Row := [
  ⟨0x01, 1, .domain, .ro, .const 0, .len 640⟩,
  ⟨0x02, 1, .u16, .ro, .const 0, .any⟩,
  ⟨0x03, 1, .domain, .ro, .const 0, .len 16⟩,
  ⟨0x04, 1, .domain, .wo, .const 0, .len 32⟩,
  ⟨0x05, 1, .u8, .wo, .const 0, .span 1 1⟩,
  ⟨0x06, 1, .domain, .wo, .const 0, .len 32⟩,
  ⟨0x07, 1, .u32, .ro, .const 0, .any⟩,
  ⟨0x08, 1, .u16, .rw, .const 30, .span 5 3600⟩,
  ⟨0x09, 1, .u32, .ro, .const 0, .any⟩,
  ⟨0x0A, 1, .u16, .ro, .const 0, .any⟩]

/-- The subindices of object 6610h + n, n = 0–3. -/
def rows6610 : List Row := [
  ⟨0x01, 1, .bool, .rwc, .const 0, .span 0 1⟩,
  ⟨0x02, 1, .u8, .rwc, .const 1, .span 1 127⟩]

/-- The subindices of object 6800h. -/
def rows6800 : List Row := [
  ⟨0x01, 1, .u8, .rwc, .const 0, .bits 0xF⟩,
  ⟨0x02, 1, .u8, .rwc, .const 15, .bits 0xF⟩,
  ⟨0x03, 1, .u16, .rwc, .const 500, .span 100 10000⟩,
  ⟨0x04, 1, .u16, .rwc, .const 300, .span 100 400⟩,
  ⟨0x05, 1, .u16, .rwc, .const 50, .span 10 500⟩,
  ⟨0x06, 1, .u8, .rwc, .const 0, .bits 0xF⟩]

/-- The subindices of object 6801h. -/
def rows6801 : List Row := [
  ⟨0x01, 8, .u8, .rwc, .const 0, .span 0 2⟩]

/-- The subindices of object 6802h. -/
def rows6802 : List Row := [
  ⟨0x01, 8, .u8, .rwc, .const 0, .bits 0xF⟩]

/-- The subindices of object 6803h. -/
def rows6803 : List Row := [
  ⟨0x01, 8, .u8, .rwc, .const 0, .span 0 1⟩]

/-- The subindices of object 6810h. -/
def rows6810 : List Row := [
  ⟨0x01, 16, .u8, .rwc, .const 255, .spanOr 0 3 255⟩]

/-- The subindices of object 6820h + n, n = 0–7. -/
def rows6820 : List Row := [
  ⟨0x01, 1, .u8, .rwc, .const 255, .spanOr 0 15 255⟩,
  ⟨0x02, 1, .u8, .rwc, .const 0, .span 0 4⟩,
  ⟨0x03, 8, .u32, .rwc, .const 0, .own⟩,
  ⟨0x0B, 1, .u16, .rwc, .const 16, .span 1 65535⟩,
  ⟨0x0C, 1, .u32, .rwc, .const 0, .any⟩]

/-- The subindices of object 6880h. -/
def rows6880 : List Row := [
  ⟨0x01, 1, .u32, .ro, .const 0, .any⟩,
  ⟨0x02, 1, .u32, .ro, .const 0, .any⟩,
  ⟨0x03, 1, .u32, .ro, .const 0, .any⟩]

/-- The subindices of object 6881h. -/
def rows6881 : List Row := [
  ⟨0x01, 1, .u32, .rwa, .const 0, .any⟩]

/-- The subindices of object 6882h. -/
def rows6882 : List Row := [
  ⟨0x01, 1, .u8, .rwa, .const 0, .span 1 1⟩]

/-- The subindices of object 6883h. -/
def rows6883 : List Row := [
  ⟨0x01, 1, .u32, .ro, .const 0, .any⟩]

/-- The subindices of object 6884h. -/
def rows6884 : List Row := [
  ⟨0x01, 4, .u8, .ro, .const 0, .any⟩]

/-- The subindices of object 6885h. -/
def rows6885 : List Row := [
  ⟨0x01, 8, .u8, .ro, .const 0, .any⟩]

/-- The subindices of object 6886h. -/
def rows6886 : List Row := [
  ⟨0x01, 8, .u32, .ro, .const 0, .any⟩,
  ⟨0x09, 1, .u32, .ro, .const 0, .any⟩,
  ⟨0x0A, 1, .u32, .ro, .const 0, .any⟩]

/-- The subindices of object 6887h. -/
def rows6887 : List Row := [
  ⟨0x01, 8, .u16, .ro, .const 65535, .any⟩]

/-- The subindices of object 6888h. -/
def rows6888 : List Row := [
  ⟨0x01, 1, .u8, .rwa, .const 0, .bits 0xF⟩]

/-- The subindices of object 6889h. -/
def rows6889 : List Row := [
  ⟨0x01, 1, .u32, .ro, .const 0, .any⟩]

/-- The objects of the master index (R561), part 1 of 5, in ascending index. -/
def objects1 : List Group := [
  ⟨0x1000, 1, rows1000⟩,
  ⟨0x1001, 1, rows1001⟩,
  ⟨0x1008, 1, rows1008⟩,
  ⟨0x1009, 1, rows1009⟩,
  ⟨0x100A, 1, rows100A⟩,
  ⟨0x1014, 1, rows1014⟩,
  ⟨0x1017, 1, rows1017⟩,
  ⟨0x1018, 1, rows1018⟩,
  ⟨0x1F00, 1, rows1F00⟩,
  ⟨0x2000, 1, rows2000⟩,
  ⟨0x2001, 1, rows2001⟩,
  ⟨0x2100, 1, rows2100⟩,
  ⟨0x2101, 1, rows2101⟩,
  ⟨0x2200, 1, rows2200⟩,
  ⟨0x2201, 1, rows2201⟩,
  ⟨0x2202, 1, rows2202⟩,
  ⟨0x2300, 1, rows2300⟩,
  ⟨0x3000, 1, rows3000⟩,
  ⟨0x3001, 1, rows3001⟩,
  ⟨0x3002, 1, rows3002⟩,
  ⟨0x3010, 1, rows3010⟩,
  ⟨0x3020, 1, rows3020⟩,
  ⟨0x3021, 1, rows3021⟩,
  ⟨0x3030, 1, rows3030⟩,
  ⟨0x3031, 1, rows3031⟩,
  ⟨0x3100, 64, rows3100a ++ rows3100b⟩,
  ⟨0x3200, 80, rows3200⟩,
  ⟨0x3300, 1, rows3300⟩,
  ⟨0x3400, 1, rows3400⟩,
  ⟨0x3500, 1, rows3500⟩]

/-- The objects of the master index (R561), part 2 of 5, in ascending index. -/
def objects2 : List Group := [
  ⟨0x3510, 8, rows3510⟩,
  ⟨0x4000, 1, rows4000⟩,
  ⟨0x4001, 3, rows4001⟩,
  ⟨0x4010, 3, rows4010⟩,
  ⟨0x4020, 1, rows4020⟩,
  ⟨0x4030, 1, rows4030⟩,
  ⟨0x4031, 1, rows4031⟩,
  ⟨0x4032, 1, rows4032⟩,
  ⟨0x4033, 1, rows4033⟩,
  ⟨0x4040, 1, rows4040⟩,
  ⟨0x4060, 32, rows4060⟩,
  ⟨0x4100, 16, rows4100a ++ rows4100b⟩,
  ⟨0x4200, 1, rows4200⟩,
  ⟨0x4201, 1, rows4201⟩,
  ⟨0x4210, 1, rows4210⟩,
  ⟨0x4211, 1, rows4211⟩,
  ⟨0x4300, 1, rows4300⟩,
  ⟨0x4301, 3, rows4301⟩,
  ⟨0x4304, 1, rows4304⟩,
  ⟨0x4400, 1, rows4400⟩,
  ⟨0x4410, 12, rows4410⟩,
  ⟨0x441C, 4, rows441C⟩,
  ⟨0x4421, 8, rows4421⟩,
  ⟨0x4430, 1, rows4430⟩,
  ⟨0x5000, 1, rows5000⟩,
  ⟨0x5001, 1, rows5001⟩,
  ⟨0x5010, 1, rows5010⟩,
  ⟨0x5020, 2, rows5020⟩,
  ⟨0x5022, 2, rows5022⟩,
  ⟨0x5024, 2, rows5024⟩]

/-- The objects of the master index (R561), part 3 of 5, in ascending index. -/
def objects3 : List Group := [
  ⟨0x5030, 1, rows5030⟩,
  ⟨0x5100, 1, rows5100⟩,
  ⟨0x5101, 3, rows5101⟩,
  ⟨0x5110, 1, rows5110⟩,
  ⟨0x5200, 8, rows5200a ++ rows5200b⟩,
  ⟨0x5210, 2, rows5210⟩,
  ⟨0x5218, 2, rows5218⟩,
  ⟨0x5300, 1, rows5300⟩,
  ⟨0x5310, 32, rows5310⟩,
  ⟨0x5400, 1, rows5400⟩,
  ⟨0x5401, 1, rows5401⟩,
  ⟨0x5402, 1, rows5402⟩,
  ⟨0x5403, 1, rows5403⟩,
  ⟨0x5500, 1, rows5500⟩,
  ⟨0x5501, 1, rows5501⟩,
  ⟨0x5502, 1, rows5502⟩,
  ⟨0x5503, 1, rows5503⟩,
  ⟨0x5504, 1, rows5504⟩,
  ⟨0x5505, 1, rows5505⟩,
  ⟨0x5506, 1, rows5506⟩,
  ⟨0x5507, 1, rows5507⟩,
  ⟨0x5508, 1, rows5508⟩,
  ⟨0x5600, 4, rows5600⟩,
  ⟨0x5700, 8, rows5700⟩,
  ⟨0x5780, 16, rows5780⟩,
  ⟨0x5800, 8, rows5800⟩,
  ⟨0x5808, 8, rows5808⟩,
  ⟨0x5900, 1, rows5900⟩,
  ⟨0x5910, 16, rows5910⟩,
  ⟨0x5920, 2, rows5920⟩]

/-- The objects of the master index (R561), part 4 of 5, in ascending index. -/
def objects4 : List Group := [
  ⟨0x5930, 4, rows5930⟩,
  ⟨0x6000, 1, rows6000⟩,
  ⟨0x6010, 16, rows6010⟩,
  ⟨0x6030, 1, rows6030⟩,
  ⟨0x6031, 1, rows6031⟩,
  ⟨0x6100, 1, rows6100⟩,
  ⟨0x6110, 1, rows6110⟩,
  ⟨0x6120, 1, rows6120⟩,
  ⟨0x6200, 1, rows6200⟩,
  ⟨0x6400, 1, rows6400⟩,
  ⟨0x6401, 1, rows6401⟩,
  ⟨0x6410, 1, rows6410⟩,
  ⟨0x6420, 1, rows6420⟩,
  ⟨0x6500, 1, rows6500⟩,
  ⟨0x6600, 1, rows6600⟩,
  ⟨0x6610, 4, rows6610⟩,
  ⟨0x6800, 1, rows6800⟩,
  ⟨0x6801, 1, rows6801⟩,
  ⟨0x6802, 1, rows6802⟩,
  ⟨0x6803, 1, rows6803⟩,
  ⟨0x6810, 1, rows6810⟩,
  ⟨0x6820, 8, rows6820⟩,
  ⟨0x6880, 1, rows6880⟩,
  ⟨0x6881, 1, rows6881⟩,
  ⟨0x6882, 1, rows6882⟩,
  ⟨0x6883, 1, rows6883⟩,
  ⟨0x6884, 1, rows6884⟩,
  ⟨0x6885, 1, rows6885⟩,
  ⟨0x6886, 1, rows6886⟩,
  ⟨0x6887, 1, rows6887⟩]

/-- The objects of the master index (R561), part 5 of 5, in ascending index. -/
def objects5 : List Group := [
  ⟨0x6888, 1, rows6888⟩,
  ⟨0x6889, 1, rows6889⟩]

/-- Every object of the module (R561). -/
def objects : List Group := objects1 ++ objects2 ++ objects3 ++ objects4 ++ objects5

/-- The key of a subindex: index × 256 + subindex. -/
@[reducible] def ob (index sub : Nat) : Nat := index * 256 + sub

/-- The group that holds an index. -/
def groupOf (index : Nat) : Option Group :=
  objects.find? fun g => g.base ≤ index && index < g.base + g.count

/-- Test 1 of R538: the index exists. -/
def indexExists (index : Nat) : Bool := (groupOf index).isSome

/-- The row of a subindex. -/
def rowOf (k : Nat) : Option Row :=
  match groupOf (k / 256) with
  | none => none
  | some g => g.rows.find? fun r => r.sub ≤ k % 256 && k % 256 < r.sub + r.n

/-- What a default gives for the subindex `i` of its row in object `e` of its group. -/
def Dflt.at (d : Dflt) (e i : Nat) : Int :=
  match d with
  | .const v => v
  | .each l => l.getD i 0
  | .perEntry l => l.getD e 0
  | .entry base step => base + step * e

/-- The value of a cell after defaults are loaded (R536). -/
def defaultOf (k : Nat) : Int :=
  match groupOf (k / 256) with
  | none => 0
  | some g =>
    match g.rows.find? fun r => r.sub ≤ k % 256 && k % 256 < r.sub + r.n with
    | none => 0
    | some r => r.dflt.at (k / 256 - g.base) (k % 256 - r.sub)

/-- The type code of R534. -/
def Ty.code : Ty → Nat
  | .bool => 1 | .u8 => 2 | .u16 => 3 | .u32 => 4 | .u64 => 5 | .i16 => 6 | .i32 => 7 | .q32 => 8
  | .f32 => 9 | .f64 => 10 | .stamp => 11 | .vstr => 12 | .domain => 13 | .i8 => 14
  | .i64 => Config.i64Code.toNat

/-- The size in bytes of a numeric type (R534); the raw value of a Q32 has four. -/
def Ty.size : Ty → Nat
  | .bool | .u8 | .i8 => 1
  | .u16 | .i16 => 2
  | .u32 | .i32 | .q32 | .f32 | .stamp => 4
  | .u64 | .i64 | .f64 => 8
  | .vstr | .domain => 0

/-- Two's complement types. -/
def Ty.signed : Ty → Bool
  | .i8 | .i16 | .i32 | .i64 | .q32 => true
  | _ => false

/-- VSTR and DOMAIN, whose value is an octet string. -/
def Ty.octets : Ty → Bool
  | .vstr | .domain => true
  | _ => false

/-- The access code of R537. -/
def Acc.code : Acc → Nat
  | .ro => 0 | .rw => 1 | .rwc => 2 | .rwa => 3 | .wo => 4

/-- The objects whose rows say that they read 0 after a write. -/
def readsZero (k : Nat) : Bool :=
  k = ob 0x4200 0x1A || k = ob 0x6110 1 || k = ob 0x6110 3 || k = ob 0x6400 0x0D || k = ob 0x6500 1
    || k = ob 0x6500 0x0B || k = ob 0x6882 1 || k = ob 0x6888 1
    || (0x3200 ≤ k / 256 && k / 256 < 0x3250 && k % 256 = 0x10)

/-- The objects that R526 excludes by number. -/
def storeExcluded (k : Nat) : Bool :=
  k = ob 0x2200 7 || k = ob 0x2300 2 || k = ob 0x2300 0x0A
    || (ob 0x4020 1 ≤ k && k ≤ ob 0x4020 3) || (ob 0x4030 1 ≤ k && k ≤ ob 0x4030 3)
    || (ob 0x4031 2 ≤ k && k ≤ ob 0x4031 4) || (ob 0x4032 1 ≤ k && k ≤ ob 0x4032 3)
    || k = ob 0x4200 9 || k = ob 0x5020 4 || k = ob 0x5021 4 || k = ob 0x5400 7
    || (ob 0x5505 1 ≤ k && k ≤ ob 0x5505 0x10) || k = ob 0x6100 1 || k = ob 0x6100 5

/-- A subindex stored in the parameter store (R526). -/
def stored (k : Nat) : Bool :=
  match rowOf k with
  | none => false
  | some r => (r.acc = .rw || r.acc = .rwc || r.acc = .rwa) && !readsZero k && !storeExcluded k

/-- Every key of the dictionary, in ascending index and subindex within each group (R525). -/
def allKeys : List Nat :=
  objects.flatMap fun g =>
    (List.range g.count).flatMap fun e =>
      g.rows.flatMap fun r => (List.range r.n).map fun i => ob (g.base + e) (r.sub + i)

end Sys2Proof.Machine
end

