-- ==== Sys2Proof/Machine/Operands.lean ====
section
/-! DEFINITION. Operand forms: little-endian values (R6), IEEE 754 numbers (R534), fixed-point products (R212–R214),
the CRC-32C of R412 and the HMAC-SHA-256 of R551. -/

namespace Sys2Proof.Machine

/-! ### Octet strings -/

/-- A natural number as `n` octets, little-endian (R6). -/
def le : Nat → Nat → List Byte
  | 0, _ => []
  | n + 1, v => BitVec.ofNat 8 (v % 256) :: le n (v / 256)

/-- The natural number of little-endian octets (R6). -/
def unLe : List Byte → Nat
  | [] => 0
  | b :: r => b.toNat + 256 * unLe r

/-- The octets `off` to `off + n − 1` as a little-endian number; octets past the end count 0. -/
def leAt (l : List Byte) (off n : Nat) : Nat := unLe ((l.drop off).take n)

/-- A number as big-endian octets. -/
def be (n v : Nat) : List Byte := (le n v).reverse

/-- `n` zero octets. -/
def zeros (n : Nat) : List Byte := List.replicate n 0

/-- Octets padded or cut to exactly `n`. -/
def padTo (n : Nat) (l : List Byte) : List Byte := (l ++ zeros (n - l.length)).take n

/-- The octets of an ASCII string. -/
def ascii (s : String) : List Byte := s.toList.map fun c => BitVec.ofNat 8 c.toNat

/-- Two's complement of an integer in `w` bits. -/
def toBits (w : Nat) (v : Int) : Nat := (v % (2 ^ w : Int)).toNat

/-- The integer that `w` bits hold in two's complement. -/
def ofBits (w : Nat) (n : Nat) : Int := if 2 ^ (w - 1) ≤ n then (n : Int) - 2 ^ w else n

/-- Saturation of an integer to the I32 range. -/
def sat32 (v : Int) : Int := max (-2147483648) (min 2147483647 v)

/-- A value clamped to a range. -/
def clamp (lo hi v : Int) : Int := max lo (min hi v)

/-- A counter that saturates at `top`. -/
def satAdd (top v d : Int) : Int := min top (v + d)

/-- Bit `n` of a cell that holds a bit map. -/
def bitOf (v : Int) (n : Nat) : Bool := v.toNat.testBit n

/-- A bit map with bit `n` made `b`. -/
def withBit (v : Int) (n : Nat) (b : Bool) : Int :=
  if bitOf v n = b then v else (v.toNat ^^^ 2 ^ n : Nat)

/-- The field [lo + width − 1 : lo] of a bit map (R4). -/
def fieldOf (v : Int) (lo width : Nat) : Nat := v.toNat / 2 ^ lo % 2 ^ width

/-- A bit map with a field replaced: the bits above it, the field, the bits below it. -/
def withField (v : Int) (lo width x : Nat) : Int :=
  (v.toNat / 2 ^ (lo + width) * 2 ^ (lo + width) + x % 2 ^ width * 2 ^ lo + v.toNat % 2 ^ lo : Nat)

/-- The narrow and wide details of an event packed from bit 0 upwards (R492): pairs of width and value. -/
def packDetails : List (Nat × Int) → Nat
  | [] => 0
  | (w, v) :: r => toBits w v + 2 ^ w * packDetails r

/-! ### IEEE 754 -/

/-- A binary32 or binary64 value: finite, or one of the patterns that R534 refuses. -/
inductive Fp
  | fin (q : Rat)
  | bad
deriving DecidableEq, Repr

/-- A rational `m · 2^k`. -/
def ratShift (m : Int) (k : Int) : Rat := if 0 ≤ k then ((m * 2 ^ k.toNat : Int) : Rat) else mkRat m (2 ^ (-k).toNat)

/-- The value of raw bits with `mant` fraction bits and `ex` exponent bits. -/
def ieeeDecode (mant ex : Nat) (raw : Nat) : Fp :=
  let f := raw % 2 ^ mant
  let e := raw / 2 ^ mant % 2 ^ ex
  let neg := raw / 2 ^ (mant + ex) % 2 = 1
  let bias : Int := 2 ^ (ex - 1) - 1
  if e = 2 ^ ex - 1 then .bad
  else
    let m : Int := if e = 0 then f else f + 2 ^ mant
    let k : Int := (if e = 0 then 1 else (e : Int)) - bias - mant
    .fin (ratShift (if neg then -m else m) k)

/-- Round a nonnegative rational to the nearest natural number, ties to even. -/
def roundEven (q : Rat) : Nat :=
  let f := q.floor.toNat
  let r := q - f
  if r < 1 / 2 then f else if r = 1 / 2 then (if f % 2 = 0 then f else f + 1) else f + 1

/-- The raw bits nearest to a rational, ties to even; values past the largest finite number take its pattern. -/
def ieeeEncode (mant ex : Nat) (q : Rat) : Nat :=
  if q = 0 then 0
  else
    let sign := if q < 0 then 2 ^ (mant + ex) else 0
    let a := if q < 0 then -q else q
    let bias : Int := 2 ^ (ex - 1) - 1
    let e0 : Int := (Nat.log2 a.num.toNat : Int) - Nat.log2 a.den
    let e1 : Int := if a < ratShift 1 e0 then e0 - 1 else e0
    let e : Int := max e1 (1 - bias)
    let n := roundEven (a * ratShift 1 (mant - e))
    let raw := (e + bias - 1).toNat * 2 ^ mant + n
    sign + min raw ((2 ^ ex - 1) * 2 ^ mant - 1)

/-- The value of binary32 bits. -/
def f32 (raw : Int) : Fp := ieeeDecode 23 8 (toBits 32 raw)
/-- The value of binary64 bits. -/
def f64 (raw : Int) : Fp := ieeeDecode 52 11 (toBits 64 raw)
/-- The finite value, or 0. -/
def Fp.q : Fp → Rat
  | .fin q => q
  | .bad => 0
/-- The binary32 bits of a value. -/
def toF32 (q : Rat) : Int := ieeeEncode 23 8 q
/-- The binary64 bits of a value. -/
def toF64 (q : Rat) : Int := ieeeEncode 52 11 q

/-- The absolute value of a rational. -/
def ratAbs (q : Rat) : Rat := if q < 0 then -q else q

/-! ### Values of objects -/

/-- A value as it is written to or read from an object. -/
inductive Val
  | num (v : Int)
  | bytes (b : List Byte)
deriving DecidableEq, Repr

/-- The numeric value lies in its type (R534): otherwise no octet string of the type's size spells it. -/
def Ty.fits (t : Ty) (v : Int) : Bool :=
  if t.signed then -(2 ^ (8 * t.size - 1) : Int) ≤ v && v < 2 ^ (8 * t.size - 1)
  else 0 ≤ v && v < 2 ^ (8 * t.size)

/-- The octets of a value of a type. -/
def Ty.toBytes (t : Ty) : Val → List Byte
  | .num v => le t.size (toBits (8 * t.size) v)
  | .bytes b => b

/-- The value that octets spell, none where their number is not the type's size (R535). -/
def Ty.ofBytes (t : Ty) (b : List Byte) : Option Val :=
  if t.octets then some (.bytes b)
  else if b.length = t.size then
    some (.num (if t.signed then ofBits (8 * t.size) (unLe b) else unLe b))
  else none

/-- Test of a finite real against a predicate of its value; a NaN or an infinity fails (R534). -/
def realTest (t : Ty) (v : Int) (p : Rat → Bool) : Bool :=
  match (if t = .f32 then f32 v else f64 v) with
  | .fin q => p q
  | .bad => false

/-- The range test of R535 and R534 for a value of a row. -/
def Rng.admits (r : Rng) (t : Ty) (x : Val) : Bool :=
  match x with
  | .bytes b => if t = .vstr then b.all (fun c => 0x20 ≤ c.toNat && c.toNat ≤ 0x7E) else true
  | .num v =>
    (if t = .bool then v = 0 || v = 1 else if t = .f32 || t = .f64 then realTest t v (fun _ => true) else true)
    && match r with
      | .any | .own | .len _ | .lenOpen => true
      | .span lo hi => lo ≤ v && v ≤ hi
      | .spanOr lo hi o => (lo ≤ v && v ≤ hi) || v = o
      | .among l => l.contains v
      | .bits m => 0 ≤ v && Nat.land v.toNat m = v.toNat
      | .realSpan lo hi =>
        let d (n : Nat) : Rat := (if t = .f32 then f32 n else f64 n).q
        realTest t v fun q => d lo ≤ q && q ≤ d hi
      | .realPos => realTest t v fun q => 0 < q
      | .realNonneg => realTest t v fun q => 0 ≤ q

/-- The maximum size of a VSTR or DOMAIN, where one is stated. -/
def Rng.maximum : Rng → Option Nat
  | .len n => some n
  | _ => none

/-! ### CRC-32C (R412) -/

/-- One bit step of the reflected CRC-32C. -/
def crcStep (c : BitVec 32) : BitVec 32 :=
  if c.getLsbD 0 then (c >>> 1) ^^^ 0x82F63B78#32 else c >>> 1

/-- One octet of the reflected CRC-32C. -/
def crcByte (c : BitVec 32) (b : Byte) : BitVec 32 :=
  crcStep (crcStep (crcStep (crcStep (crcStep (crcStep (crcStep (crcStep (c ^^^ b.zeroExtend 32))))))))

/-- The CRC-32C of R412: initial value FFFFFFFFh, final XOR FFFFFFFFh. -/
def crc32c (l : List Byte) : Nat := ((l.foldl crcByte 0xFFFFFFFF#32) ^^^ 0xFFFFFFFF#32).toNat

/-- One entry of an image under R412: index, subindex, value. -/
def imageEntry (k : Nat) (t : Ty) (x : Val) : List Byte :=
  le 2 (k / 256) ++ le 1 (k % 256) ++
    (if t.octets then (match x with | .bytes b => le 4 b.length ++ b | .num _ => le 4 0) else t.toBytes x)

/-! ### HMAC-SHA-256 (R551) -/

/-- The largest number below `2 ^ n` above `acc` in its lower bits whose k-th power is at most `v`. -/
def rootBits (k v : Nat) : Nat → Nat → Nat
  | 0, acc => acc
  | n + 1, acc => rootBits k v n (if (acc + 2 ^ n) ^ k ≤ v then acc + 2 ^ n else acc)

/-- The first 32 bits of the fraction of a k-th root: what the constants of SHA-256 are made of. -/
def rootFraction (k p : Nat) : Nat := rootBits k (p * 2 ^ (32 * k)) 36 0 % 2 ^ 32

/-- The primes up to 311: the first 64. -/
def hashPrimes : List Nat :=
  (List.range 312).filter fun p => 2 ≤ p && (List.range 18).all fun d => d < 2 || p ≤ d || p % d ≠ 0

/-- A word of 32 bits turned right. -/
def turnRight (x n : Nat) : Nat := x / 2 ^ n + x % 2 ^ n * 2 ^ (32 - n)

/-- Three turned copies of a word, joined by exclusive or. -/
def turns (x i j k : Nat) : Nat := turnRight x i ^^^ turnRight x j ^^^ turnRight x k

/-- A digest under way: its eight words, and the sixteen message words that come next. -/
structure Digest where
  words : List Nat
  window : List Nat
deriving DecidableEq, Repr

/-- One round with its constant: the words move down by one, and the window takes the word that follows it. -/
def Digest.round (d : Digest) (c : Nat) : Digest :=
  let v (i : Nat) : Nat := d.words.getD i 0
  let m (i : Nat) : Nat := d.window.getD i 0
  let choice := (v 4 &&& v 5) + ((2 ^ 32 - 1 - v 4) &&& v 6)
  let major := (v 0 &&& (v 1 ||| v 2)) ||| (v 1 &&& v 2)
  let mix := v 7 + turns (v 4) 6 11 25 + choice + c + m 0
  let low := turnRight (m 1) 7 ^^^ turnRight (m 1) 18 ^^^ m 1 / 2 ^ 3
  let high := turnRight (m 14) 17 ^^^ turnRight (m 14) 19 ^^^ m 14 / 2 ^ 10
  { words := (mix + turns (v 0) 2 13 22 + major) % 2 ^ 32 :: d.words.take 3 ++ (v 3 + mix) % 2 ^ 32 :: (d.words.drop 4).take 3
    window := d.window.drop 1 ++ [(m 0 + low + m 9 + high) % 2 ^ 32] }

/-- The digest after `n` more blocks of 64 octets. -/
def digestBlocks : Nat → List Nat → List Byte → List Nat
  | 0, h, _ => h
  | n + 1, h, l =>
    let w := (List.range 16).map fun i => unLe ((l.drop (4 * i)).take 4).reverse
    let r := (hashPrimes.map (rootFraction 3)).foldl Digest.round ⟨h, w⟩
    digestBlocks n (List.zipWith (fun x y => (x + y) % 2 ^ 32) h r.words) (l.drop 64)

/-- SHA-256 of an octet string. -/
def sha256 (m : List Byte) : List Byte :=
  let p := m ++ [0x80#8] ++ zeros ((119 - m.length % 64) % 64) ++ be 8 (8 * m.length)
  (digestBlocks (p.length / 64) ((hashPrimes.take 8).map (rootFraction 2)) p).flatMap (be 4)

/-- HMAC-SHA-256 with a key of at most 64 octets (R551). -/
def hmac (key m : List Byte) : List Byte :=
  let pad (x : Byte) : List Byte := (padTo 64 key).map fun b => b ^^^ x
  sha256 (pad 0x5C ++ sha256 (pad 0x36 ++ m))

end Sys2Proof.Machine
end

