-- ==== Sys2Proof/Machine/Types.lean ====
section
/-! DEFINITION. The parts of the state that stand beside the object map: sessions, queues, buffers, timers, the
recorder, the store, the network and redundancy records. Everything an object shows is in the object map. -/

namespace Sys2Proof.Machine

/-! ### Sessions and requests (ch. 17) -/

/-- The response to a request (R547): `abort` 0 is success, `length` the octets returned or accepted. -/
structure Answer where
  sess : Nat
  seq : Nat
  op : Nat
  index : Nat
  sub : Nat
  abort : Nat
  offset : Nat
  length : Nat
  total : Nat
  generation : Nat
  data : List Byte
  repeated : Bool
deriving DecidableEq, Repr

/-- The code that the guard package placed for a clear (R507): the code and the grain of its issue. -/
structure ClearCode where
  code : Nat
  grain : Nat
deriving DecidableEq, Repr

/-- An open session (R544). `nanos` is the value latched for 5001h:03 (R290). -/
structure Session where
  no : Nat
  identity : List Byte
  auth : Bool
  iface : Nat
  ip : Nat
  port : Nat
  seq : Nat
  openSeq : Nat
  openIp : Nat
  openPort : Nat
  openGrain : Nat
  lastGrain : Nat
  challenge : Option (List Byte × Nat)
  code : Option ClearCode
  nanos : Option Nat
  last : Option Answer
deriving DecidableEq, Repr

/-- Who holds a receive buffer of a DOMAIN (R548, R518): a session or a DMA channel. -/
inductive Holder
  | session (n : Nat)
  | channel (d : Nat)
deriving DecidableEq, Repr

/-- A receive buffer (R548). -/
structure RxBuf where
  holder : Holder
  key : Nat
  data : List Byte
  lastGrain : Nat
deriving DecidableEq, Repr

/-- An SDO transfer in progress on a channel (R549): its object, its direction, what has arrived. -/
structure SdoXfer where
  key : Nat
  upload : Bool
  block : Bool
  data : List Byte
deriving DecidableEq, Repr

/-- The lockout of R551: the grains of the refusals that count, and the grain at which a lockout began. -/
structure Lockout where
  refusals : List Nat
  since : Option Nat
deriving DecidableEq, Repr

/-- An alarm (R553, R556). -/
structure Alarm where
  code : Nat
  cls : Nat
  active : Bool
  acked : Bool
  param : Nat
  raised : Nat
deriving DecidableEq, Repr

/-! ### Faults (ch. 2) -/

/-- A block in fault (R64): its address with the cause, the module time and grain of its report. -/
structure FaultRec where
  addr : Nat
  ns : Nat
  grain : Nat
deriving DecidableEq, Repr

/-- A report of an item that was in flight or waited in a block that stopped (R56): the fault address, the unit or queue that
held it, and the item as its owner names it. -/
structure ItemReport where
  fault : Nat
  owner : Nat
  item : List Byte
deriving DecidableEq, Repr

/-! ### Snapshot (ch. 1) -/

/-- One entry of a snapshot set (R37). -/
structure SnapEntry where
  unit : Nat
  status : Nat
  words : List Nat
deriving DecidableEq, Repr

/-! ### Modes and start (ch. 3) -/

/-- What P1 is doing: running in a mode; in the self-test of a cold start (R90), whose origin is the code of
2100h:0B; in the limited self-test of a Spring start (R95); without supply. -/
inductive Phase
  | run
  | cold (origin : Nat)
  | spring
  | off
deriving DecidableEq, Repr

/-- Three values for surge X, sway Y and yaw N. -/
structure Dof where
  x : Int
  y : Int
  n : Int
deriving DecidableEq, Repr

/-- A hand-over blend (R79, R80): residual, cycles passed, length. -/
structure Blend where
  r : Dof
  k : Nat
  len : Nat
deriving DecidableEq, Repr

/-! ### Control law, Close Hold and servo loops (ch. 7) -/

/-- A profile generator (R231): position, velocity, acceleration and target in 2⁻³² of its units, and the factor of
R232 on its limits. -/
structure Gen where
  p : Int
  v : Int
  a : Int
  target : Int
  scale : Rat
deriving DecidableEq, Repr

/-- A servo loop (R235): its integrator, the limit at which its output lay in the last tick (−1 minimum, 1 maximum),
and that it is forced to its safe value (R236). -/
structure LoopState where
  i : Int
  side : Int
  forced : Bool
deriving DecidableEq, Repr

/-- A sample of the wave series (R237): its instant, the three displacements, and the prediction made for it. -/
structure WaveSample where
  ns : Nat
  x : Vector Rat 3
  hat : Option (Vector Rat 3)
deriving DecidableEq, Repr

/-- Close Hold (R237–R242): the series newest first, predictions that wait for their instants, a fit that waits for its
G+0, the time of the last refit issue and of the Close Hold entry, the start of the exit time, whether the fade factor
has been 32768, and the wave term's three inputs in each degree of freedom. -/
structure Wave where
  samples : List WaveSample
  preds : List (Nat × Vector Rat 3)
  result : Option (Nat × List Byte)
  lastIssue : Nat
  entry : Nat
  exitSince : Option Nat
  full : Bool
  xhat : Vector (Option Rat) 3
  vhat : Vector (Option Rat) 3
  ahat : Vector (Option Rat) 3
deriving DecidableEq, Repr

/-- Auto Track (R229): the position and the grain at which the current leg began, and the grain at which the dwell ends. -/
structure Track where
  fromN : Int
  fromE : Int
  dwellFrom : Option Nat
deriving DecidableEq, Repr

/-- An estimate (R133, R217): north, east, heading, and their rates; a value that is not finite is none. -/
structure Pose where
  n : Option Rat
  e : Option Rat
  psi : Option Rat
  vn : Option Rat
  ve : Option Rat
  r : Option Rat
deriving DecidableEq, Repr

/-- The station law's own state. `first` marks that the next law cycle is the first of its mode, `handFrom` where F_ach
of its hand-over comes from: 0 as R79 says, 1 the mirror, 2 the feedback (R478). `sumRun` is the SUM flags of the
previous cycle; `used` and `usedBlend` are what the last law cycle used (R466); `gains` the Kp, Ki and scale of each servo loop
with their shifts, as the last G+0 took them (R212); `tickAt` the grain of the last servo tick. -/
structure Control where
  gens : Vector Gen 3
  loops : Vector LoopState 32
  wave : Wave
  track : Track
  first : Bool
  handFrom : Nat
  sumRun : Vector Bool 3
  held : Vector Bool 3
  used : Vector LawUsed 3
  usedBlend : Option Blend
  gains : Vector (Vector Int 6) 32
  tickAt : Option Nat
deriving DecidableEq, Repr

/-! ### Thrust allocation (ch. 8) -/

/-- The last feedback of a thruster (R253, R280): cycles since it arrived, its status octet, its lead source, that one has
come, and the grain of its arrival. -/
structure Feedback where
  age : Nat
  status : Nat
  lead : Nat
  ok : Bool
  grain : Nat
deriving DecidableEq, Repr

/-- An azimuth in transit (R263): its current angle in µrad, the direction of rotation, the arc it turns to. -/
structure Transit where
  angle : Rat
  clockwise : Bool
  toArc : Nat
deriving DecidableEq, Repr

/-- Flags of a command frame (R274). -/
structure FrameFlags where
  lead : Bool
  safe : Bool
  test : Bool
  stale : Bool
  fallback : Bool
  power : Bool
  zero : Bool
deriving DecidableEq, Repr

/-- A command of a cycle that waits for its release (R22, R480): its thruster, and its allocated force with the flags of its
frame, or nothing where the mode in force gives the frame (R66). -/
structure Release where
  thr : Fin 16
  work : Option ((Rat × Rat) × FrameFlags)
deriving DecidableEq, Repr

/-- A thruster: feedback, the force released last (R258), the last delivered z, u and f̃ (R264), and the transit. A
force is (f_x, f_y) of an azimuth, (t, l) of a main propeller, (t, 0) otherwise. `old` is the command before the one released
last, `releasedAt` the release stamp of that one in full (R27). -/
structure Thruster where
  fb : Feedback
  fPrev : Rat × Rat
  z : Rat × Rat
  u : Rat × Rat
  ft : Rat × Rat
  transit : Option Transit
  mismatch : Nat
  old : Int × Int
  releasedAt : Nat
deriving DecidableEq, Repr

/-- Allocation: the thrusters, the warm state x, whether this cycle's ALLOC result is awaited, whether the cycle
is the first of an allocating mode, the G+0 of the cycle, the commands of the cycle not yet released in ascending thruster
index, that the cycle's release is not complete, the module time of the last release, the elapsed grain at which the test in
progress started, that the power limit applied in the previous cycle, what the matrix depends on, and section 4 of the cycle's mirror
as its ALLOC job found it (R466). -/
structure Alloc where
  thr : Vector Thruster 16
  x : List Rat
  due : Bool
  first : Bool
  latch : Nat
  queue : List Release
  opened : Bool
  released : Nat
  testStart : Nat
  powerRun : Bool
  matrix : List Int
  cycle : MirrorAlloc
deriving DecidableEq, Repr

/-- What a G+0 takes of an axis: its latched position, the scaled value, the grain that they belong to (R331), the counts moved so far,
the stamps of its last edges and the direction of its last count change (R334). -/
structure LatchedAxis where
  pos : Int
  value : Int
  grain : Nat
  travel : Int
  edges : List Nat
  falling : Bool
deriving DecidableEq, Repr

/-- What the latch of a G+0 takes of inputs that change at any time (R20), as it stood at the end of the grain before: each axis, for each thruster its feedback with thrust and
angle, and the digital inputs 5400h:05. -/
structure LatchedInputs where
  axes : Vector LatchedAxis 8
  fb : Vector (Feedback × Int × Int) 16
  di : Int
deriving DecidableEq, Repr

/-! ### Field frames (ch. 11) -/

/-- A write of an output that waits for the confirmation of its frame (R364): the die (0 F0, 1 F1), the writer, the
object, its value before the write, and that a frame has carried it to the die. -/
structure FieldAck where
  die : Nat
  sess : Nat
  key : Nat
  old : Int
  carried : Bool
deriving DecidableEq, Repr

/-! ### Reference intake and fusion (ch. 4, 5) -/

/-- A 6-DOF pose in a structure or marker frame: metres and radians (R201, R202). -/
structure Pose6 where
  x : Rat
  y : Rat
  z : Rat
  phi : Rat
  theta : Rat
  psi : Rat
deriving DecidableEq, Repr

/-- The frame of a structure model or marker table (R126, R127): its kind, its origin and the yaw of its x axis. -/
structure StructFrame where
  kind : Nat
  lat : Rat
  lon : Rat
  height : Rat
  yaw : Rat
deriving DecidableEq, Repr

/-- What a GGA or GNS says beside the position (R105): satellites, HDOP, age of corrections. -/
structure GnssNote where
  sats : Rat
  hdop : Rat
  age : Rat
deriving DecidableEq, Repr

/-- What a measurement says, in the units of R142: radians, metres, metres per second. A position has an ellipsoidal height
where its source gives one, a pose the frame it was solved against, a speed the ground velocity beside the one of its class, an
internal epoch the normalised residuals of its satellite measurements, each with its satellite. -/
inductive Meas
  | position (lat lon : Rat) (height : Option Rat) (note : Option GnssNote)
  | rangeBearing (rho beta : Rat)
  | pose (p : Pose6) (frame : StructFrame)
  | tautWire (len fore athwart : Rat)
  | heading (psi : Rat)
  | rate (r : Rat)
  | inertial (vals : List Rat)
  | wind (speed angle : Rat)
  | draught (d : Rat)
  | speed (along across : Rat) (ground : Option (Rat × Rat))
  | raw (residuals : List (Nat × Rat))
deriving DecidableEq, Repr

/-- A measurement of a slot with its arrival and measurement times in ns (R102, R119), the quality factor in hundredths
(R144), the σ that its source gives it, and the grain it is attributed to. -/
structure Fix where
  slot : Nat
  ta : Int
  tm : Int
  meas : Meas
  factor : Nat
  sigma : Option Rat
  grain : Nat
deriving DecidableEq, Repr

/-- A fix as the decision level uses it: position north and east, or heading in `n`; σ_eff, the square of the normalised
distance q of R147 (none where it is not finite), the measurement time, and that it is new in this cycle. -/
structure Judged where
  n : Rat
  e : Rat
  sigma : Rat
  q : Option Rat
  tm : Int
  fresh : Bool
deriving DecidableEq, Repr

/-- A point of a lidar segment (R110): head axes in 0.1 mm, time offset in 4 µs units, intensity, return. -/
structure LidarPoint where
  x : Int
  y : Int
  z : Int
  offset : Nat
  intensity : Nat
  ret : Nat
deriving DecidableEq, Repr

/-- A detection of a landmark packet that is used (R114, R115): marker, quality, image position and σ in pixels. -/
structure Detection where
  marker : Nat
  quality : Nat
  u : Rat
  v : Rat
  sigma : Rat
deriving DecidableEq, Repr

/-- A lidar frame under assembly (R112): `points` are those received, `data` their records in order of arrival. -/
structure LidarFrame where
  head : Nat
  seq : Nat
  total : Nat
  time : Nat
  flags : Nat
  segments : Nat
  got : List Nat
  points : Nat
  data : List LidarPoint
  first : Nat
  last : Int
deriving DecidableEq, Repr

/-- The time model of a slot (R118): the blocks that hold a measurement, newest first, the block under way, the fit o
and d with its b_last, and the runs of R120. -/
structure TimeModel where
  blocks : List (Int × Int)
  cur : Option (Int × Int)
  offset : Rat
  drift : Rat
  last : Int
  ready : Bool
  overRun : Nat
  underRun : Nat
deriving DecidableEq, Repr

/-- A bias that an ALIGN run finds (R157): a horizontal vector of a position reference, a scalar of a heading source. -/
structure Bias where
  n : Rat
  e : Rat
  psi : Rat
deriving DecidableEq, Repr

/-- The trend of a slot's bias (R157–R159): b_0, the biases of the last runs newest first with the grain of each run,
consecutive failed runs, a suspect flag due at the next G+0, and the grain since which every test has passed. -/
structure Trend where
  b0 : Bias
  biases : List (Nat × Bias)
  failed : Nat
  due : Bool
  clean : Option Nat
deriving DecidableEq, Repr

/-- A slot beside its objects: the grain of its enable and of its last measurement, time model, the date of its source
as days from 1970, the σ of a GST that waits for its fix, the time field of the last fix, the open lidar frame and the
last closed sequence, the fusion counts of R148 (fails as a position and as a heading source), its entry to accepted in this
cycle, its judged fixes, its last wind, its last inertial sample with the grain of it, its pool elements (north, east, heading as its class has them) and inertial block, its origin, its
trend. -/
structure SlotState where
  since : Nat
  lastSeen : Option Nat
  tm : TimeModel
  date : Option Nat
  gst : Option (List Nat × Rat)
  fixTime : List Nat
  frame : Option LidarFrame
  closed : Option Nat
  passes : Nat
  fails : Nat
  failsH : Nat
  entered : Bool
  pos : Option Judged
  hdg : Option Judged
  wind : Option (Rat × Rat)
  sample : Option (Nat × List Rat)
  pool : List Nat
  block : Option Nat
  origin : Option (Rat × Rat)
  lastQuality : Nat
  trend : Trend
deriving DecidableEq, Repr

/-- A dispute (R152, R155): its pair of slots and the grain of its start. -/
structure Dispute where
  a : Nat
  b : Nat
  start : Nat
deriving DecidableEq, Repr

/-- The tests between references of one kind (R151–R153): initialised, the grain of the first fix that can initialise, runs
of pair failures and of agreements, the dispute. -/
structure Vote where
  init : Bool
  first : Option Nat
  fails : Nat
  agrees : Nat
  dispute : Option Dispute
deriving DecidableEq, Repr

/-- A target as the estimator models it (R146): its pose in the north-east frame (north, east, heading) as the last relative pose gives
it, the rates of its constant-velocity model per second, and the measurement time. -/
structure Target where
  pose : Rat × Rat × Rat
  rate : Rat × Rat × Rat
  tm : Int
deriving DecidableEq, Repr

/-- The estimator and the decision level: fixes that wait for a correction in order of arrival, the state of R133 with its covariance:
the diagonal, and below it row by row the rest (nothing where all of it is 0), the frame's origin with its height, the tests of position and of heading, a pending selection, that one took
effect in this cycle for position or for heading, the grain of the last propagation, the force that drives the vessel model (R135),
the last accepted draught, the grain of the hold timer's start and that its limit has been reached, the grains since which each upgrade is
due (G1, G2, G3, G5) and since which the grade is held, the parameter of the grade alarm, runs of wind disagreement, the
true wind, the target of Follow Target, the cells that an ALIGN result writes and the mount entries accepted at the
next G+0, the window of an ALIGN run: the fixes of accepted and suspect slots and the estimate at each G+0, newest first
(R199), with the grain of the last run's issue; and what WAVE set of the oscillators: frequency in rad/s and damping, three of each
degree of freedom (R238). -/
structure Fusion where
  fixes : List Fix
  x : Vector (Option Rat) 120
  cov : Vector (Option Rat) 120
  cross : List (Option Rat)
  origin : Option (Rat × Rat × Rat)
  pos : Vote
  hdg : Vote
  selection : Option Nat
  selected : Bool
  selectedH : Bool
  propagated : Nat
  force : Dof
  draught : Option Rat
  hold : Option Nat
  limitReached : Bool
  upSince : Vector (Option Nat) 4
  gradeSince : Nat
  gradeParam : Option Nat
  windBad : Nat
  windGood : Nat
  wind : Option (Rat × Rat)
  target : Option Target
  aligned : List (Nat × Int)
  accepts : List Nat
  window : List Fix
  knots : List (Nat × List (Option Rat))
  osc : Vector (Option (Rat × Rat)) 9
  alignAt : Option Nat
deriving DecidableEq, Repr

/-! ### Recorder (ch. 15) -/

/-- The token bucket of a code (R493), in 10⁻⁹ tokens, as it stood at a grain. -/
structure Bucket where
  code : Nat
  nano : Nat
  grain : Nat
deriving DecidableEq, Repr

/-- The accumulator of a code (R494, R497). -/
structure CodeCount where
  code : Nat
  count : Nat
  suppressed : Nat
  lastParam : Nat
  first : Nat
  last : Nat
deriving DecidableEq, Repr

/-- The accumulator of a quantity (R491, R496): values as binary32 bits, times in ns. -/
structure QuantAcc where
  samples : Nat
  least : Option (Rat × Nat)
  most : Option (Rat × Nat)
  bins : List Nat
deriving DecidableEq, Repr

/-- One buffered session event (R498). -/
structure SessEvent where
  event : Nat
  session : Nat
  detail : Nat
  ns : Nat
  identity : List Byte
deriving DecidableEq, Repr

/-- A record before and after its commit (R495); `body` is what follows the header, without trailing padding. -/
structure Rec where
  kind : Nat
  part : Nat
  parts : Nat
  flags : Nat
  entries : Nat
  start : Nat
  stop : Nat
  body : List Byte
deriving DecidableEq, Repr

/-- A commit in progress (R501, R503): its record, the attempts whose write response was lost, whether a clear has given
the log another number since it started, and the cycle starts that have suspended it (R26). -/
structure Commit where
  record : Rec
  lost : Nat
  stale : Bool
  cycles : Nat
deriving DecidableEq, Repr

/-- The event recorder. The log's records stand in ascending position. `mgmt` is what the management positions hold: the log
number and the counts 6000h:06 to 09 at the last commit (R585); nothing while they are not valid. `begun` says that the first
period has started, `periodLen` is the period in force in seconds (R489). -/
structure Recorder where
  log : List Rec
  clears : List Rec
  sessions : List Rec
  counts : List Rec
  summaries : List Rec
  commit : Option Commit
  stopped : Bool
  codes : List CodeCount
  quants : Vector QuantAcc 16
  unplaced : Nat
  events : List SessEvent
  periodStart : Nat
  periodGrain : Nat
  periodLen : Nat
  begun : Bool
  partialSpan : Bool
  stepped : Bool
  mergedStart : Option Nat
  restart : List Nat
  buckets : List Bucket
  freeze : Option (Nat × Nat)
  cursorLog : Nat
  mgmt : List Nat
deriving DecidableEq, Repr

/-! ### DMA and store (ch. 16) -/

/-- A user descriptor (R512). -/
structure Desc where
  id : Nat
  srcKind : Nat
  dstKind : Nat
  commit : Bool
  srcKey : Nat
  dstKey : Nat
  srcOff : Nat
  dstOff : Nat
  len : Nat
deriving DecidableEq, Repr

/-- The descriptor that runs on a channel: bytes moved so far, the flags of R519, a pause that is draining, and the
cause that a later event has given it. -/
structure DmaRun where
  desc : Desc
  moved : Nat
  backward : Bool
  paused : Bool
  lost : Option Nat
deriving DecidableEq, Repr

/-- A completion record (R519). -/
structure Completion where
  id : Nat
  status : Nat
  moved : Nat
  stamp : Nat
deriving DecidableEq, Repr

/-- A DMA channel (R510–R521): its ring, the descriptor that runs, completions not yet read, a pause that drains or
stands (R516), and the consecutive failures with cause 5 (R517). -/
structure DmaChan where
  ring : List Desc
  run : Option DmaRun
  done : List Completion
  pausing : Bool
  paused : Bool
  lostRun : Nat
deriving DecidableEq, Repr

/-- A bank of the parameter store (R524): none when it is not valid. -/
structure Bank where
  sequence : Nat
  saveTime : Nat
  setCheck : Nat
  body : List (Nat × Val)
deriving DecidableEq, Repr

/-- A save in progress (R528): its step, its target bank, the image. -/
structure Save where
  step : Nat
  target : Nat
  image : Bank
  grain : Nat
deriving DecidableEq, Repr

/-! ### CAN, network and serial (ch. 13) -/

/-- What a transmit frame is (R439, R440). -/
inductive TxKind
  | reference
  | command (thruster : Nat) (lead : Bool)
  | canopen
  | sdo
deriving DecidableEq, Repr

/-- A frame in a CAN transmit queue. `attempts` counts failed attempts; `onlyAck` is that every one of them was an
acknowledgement error, `lastArb` that the last lost arbitration (R441); `queuedAt` is the grain in which it was queued (R440). -/
structure TxFrame where
  kind : TxKind
  ident : Nat
  data : List Byte
  attempts : Nat
  onlyAck : Bool
  lastArb : Bool
  queuedAt : Nat
deriving DecidableEq, Repr

/-- A fast-packet message under assembly (R446): its source and PGN, the identifier of its first frame and the grain of it. -/
structure FastPacket where
  source : Nat
  pgn : Nat
  ident : Nat
  counter : Nat
  total : Nat
  next : Nat
  data : List Byte
  since : Nat
deriving DecidableEq, Repr

/-- A CAN channel: its four transmit queues, its two receive queues, its error state (0 active, 1 passive,
2 bus-off) and counters (R442), the run of R443, the writes of its objects that take effect in the next grain, and that it has
left the bus for this grain (R438). -/
structure CanChan where
  q0 : List TxFrame
  q1 : List TxFrame
  q2 : List TxFrame
  q3 : List TxFrame
  rx0 : List CanFrame
  rx1 : List CanFrame
  tec : Nat
  rxErr : Nat
  errState : Nat
  alone : Bool
  aloneRun : Nat
  fast : List FastPacket
  writes : List (Nat × Int)
  away : Bool
deriving DecidableEq, Repr

/-- A node of the PRP node table (R423, R424): sequence numbers of the last accepted frames with their grains. -/
structure Node where
  source : Nat
  seqs : List (Nat × Nat)
  lastGrain : Nat
deriving DecidableEq, Repr

/-- What the module advertises as PTP master (R307): clockClass, clockAccuracy, timeSource, currentUtcOffset and that it is valid;
ptpTimescale is always TRUE. -/
structure PtpQuality where
  clockClass : Nat
  accuracy : Nat
  source : Nat
  utcOffset : Int
  utcValid : Bool
deriving DecidableEq, Repr

/-- What stands in a transmit queue of a network port (R427, R430, R431). -/
inductive NetItem
  | setMessage (m : SetMessage) (relinquish : Bool)
  | republication (slot : Nat) (item : RepubItem) (arrival : Nat)
  | supervision
  | igmpReport (group : Nat)
  | igmpLeave (group : Nat)
  | arpReply
  | echoReply
  | ptpAnnounce (quality : PtpQuality)
  | ptpSync
  | response (a : Answer)
deriving DecidableEq, Repr

/-- A serial channel: the grain of its last character, whether the frame under way is marked for discard, a break. -/
structure SerialChan where
  lastChar : Option Nat
  spoilt : Bool
  inBreak : Bool
deriving DecidableEq, Repr

/-- The network side of die N: transmit queues by class, side-port queues, the node table, the PRP sequence, frames in
the receive queues not yet taken (three for each sensor port: lidar segments, other slots, ARP, ICMP and IGMP; one for each
service port), the multicast groups joined on the DP pair, for each DP port the grain of its last link-up and of the last frame
it received (R425), the grain of the last supervision frame, and the count of frames of Q8 (R427). -/
structure Network where
  tx : Vector (List NetItem) 8
  sensorTx : Vector (List NetItem) 4
  serviceTx : Vector (List NetItem) 2
  rx : Vector Nat 8
  sensorRx : Vector Nat 12
  serviceRx : Vector Nat 2
  nodes : List Node
  prpSeq : Nat
  joined : List Nat
  linkAt : Vector Nat 2
  heardAt : Vector (Option Nat) 2
  supervisedAt : Option Nat
  strays : Nat
deriving DecidableEq, Repr

/-! ### Redundant sets (ch. 14) -/

/-- A partner module as its last messages showed it (R461–R465). `age` counts cycles since it was heard; the runs are
those of R461. -/
structure Partner where
  id : Nat
  age : Nat
  msg : SetMessage
  checkRun : Nat
  seqRun : Nat
  mirrorRun : Nat
deriving DecidableEq, Repr

/-- A relinquish from a partner that this module has processed (R478, R479): the sender, the nominee, the G+0s since. -/
structure Relinquish where
  sender : Nat
  nominee : Nat
  age : Nat
  mirror : Option Mirror
deriving DecidableEq, Repr

/-- A staged DOMAIN write (R468): its object, the content so far, its length, and the octets sent or received. -/
structure Staged where
  key : Nat
  data : List Byte
  total : Nat
  sent : Nat
deriving DecidableEq, Repr

/-- The redundancy state of a module: partners, a module-level fault since the last reset, the start of rejoin hold, that
its own message of this cycle had the role Lead, the last mirror of the Lead with the cycles it has been held, a processed
relinquish and a takeover that waits for its G+0 (the former Lead and the mirror), the cycles in which another module's LEAD
frames still count by module ID, the IDs of other Leads seen in this cycle and in the one before, the run of class 6,
cycles left of a law and of an allocation replay failure, runs of the estimate check, the writes that travel with the next
message and with this one, staged writes, the mirror last sent, the estimate at G+0, the mirror that waits for its replay,
and that this cycle's message has been sent. -/
structure Redundancy where
  partners : List Partner
  moduleFault : Bool
  rejoinSince : Option Nat
  leadHeld : Bool
  mirror : Option Mirror
  relinquish : Option Relinquish
  takeover : Option (Nat × Option Mirror)
  canLead : Vector Nat 4
  leadNow : List Nat
  leadBefore : List Nat
  marginRun : Nat
  overrun : Bool
  lawFailAge : Nat
  allocFailAge : Nat
  estBad : Nat
  estGood : Nat
  forward : List ForwardedWrite
  sending : List ForwardedWrite
  staged : List Staged
  mirrorSent : Option Mirror
  ownPose : Option Pose
  replay : Option Mirror
  sent : Bool
deriving DecidableEq, Repr

/-! ### Axes, probes and the filter chain (ch. 10) -/

/-- A user compare entry (R337–R339): its number, position, direction (0 either, 1 rising, 2 falling) and flags. `armed`
is 0 disarmed, −1 armed from below, 1 armed from above; `since` the grain in which it took effect, in which it never fires. -/
structure CmpEntry where
  no : Nat
  x : Int
  dir : Nat
  enabled : Bool
  once : Bool
  event : Bool
  pulse : Bool
  behind : Bool
  armed : Int
  since : Nat
deriving DecidableEq, Repr

/-- A sector entry (R341): its boundary, its hysteresis, and that the position stands above it. -/
structure SectorEntry where
  x : Int
  h : Int
  above : Bool
deriving DecidableEq, Repr

/-- An encoder axis: compare entries in ascending number, sector entries, pulses that wait on its UP and DOWN lines,
sector loads so far, anchor and last index count, stamps of the last edges in one direction (newest first), grains of
signal errors, failed reads in a row, the last reads (grain, raw word, position, newest first), counts moved
so far, at the last servo tick and at the last window end with its grain, the grain at which a compare pulse ends, queued compare events,
and that one was lost since. Of a sine/cosine axis (R330) in counts moved: the last coarse quadrants with their times and the last
interpolated values with their represented times, newest first, the time of the last position value, and outputs in a row that met the
condition of AMPLITUDE. Compare entries written in this grain, which take effect in the next (R339), and that they replace the rest. -/
structure AxisState where
  entries : List CmpEntry
  sectors : List SectorEntry
  up : Nat
  down : Nat
  loads : Nat
  anchor : Option Int
  index : Int
  edges : List Nat
  errors : List Nat
  failedReads : Nat
  reads : List (Nat × Int × Int)
  reading : Option Nat
  travel : Int
  tickTravel : Int
  windowTravel : Int
  windowAt : Option Nat
  pulseEnd : Option Nat
  events : List (List Byte)
  lost : Bool
  coarse : List (Nat × Int)
  outs : List (Int × Int)
  valueAt : Int
  badOuts : Nat
  staged : List CmpEntry
  restage : Bool
deriving DecidableEq, Repr

/-- An emulated output (R347): the count at its lines and the time of its last edge. -/
structure Emulation where
  count : Int
  last : Nat
deriving DecidableEq, Repr

/-- A latch of a probe input (R343): its time, edge and axis mask, its grain, and of every axis the position, the coarse quadrant, and what
the position stands above the counts moved. -/
structure ProbeLatch where
  ns : Nat
  falling : Bool
  mask : Nat
  grain : Nat
  pos : Vector Int 8
  quadrant : Vector Int 8
  base : Vector Int 8
deriving DecidableEq, Repr

/-- A probe input (R343): latches whose positions are not yet complete, and queued records. -/
structure Probe where
  latched : List ProbeLatch
  records : List (List Byte)
deriving DecidableEq, Repr

/-- A filter channel (R351–R353): its last output, the grain since which its modulator has been in overload, the
last two settled outputs with their grains, newest first, the grain of the last output, and the grain at which the shunt of its input last
opened (R375). -/
structure FilterChan where
  last : Option Int
  overSince : Option Nat
  settled : List (Nat × Int)
  outAt : Option Nat
  shuntAt : Nat
deriving DecidableEq, Repr

/-! ### GNSS and time (ch. 9) -/

/-- A GNSS channel (R310–R314): the assigned constellation, satellite and signal code, its locks, a carrier lost since the
last epoch, the resolved navigation data phase, the grain of carrier lock. -/
structure GnssChan where
  asg : Option (Constellation × Nat × Nat)
  code : Bool
  carrier : Bool
  fll : Bool
  slip : Bool
  half : Bool
  since : Nat
deriving DecidableEq, Repr

/-- Time and GNSS beside their objects: consecutive qualifying seconds and Syncs, qualified sources, the error and its σ
in ns that each source gave last, the source in use (0 none, 1 GNSS, 2 PTP), y_f in 10⁻¹², holdover start and u0, that the
step of the epoch waits for its G+0, the offset of the navigation messages, what each port's master announced, EVT queues
with the time of each input's last edge, pulse sequences and their FIRST flags, channels of the three antennas, baseline
runs, the grain of a GNSS start, the grain of a wake, the time saved in MRAM, that ephemeris and almanac are kept, and
that the grain counter has not been continuous since the last G+0 (R584). Then grains: of the whole second last worked (R297), of
the last qualifying solution and of the last Sync of the slave port (R292), of the last save (R291), of the last Sync and Announce
sent (R306); of each pulse output the grain of its last instant, the grain at which its pulse ends, and the grain of a grid write
with the period and phase before it (R300); of each antenna's last assignment (R311), of the last epoch (R313), and of the last wake or
the entry to Dormant (R319). -/
structure TimeState where
  gnssRun : Nat
  ptpRun : Nat
  gnssOk : Bool
  ptpOk : Bool
  gnss : Int × Nat
  ptp : Int × Nat
  source : Nat
  yf : Int
  holdFrom : Nat
  u0 : Nat
  stepDue : Bool
  navUtc : Option Int
  masters : Vector (Option Announce) 2
  evt : Vector (List (List Byte)) 2
  evtLast : Vector (Option Nat) 2
  ppsSeq : Vector Nat 2
  ppsFirst : Vector Bool 2
  chans : Vector GnssChan 192
  baseRun : Vector Nat 3
  startFrom : Option Nat
  wakeFrom : Option Nat
  saved : Option Nat
  almanac : Bool
  broken : Bool
  secondAt : Option Nat
  gnssLast : Nat
  ptpLast : Nat
  savedAt : Nat
  syncAt : Option Nat
  announceAt : Option Nat
  ppsAt : Vector (Option Nat) 2
  ppsEnd : Vector Nat 2
  ppsOld : Vector (Option (Nat × Int × Int)) 2
  assignAt : Vector (Option Nat) 3
  epochAt : Option Nat
  wakeLast : Nat
deriving DecidableEq, Repr

/-! ### Solver engines (ch. 6) -/

/-- The input block of a job as its issuer wrote it (R178): of a FIT the points in vessel axes and the structure model, of a POSE
the detections, the marker table and the camera head with its mount, of a WAVE the samples of its window newest first, of an ALLOC
replay the mirror's section 4, of a TEST the right-hand side; the rest take theirs from the estimate. -/
inductive JobInput
  | estimate
  | points (l : List (Rat × Rat × Rat)) (model : List Byte)
  | detections (l : List Detection) (table : List Byte) (camera : List Rat) (mount : List Rat)
  | mirror (m : Mirror)
  | samples (l : List (Vector Rat 3))
  | rhs (b : List Byte)
deriving DecidableEq, Repr

/-- A job in a queue or on an engine (R178): its descriptor, the grain and time of its issue, its input and its delta list as they
were at its issue (R211), and what its issuer needs of its result. -/
structure Job where
  desc : JobDesc
  grain : Nat
  stamp : Nat
  input : JobInput
  delta : List Byte
  fix : Option Fix
deriving DecidableEq, Repr

/-- The job an engine runs (R187–R192): the time of its start, that its warm start was refused, that it starts cold, its iterate 0 in
original numbering, and the pivot rule's ε and λ at its start. -/
structure JobRun where
  job : Job
  start : Nat
  warmReject : Bool
  cold : Bool
  iterate : List Rat
  pivots : Int × Int
deriving DecidableEq, Repr

/-- A solver engine: the running job and its two queues (R176). -/
structure SolverEngine where
  run : Option JobRun
  fg : List Job
  bg : List Job
deriving DecidableEq, Repr

/-- A resident structure (R180–R192): the ε_piv and λ of its factor where that is valid; the solution last delivered on it with its covariance and
residual as F64 octets, and the stamp of the job that produced it; a structure that waits to replace it; the
configuration for which the module built it. -/
structure Resident where
  factor : Option (Int × Int)
  solution : Option (List Byte)
  cov : List Byte
  residual : Int
  stamp : Nat
  pivot : Nat
  swap : Option (List Byte)
  key : List Nat
deriving DecidableEq, Repr

/-- The solver cluster: engines, structures, the last result record of each job type. -/
structure Solver where
  engines : Vector SolverEngine 4
  res : Vector Resident 16
  results : Vector (List Byte) 8
  nextId : Nat
deriving DecidableEq, Repr

/-! ### The field package (ch. 11) -/

/-- A digital output as P3 sees it (R372): its faults, readbacks in a row towards OPEN_LOAD and EXTERNAL_DRIVE and away
from them. -/
structure DoState where
  short : Bool
  thermal : Bool
  openLoad : Bool
  external : Bool
  groupOff : Bool
  openRun : Nat
  closeRun : Nat
  highRun : Nat
  lowRun : Nat
deriving DecidableEq, Repr

/-- An analog output as P3 sees it (R378): the last commanded code, limits, deviation and its runs. -/
structure AoState where
  limiting : Bool
  deviation : Bool
  badRun : Nat
  goodRun : Nat
deriving DecidableEq, Repr

/-! ### The guard package (ch. 12) -/

/-- A safety input as a channel sees it (R390, R391): the readings of its lines, DISCREPANCY, and that both lines have
demanded in one sample since it was set. Then times on the channel's clock: since when one line demands alone, since when the input
reads healthy, and the length of a press that has been released and not acted on (R394). -/
structure SafetyInput where
  a : Bool
  b : Bool
  discrep : Bool
  both : Bool
  alone : Option Nat
  pressAt : Option Nat
  press : Option Nat
deriving DecidableEq, Repr

/-- What a safety channel does: stopped by a fault, a halt or its clock; in its start checks; kept open by a failed
check; running (R410, R581, R582). -/
inductive ChanState | stopped | checking | failed | running
deriving DecidableEq, Repr

/-- A safety channel (R385): its inputs, its region and last position on each sector axis, AWAIT_RESTART and the switch
of each group, its finding on the other channel with the consecutive good intervals, the check value it last placed and
whether it was computed over the block in force, and the time of the other channel's last heartbeat edge (R402). -/
structure GuardChan where
  st : ChanState
  inputs : Vector SafetyInput 8
  region : Vector (Option Nat) 8
  position : Vector (Option Int) 8
  await : Vector Bool 4
  closed : Vector Bool 4
  silent : Bool
  good : Nat
  check : Nat
  fresh : Bool
  edgeAt : Nat
deriving DecidableEq, Repr

/-- What a write sends over a barrier link: to P2 (R405) a written subindex of the block, a confirmation with its session, a
relayed restart, the restart of a block with the result of its self-test (R58, R582), a new authorisation key (R552); to P3 the clear of latched faults
(R372), the restart of a block and its stop where the self-test of a restart fails. -/
inductive LinkMsg
  | block (k : Nat) (v : Int)
  | confirm (sess : Nat)
  | restart (mask : Nat)
  | channels (block : Nat)
  | clearLatched
  | resume (block : Nat)
  | halt (block : Nat)
  | key (b : List Byte)
deriving DecidableEq, Repr

end Sys2Proof.Machine
end

