-- ==== Sys2Proof/Machine/State.lean ====
section
/-! DEFINITION. The state of the module: the queue of waiting commands and the three packages of R46. -/

namespace Sys2Proof.Machine

/-- The object map: key and value of every numeric cell that differs from its default, keys rising. -/
abbrev Od := List (Nat × Int)

/-- The content of a VSTR or DOMAIN and its generation count (R543). -/
structure DomVal where
  bytes : List Byte
  gen : Nat
deriving DecidableEq, Repr

/-- Contents of octet-string objects, keys rising; an unlisted one is empty with generation 0. -/
abbrev Doms := List (Nat × DomVal)

/-- The core package P1. `linkOut` holds what the barrier links carry
from the write in progress (R405), `entrySess`
the session that wrote 6881h:01 (R414), `fldLink` the core's finding on its links to F0 and F1 (R60), `supply` the
supply inputs that are present, `owed` the answers that wait for the end of a start (R545), `linkTries`
the failed checks of the frame under way on each die's link with the grain of the last (R60), `unreported` the faults
that one at system level keeps from being reported (R57), whose blocks stop (R55). `ns` is module time at the
grain in progress, `elapsed` the grains that have passed, `startGrain` its value at the last core reset, `free` the
counter of free values (the model's own field). `ao` holds the commanded code of every analog output, `acks` the output writes that wait for their frame (R364), `next` the octet strings that replace theirs at the
next G+0 (R128). `snapDue` holds the SNAP sources that fired in this grain and wait for precedence 8 (R31), `crossings` the threshold events that do (R355: channel, lower threshold, set), `pllLost` that the
PLL lost lock since the last start (R584), `asleep` the accepted writes to objects of units that Dormant powers down (R47),
`served` the unit that each cluster served last (R44), `reports` the items that stopped blocks failed (R56), `mailboxes` the
items in Q88–Q95 (R49), `before` the encoder positions and the thruster feedback as they stood at the end of the grain before
(R20). -/
structure P1 where
  phase : Phase
  ns : Nat
  elapsed : Nat
  free : Nat
  od : Od
  dom : Doms
  sessions : List Session
  reply : Option Answer
  bufs : List RxBuf
  sdo : Vector (Option SdoXfer) 4
  lockout : Lockout
  alarms : List Alarm
  unlisted : List Alarm
  faults : List FaultRec
  unreported : List FaultRec
  lastCauses : List (Nat × Nat)
  cyclePending : Option (Nat × Nat)
  overrunRun : Nat
  snapGrain : Option Nat
  lawMode : Nat
  blend : Option Blend
  springStep : Nat
  stuck : Vector Bool 2
  startGrain : Nat
  recorder : Recorder
  dma : Vector DmaChan 16
  bankA : Option Bank
  bankB : Option Bank
  save : Option Save
  saveHeld : Bool
  can : Vector CanChan 4
  net : Network
  heartbeatAt : Option Nat
  serial : Vector SerialChan 8
  red : Redundancy
  ctl : Control
  alc : Alloc
  acks : List FieldAck
  ao : Vector Int 16
  next : List (Nat × List Byte)
  slots : Vector SlotState 64
  fus : Fusion
  axes : Vector AxisState 8
  emu : Vector Emulation 2
  probes : Vector Probe 2
  filt : Vector FilterChan 32
  time : TimeState
  solver : Solver
  linkOut : List LinkMsg
  entrySess : Nat
  fldLink : Vector Bool 2
  supply : Vector Bool 2
  owed : List Answer
  linkTries : Vector (Nat × Nat) 7
  snapDue : List Nat
  crossings : List (Nat × Bool × Bool)
  pllLost : Bool
  asleep : List (Nat × Val)
  served : List (Nat × Nat)
  reports : List ItemReport
  mailboxes : Vector Nat 8
  before : LatchedInputs
deriving DecidableEq, Repr

/-- The guard package P2. `block` is the safety block in force as a map of its keys; `confirmed`, `startDone` the bits of
R417; `confirmedValue` P2's own non-volatile memory (R410); `clock` the microseconds since its start; `swFault` a fault
of each switch HS0, LS0 … LS3 in the order of R406; `pulse` the switch under its off-pulse; `rotation` the next item;
`seenLoads` the sector loads whose first position frame has come (R397); `reports` events that wait for the guard
link, `key` the authorisation key (R551), `halted` the dies G and W in their halt state (R59, R582), `slotAt` the start of the last test slot,
`passed` that the item of the slot under way has passed (R406), `frameAt` the time of each axis's last position frame (R401), `differ` since
when the regions of an axis differ (R400). -/
structure P2 where
  powered : Bool
  block : Od
  haveBlock : Bool
  startDone : Bool
  confirmed : Bool
  confirmedValue : Option Nat
  saf : GuardChan
  win : GuardChan
  swFault : Vector Bool 8
  disagree : Vector Bool 8
  hold : Vector Bool 8
  seenLoads : Vector Nat 8
  rotation : Fin 8
  slot : Option (Fin 8)
  pulse : Option (Fin 8)
  lastPass : Vector Nat 8
  overdue : Vector Bool 8
  skipped : Nat
  failed : Nat
  link : Bool
  reports : List SafetyEvent
  lostReports : Nat
  clock : Nat
  key : List Byte
  halted : Vector Bool 2
  slotAt : Nat
  passed : Bool
  frameAt : Vector Nat 8
  differ : Vector (Option Nat) 8
deriving DecidableEq, Repr

/-- The field package P3. `doCmd`, `aoCmd`, safe states and `timeout` are what the last frames carried (R363); `silent`
the two dies' silence, `report` that a silence has not been reported yet; `low` and `missing` the flags of R366 with
their runs, `measured` the measurements since the start, `cleared` that each flag's first clear has passed; `di` the
filtered inputs, `sinceClear` the measurements since FLD_MISSING cleared (R367); `link` the link to each die; `down` the
blocks that a fault stops; `clock` µs of its oscillators since the start, `frameAt` the time of each die's last valid frame, `drive`
the outputs that the switches drive with `offAt` the time of each one's last switch-off, `aoSeen` the codes that the outputs drive
with `aoAt` the time of each one's last change, `shortAt` the time of each output's last SHORT (R365, R372, R378). -/
structure P3 where
  powered : Bool
  doCmd : Nat
  aoCmd : Vector Int 16
  doSafe : Nat
  aoSafe : Vector Int 16
  timeout : Nat
  silent : Vector Bool 2
  report : Vector Bool 2
  link : Vector Bool 2
  fld : Nat
  low : Bool
  lowRun : Nat
  missing : Bool
  missingRun : Nat
  measured : Nat
  lowCleared : Bool
  missingCleared : Bool
  di : Nat
  diValid : Bool
  sinceClear : Nat
  readback : Nat
  dos : Vector DoState 16
  aos : Vector AoState 16
  down : List Nat
  clock : Nat
  frameAt : Vector Nat 2
  drive : Nat
  offAt : Vector Nat 16
  aoSeen : Vector Int 16
  aoAt : Vector Nat 16
  shortAt : Vector Nat 16
deriving DecidableEq, Repr

/-- The state of the module. `pending` is the queue of commands that wait, first in, first out. -/
structure State where
  pending : List Instr
  p1 : P1
  p2 : P2
  p3 : P3
deriving DecidableEq, Repr

/-- What a meaning ends in where the machine stops. No command of this block stops it: the type has one constructor, which
no meaning raises, so that the interface has a fault type. Safe. -/
inductive Fault
  | stopped
deriving DecidableEq, Repr

/-- What the model refuses. `notModelled` is raised by exec for a command that has no meaning yet. Safe. -/
inductive Refusal
  | notModelled (mnemonic : String)
deriving DecidableEq, Repr

/-! ### The state after reset (assumption 1) -/

/-- A wave state with no samples. -/
def Wave.reset : Wave :=
  ⟨[], [], none, 0, 0, none, false, Vector.replicate 3 none, Vector.replicate 3 none, Vector.replicate 3 none⟩

/-- The control law at rest. -/
def Control.reset : Control :=
  ⟨Vector.replicate 3 ⟨0, 0, 0, 0, 1⟩, Vector.replicate 32 ⟨0, 0, false⟩, Wave.reset, ⟨0, 0, none⟩, true, 0,
    Vector.replicate 3 false, Vector.replicate 3 false,
    Vector.replicate 3 ⟨0, 0, 0, 0, 0, 0, 0, 0, 0, 0, 0, false, false⟩, none,
    Vector.replicate 32 #v[0, 0, 0, 0, 1, 0], none⟩

/-- No feedback. -/
def Feedback.reset : Feedback := ⟨255, 0, 0, false, 0⟩

/-- Inputs before anything has come. -/
def LatchedInputs.reset : LatchedInputs :=
  ⟨Vector.replicate 8 ⟨0, 0, 0, 0, [], false⟩, Vector.replicate 16 (Feedback.reset, 0, 0), 0⟩

/-- A thruster without feedback. -/
def Thruster.reset : Thruster := ⟨Feedback.reset, (0, 0), (0, 0), (0, 0), (0, 0), none, 0, (0, 0), 0⟩

/-- Allocation at rest. -/
def Alloc.reset : Alloc := ⟨Vector.replicate 16 Thruster.reset, [], false, true, 0, [], false, 0, 0, false, [],
  ⟨[], [], 0, [], [], 0, [], 0, 0, 0, []⟩⟩

/-- A slot that has received nothing. -/
def SlotState.reset : SlotState :=
  ⟨0, none, ⟨[], none, 0, 0, 0, false, 0, 0⟩, none, none, [], none, none, 0, 0, 0, false, none, none, none, none, [], none, none, 0,
    ⟨⟨0, 0, 0⟩, [], 0, false, none⟩⟩

/-- The estimator before its first fix: every element 0 but the thrust efficiencies (R133), of which nothing is known yet: no
variance is finite (assumption 1). -/
def Fusion.reset : Fusion where
  fixes := []
  x := Vector.ofFn fun (k : Fin 120) => some (if k.val < 117 then 0 else 1)
  cov := Vector.replicate 120 none
  cross := []
  origin := none
  pos := ⟨false, none, 0, 0, none⟩
  hdg := ⟨false, none, 0, 0, none⟩
  selection := none
  selected := false
  selectedH := false
  propagated := 0
  force := ⟨0, 0, 0⟩
  draught := none
  hold := none
  limitReached := false
  upSince := Vector.replicate 4 none
  gradeSince := 0
  gradeParam := none
  windBad := 0
  windGood := 0
  wind := none
  target := none
  aligned := []
  accepts := []
  window := []
  knots := []
  osc := Vector.replicate 9 none
  alignAt := none

/-- An axis at rest. -/
def AxisState.reset : AxisState :=
  ⟨[], [], 0, 0, 0, none, 0, [], [], 0, [], none, 0, 0, 0, none, none, [], false, [], [], 0, 0, [], false⟩

/-- Time and GNSS at the start of a time epoch. -/
def TimeState.reset : TimeState where
  gnssRun := 0
  ptpRun := 0
  gnssOk := false
  ptpOk := false
  gnss := (0, 0)
  ptp := (0, 0)
  source := 0
  yf := 0
  holdFrom := 0
  u0 := 0
  stepDue := false
  navUtc := none
  masters := Vector.replicate 2 none
  evt := Vector.replicate 2 []
  evtLast := Vector.replicate 2 none
  ppsSeq := Vector.replicate 2 0
  ppsFirst := Vector.replicate 2 true
  chans := Vector.replicate 192 ⟨none, false, false, false, false, false, 0⟩
  baseRun := Vector.replicate 3 0
  startFrom := none
  wakeFrom := none
  saved := none
  almanac := false
  broken := false
  secondAt := none
  gnssLast := 0
  ptpLast := 0
  savedAt := 0
  syncAt := none
  announceAt := none
  ppsAt := Vector.replicate 2 none
  ppsEnd := Vector.replicate 2 0
  ppsOld := Vector.replicate 2 none
  assignAt := Vector.replicate 3 none
  epochAt := none
  wakeLast := 0

/-- A structure not resident. -/
def Resident.reset : Resident := ⟨none, none, [], 0, 0, 0xFFFF, none, []⟩

/-- Idle engines. -/
def Solver.reset : Solver :=
  ⟨Vector.replicate 4 ⟨none, [], []⟩, Vector.replicate 16 Resident.reset, Vector.replicate 8 [], 1⟩

/-- The recorder of a module at its first start (R504, R585): an empty log whose clear record waits, session event 10, and
RESTART due on the first record of each other kind. -/
def Recorder.reset : Recorder where
  log := []
  clears := [⟨1, 1, 1, 8, 1, 0, 0, List.replicate 48 0⟩]
  sessions := []
  counts := []
  summaries := []
  commit := none
  stopped := false
  codes := []
  quants := Vector.replicate 16 ⟨0, none, none, List.replicate 64 0⟩
  unplaced := 0
  events := [⟨10, 0, 0, 0, []⟩]
  periodStart := 0
  periodGrain := 0
  periodLen := 3600
  begun := true
  partialSpan := false
  stepped := false
  mergedStart := none
  restart := [2, 3, 4]
  buckets := []
  freeze := none
  cursorLog := 0
  mgmt := []

/-- A network with empty queues. -/
def Network.reset : Network :=
  ⟨Vector.replicate 8 [], Vector.replicate 4 [], Vector.replicate 2 [], Vector.replicate 8 0, Vector.replicate 12 0, Vector.replicate 2 0, [], 0, [],
    Vector.replicate 2 0, Vector.replicate 2 none, none, 0⟩

/-- A module that has heard no partner. -/
def Redundancy.reset : Redundancy where
  partners := []
  moduleFault := false
  rejoinSince := none
  leadHeld := false
  mirror := none
  relinquish := none
  takeover := none
  canLead := Vector.replicate 4 0
  leadNow := []
  leadBefore := []
  marginRun := 0
  overrun := false
  lawFailAge := 0
  allocFailAge := 0
  estBad := 0
  estGood := 0
  forward := []
  sending := []
  staged := []
  mirrorSent := none
  ownPose := none
  replay := none
  sent := false

/-- P1 in its start mode Standby, started from a valid store bank that holds every default: the Lead of a set of one. -/
def P1.reset : P1 where
  phase := .run
  ns := 0
  elapsed := 0
  free := 0
  od := [(ob 0x2100 4, 0x20000), (ob 0x2100 0x10, 2), (ob 0x4400 1, 15), (ob 0x4400 2, 0x30322311), (ob 0x4400 3, 0x1800000),
    (ob 0x6000 1, 0x100), (ob 0x6000 4, 1)]
  dom := []
  sessions := []
  reply := none
  bufs := []
  sdo := Vector.replicate 4 none
  lockout := ⟨[], none⟩
  alarms := []
  unlisted := []
  faults := []
  unreported := []
  lastCauses := []
  cyclePending := none
  overrunRun := 0
  snapGrain := none
  lawMode := 2
  blend := none
  springStep := 0
  stuck := Vector.replicate 2 false
  startGrain := 0
  recorder := Recorder.reset
  dma := Vector.replicate 16 ⟨[], none, [], false, false, 0⟩
  bankA := some ⟨0, 0, 0, []⟩
  bankB := none
  save := none
  saveHeld := false
  can := Vector.replicate 4 ⟨[], [], [], [], [], [], 0, 0, 0, false, 0, [], [], false⟩
  net := Network.reset
  heartbeatAt := none
  serial := Vector.replicate 8 ⟨none, false, false⟩
  red := Redundancy.reset
  ctl := Control.reset
  alc := Alloc.reset
  acks := []
  ao := Vector.replicate 16 0
  next := []
  slots := Vector.replicate 64 SlotState.reset
  fus := Fusion.reset
  axes := Vector.replicate 8 AxisState.reset
  emu := Vector.replicate 2 ⟨0, 0⟩
  probes := Vector.replicate 2 ⟨[], []⟩
  filt := Vector.replicate 32 ⟨none, none, [], none, 0⟩
  time := TimeState.reset
  solver := Solver.reset
  linkOut := []
  entrySess := 0
  fldLink := Vector.replicate 2 true
  supply := Vector.replicate 2 true
  owed := []
  linkTries := Vector.replicate 7 (0, 0)
  snapDue := []
  crossings := []
  pllLost := false
  asleep := []
  served := []
  reports := []
  mailboxes := Vector.replicate 8 0
  before := LatchedInputs.reset

/-- A safety channel at start (R410): every switch open, every group waits for a restart, every line healthy. -/
def GuardChan.reset : GuardChan where
  st := .checking
  inputs := Vector.replicate 8 ⟨true, true, false, false, none, none, none⟩
  region := Vector.replicate 8 none
  position := Vector.replicate 8 none
  await := Vector.replicate 4 true
  closed := Vector.replicate 4 false
  silent := false
  good := 0
  check := 0
  fresh := false
  edgeAt := 0

/-- P2 at start: the block has not arrived, and the start checks run (R410). -/
def P2.reset : P2 where
  powered := true
  block := []
  haveBlock := false
  startDone := false
  confirmed := false
  confirmedValue := none
  saf := GuardChan.reset
  win := GuardChan.reset
  swFault := Vector.replicate 8 false
  disagree := Vector.replicate 8 false
  hold := Vector.replicate 8 false
  seenLoads := Vector.replicate 8 0
  rotation := 0
  slot := none
  pulse := none
  lastPass := Vector.replicate 8 0
  overdue := Vector.replicate 8 false
  skipped := 0
  failed := 0
  link := true
  reports := []
  lostReports := 0
  clock := 0
  key := Config.factoryKey.toList
  halted := Vector.replicate 2 false
  slotAt := 0
  passed := false
  frameAt := Vector.replicate 8 0
  differ := Vector.replicate 8 none

/-- P3 at start: outputs off, FLD not yet measured (R366, R367). -/
def P3.reset : P3 where
  powered := true
  doCmd := 0
  aoCmd := Vector.replicate 16 0
  doSafe := 0
  aoSafe := Vector.replicate 16 0
  timeout := 20
  silent := Vector.replicate 2 false
  report := Vector.replicate 2 false
  link := Vector.replicate 2 true
  fld := 0
  low := true
  lowRun := 0
  missing := true
  missingRun := 0
  measured := 0
  lowCleared := false
  missingCleared := false
  di := 0
  diValid := false
  sinceClear := 0
  readback := 0
  dos := Vector.replicate 16 ⟨false, false, false, false, false, 0, 0, 0, 0⟩
  aos := Vector.replicate 16 ⟨false, false, 0, 0⟩
  down := []
  clock := 0
  frameAt := Vector.replicate 2 0
  drive := 0
  offAt := Vector.replicate 16 0
  aoSeen := Vector.replicate 16 0
  aoAt := Vector.replicate 16 0
  shortAt := Vector.replicate 16 0

/-- The state after reset (assumption 1). -/
def State.reset : State := ⟨[], P1.reset, P2.reset, P3.reset⟩

end Sys2Proof.Machine
end

