-- ==== Sys2Proof/Machine/Flags.lean ====
section
/-! DEFINITION. Reads and writes of cells and their bits, counters, abort codes, and the status bits that the chapters
number. -/

namespace Sys2Proof.Machine

/-! ### The object map -/

/-- The value of a cell: the listed one, else the default (R536). -/
def odGet : Od → Nat → Int
  | [], k => defaultOf k
  | e :: r, k => if e.1 = k then e.2 else odGet r k

/-- The map with a listed value for a key, keys kept rising. -/
def odInsert (k : Nat) (v : Int) : Od → Od
  | [] => [(k, v)]
  | e :: r => if k < e.1 then (k, v) :: e :: r else if k = e.1 then (k, v) :: r else e :: odInsert k v r

/-- The map without a key. -/
def odErase (k : Nat) : Od → Od
  | [] => []
  | e :: r => if e.1 = k then r else e :: odErase k r

/-- The map after a write of a cell: a value equal to the default is not listed. -/
def odPut (o : Od) (k : Nat) (v : Int) : Od := if v = defaultOf k then odErase k o else odInsert k v o

/-- Keys rise strictly from a bound. -/
def odRising : Nat → Od → Bool
  | _, [] => true
  | lo, e :: r => lo ≤ e.1 && odRising (e.1 + 1) r

/-- The canonical form: keys rise strictly, and no listed value equals its default. -/
def odWf (o : Od) : Bool := odRising 0 o && o.all fun e => e.2 ≠ defaultOf e.1

/-- The value of a cell. -/
def P1.rd (s : P1) (k : Nat) : Int := odGet s.od k

/-- The state after a write of a cell. -/
def P1.wr (s : P1) (k : Nat) (v : Int) : P1 := { s with od := odPut s.od k v }

/-- Several cells written, in order. -/
def P1.wrs (s : P1) (l : List (Nat × Int)) : P1 := l.foldl (fun t e => t.wr e.1 e.2) s

/-- The value of a cell as a natural number. -/
def P1.rdN (s : P1) (k : Nat) : Nat := (s.rd k).toNat

/-- The largest value of a cell's type, for counters that saturate. -/
def topOf (k : Nat) : Int :=
  match rowOf k with
  | some r => 2 ^ (8 * r.ty.size) - 1
  | none => 0xFFFFFFFF

/-- Add to a counter that saturates. -/
def P1.add (s : P1) (k : Nat) (d : Int) : P1 := s.wr k (satAdd (topOf k) (s.rd k) d)

/-- Count one in a counter that saturates. -/
def P1.inc (s : P1) (k : Nat) : P1 := s.add k 1

/-- Count one in a counter that wraps. -/
def P1.incWrap (s : P1) (k : Nat) : P1 := s.wr k ((s.rd k + 1) % (topOf k + 1))

/-- Bit `n` of a status cell. -/
def P1.bit (s : P1) (k n : Nat) : Bool := bitOf (s.rd k) n

/-- The state with bit `n` of a status cell made `b`. -/
def P1.setBit (s : P1) (k n : Nat) (b : Bool) : P1 := s.wr k (withBit (s.rd k) n b)

/-- The state with several bits of a status cell written. -/
def P1.setBits (s : P1) (k : Nat) (l : List (Nat × Bool)) : P1 := l.foldl (fun t e => t.setBit k e.1 e.2) s

/-- A field of a status cell. -/
def P1.field (s : P1) (k lo width : Nat) : Nat := fieldOf (s.rd k) lo width

/-- The state with a field of a status cell replaced. -/
def P1.setField (s : P1) (k lo width x : Nat) : P1 := s.wr k (withField (s.rd k) lo width x)

/-- Write 0 to the subindices `a` to `b` of an index: the clear objects of every chapter. -/
def P1.clearSubs (s : P1) (index a b : Nat) : P1 :=
  (List.range (b + 1 - a)).foldl (fun t i => t.wr (ob index (a + i)) 0) s

/-! ### Octet-string objects -/

/-- The content of an octet-string object; an unlisted one is empty. -/
def domGet : Doms → Nat → DomVal
  | [], _ => ⟨[], 0⟩
  | e :: r, k => if e.1 = k then e.2 else domGet r k

/-- The map of contents with a value for a key. -/
def domInsert (k : Nat) (v : DomVal) : Doms → Doms
  | [] => [(k, v)]
  | e :: r => if k < e.1 then (k, v) :: e :: r else if k = e.1 then (k, v) :: r else e :: domInsert k v r

/-- The content of an octet-string object. -/
def P1.octets (s : P1) (k : Nat) : List Byte := (domGet s.dom k).bytes

/-- The generation of a DOMAIN (R543). -/
def P1.gen (s : P1) (k : Nat) : Nat := (domGet s.dom k).gen

/-- Replace a content; the generation increases by 1 (R543). -/
def P1.setOctets (s : P1) (k : Nat) (b : List Byte) : P1 :=
  { s with dom := domInsert k ⟨b, (domGet s.dom k).gen + 1⟩ s.dom }

/-! ### Free values and time -/

/-- The state after one free value has been drawn (assumption 3). -/
def P1.draw (s : P1) : P1 := { s with free := s.free + 1 }

/-- The state after `n` free values have been drawn. -/
def P1.drawN (s : P1) (n : Nat) : P1 := { s with free := s.free + n }

/-- The STAMP of the grain in progress (R289). -/
def P1.stamp (s : P1) : Nat := s.ns % 2 ^ 32

/-- The grain index 2000h:04. -/
def P1.grainIndex (s : P1) : Nat := s.ns / 1000

/-- The start of the grain in progress, in ns (R13). -/
def P1.grainStart (s : P1) : Nat := s.ns / 1000 * 1000

/-- Apply a function to one element of a vector. -/
def upd {α : Type} {n : Nat} (v : Vector α n) (i : Fin n) (f : α → α) : Vector α n := v.set i (f v[i])

/-! ### Abort codes (R539) -/

/-- Object does not exist. -/
def abNoObject : Nat := 0x06020000
/-- Subindex does not exist. -/
def abNoSub : Nat := 0x06090011
/-- Read of write-only. -/
def abWriteOnly : Nat := 0x06010001
/-- Write to read-only. -/
def abReadOnly : Nat := 0x06010002
/-- Length. -/
def abLength : Nat := 0x06070010
/-- Value out of range. -/
def abRange : Nat := 0x06090030
/-- Not authorised. -/
def abAuth : Nat := 0x06010000
/-- Not in this mode. -/
def abMode : Nat := 0x08000022
/-- Mode transition refused. -/
def abTransition : Nat := 0x08000020
/-- Busy. -/
def abBusy : Nat := 0x08000021
/-- Hardware error. -/
def abHardware : Nat := 0x06060000
/-- Reset abort. -/
def abReset : Nat := 0x08000000
/-- SDO protocol timed out. -/
def abTimeout : Nat := 0x05040000
/-- Command not valid. -/
def abCommand : Nat := 0x05040001
/-- Block CRC. -/
def abCrc : Nat := 0x05040004

/-! ### Often used cells -/

/-- 2000h:03, the clock status of R39. -/
@[reducible] def kClock : Nat := ob 0x2000 3
/-- 2100h:02, the current mode. -/
@[reducible] def kMode : Nat := ob 0x2100 2
/-- 2100h:04, the mode status of R97. -/
@[reducible] def kModeStatus : Nat := ob 0x2100 4
/-- 2100h:10, the role. -/
@[reducible] def kRole : Nat := ob 0x2100 0x10
/-- 2100h:11, the module ID. -/
@[reducible] def kModuleId : Nat := ob 0x2100 0x11
/-- 3300h:01, the grade. -/
@[reducible] def kGrade : Nat := ob 0x3300 1
/-- 6400h:01, the redundancy status of R485. -/
@[reducible] def kRed : Nat := ob 0x6400 1
/-- 6000h:01, the recorder status of R509. -/
@[reducible] def kRec : Nat := ob 0x6000 1
/-- 5900h:01, the network status of R455. -/
@[reducible] def kNet : Nat := ob 0x5900 1

/-- The mode in force (R66). -/
def P1.mode (s : P1) : Nat := s.rdN kMode
/-- The role (R459): 0 Isolated, 1 Shadow, 2 Lead. -/
def P1.role (s : P1) : Nat := s.rdN kRole
/-- The set size 6400h:02. -/
def P1.setSize (s : P1) : Nat := s.rdN (ob 0x6400 2)
/-- The grade 3300h:01. -/
def P1.grade (s : P1) : Nat := s.rdN kGrade
/-- The station cycle length in grains, 2000h:02. -/
def P1.cycleLen (s : P1) : Nat := s.rdN (ob 0x2000 2)

/-! ### Fault addresses (R51) -/

/-- A unit address from package, die, region, cluster and unit. -/
def unitAddr (pkg die region cluster unit : Nat) : Nat :=
  pkg * 2 ^ 30 + die * 2 ^ 27 + region * 2 ^ 24 + cluster * 2 ^ 18 + unit * 2 ^ 10

/-- The block of a fault address: the address without its cause. -/
def blockOf (addr : Nat) : Nat := addr / 1024 * 1024

/-- The cause of a fault address. -/
def causeOf (addr : Nat) : Nat := addr % 1024

/-- How many of the low address bits a block leaves open: 10 for a unit, 18 for a cluster, 24 for a region, 27 for a
die, 30 for a package, 32 for the module (R51, R52). -/
def blockSpan (addr : Nat) : Nat :=
  if addr / 2 ^ 30 % 4 = 0 then 32
  else if addr / 2 ^ 27 % 8 = 7 then 30
  else if addr / 2 ^ 24 % 8 = 7 then 27
  else if addr / 2 ^ 18 % 64 = 63 then 24
  else if addr / 2 ^ 10 % 256 = 255 then 18
  else 10

/-- The level of a block, in the order of R43: 0 unit … 5 system. -/
def levelOf (addr : Nat) : Nat :=
  match blockSpan addr with
  | 10 => 0 | 18 => 1 | 24 => 2 | 27 => 3 | 30 => 4 | _ => 5

/-- A block holds another one, or is the same. -/
def blockHolds (outer inner : Nat) : Bool :=
  blockSpan inner ≤ blockSpan outer && outer / 2 ^ blockSpan outer = inner / 2 ^ blockSpan outer

/-- The address of a die as a block (R46, R51). -/
def dieBlock : Die → Nat
  | .c => 0x47FFFC00 | .t => 0x4FFFFC00 | .n => 0x57FFFC00
  | .g => 0x87FFFC00 | .w => 0x8FFFFC00
  | .f0 => 0xC7FFFC00 | .f1 => 0xCFFFFC00

/-- The subindex of a die in 2201h and 2202h (R64). -/
def dieSub : Die → Nat
  | .c => 1 | .t => 2 | .n => 3 | .g => 4 | .w => 5 | .f0 => 6 | .f1 => 7

/-- Some fault in force, reported or not, stops a block (R54 FAULT): one at its own or a higher level. A fault at system level stops control
by the module, not its units (R55). -/
def P1.stopped (s : P1) (addr : Nat) : Bool :=
  (s.faults ++ s.unreported).any fun f => levelOf f.addr ≠ 5 && blockHolds f.addr addr

/-- CTL0, CTL1 and SUP are units 0, 1 and 2. -/
def ctlAddr (e : Nat) : Nat := unitAddr 1 0 2 0 e

/-- P1 works: it is not starting, it has supply, and neither its package nor die C is stopped (R55). What other dies of P1 do
beside a halted die C reaches nothing (assumption 88). -/
def P1.up (s : P1) : Bool := s.phase = .run && !s.stopped (dieBlock .c)

/-- SUP works: it serves the object dictionary, mode commands and panel inputs (R47, R48, R55). -/
def P1.serves (s : P1) : Bool := s.phase = .run && !s.stopped (ctlAddr 2)

/-- SAF, 80000000h (R580). -/
def safAddr : Nat := 0x80000000
/-- The Winter logic, 88000000h (R580). -/
def winterAddr : Nat := 0x88000000
/-- The recorder sequencer, 43040000h (R500). -/
def recorderAddr : Nat := 0x43040000
/-- Estimation engine e. -/
def estAddr (e : Nat) : Nat := unitAddr 1 0 0 0 e
/-- Solver engine e. -/
def slvAddr (e : Nat) : Nat := unitAddr 1 0 1 0 e
/-- DMA channel d. -/
def dmaAddr (d : Nat) : Nat := unitAddr 1 0 3 0 d
/-- CAN channel c. -/
def canAddr (c : Nat) : Nat := unitAddr 1 1 2 1 c
/-- Serial channel k. -/
def serialAddr (k : Nat) : Nat := unitAddr 1 1 2 2 k
/-- The filter engine (R328). -/
def filterAddr : Nat := unitAddr 1 1 1 1 0
/-- Analog input n (R362). -/
def aiAddr (n : Nat) : Nat := unitAddr 3 1 0 0 n
/-- Encoder axis a (R328). -/
def axisAddr (a : Nat) : Nat := unitAddr 1 1 2 0 a

end Sys2Proof.Machine
end

