-- ==== Sys2Proof/Machine/Structure.lean ====
section
/-! DEFINITION. Resident structures as octets (R181–R183), delta lists over them (R185, R186) and the factorisation LDLᵀ with
regularised pivots (R190). -/

namespace Sys2Proof.Machine

/-! ### FP64 values -/

/-- A rational rounds to a finite binary64. -/
def fits64 (q : Rat) : Bool := ratAbs q < 2 ^ 1024 - 2 ^ 970

/-- The F64 bits of a value that may not be finite: a NaN's payload is free (assumption 16). -/
def fpBits (n : Nat) (x : Option Rat) : Nat := match x with
  | some q => (toF64 q).toNat
  | none => 0x7FF8000000000000 + Config.freeNat n % 2 ^ 51

/-- The value of F64 bits, none where it is not finite. -/
def fpOf (raw : Nat) : Option Rat := match f64 raw with
  | .fin q => some q
  | .bad => none

/-! ### Structures (R181) -/

/-- A structure as a DOMAIN spells it (R181): kind, unknowns, nonzeros, pattern length, sign list present, permutation, signs,
pattern, values as F64 bits. -/
structure Spelled where
  sparse : Bool
  n : Nat
  nnz : Nat
  p : Nat
  quasi : Bool
  perm : List Nat
  signs : List Int
  pattern : List (Nat × Nat)
  values : List Nat
deriving DecidableEq, Repr

/-- The pattern of a dense structure: the full lower triangle, column by column. -/
def densePattern (n : Nat) : List (Nat × Nat) :=
  (List.range n).flatMap fun j => (List.range (n - j)).map fun i => (j + i, j)

/-- The pattern that column pointers and row indices give. -/
def sparsePattern (b : List Byte) (off n : Nat) : List (Nat × Nat) :=
  (List.range n).flatMap fun j =>
    let lo := leAt b (off + 4 * j) 4
    let hi := leAt b (off + 4 * (j + 1)) 4
    (List.range (hi - lo)).map fun m => (leAt b (off + 4 * (n + 1) + 2 * (lo + m)) 2, j)

/-- Where the column pointers of a structure stand. -/
def columnsAt (n : Nat) (quasi : Bool) : Nat := 40 + 2 * n + (if quasi then n else 0)

/-- Read a structure (R181). -/
def spell (b : List Byte) : Spelled :=
  let n := leAt b 4 2
  let nnz := leAt b 8 4
  let p := leAt b 12 4
  let sparse := leAt b 3 1 = 1
  let quasi := leAt b 6 2 % 2 = 1
  { sparse := sparse, n := n, nnz := nnz, p := p, quasi := quasi
    perm := (List.range n).map fun k => leAt b (40 + 2 * k) 2
    signs := (List.range n).map fun k => if quasi && leAt b (40 + 2 * n + k) 1 = 1 then -1 else 1
    pattern := if sparse then sparsePattern b (columnsAt n quasi) n else densePattern n
    values := (List.range nnz).map fun m => leAt b (40 + p + 8 * m) 8 }

/-- Octets of the pattern section, padded to a multiple of 8 (R181). -/
def patternLength (n nnz : Nat) (quasi sparse : Bool) : Nat :=
  (2 * n + (if quasi then n else 0) + (if sparse then 4 * (n + 1) + 2 * nnz else 0) + 7) / 8 * 8

/-- The structure tag (R182). -/
def tagOf (b : List Byte) : Nat := crc32c ((b.drop 3).take 9 ++ (b.drop 40).take (leAt b 12 4))

/-- The pattern section of a structure. -/
def patternOctets (x : Spelled) : List Byte :=
  let starts := (List.range (x.n + 1)).map fun j => x.pattern.countP fun e => e.2 < j
  let l := x.perm.flatMap (fun i => le 2 i) ++ (if x.quasi then x.signs.flatMap fun g => le 1 (if g = -1 then 1 else 0) else [])
    ++ (if x.sparse then starts.flatMap (fun j => le 4 j) ++ x.pattern.flatMap (fun e => le 2 e.1) else [])
  padTo x.p l

/-- A structure laid out as octets (R181), with the bits of ε_piv and λ. -/
def layStructure (x : Spelled) (eps lam : Nat) : List Byte :=
  let b := le 2 0x5354 ++ le 1 1 ++ le 1 (if x.sparse then 1 else 0) ++ le 2 x.n ++ le 2 (if x.quasi then 1 else 0) ++ le 4 x.nnz
    ++ le 4 x.p ++ le 8 eps ++ le 8 lam ++ zeros 8 ++ patternOctets x ++ x.values.flatMap fun v => le 8 v
  b ++ le 4 (crc32c b)

/-- A structure's octets with other values. -/
def withValues (b : List Byte) (v : List Nat) : List Byte :=
  let c := b.take (40 + leAt b 12 4) ++ v.flatMap fun x => le 8 x
  c ++ le 4 (crc32c c)

/-- Each column of a pattern begins with its diagonal and ascends (R181). -/
def columnsOk (n : Nat) (l : List (Nat × Nat)) : Bool :=
  (List.range n).all fun j =>
    let c := (l.filter fun e => e.2 = j).map (·.1)
    c.head? = some j && c.all (fun i => i < n) && (c.zip (c.drop 1)).all fun e => e.1 < e.2

/-- A pattern is closed under elimination (R183). -/
def closedPattern (l : List (Nat × Nat)) : Bool :=
  l.all fun a => l.all fun b => !(a.2 = b.2 && a.2 < b.1 && b.1 < a.1) || l.contains (a.1, b.1)

/-- Octets that a structure occupies (R180). -/
def areaOf (n nnz : Nat) : Nat := (16 * nnz + 8 * n + 64 + 4095) / 4096 * 4096

/-- The size limits of R180. -/
def structureSize (sparse : Bool) (n nnz : Nat) : Bool := 1 ≤ n && n ≤ (if sparse then 8192 else 512) && nnz ≤ 262144

/-- The tests of a loaded structure but for the free space (R180, R181, R183). -/
def structureForm (b : List Byte) : Bool :=
  let x := spell b
  let n := x.n
  let eps := f64 (leAt b 16 8 : Nat)
  let lam := f64 (leAt b 24 8 : Nat)
  leAt b 0 2 = 0x5354 && leAt b 2 1 = 1 && leAt b 3 1 ≤ 1 && structureSize x.sparse n x.nnz && leAt b 6 2 ≤ 1
    && (x.sparse || x.nnz = n * (n + 1) / 2)
    && x.p = patternLength n x.nnz x.quasi x.sparse && b.length = 44 + x.p + 8 * x.nnz
    && leAt b (40 + x.p + 8 * x.nnz) 4 = crc32c (b.take (40 + x.p + 8 * x.nnz))
    && x.perm.all (fun i => i < n) && decide x.perm.Nodup && eps ≠ .bad && 0 ≤ eps.q && eps.q ≤ 1 / 1000
    && lam ≠ .bad && 0 ≤ lam.q
    && (!x.sparse || (leAt b (columnsAt n x.quasi) 4 = 0 && x.pattern.length = x.nnz && columnsOk n x.pattern
      && closedPattern x.pattern))

/-! ### Delta lists (R185, R186) -/

/-- The place of an element in a structure's values, in permuted numbering of the lower triangle. -/
def deltaPos (x : Spelled) (r c : Nat) : Option Nat :=
  let i := x.perm.idxOf r
  let j := x.perm.idxOf c
  let e := if i < j then (j, i) else (i, j)
  if i < x.n && j < x.n && x.pattern.contains e then some (x.pattern.idxOf e) else none

/-- A delta list passes R186 for structure k with a tag. -/
def deltaOk (k tag : Nat) (d : List Byte) (x : Spelled) : Bool :=
  let m := leAt d 4 4
  leAt d 0 2 = 0x444C && leAt d 2 1 = 1 && leAt d 3 1 = k && 1 ≤ m && m ≤ 262144 && d.length = 16 + 16 * m
    && leAt d 8 4 = tag
    && (List.range m).all fun j => (deltaPos x (leAt d (16 + 16 * j) 2) (leAt d (18 + 16 * j) 2)).isSome
      && leAt d (20 + 16 * j) 1 ≤ 1

/-- The values after a delta list (R186): its entries in order; `fr` numbers the free values of sums that are not finite. -/
def applyDelta (fr : Nat) (d : List Byte) (x : Spelled) : List Nat :=
  (List.range (leAt d 4 4)).foldl (fun v j =>
    match deltaPos x (leAt d (16 + 16 * j) 2) (leAt d (18 + 16 * j) 2) with
    | none => v
    | some i =>
      let y := leAt d (24 + 16 * j) 8
      v.set i (if leAt d (20 + 16 * j) 1 = 0 then y
        else fpBits (fr + j) (match fpOf (v.getD i 0), fpOf y with
          | some a, some b => if fits64 (a + b) then some (a + b) else none
          | _, _ => none))) x.values

/-- A delta list that sets elements (R185): original rows and columns with their F64 bits. -/
def layDelta (k tag : Nat) (l : List (Nat × Nat × Nat)) : List Byte :=
  le 2 0x444C ++ le 1 1 ++ le 1 k ++ le 4 l.length ++ le 4 tag ++ zeros 4
    ++ l.flatMap fun e => le 2 e.1 ++ le 2 e.2.1 ++ le 1 0 ++ zeros 3 ++ le 8 e.2.2

/-! ### LDLᵀ with regularised pivots (R190) -/

/-- The symmetric matrix of a structure in permuted numbering. -/
def matrixOf (x : Spelled) : List (List Rat) :=
  (List.range x.n).map fun i => (List.range x.n).map fun j =>
    let e := if i < j then (j, i) else (i, j)
    if x.pattern.contains e then (f64 (x.values.getD (x.pattern.idxOf e) 0)).q else 0

/-- One column of a factor: its pivot, the column below the diagonal, and whether the pivot was flagged. -/
structure Column where
  pivot : Rat
  below : List Rat
  flagged : Bool
deriving DecidableEq, Repr

/-- The factorisation: one column for each sign (R190). -/
def ldl (floor lam : Rat) : List Int → List (List Rat) → List Column
  | [], _ => []
  | _ :: _, [] => []
  | sg :: ss, row :: rest =>
    let d0 := row.headD 0
    let sd : Rat := (sg : Rat) * d0
    let flagged := decide (sd < floor)
    let d := if flagged then (sg : Rat) * (if sd + lam < lam then lam else sd + lam) else d0
    let l := rest.map fun r => r.headD 0 / d
    let next := (rest.zip l).map fun e => List.zipWith (fun a c => a - e.2 * c) (e.1.drop 1) (row.drop 1)
    ⟨d, l, flagged⟩ :: ldl floor lam ss next

/-- The factor of a structure with ε_piv and λ: the threshold is ε_piv times the largest absolute diagonal entry (R190). -/
def factorOf (x : Spelled) (eps lam : Rat) : List Column :=
  let a := matrixOf x
  let top := ((List.range x.n).map fun i => ratAbs ((a.getD i []).getD i 0)).foldl (fun m v => if m < v then v else m) 0
  ldl (eps * top) lam x.signs a

/-- Forward substitution. -/
def forwardSub : List Column → List Rat → List Rat
  | [], _ => []
  | _ :: _, [] => []
  | c :: cs, b :: bs => b :: forwardSub cs (List.zipWith (fun x l => x - l * b) bs c.below)

/-- The diagonal and back substitution. -/
def backSub : List Column → List Rat → List Rat
  | [], _ => []
  | _ :: _, [] => []
  | c :: cs, y :: ys =>
    let xs := backSub cs ys
    (y / c.pivot - (List.zipWith (· * ·) c.below xs).foldl (· + ·) 0) :: xs

/-- The solution of a factored system, in permuted numbering. -/
def solveWith (f : List Column) (b : List Rat) : List Rat := backSub f (forwardSub f b)

/-- Original indices of the flagged pivots, in order (R190). -/
def flaggedPivots (x : Spelled) (f : List Column) : List Nat := ((f.zip x.perm).filter fun e => e.1.flagged).map (·.2)

/-- Every value of a structure is finite, and no pivot of its factor is 0 (R189, R190). -/
def factorFinite (x : Spelled) (f : List Column) : Bool :=
  x.values.all (fun v => (fpOf v).isSome) && f.all fun c => c.pivot ≠ 0 && fits64 c.pivot

/-- A matrix times a vector. -/
def timesVec (a : List (List Rat)) (x : List Rat) : List Rat := a.map fun r => (List.zipWith (· * ·) r x).foldl (· + ·) 0

/-- Iterations of a linear job (R188): x := x + A⁻¹ (b − A x), from the start iterate on; a regularised pivot leaves the
solution between the start iterate and the exact one (assumption 99). -/
def refine (f : List Column) (a : List (List Rat)) (b : List Rat) : Nat → List Rat → List Rat
  | 0, x => x
  | n + 1, x => refine f a b n (List.zipWith (· + ·) x (solveWith f (List.zipWith (· - ·) b (timesVec a x))))

end Sys2Proof.Machine
end

