-- ==== Sys2Proof/Machine/Units.lean ====
section
/-! DEFINITION. The units of the module (R46, R48, R328, R362, R420, R510), their status words (R54) and their snapshot words
(R37). -/

namespace Sys2Proof.Machine

/-- A unit. The GNSS channels are named by antenna and channel; the classifier and PTP stamping are the units of region
PKT. -/
inductive UnitId
  | est (e : Fin 4)
  | slv (e : Fin 4)
  | ctl (e : Fin 3)
  | dma (d : Fin 16)
  | recorder
  | gnss (a : Fin 3) (c : Fin 64)
  | time
  | filter
  | axis (a : Fin 8)
  | emu (o : Fin 2)
  | probe (k : Fin 2)
  | can (c : Fin 4)
  | serial (k : Fin 8)
  | dp (p : Fin 2)
  | sensor (p : Fin 4)
  | service (p : Fin 2)
  | pkt (u : Fin 2)
  | saf
  | winter
  | diGroup (g : Fin 4)
  | doGroup (g : Fin 2)
  | ai (n : Fin 16)
  | ao (n : Fin 16)
deriving DecidableEq, Repr

/-- The address of a unit. The place of the time unit in its region is inferred (assumption 39). -/
def UnitId.addr : UnitId → Nat
  | .est e => estAddr e
  | .slv e => slvAddr e
  | .ctl e => ctlAddr e
  | .dma d => dmaAddr d
  | .recorder => recorderAddr
  | .gnss a c => unitAddr 1 1 0 a c
  | .time => unitAddr 1 1 1 0 0
  | .filter => filterAddr
  | .axis a => axisAddr a
  | .emu o => unitAddr 1 1 2 0 (8 + o)
  | .probe k => unitAddr 1 1 2 0 (10 + k)
  | .can c => canAddr c
  | .serial k => serialAddr k
  | .dp p => unitAddr 1 2 0 0 p
  | .sensor p => unitAddr 1 2 0 1 p
  | .service p => unitAddr 1 2 0 2 p
  | .pkt u => unitAddr 1 2 1 0 u
  | .saf => safAddr
  | .winter => winterAddr
  | .diGroup g => unitAddr 3 0 0 0 g
  | .doGroup g => unitAddr 3 0 1 0 g
  | .ai n => aiAddr n
  | .ao n => unitAddr 3 1 1 0 n

/-- The units of P1 in ascending address. -/
def coreUnits : List UnitId :=
  (List.finRange 4).map .est ++ (List.finRange 4).map .slv ++ (List.finRange 3).map .ctl ++ (List.finRange 16).map .dma
    ++ [.recorder] ++ ((List.finRange 3).flatMap fun (a : Fin 3) => (List.finRange 64).map (.gnss a)) ++ [.time, .filter]
    ++ (List.finRange 8).map .axis ++ (List.finRange 2).map .emu ++ (List.finRange 2).map .probe
    ++ (List.finRange 4).map .can ++ (List.finRange 8).map .serial ++ (List.finRange 2).map .dp
    ++ (List.finRange 4).map .sensor ++ (List.finRange 2).map .service ++ (List.finRange 2).map .pkt

/-- The units of P2 and P3. -/
def farUnits : List UnitId :=
  [.saf, .winter] ++ (List.finRange 4).map .diGroup ++ (List.finRange 2).map .doGroup ++ (List.finRange 16).map .ai
    ++ (List.finRange 16).map .ao

/-- The unit that an address names (R65). -/
def unitOf (addr : Nat) : Option UnitId := (coreUnits ++ farUnits).find? fun u => u.addr = addr

/-- The cause of the last fault of a unit (R54 LAST_CAUSE). -/
def lastCause (unit : Nat) (s : P1) : Nat := (s.lastCauses.find? fun e => e.1 = unit).elim 0 (·.2)

/-- A unit is powered down in Dormant (R47). -/
def poweredDown (u : UnitId) (s : P1) : Bool :=
  match u with
  | .est _ | .slv _ | .sensor _ | .service _ => s.mode = 0
  | .ctl e => s.mode = 0 && e ≠ 2
  | .gnss _ _ => s.mode = 0 && s.bit (ob 0x5100 1) 0
  | _ => false

/-- A GNSS channel of an antenna. -/
def gnssChan (a : Fin 3) (c : Fin 64) (s : P1) : GnssChan := s.time.chans[64 * a.val + c.val]

/-- A unit that can be switched off is enabled. -/
def unitEnabled (u : UnitId) (s : P1) : Bool :=
  match u with
  | .dma d => d.val < 8 || s.rd (ob (0x5800 + d) 2) = 1
  | .gnss a c => (gnssChan a c s).asg.isSome
  | .axis a => s.rd (ob (0x5200 + a) 1) = 1
  | .emu o => s.rd (ob (0x5210 + o) 1) = 1
  | .probe k => s.rd (ob (0x5218 + k) 1) = 1
  | .can c => s.rd (ob (0x5600 + c) 1) ≠ 0
  | .serial k => s.rd (ob (0x5700 + k) 1) ≠ 0
  | .sensor p => s.rd (ob (0x5930 + p) 1) = 1
  | _ => true

/-- A flag at a place of a status word. -/
def flagBit (b : Bool) (n : Nat) : Nat := if b then 2 ^ n else 0

/-- Some foreground type, or some background type, is assigned to an engine (R173, R205). -/
def typesOn (e : Fin 4) (fg : Bool) (s : P1) : Bool :=
  [1, 2, 3, 4, 5, 6, 7, 8].any fun t =>
    s.field (ob 0x4400 2) (4 * (t - 1)) 4 = e.val && (fg == (t = 1 || t = 2 || t = 7))

/-- The type of the job that an engine runs; 0 none. -/
def currentType (e : Fin 4) (s : P1) : Nat := ((s.solver.engines[e]).run.map fun r => r.job.desc.ty).getD 0

/-- Bits [31:16] of a unit's status word, at their places (R205, R326, R357, R456, R457, R531). -/
def kindBits (u : UnitId) (s : P1) : Nat :=
  match u with
  | .slv e =>
    flagBit (s.solver.engines[e]).run.isSome 16 + flagBit (typesOn e true s) 17 + flagBit (typesOn e false s) 18
      + 2 ^ 24 * (currentType e s % 256)
  | .gnss a c =>
    let x := gnssChan a c s
    flagBit x.code 16 + flagBit x.carrier 17 + flagBit x.fll 18 + flagBit x.half 19
      + 2 ^ 24 * (((x.asg.map fun g => g.2.2).getD 0) % 256)
  | .axis a => 2 ^ 16 * s.field (ob (0x5200 + a) 0x1A) 16 16
  | .can c =>
    let x := s.can[c]
    2 ^ 16 * x.errState + 2 ^ 18 * (s.rdN (ob (0x5600 + c) 1) % 4) + flagBit x.alone 20
      + flagBit (s.rd (ob (0x5600 + c) 7) = 1) 21 + flagBit (s.role = 2 && s.bit (ob 0x5030 1) c) 22 + 2 ^ 24 * min 255 x.tec
  | .serial k =>
    let x := s.serial[k]
    let active : Bool := match x.lastChar with
      | some g => s.elapsed - g ≤ 100000
      | none => false
    flagBit active 16 + flagBit x.inBreak 17 + 2 ^ 18 * (s.rdN (ob (0x5700 + k) 1) % 4)
  | .dma d =>
    let x := s.dma[d]
    flagBit x.run.isSome 16 + flagBit x.paused 17 + flagBit x.pausing 18
      + flagBit ((x.run.map (·.backward)).getD false) 19
  | _ => 0

/-- The status word of a unit (R54). -/
def statusWord (u : UnitId) (s : P1) : Nat :=
  let a := u.addr
  let fault := s.stopped a
  let down := poweredDown u s
  let higher : Bool := (s.faults ++ s.unreported).any fun f => blockHolds f.addr a && 1 ≤ levelOf f.addr && levelOf f.addr ≠ 5
  flagBit (!fault && !down && unitEnabled u s) 0 + flagBit fault 1 + flagBit down 2 + flagBit higher 3
    + 2 ^ 6 * (lastCause a s % 1024) + kindBits u s

/-- A value in the low 32 bits. -/
def word32 (v : Int) : Nat := (v % 2 ^ 32).toNat

/-- The progress of an engine's job, or its check jobs (R205): iteration and phase of a running job are timing that the
model leaves open; a stopped engine is idle. -/
def phaseWord (n : Nat) (e : Fin 4) (s : P1) : Nat :=
  match (s.solver.engines[e]).run with
  | some r => r.job.desc.ty % 256 + 2 ^ 8 * (r.job.desc.structureNo % 256)
      + 2 ^ 16 * (Config.freeNat n % (r.job.desc.iterations % 256 + 1)) + 2 ^ 24 * (1 + Config.freeNat (n + 1) % 4)
  | none => if s.stopped (slvAddr e) || s.mode = 0 then 0 else 2 ^ 24 * (if Config.freeNat n % 2 = 0 then 0 else 5)

/-- The snapshot words of a unit (R37, R205, R326, R357, R456, R500, R531). What a GNSS channel measures at the latch is
free (assumption 3). -/
def snapWords (n : Nat) (u : UnitId) (s : P1) : List Nat :=
  match u with
  | .slv e =>
    let x := s.solver.engines[e]
    let depth := x.fg.length + 65536 * x.bg.length
    match x.run with
    | some r => [r.job.desc.id % 2 ^ 32, phaseWord n e s, r.start % 2 ^ 32,
        (s.grainIndex + r.job.desc.deadline + r.job.grain - s.elapsed) % 2 ^ 32, depth]
    | none => [0, phaseWord n e s, 0, 0, depth]
  | .gnss _ _ => (List.range 4).map fun k => Config.freeNat (n + k) % 2 ^ 32
  | .axis a =>
    let p := s.rd (ob (0x5200 + a) 0x16)
    [word32 p, word32 (p / 2 ^ 32), word32 (s.rd (ob (0x5200 + a) 0x18)), word32 (s.axes[a]).index]
  | .can c => [(s.can[c]).tec, (s.can[c]).rxErr, s.rdN (ob (0x5600 + c) 0x10), s.rdN (ob (0x5600 + c) 0x11)]
  | .dma d =>
    match (s.dma[d]).run with
    | some r => [r.desc.id % 2 ^ 32, s.rdN (ob (0x5800 + d) 8), s.rdN (ob (0x5800 + d) 9), s.rdN (ob (0x5800 + d) 0x0A)]
    | none => [0, s.rdN (ob (0x5800 + d) 8), s.rdN (ob (0x5800 + d) 9), 0]
  | .recorder => [s.rdN (ob 0x6000 2), s.recorder.log.length, s.field (ob 0x6000 1) 8 8, s.rdN (ob 0x6000 4)]
  | _ => []

/-- The free values that a snapshot draws. -/
def snapDraws : Nat := 4 * 256

/-- Every unit's entry of a snapshot set, in ascending unit address (R37). -/
def unitEntries (s : P1) : List SnapEntry :=
  coreUnits.zipIdx.map fun e => ⟨e.1.addr, statusWord e.1 s, snapWords (s.free + 4 * e.2) e.1 s⟩

end Sys2Proof.Machine
end

