-- ==== Sys2Proof/Machine/Ops.lean ====
section
/-! DEFINITION. The operations that every chapter shares: recording an event (R492–R494), session events (R498),
snapshots (R30–R37), CAN queueing and failure reports (R439–R441), alarms (R553–R558), reports of faults (R51–R60),
and the pipeline of a request (R538). -/

namespace Sys2Proof.Machine

/-! ### Recording events -/

/-- The rate and burst of a code (R493, R586): the subindex of 6031h that names it, else 6030h. -/
def limitOf (s : P1) (code : Nat) : Nat × Nat :=
  match s.od.find? fun e => e.1 / 256 = 0x6031 && e.2.toNat % 65536 = code && code ≠ 0 with
  | some e => (e.2.toNat / 2 ^ 32, e.2.toNat / 65536 % 65536)
  | none => (s.rdN (ob 0x6030 1), s.rdN (ob 0x6030 2))

/-- The content of a code's bucket in the grain in progress, in 10⁻⁹ tokens (R493). A code without a bucket has a full
one. -/
def bucketNow (s : P1) (code : Nat) : Nat :=
  let l := limitOf s code
  match s.recorder.buckets.find? fun b => b.code = code with
  | some b => min (l.2 * 1000000000) (b.nano + l.1 * (s.elapsed - b.grain))
  | none => l.2 * 1000000000

/-- Replace or add the bucket of a code. -/
def putBucket (l : List Bucket) (b : Bucket) : List Bucket :=
  if l.any (fun x => x.code = b.code) then l.map fun x => if x.code = b.code then b else x else l ++ [b]

/-- An accumulator with one more event of its code (R494). -/
def CodeCount.count1 (c : CodeCount) (accepted : Bool) (param ns : Nat) : CodeCount :=
  if accepted then
    { c with count := min 0xFFFFFFFF (c.count + 1), first := if c.count = 0 then ns else c.first,
             last := ns, lastParam := param }
  else { c with suppressed := min 0xFFFFFFFF (c.suppressed + 1) }

/-- The accumulators with one more event, in ascending code; none when 256 other codes stand (R494). -/
def countCode (l : List CodeCount) (code : Nat) (accepted : Bool) (param ns : Nat) : Option (List CodeCount) :=
  if l.any (fun c => c.code = code) then
    some (l.map fun c => if c.code = code then c.count1 accepted param ns else c)
  else if l.length < 256 then
    let c : CodeCount := (CodeCount.mk code 0 0 0 0 0).count1 accepted param ns
    some (l.takeWhile (fun x => x.code < code) ++ c :: l.dropWhile (fun x => x.code < code))
  else none

/-- Record an event under a code with its parameter (R492–R494). -/
def record (code param : Nat) (s : P1) : P1 :=
  let level := bucketNow s code
  let accepted := 1000000000 ≤ level
  let b : Bucket := ⟨code, if accepted then level - 1000000000 else level, s.elapsed⟩
  let r := { s.recorder with buckets := putBucket s.recorder.buckets b }
  match countCode r.codes code accepted (param % 2 ^ 32) s.ns with
  | some l =>
    ({ s with recorder := { r with codes := l } }).inc (if accepted then ob 0x6000 6 else ob 0x6000 7)
  | none =>
    (({ s with recorder := { r with unplaced := min 0xFFFFFFFF (r.unplaced + 1) } }).inc
      (if accepted then ob 0x6000 6 else ob 0x6000 7)).inc (ob 0x6000 8)

/-- The octets of a session-record entry (R498). -/
def SessEvent.bytes (e : SessEvent) : List Byte :=
  le 1 e.event ++ zeros 1 ++ le 2 e.session ++ le 4 e.detail ++ le 8 e.ns ++ padTo 16 e.identity

/-- The number of records in Q76–Q79. -/
def Recorder.pending (r : Recorder) : Nat :=
  r.clears.length + r.sessions.length + r.counts.length + r.summaries.length

/-- 6000h:01 [15:8] PENDING follows the queues (R509). -/
def showPending (s : P1) : P1 := s.setField kRec 8 8 s.recorder.pending

/-- Flags a closed record carries: DEFERRED while a freeze stands, RESTART on the first of its kind after a loss. -/
def closeFlags (r : Recorder) (kind : Nat) : Nat :=
  (if r.freeze.isSome then 2 else 0) + (if r.restart.contains kind then 8 else 0)

/-- Close up to 64 buffered session events into a session record, when Q77 has room (R498, R500). -/
def closeSessions (s : P1) : P1 :=
  let r := s.recorder
  if r.events = [] || 8 ≤ r.sessions.length then s
  else
    let l := r.events.take 64
    let q : Rec := ⟨2, 1, 1, closeFlags r 2, l.length, (l.head?.map (·.ns)).getD 0, s.ns, l.flatMap SessEvent.bytes⟩
    showPending { s with recorder := { r with events := r.events.drop 64, sessions := r.sessions ++ [q],
                                              restart := r.restart.filter (· ≠ 2) } }

/-- Buffer a session event (R498); 64 entries become a record. -/
def sessEvent (event session detail : Nat) (s : P1) : P1 :=
  let ident := match s.sessions.find? fun x => x.no = session with
    | some x => x.identity
    | none => []
  let r : Recorder := { s.recorder with events := s.recorder.events ++ [⟨event, session, detail, s.ns, ident⟩] }
  let t := { s with recorder := r }
  if 64 ≤ r.events.length then closeSessions t else t

/-! ### Snapshots -/

/-- The octets of one unit's entry of a snapshot set (R37). -/
def SnapEntry.bytes (e : SnapEntry) : List Byte :=
  le 4 e.unit ++ le 4 e.status ++ le 2 e.words.length ++ zeros 2 ++ e.words.flatMap fun w => le 4 w

/-- The content of 2300h:0C (R37). -/
def snapContent (number ns mask : Nat) (l : List SnapEntry) : List Byte :=
  let body := l.flatMap SnapEntry.bytes
  le 4 number ++ le 4 ns ++ le 8 ns ++ le 1 mask ++ zeros 1 ++ le 2 l.length ++ le 4 (32 + body.length) ++ zeros 8
    ++ body

/-- A descriptor that runs on some channel reads the snapshot set (R520). -/
def snapExported (s : P1) : Bool :=
  s.dma.toList.any fun c => match c.run with
    | some r => r.desc.srcKind = 3
    | none => false

/-- A trigger would be refused (R35, R520): the set is locked, or it is being exported. -/
def snapRefused (s : P1) : Bool :=
  (s.rd (ob 0x2300 2) = 1 && s.rd (ob 0x2300 3) ≠ 0) || snapExported s

/-- The set number that follows (R34). -/
def nextSet (n : Nat) : Nat := if n = 0xFFFFFFFF then 1 else n + 1

/-- A SNAP trigger from source `src` (bit of 2300h:05), processed now. Triggers of one grain make one set (R33); its stamp is
the start of the grain (R31). -/
def snapTrigger (src : Nat) (s : P1) : P1 :=
  if snapRefused s then s.inc (ob 0x2300 6)
  else if s.snapGrain = some s.elapsed then
    let t := s.setBit (ob 0x2300 5) src true
    let b := (t.octets (ob 0x2300 0x0C)).set 16 (BitVec.ofNat 8 (t.rdN (ob 0x2300 5)))
    { t with dom := domInsert (ob 0x2300 0x0C) ⟨b, t.gen (ob 0x2300 0x0C)⟩ t.dom }
  else
    let n := nextSet (s.rdN (ob 0x2300 3))
    let at0 := s.grainStart
    let t := (((s.wr (ob 0x2300 3) n).wr (ob 0x2300 4) (at0 % 2 ^ 32)).wr (ob 0x2300 5) (2 ^ src)).wr (ob 0x2300 0x0B) at0
    { (t.setOctets (ob 0x2300 0x0C) (snapContent n at0 (2 ^ src) (unitEntries s))).drawN snapDraws with
      snapGrain := some s.elapsed }

/-- A SNAP source fires by an event of another precedence: its trigger waits for precedence 8 of the grain (R31, R35). -/
def snapLater (src : Nat) (s : P1) : P1 := { s with snapDue := s.snapDue ++ [src] }

/-! ### Arbitration in a cluster (R44) -/

/-- Unit u of a cluster of n is in its turn after the one served last: no unit from there on, before u, has a pending item. -/
def inTurn (last n u : Nat) (pending : Nat → Bool) : Bool :=
  (List.range n).all fun v => !pending v || (u + n - (last + 1)) % n ≤ (v + n - (last + 1)) % n

/-- The unit that cluster c of n units served last: before the first round its last unit. -/
def servedLast (c n : Nat) (s : P1) : Nat := ((s.served.find? fun e => e.1 = c).map (·.2)).getD (n - 1)

/-- Cluster c has served unit u. -/
def serve (c u : Nat) (s : P1) : P1 := { s with served := (c, u) :: s.served.filter fun e => e.1 ≠ c }

/-! ### CAN queues -/

/-- The index of a transmit queue's priority, frames in it. -/
def CanChan.queue (c : CanChan) : Nat → List TxFrame
  | 0 => c.q0 | 1 => c.q1 | 2 => c.q2 | _ => c.q3

/-- A channel with one of its transmit queues replaced. -/
def CanChan.setQueue (c : CanChan) (p : Nat) (l : List TxFrame) : CanChan :=
  match p with
  | 0 => { c with q0 := l } | 1 => { c with q1 := l } | 2 => { c with q2 := l } | _ => { c with q3 := l }

/-- Report a frame failed (R441): counted, described in 5600h+c:18, recorded under 0D06h. -/
def canReportFailed (c : Fin 4) (prio : Nat) (f : TxFrame) (cause : Nat) (s : P1) : P1 :=
  let b := le 4 s.stamp ++ le 4 f.ident ++ le 1 prio ++ le 1 cause ++ le 2 f.attempts ++ zeros 4
  record 0x0D06 (packDetails [(8, c.val), (8, cause), (16, f.ident)])
    ((s.inc (ob (0x5600 + c) 0x12)).setOctets (ob (0x5600 + c) 0x18) b)

/-- Frames reported failed one by one, in order. -/
def canReportAll (c : Fin 4) (prio : Nat) (cause : Nat) : List TxFrame → P1 → P1
  | [], s => s
  | f :: r, s => canReportAll c prio cause r (canReportFailed c prio f cause s)

/-- Queue a frame (R439): refused by a full queue with cause 8, failed with cause 6 while the channel is off or
listen-only, with cause 7 while its unit is stopped (R441, R444). -/
def canQueue (c : Fin 4) (prio : Nat) (f : TxFrame) (s : P1) : P1 :=
  if s.stopped (canAddr c) then canReportFailed c prio f 7 s
  else if s.rd (ob (0x5600 + c) 1) = 0 || s.rd (ob (0x5600 + c) 7) = 1 then canReportFailed c prio f 6 s
  else if 64 ≤ (s.can[c].queue prio).length then canReportFailed c prio f 8 s
  else { s with can := upd s.can c fun x => x.setQueue prio (x.queue prio ++ [{ f with queuedAt := s.elapsed }]) }

/-- A fresh transmit frame. -/
def txFrame (kind : TxKind) (ident : Nat) (data : List Byte) : TxFrame := ⟨kind, ident, data, 0, true, false, 0⟩

/-- Apply to each of the four channels in order. -/
def eachCan (f : Fin 4 → P1 → P1) (s : P1) : P1 := f 3 (f 2 (f 1 (f 0 s)))

/-- An EMCY on every channel whose SDO server is enabled (R558). -/
def emcy (errorCode code param : Nat) (s : P1) : P1 :=
  eachCan (fun c t =>
    if t.rd (ob (0x6610 + c) 1) = 1 then
      canQueue c 1 (txFrame .canopen (0x80 + t.rdN (ob (0x6610 + c) 2))
        (le 2 errorCode ++ le 1 (t.rdN (ob 0x1001 0)) ++ le 2 code ++ le 3 param)) t
    else t) s

/-! ### Alarms -/

/-- The class of an alarm raised under a code, where R553 names one. 0310h, 0016h and user threshold events are given
their class by the caller. -/
def alarmClass (code : Nat) : Nat :=
  if code = 0x0C00 || code = 0x0C05 || code = 0x0C06 || code = 0x0C0A || code = 0x0C0B || code = 0x0C0E then 0
  else if code = 0x0310 then 1
  else if code = 0x0313 || code = 0x0315 || code = 0x0011 then 2
  else if code = 0x0012 || code = 0x0501 || code = 0x0503 then 3
  else if code = 0x0010 then 4
  else if code = 0x0E03 || code = 0x0E06 || code = 0x0E08 then 5
  else if code = 0x0903 || code = 0x090A then 6
  else if code = 0x0D01 || code = 0x0D00 then 7
  else if code = 0x0D02 || code = 0x0D05 then 8
  else if code = 0x0B00 || code = 0x0B01 || code = 0x0B02 || code = 0x0B04 || code = 0x0B05 || code = 0x0B06 then 9
  else if code = 0x0A00 || code = 0x0A02 then 10
  else if code = 0x0014 || code = 0x0015 || code = 0x0254 then 11
  else if code = 0x0013 || code = 0x0F01 || code = 0x0257 then 12
  else 13

/-- The octets of an alarm-list entry (R556). -/
def Alarm.bytes (a : Alarm) : List Byte :=
  le 2 a.code ++ le 1 a.cls ++ le 1 ((if a.active then 1 else 0) + (if a.acked then 2 else 0)) ++ le 4 a.param
    ++ le 8 a.raised

/-- Bit map of the classes of the alarms that meet a test. -/
def classMap (l : List Alarm) (p : Alarm → Bool) : Int :=
  (List.range 16).foldl (fun m c => if l.any (fun a => a.cls = c && p a) then m + 2 ^ c else m) 0

/-- The error register 1001h:00 (R557). -/
def errorRegister (l : List Alarm) : Int :=
  let act := l.filter (·.active)
  let temp := act.any fun a => a.cls = 11 && a.code = 0x0015
  let net := act.any fun a => a.cls = 7 || a.cls = 8
  let other := act.any fun a => a.cls ≠ 7 && a.cls ≠ 8 && !(a.cls = 11 && a.code = 0x0015)
  (if act = [] then 0 else 1) + (if temp then 8 else 0) + (if net then 16 else 0) + (if other then 128 else 0)

/-- The alarm objects follow the list (R555, R557). -/
def showAlarms (s : P1) : P1 :=
  let all := s.alarms ++ s.unlisted
  ((((s.wr (ob 0x6200 1) (classMap all (·.active))).wr (ob 0x6200 2) (classMap all (fun a => !a.acked))).wr
    (ob 0x6200 5) s.alarms.length).wr (ob 0x1001 0) (errorRegister all)).setOctets (ob 0x6200 4)
      (s.alarms.flatMap Alarm.bytes)

/-- A class rises (R554): SNAP at precedence 8 where the class is selected (R30, R35), and an EMCY (R558). -/
def classRise (cls code param : Nat) (s : P1) : P1 :=
  let t := emcy (0xFF00 + cls) code param s
  if bitOf (t.rd (ob 0x2300 9)) cls then snapLater 2 t else t

/-- The alarm of a code and parameter. -/
def isAlarm (code param : Nat) (a : Alarm) : Bool := a.code = code && a.param = param

/-- Raise an alarm of a class (R554). One that is active already stays as it is; a listed one becomes active again in
its place; a full list counts the alarm in 6200h:06, and the class rises all the same. -/
def raiseIn (cls code param : Nat) (s : P1) : P1 :=
  if (s.alarms ++ s.unlisted).any (fun a => isAlarm code param a && a.active) then s
  else if s.alarms.any (isAlarm code param) then
    let again (a : Alarm) : Alarm := if isAlarm code param a then { a with active := true, acked := false } else a
    classRise cls code param (showAlarms { s with alarms := s.alarms.map again })
  else
    let a : Alarm := ⟨code, cls, true, false, param, s.ns⟩
    if s.alarms.length < 128 then classRise cls code param (showAlarms { s with alarms := s.alarms ++ [a] })
    else classRise cls code param (showAlarms (({ s with unlisted := s.unlisted ++ [a] }).inc (ob 0x6200 6)))

/-- Raise an alarm in the class that R553 gives its code. -/
def raise (code param : Nat) (s : P1) : P1 := raiseIn (alarmClass code) code param s

/-- The condition of an alarm has ended (R554): it is inactive, and leaves the list when acknowledged. When the last
active alarm clears, an EMCY with error code 0000h is sent (R558). -/
def lower (code param : Nat) (s : P1) : P1 :=
  if (s.alarms ++ s.unlisted).any (fun a => isAlarm code param a && a.active) then
    let off (l : List Alarm) := l.map fun a => if isAlarm code param a then { a with active := false } else a
    let t := showAlarms { s with alarms := (off s.alarms).filter fun a => a.active || !a.acked,
                                 unlisted := (off s.unlisted).filter (·.active) }
    if (t.alarms ++ t.unlisted).any (·.active) then t else emcy 0 code param t
  else s

/-- An event that is recorded and, in its bad state, raises the alarm of its code; in its good state it lowers it. -/
def recordAlarm (bad : Bool) (code recParam alarmParam : Nat) (s : P1) : P1 :=
  let t := record code recParam s
  if bad then raise code alarmParam t else lower code alarmParam t

/-! ### Answers and requests -/

/-- The SDO frame of a response on a channel (R549; the command specifiers are those of CiA 301, assumption 43), by the
operation answered: 2 the end of a download, 1 and 3 the start of an upload, expedited up to four octets, else with its size,
6 a segment of a download taken, 10 a segment of an upload, 7 a block of a download taken, 8 the start of a block upload, 11 a
block of one segment, 9 the end of a block transfer. -/
def sdoReply (a : Answer) : List Byte :=
  let mux := le 2 a.index ++ le 1 a.sub
  let ends : Nat := if a.total ≤ a.offset + a.data.length then 1 else 0
  if a.abort ≠ 0 then le 1 0x80 ++ mux ++ le 4 a.abort
  else match a.op with
    | 2 => le 1 0x60 ++ mux ++ zeros 4
    | 1 | 3 =>
      if a.data.length ≤ 4 then le 1 (0x43 + 4 * (4 - a.data.length)) ++ mux ++ padTo 4 a.data
      else le 1 0x41 ++ mux ++ le 4 a.data.length
    | 6 => le 1 (0x20 + 16 * (a.offset / 7 % 2)) ++ zeros 7
    | 10 => le 1 (16 * (a.offset / 7 % 2) + 2 * (7 - a.data.length) + ends) ++ padTo 7 a.data
    | 7 => le 1 0xA2 ++ le 1 127 ++ le 1 127 ++ zeros 5
    | 8 => le 1 0xC2 ++ mux ++ le 4 a.total
    | 11 => le 1 (1 + 128 * ends) ++ padTo 7 a.data
    | _ => le 1 0xA1 ++ zeros 7

/-- The channel of an SDO session (R544). -/
def sdoChannel (w : Nat) : Option (Fin 4) :=
  if h : 17 ≤ w ∧ w < 21 then some ⟨w - 17, by omega⟩ else none

/-- Port p of the DP pair works (R55). -/
def dpOn (p : Nat) (s : P1) : Bool := !s.stopped (unitAddr 1 2 0 0 p)

/-- The classifier and the network queues work. -/
def pktOn (s : P1) : Bool := !s.stopped (unitAddr 1 2 1 0 0)

/-- The DP pair carries IP traffic: a port and the classifier work, and the module has an IPv4 address (5900h:03, R454). -/
def dpIp (s : P1) : Bool := (dpOn 0 s || dpOn 1 s) && pktOn s && s.rd (ob 0x5900 3) ≠ 0

/-- Put a response into the transmit queue of the interface its request came on (R435): a full queue refuses it and counts
(R50, R427); a port that is stopped or powered down loses it. -/
def sendResponse (iface : Nat) (a : Answer) (s : P1) : P1 :=
  if iface = 0 then
    if !dpIp s then s
    else if s.net.tx[3].length < 1024 then
      { s with net := { s.net with
          tx := upd s.net.tx 3 fun l => l ++ [.response a]
          prpSeq := (s.net.prpSeq + 1) % 65536 } }
    else s.inc (ob 0x5900 0x11)
  else
    let p : Fin 2 := if iface = 1 then 0 else 1
    if s.mode = 0 || s.stopped (unitAddr 1 2 0 2 p) then s
    else if s.net.serviceTx[p].length < 256 then
      { s with net := { s.net with serviceTx := upd s.net.serviceTx p fun l => l ++ [.response a] } } else s.inc (ob 0x5900 0x11)

/-- Answer a request of a session (R547, R549): the response is kept for repeats (R434) and sent. Session 0 is the
module itself, which is not answered. -/
def answerWith (a : Answer) (s : P1) : P1 :=
  let keep (x : Session) : Session := if x.no = a.sess then { x with last := some a } else x
  let t := { s with reply := some a, sessions := s.sessions.map keep }
  match sdoChannel a.sess with
  | some c => canQueue c 2 (txFrame .sdo (0x580 + t.rdN (ob (0x6610 + c) 2)) (sdoReply a)) t
  | none =>
    match t.sessions.find? fun x => x.no = a.sess with
    | some x => sendResponse x.iface a t
    | none => t

/-- The answer to a write of an object. -/
def answer (w k abort : Nat) (s : P1) : P1 :=
  if w = 0 then s
  else
    let q := match s.sessions.find? fun x => x.no = w with
      | some x => x.seq
      | none => 0
    answerWith ⟨w, q, 2, k / 256, k % 256, abort, 0, 0, 0, 0, [], false⟩ s

/-- A session is authorised (R551); the module's own writers are. -/
def authorised (w : Nat) (s : P1) : Bool := w = 0 || s.sessions.any fun x => x.no = w && x.auth

/-- The object takes part in forwarding to a Shadow (R468): RW, or RWA outside 6000h–68FFh. -/
def forwarded (k : Nat) (acc : Acc) : Bool :=
  acc = .rw || (acc = .rwa && !(0x6000 ≤ k / 256 && k / 256 < 0x6900))

/-- Octets that a forwarded write takes of section 7 (R466). -/
def writeUse (f : ForwardedWrite) : Nat :=
  (if f.part.isSome then 16 else if f.value.length = 0 || 255 < f.value.length then 8 else 4) + f.value.length

/-- Octets of section 7 that the writes of the coming cycle take (R466). -/
def forwardUse (s : P1) : Nat := s.red.forward.foldl (fun n f => n + writeUse f) 0

/-- A write travels to the Shadows (R468): the module is Lead in a set and the writer is a session. -/
def travels (w k : Nat) (acc : Acc) (s : P1) : Bool := s.setSize ≠ 1 && s.role = 2 && w ≠ 0 && forwarded k acc

/-- A write that finds no room in section 7 (R468). -/
def noRoom (w k : Nat) (row : Row) (x : Val) (s : P1) : Bool :=
  travels w k row.acc s && 16384 < forwardUse s + writeUse ⟨k / 256, k % 256, row.ty.toBytes x, none⟩

/-- A DOMAIN write larger than the room left is staged (R468). -/
def stages (w k : Nat) (x : Val) (s : P1) : Bool :=
  match rowOf k with
  | some row => row.ty = .domain && noRoom w k row x s
  | none => false

/-- A rule of an object: its own mode test (test 5), content test (test 7) and busy test (test 8) of R538, each
answering an abort code or 0, its effect, and what a refusal with an abort leaves behind. -/
structure Rule (σ : Type) where
  mode : P1 → Nat
  check : P1 → Nat
  busy : P1 → Nat
  eff : σ → σ
  refused : Nat → P1 → P1 := fun _ s => s

/-- The size test of a value for a row (R535). -/
def sizeOk (r : Row) (x : Val) : Bool :=
  match x with
  | .num v => !r.ty.octets && r.ty.fits v
  | .bytes b => r.ty.octets && match r.rng.maximum with
    | some n => b.length ≤ n
    | none => true

/-- The access code in force for a subindex. -/
def accOf (k : Nat) : Acc :=
  match rowOf k with
  | some r => r.acc
  | none => .ro

/-- A receive buffer of another writer, or a running descriptor that reads the object, makes a write busy (R520, R548). -/
def heldByOther (w k : Nat) (s : P1) : Bool :=
  s.bufs.any (fun b => b.key = k && b.holder ≠ .session w)
    || (List.finRange 16).any fun (d : Fin 16) => match s.dma[d].run with
      | some r => (r.desc.srcKind = 1 && r.desc.srcKey = k) || (r.desc.srcKind = 0 && k = ob (0x5800 + d) 0x10)
      | none => false

/-- The abort of an RWC object outside Commissioning (R538); R125 gives the acceptance of a mount entry's refined values its own. -/
def modeAbort (k : Nat) : Nat := if 0x3200 ≤ k / 256 && k / 256 < 0x3250 && k % 256 = 0x10 then abRange else abMode

/-- The tests of R538 for a write, in order; 0 when all pass. -/
def verdict {σ : Type} (w k : Nat) (x : Val) (r : Rule σ) (s : P1) : Nat :=
  if !indexExists (k / 256) then abNoObject
  else match rowOf k with
  | none => abNoSub
  | some row =>
    if row.acc = .ro then abReadOnly
    else if !sizeOk row x then abLength
    else if w ≠ 0 && row.acc = .rwc && s.mode ≠ 1 then modeAbort k
    else if w ≠ 0 && s.setSize ≠ 1 && s.role = 1 && forwarded k row.acc then abMode
    else if r.mode s ≠ 0 then r.mode s
    else if (row.acc = .rwc || row.acc = .rwa) && !authorised w s then abAuth
    else if !row.rng.admits row.ty x then abRange
    else if r.check s ≠ 0 then r.check s
    else if heldByOther w k s then abBusy
    else if s.red.staged.any (fun g => g.key = k) then abBusy
    else if row.ty ≠ .domain && noRoom w k row x s then abBusy
    else r.busy s

/-- A Lead in a set forwards an accepted write (R468). -/
def forward (w k : Nat) (x : Val) (s : P1) : P1 :=
  match rowOf k with
  | some row =>
    if travels w k row.acc s then
      { s with red := { s.red with forward := s.red.forward ++ [⟨k / 256, k % 256, row.ty.toBytes x, none⟩] } }
    else s
  | none => s

/-- A staged write waits until its parts have been sent (R468). -/
def stage (k : Nat) (x : Val) (s : P1) : P1 :=
  match x with
  | .bytes b => { s with red := { s.red with staged := s.red.staged ++ [⟨k, b, b.length, 0⟩] } }
  | .num _ => s

/-- The objects of the units that Dormant powers down (R47): of the estimation engines, the station loop, the servo loops, the
solver engines, and the sensor and service ports (assumption 96). -/
def unpoweredObject (k : Nat) : Bool :=
  let i := k / 256
  (0x3000 ≤ i && i < 0x3040) || i = 0x3300 || (0x4000 ≤ i && i < 0x4440) || i = 0x5920 || i = 0x5921 || (0x5930 ≤ i && i < 0x5934)

/-- An accepted write takes effect; in Dormant one to an object of an unpowered unit waits until the unit is powered again (R47). -/
def takeEffect (k : Nat) (x : Val) (eff : P1 → P1) (s : P1) : P1 :=
  if s.mode = 0 && unpoweredObject k then { s with asleep := s.asleep ++ [(k, x)] } else eff s

/-- A write of an object with its rule (R538): the first failed test gives its abort, else the write is accepted, has its
effect and is forwarded; or it is staged. `ans` answers with the abort, or with 0. -/
def requestWith (ans : Nat → P1 → P1) (w k : Nat) (x : Val) (r : Rule P1) (s : P1) : P1 :=
  if verdict w k x r s = 0 then
    ans 0 (if stages w k x s then stage k x s else forward w k x (takeEffect k x r.eff s))
  else ans (verdict w k x r s) (r.refused (verdict w k x r s) s)

/-- A write of an object that is answered to its session. -/
def request (w k : Nat) (x : Val) (r : Rule P1) (s : P1) : P1 := requestWith (answer w k) w k x r s

/-- The rule of an object with no behaviour of its own: the value takes effect (R523). -/
def plainRule (k : Nat) (x : Val) : Rule P1 where
  mode := fun _ => 0
  check := fun _ => 0
  busy := fun _ => 0
  eff := fun s => match x with
    | .num v => s.wr k v
    | .bytes b => s.setOctets k b

/-- A rule with an effect alone. -/
def effRule (f : P1 → P1) : Rule P1 :=
  { mode := fun _ => 0, check := fun _ => 0, busy := fun _ => 0, eff := f }

/-- A rule with a content test and an effect. -/
def checkRule (c : P1 → Nat) (f : P1 → P1) : Rule P1 :=
  { mode := fun _ => 0, check := c, busy := fun _ => 0, eff := f }

/-! ### Outcomes -/

/-- The outcome type of a step. -/
abbrev Out := Host.Outcome State Fault Refusal

/-- A command that acts on P1 alone. P1 that is starting, without supply or stopped takes no part (R18, R55, R545). -/
def onP1 (f : P1 → P1) (s : State) : Out :=
  if s.p1.up then .next { s with p1 := f s.p1 } else .next s

/-- A request that SUP serves beside the writes of objects (R47, R48). -/
def onSup (f : P1 → P1) (s : State) : Out :=
  if s.p1.serves then .next { s with p1 := f s.p1 } else .next s

/-- A mode command (kind 1) or a write (kind 2) that P1 does not take. One in the grain of a reset is discarded by it: it
is owed a reset abort where its session survives, else it is recorded under 0258h with the target mode or the object index
(R18, R545, R590). A later one is lost. -/
def discard (kind w detail k : Nat) (s : P1) : P1 :=
  if s.phase = .off || s.phase = .run || s.elapsed ≠ s.startGrain then s
  else match s.sessions.find? fun x => x.no = w with
  | some x => { s with owed := s.owed ++ [⟨w, x.seq, 2, k / 256, k % 256, abReset, 0, 0, 0, 0, [], false⟩] }
  | none => record 0x0258 (packDetails [(8, kind), (8, w), (16, detail)]) s

/-- A write that P1 does not take: one of 2100h:01 is a mode command (R590). -/
def discardWrite (w k : Nat) (x : Val) (s : P1) : P1 :=
  match x with
  | .num v => if k = ob 0x2100 1 then discard 1 w v.toNat k s else discard 2 w (k / 256) k s
  | .bytes _ => discard 2 w (k / 256) k s

/-- A write of an object: the command of a session that acts on P1 alone. SUP takes it (R48). -/
def onReq (w k : Nat) (x : Val) (r : Rule P1) (s : State) : Out :=
  .next { s with p1 := if s.p1.serves then request w k x r s.p1 else discardWrite w k x s.p1 }

end Sys2Proof.Machine
end

