-- ==== Sys2Proof/Machine/Law.lean ====
section
/-! DEFINITION. The station control law (chapter "Station control law and Close Hold", R212–R225, R242, R79–R80): its
fixed-point arithmetic, the terms of a degree of freedom, the blend of a hand-over. -/

namespace Sys2Proof.Machine

/-! ### Arithmetic (R212–R215) -/

/-- A term q(c, x) of R213 with its saturation flag. -/
def q32 (r : Int) (shift : Nat) (x : Int) : Int × Bool :=
  let p := if 0 < shift then (r * x + 2 ^ (shift - 1)) / 2 ^ shift else r * x
  (sat32 p, sat32 p ≠ p)

/-- An FP64 value as the law takes it (R215): the I32, that it saturated, that it was not finite. -/
structure Sig where
  v : Int
  sat : Bool
  bad : Bool
deriving DecidableEq, Repr

/-- The conversion of R215. -/
def toSig : Option Rat → Sig
  | none => ⟨0, false, true⟩
  | some x => ⟨sat32 (x + 1 / 2).floor, sat32 (x + 1 / 2).floor ≠ (x + 1 / 2).floor, false⟩

/-- The FP64 engines' result for an exact value, free in its rounding. -/
def fpo (n : Nat) (q : Option Rat) : Option Rat := q.map (Config.fp64 n)

/-- 4001h+d as an index. -/
def lawIdx (d : Fin 3) : Nat := 0x4001 + d

/-- The gain scale of a grade in per mille (R220): 1000 where no grade G1–G5 is in force. -/
def gradeScale (d : Fin 3) (grade : Nat) (s : P1) : Int :=
  if 1 ≤ grade ∧ grade ≤ 5 then s.rd (ob (lawIdx d) (0x0D + grade)) else 1000

/-- The effective raw value of a gain (R220), with the weathervane factor on the yaw gains in mode 9. -/
def effGain (raw : Int) (d : Fin 3) (mode grade : Nat) (s : P1) : Int :=
  let g := (raw * gradeScale d grade s + 500) / 1000
  if mode = 9 ∧ d = 2 then (g * s.rd (ob 0x4032 4) + 500) / 1000 else g

/-! ### Inputs (R216, R217) -/

/-- What the law takes at G+0: the estimate, the wind force in vessel axes where one is available (R223), and the
joystick deflections in per mille with faulted inputs as 0 (R222, R376). -/
structure LawIn where
  pose : Pose
  wind : Option (Vector (Option Rat) 3)
  joy : Vector Int 3
deriving DecidableEq, Repr

/-- Three values of surge, sway and yaw. -/
abbrev Tri := Vector (Option Rat) 3

/-- A generator value in metres or radians. -/
def unitsQ (x : Int) : Rat := (x : Rat) / 4294967296

/-- A north-east vector rotated into vessel axes by a heading. -/
def toVessel (psi n e : Option Rat) : Option Rat × Option Rat :=
  match psi, n, e with
  | some h, some a, some b => (some (a * Config.cos h + b * Config.sin h), some (b * Config.cos h - a * Config.sin h))
  | _, _, _ => (none, none)

/-- An angle in radians wrapped into (−π, π]. -/
def wrapPi (x : Rat) : Rat := x - 2 * Config.pi * (((x / (2 * Config.pi)) - 1 / 2).ceil : Rat)

/-- Difference of two values that may not be finite. -/
def osub (a b : Option Rat) : Option Rat :=
  match a, b with
  | some x, some y => some (x - y)
  | _, _ => none

/-- A vector of surge, sway and yaw values in the units of R216: 0.1 mm and µrad. -/
def inUnits (n : Nat) (x y r : Option Rat) : Tri :=
  #v[fpo n (x.map (· * 10000)), fpo (n + 1) (y.map (· * 10000)), fpo (n + 2) (r.map (· * 1000000))]

/-- Position error (R217). -/
def posError (s : P1) (p : Pose) : Tri :=
  let g := s.ctl.gens
  let v := toVessel p.psi (osub (some (unitsQ g[0].p)) p.n) (osub (some (unitsQ g[1].p)) p.e)
  inUnits s.free v.1 v.2 ((osub (some (unitsQ g[2].p)) p.psi).map wrapPi)

/-- Velocity error (R217). -/
def velError (s : P1) (p : Pose) : Tri :=
  let g := s.ctl.gens
  let v := toVessel p.psi (osub (some (unitsQ g[0].v)) p.vn) (osub (some (unitsQ g[1].v)) p.ve)
  inUnits (s.free + 3) v.1 v.2 (osub (some (unitsQ g[2].v)) p.r)

/-- Profile acceleration and velocity in vessel axes (R224). -/
def accRef (s : P1) (p : Pose) : Tri :=
  let g := s.ctl.gens
  let v := toVessel p.psi (some (unitsQ g[0].a)) (some (unitsQ g[1].a))
  inUnits (s.free + 6) v.1 v.2 (some (unitsQ g[2].a))

/-- See `accRef`. -/
def velRef (s : P1) (p : Pose) : Tri :=
  let g := s.ctl.gens
  let v := toVessel p.psi (some (unitsQ g[0].v)) (some (unitsQ g[1].v))
  inUnits (s.free + 9) v.1 v.2 (some (unitsQ g[2].v))

/-- The free values that one law cycle draws. -/
def lawDraws : Nat := 16

/-! ### Terms -/

/-- How a degree of freedom is formed in a mode (R218). -/
inductive DofKind
  | off
  | joystick
  | law
deriving DecidableEq, Repr

/-- The table of R218. -/
def dofKind (mode : Nat) (d : Fin 3) : DofKind :=
  if mode = 4 then .joystick
  else if mode = 5 then (if d = 2 then .law else .joystick)
  else if 6 ≤ mode ∧ mode ≤ 10 then .law
  else .off

/-- The terms of a degree of freedom with their saturation flags (R214, R219); `inc` is the integrator's increment. -/
structure Terms where
  e : Int
  p : Int × Bool
  inc : Int × Bool
  d : Int × Bool
  wind : Int × Bool
  model : Int × Bool
  wave : Int × Bool
  bad : Bool
deriving DecidableEq, Repr

/-- The wind term (R223). -/
def windTerm (gain : Int) (f : Sig) : Int × Bool :=
  let w := -((2 * gain * f.v + 1000) / 2000)
  (sat32 w, f.sat || sat32 w ≠ w)

/-- The fade factor c (R242). -/
def fadeFactor (s : P1) : Int :=
  let k := s.rd (ob 0x4304 1)
  let fade := s.rd (ob 0x4300 9)
  let exit := s.rd (ob 0x4300 0x0A)
  if fade ≤ k then 32768 else if k ≤ exit then 0 else 32768 * (k - exit) / (fade - exit)

/-- The ramp r of R242 at a cycle, between 0 and 1. -/
def rampFactor (s : P1) : Rat :=
  let t := 1000 * s.rd (ob 0x4300 0x0C)
  let x : Int := (s.elapsed : Int) - s.ctl.wave.entry
  if t ≤ 0 ∨ t ≤ x then 1 else mkRat x t.toNat

/-- The signals that the law takes in a degree of freedom (R215–R217, R223, R224, R241), and c × r of R242. -/
structure LawSigs where
  ep : Sig
  ev : Sig
  ar : Sig
  vr : Sig
  fw : Sig
  wx : Sig
  wv : Sig
  wa : Sig
  wk : Int
deriving DecidableEq, Repr

/-- The wind force of a degree of freedom; 0 where none is available. -/
def windSig (d : Fin 3) (x : LawIn) : Sig :=
  match x.wind with
  | some w => toSig w[d]
  | none => ⟨0, false, false⟩

/-- The signals of a cycle. -/
def lawSigs (d : Fin 3) (x : LawIn) (s : P1) : LawSigs :=
  let w := s.ctl.wave
  { ep := toSig (posError s x.pose)[d]
    ev := toSig (velError s x.pose)[d]
    ar := toSig (accRef s x.pose)[d]
    vr := toSig (velRef s x.pose)[d]
    fw := windSig d x
    wx := toSig w.xhat[d]
    wv := toSig w.vhat[d]
    wa := toSig w.ahat[d]
    wk := (((fadeFactor s : Int) : Rat) * rampFactor s).floor }

/-- The wave term (R242); 0 outside Close Hold. -/
def waveTerm (d : Fin 3) (mode : Nat) (z : LawSigs) (s : P1) : Int × Bool × Bool :=
  if mode = 10 then
    let i := 0x4301 + d.val
    let tp := q32 (s.rd (ob i 1)) (s.rdN (ob i 2)) z.wx.v
    let tv := q32 (s.rd (ob i 3)) (s.rdN (ob i 4)) z.wv.v
    let ta := q32 (s.rd (ob i 5)) (s.rdN (ob i 6)) z.wa.v
    let sum := tp.1 + tv.1 + ta.1
    let lim := s.rd (ob i 7)
    let c := clamp (-lim) lim (sat32 sum)
    let t := q32 z.wk 15 c
    let flag := z.wx.sat || z.wv.sat || z.wa.sat || tp.2 || tv.2 || ta.2 || sat32 sum ≠ sum || c ≠ sat32 sum || t.2
    (-t.1, flag, z.wx.bad || z.wv.bad || z.wa.bad)
  else (0, false, false)

/-- The terms of a degree of freedom under the law (R219, R224). -/
def lawTerms (d : Fin 3) (mode : Nat) (z : LawSigs) (s : P1) : Terms :=
  let i := lawIdx d
  let g := s.grade
  let lim := s.rd (ob i 8)
  let e := clamp (-lim) lim z.ep.v
  let p := q32 (effGain (s.rd (ob i 1)) d mode g s) (s.rdN (ob i 2)) e
  let inc := q32 (effGain (s.rd (ob i 3)) d mode g s) (s.rdN (ob i 4)) e
  let dt := q32 (effGain (s.rd (ob i 5)) d mode g s) (s.rdN (ob i 6)) z.ev.v
  let ma := q32 (s.rd (ob i 9)) (s.rdN (ob i 0x0A)) z.ar.v
  let mv := q32 (s.rd (ob i 0x0B)) (s.rdN (ob i 0x0C)) z.vr.v
  let wv := waveTerm d mode z s
  { e := e
    p := (p.1, p.2 || z.ep.sat)
    inc := (inc.1, inc.2 || z.ep.sat)
    d := (dt.1, dt.2 || z.ev.sat)
    wind := windTerm (s.rd (ob i 0x0D)) z.fw
    model := (ma.1 + mv.1, ma.2 || mv.2 || z.ar.sat || z.vr.sat)
    wave := (wv.1, wv.2.1)
    bad := z.ep.bad || z.ev.bad || z.ar.bad || z.vr.bad || z.fw.bad || wv.2.2 }

/-- The terms of a joystick demand with the wind force (R222): the demand stands in `p`. -/
def demandTerms (d : Fin 3) (j : Int) (fw : Sig) (s : P1) : Terms :=
  let w := if s.rd (ob 0x4020 7) = 1 then windTerm (s.rd (ob (lawIdx d) 0x0D)) fw else (0, false)
  ⟨0, (sat32 j, sat32 j ≠ j), (0, false), (0, false), w, (0, false), (0, false),
    fw.bad && s.rd (ob 0x4020 7) = 1⟩

/-- The demand of a joystick degree of freedom (R222). -/
def joyDemand (d : Fin 3) (x : LawIn) (s : P1) : Int :=
  let jd := if s.rd (ob 0x4020 8) = 1 then x.joy[d] else s.rd (ob 0x4020 (1 + d))
  if (if jd < 0 then -jd else jd) ≤ s.rd (ob 0x4020 0x0C) then 0 else (jd * s.rd (ob 0x4020 (4 + d)) + 500) / 1000

/-- The feedforward of a degree of freedom. -/
def Terms.ff (t : Terms) : Int := t.wind.1 + t.model.1 + t.wave.1

/-- The output with an integrator value, and the SUM flag (R214). -/
def Terms.out (t : Terms) (i : Int) : Int × Bool :=
  let u := t.p.1 + i + t.d.1 + t.wind.1 + t.model.1 + t.wave.1
  (sat32 u, sat32 u ≠ u)

/-- The saturation flags of a degree of freedom (R246). -/
def Terms.flags (t : Terms) (inc sum : Bool) : Nat :=
  let b (x : Bool) (n : Nat) : Nat := if x then 2 ^ n else 0
  b t.p.2 0 + b inc 1 + b t.d.2 2 + b t.wind.2 3 + b t.model.2 4 + b t.wave.2 5 + b sum 6

/-- hold[d] of R221: the allocation of the previous cycle reported d saturated, and the error drives that demand on. The
first cycle of a mode never holds. -/
def holds (d : Fin 3) (e : Int) (s : P1) : Bool :=
  !s.ctl.first && s.bit (ob 0x4200 1) (5 + d)
    && ((0 < e && 0 < s.rd (ob 0x4201 (1 + d))) || (e < 0 && s.rd (ob 0x4201 (1 + d)) < 0))

/-- The integrator's update (R214, R219). -/
def integrate (i inc lim : Int) : Int := clamp (-lim) lim (i + inc)

/-! ### The blend (R79, R80) -/

/-- The length K of a blend (R80). -/
def blendLen (s : P1) : Nat := max 1 (s.rdN (ob 0x2100 5) * 1000 / s.cycleLen)

/-- The blend term b[d](k) (R80). -/
def blendTerm (r : Int) (k len : Nat) : Int := (2 * r * ((len : Int) - k) + len) / (2 * len)

/-- A component of three. -/
def Dof.get (a : Dof) (d : Fin 3) : Int := if d = 0 then a.x else if d = 1 then a.y else a.n

/-- Three values as `Dof`. -/
def dofOf (f : Fin 3 → Int) : Dof := ⟨f 0, f 1, f 2⟩

/-- The blend in force after a cycle: it ends after k = K − 1. -/
def nextBlend (b : Blend) : Option Blend := if b.k + 1 < b.len then some { b with k := b.k + 1 } else none

/-- 2100h:09 and BLEND of R97 follow the blend. -/
def showBlend (s : P1) : P1 :=
  match s.blend with
  | some b => (s.wr (ob 0x2100 9) (min 65535 (b.len - b.k))).setBit kModeStatus 1 true
  | none => (s.wr (ob 0x2100 9) 0).setBit kModeStatus 1 false

/-! ### One cycle of the law -/

/-- What a degree of freedom gives in a cycle: output u, integrator, flags, hold, whether INPUT_BAD applies, wave part,
SUM, and what it used. -/
structure DofOut where
  u : Int
  i : Int
  flags : Nat
  hold : Bool
  bad : Bool
  wave : Int
  sum : Bool
  used : LawUsed
deriving DecidableEq, Repr

/-- One degree of freedom in a cycle (R219, R222, R79); `hand` is F_ach at k = 0 of a hand-over. -/
def dofCycle (d : Fin 3) (mode : Nat) (x : LawIn) (hand : Option Dof) (s : P1) : DofOut :=
  match dofKind mode d with
  | .off => ⟨0, 0, 0, false, false, 0, false, ⟨0, 0, 0, 0, 0, 0, 0, 0, 0, 0, 0, false, false⟩⟩
  | .joystick =>
    let j := joyDemand d x s
    let t := demandTerms d j (windSig d x) s
    let o := t.out 0
    ⟨o.1, 0, t.flags false o.2, false, t.bad, 0, o.2, ⟨j, 0, 0, 0, (windSig d x).v, 0, 0, 0, 0, 0, 0, false, false⟩⟩
  | .law =>
    let z := lawSigs d x s
    let t := lawTerms d mode z s
    let lim := s.rd (ob (lawIdx d) 7)
    let old := s.rd (ob (lawIdx d) 0x13)
    let h := holds d t.e s
    let i := match hand with
      | some f => clamp (-lim) lim (f.get d - (t.p.1 + t.d.1 + t.ff))
      | none => if h then old else integrate old t.inc.1 lim
    let o := t.out i
    let moved : Bool := hand.isNone && !h && t.inc.2
    ⟨o.1, i, t.flags moved o.2, hand.isNone && h, t.bad, t.wave.1, o.2,
      ⟨z.ep.v, z.ev.v, z.ar.v, z.vr.v, z.fw.v, z.wx.v, z.wv.v, z.wa.v, z.wk, old, i, h, hand.isSome⟩⟩

/-- The demand of a degree of freedom replayed from what a Lead used (R467, R472). -/
def dofReplay (d : Fin 3) (m : Mirror) (s0 : P1) : Int :=
  let s := s0.wr kGrade m.grade
  let l := m.law.getD d ⟨0, 0, 0, 0, 0, 0, 0, 0, 0, 0, 0, false, false⟩
  let g (v : Int) : Sig := ⟨v, false, false⟩
  let u : Int := match dofKind m.mode d with
    | .off => 0
    | .joystick => ((demandTerms d l.e (g l.fw) s).out 0).1
    | .law =>
      let t := lawTerms d m.mode ⟨g l.e, g l.ev, g l.ar, g l.vr, g l.fw, g l.wx, g l.wv, g l.wa, l.wk⟩ s
      (t.out (if l.hand then l.after else if l.hold then l.before
        else integrate l.before t.inc.1 (s.rd (ob (lawIdx d) 7)))).1
  if m.blendKk = 0 then u else sat32 (u + blendTerm (m.blendR.getD d 0) m.blendK m.blendKk)

/-- The outputs as the objects of R244 to R246 and 4201h show them. -/
def showDof (d : Fin 3) (mode : Nat) (o : DofOut) (demand : Int) (s : P1) : P1 :=
  let i := lawIdx d
  let s1 := s.wrs [(ob i 0x13, o.i), (ob i 0x15, demand), (ob 0x4201 (1 + d), demand), (ob 0x4201 (4 + d), o.wave)]
  let s2 := if o.hold && !s.ctl.held[d] then s1.inc (ob i 0x14) else s1
  let s3 := s2.setBits (ob 0x4000 1)
    [(d, dofKind mode d = .law), (3 + d, dofKind mode d = .joystick), (6 + d, o.hold)]
  let s4 := (s3.setField (ob 0x4000 2) (8 * d) 7 o.flags).setField (ob 0x4000 3) (8 * d) 7
    (Nat.lor (s3.field (ob 0x4000 3) (8 * d) 7) o.flags)
  if o.sum && !s.ctl.sumRun[d] then record 0x0400 d.val s4 else s4

/-- The wave fade begins (R242): the first fall of c below 32768 after it was 32768. -/
def trackFade (mode : Nat) (s : P1) : P1 :=
  if mode = 10 then
    let c := fadeFactor s
    let s1 := (s.wr (ob 0x4304 3) c).setBit (ob 0x4304 2) 1 (c < 32768)
    if c < 32768 && s.ctl.wave.full then
      record 0x0403 0 { s1 with ctl := { s1.ctl with wave := { s1.ctl.wave with full := false } } }
    else if c = 32768 then { s1 with ctl := { s1.ctl with wave := { s1.ctl.wave with full := true } } }
    else s1
  else s

/-- The law of a cycle in an allocating mode (R219–R225). `hand` is F_ach where the cycle begins a hand-over. -/
def lawCycle (x : LawIn) (hand : Option Dof) (s0 : P1) : P1 :=
  let mode := s0.lawMode
  let s := trackFade mode s0
  let o : Fin 3 → DofOut := fun d => dofCycle d mode x hand s
  let b : Option Blend := match hand with
    | some f => some ⟨dofOf (fun d => f.get d - (o d).u), 0, blendLen s⟩
    | none => s.blend
  let dem (d : Fin 3) : Int := match b with
    | some v => sat32 ((o d).u + blendTerm (v.r.get d) v.k v.len)
    | none => (o d).u
  let t := showDof 2 mode (o 2) (dem 2) (showDof 1 mode (o 1) (dem 1) (showDof 0 mode (o 0) (dem 0) s))
  let u := (t.setBits (ob 0x4000 1) [(9, mode = 10), (10, (o 0).wave ≠ 0 || (o 1).wave ≠ 0 || (o 2).wave ≠ 0),
    (11, x.wind.isSome), (12, (o 0).bad || (o 1).bad || (o 2).bad)]).setField (ob 0x4000 1) 16 4 s.grade
  showBlend ({ u with
    blend := b.bind nextBlend
    ctl := { u.ctl with first := false, handFrom := 0, sumRun := #v[(o 0).sum, (o 1).sum, (o 2).sum],
                        held := #v[(o 0).hold, (o 1).hold, (o 2).hold],
                        used := #v[(o 0).used, (o 1).used, (o 2).used], usedBlend := b } }.drawN lawDraws)

/-- Integrators, profile generators and blend cleared, and the law's outputs with them (R218, R82). -/
def clearLaw (s : P1) : P1 :=
  let z : Gen := ⟨0, 0, 0, 0, 1⟩
  let d0 (t : P1) (d : Fin 3) : P1 :=
    t.wrs [(ob (lawIdx d) 0x13, 0), (ob (lawIdx d) 0x15, 0), (ob 0x4201 (1 + d), 0), (ob 0x4201 (4 + d), 0)]
  let t := (d0 (d0 (d0 s 0) 1) 2).wrs
    [(ob 0x4000 1, 0), (ob 0x4000 2, 0), (ob 0x4040 7, 0), (ob 0x4033 4, 0xFF), (ob 0x4304 3, 0)]
  showBlend { t with
    blend := none
    ctl := { t.ctl with gens := #v[z, z, z], sumRun := #v[false, false, false], held := #v[false, false, false],
                        first := true, handFrom := 0 } }

/-- The rule of 4000h:04. -/
def clearSaturationRule : Rule P1 := effRule fun s => s.wr (ob 0x4000 3) 0

/-- A write of a Q32's shift or of any other cell of the law: the value takes effect at the next G+0 (R212), because the
law reads it there. -/
def lawWriteRule (k : Nat) (v : Int) : Rule P1 := plainRule k (.num v)

/-! ### Meanings -/

/-- CLEAR_SATURATION_FLAGS (R246). -/
def execClearSaturationFlags (w : Nat) (v : Int) (s : State) : Out :=
  onReq w (ob 0x4000 4) (.num v) clearSaturationRule s

end Sys2Proof.Machine
end

