-- ==== Sys2Proof/Machine/Profile.lean ====
section
/-! DEFINITION. Profile generators and set-points (chapter "Station control law and Close Hold", R226–R234): the
generator of R233, captures, the set-point objects, Weathervane, Follow Target and Auto Track. -/

namespace Sys2Proof.Machine

/-! ### The estimate (R133, R217) -/

/-- Sum of values that may not be finite. -/
def oadd (a b : Option Rat) : Option Rat :=
  match a, b with
  | some x, some y => some (x + y)
  | _, _ => none

/-- Sum over the three oscillators of a degree of freedom: displacements (`off` 0) or rates (`off` 1). -/
def waveSum (x : Vector (Option Rat) 120) (d : Fin 3) (off : Fin 2) : Option Rat :=
  let g (j : Fin 3) : Option Rat := x[12 + 6 * d.val + 2 * j.val + off.val]
  oadd (oadd (g 0) (g 1)) (g 2)

/-- A vessel-axes vector in the north-east frame. -/
def toEarth (psi x y : Option Rat) : Option Rat × Option Rat :=
  match psi, x, y with
  | some h, some a, some b => (some (a * Config.cos h - b * Config.sin h), some (a * Config.sin h + b * Config.cos h))
  | _, _, _ => (none, none)

/-- The low-frequency estimate (R133). -/
def lowPose (s : P1) : Pose :=
  let x := s.fus.x
  let psi := osub x[8] (waveSum x 2 0)
  let w := toEarth psi (waveSum x 0 0) (waveSum x 1 0)
  let v := toEarth psi x[9] x[10]
  ⟨osub x[0] w.1, osub x[1] w.2, psi, v.1, v.2, x[11]⟩

/-- The kinematic estimate (R133). -/
def kinPose (s : P1) : Pose :=
  let x := s.fus.x
  ⟨x[0], x[1], x[8], x[3], x[4], oadd x[11] (waveSum x 2 1)⟩

/-- The estimate of a mode (R217). -/
def poseOf (mode : Nat) (s : P1) : Pose := if mode = 10 then kinPose s else lowPose s

/-- The origin of the north-east frame (R133); 0, 0 before the first fix. -/
def frameOrigin (s : P1) : Rat × Rat := match s.fus.origin with
  | some o => (o.1, o.2.1)
  | none => (0, 0)

/-! ### Roots with a stated precision -/

/-- The largest natural number below 2^b that meets a predicate true up to some point. -/
def greatest (p : Nat → Bool) : Nat → Nat → Nat
  | 0, acc => acc
  | b + 1, acc => if p (acc + 2 ^ b) then greatest p b (acc + 2 ^ b) else greatest p b acc

/-- An integer next to a rational number: the number where it is whole, else one of its two neighbours, free
(assumption 5). -/
def nearFree (n : Nat) (q : Rat) : Int := if (q.floor : Rat) = q then q.floor else q.floor + (Config.freeNat n % 2 : Nat)

/-- An integer next to a square root, free between its two neighbours (assumption 5). -/
def sqrtFree (n : Nat) (q : Rat) : Int :=
  let r := greatest (fun m => (m : Rat) * m ≤ q) 63 0
  if (r : Rat) * r = q then r else r + (Config.freeNat n % 2 : Nat)

/-- v_brake of R233 with a relative error `1 + δ`, rounded towards zero: the largest m with m / (1 + δ) ≤ v_brake. -/
def brakeAt (scale al jl dist : Rat) : Nat :=
  if al * al * al ≤ dist * jl * jl then
    let b := al * al / (2 * jl)
    greatest (fun m => ((m : Rat) / scale + b) * ((m : Rat) / scale + b) ≤ b * b + 2 * al * dist) 63 0
  else greatest (fun m => ((m : Rat) / scale) * ((m : Rat) / scale) * ((m : Rat) / scale) ≤ dist * dist * jl) 63 0

/-- v_brake to a relative precision of 2⁻⁴⁰, rounded towards zero (R231): any value that the precision admits. -/
def vBrake (n : Nat) (al jl dist : Rat) : Nat :=
  let eps : Rat := 1 / 1099511627776
  let lo := brakeAt (1 - eps) al jl dist
  let hi := brakeAt (1 + eps) al jl dist
  lo + Config.freeNat n % (hi - lo + 1)

/-! ### The generator (R231–R234) -/

/-- 2π in 2⁻³² rad, rounded to the nearest whole number (assumption 5). -/
def turnUnits : Int := 26986075409

/-- An angle error wrapped into (−π, π] (R232). -/
def wrapUnits (x : Int) : Int := x - turnUnits * ((2 * x - turnUnits + (2 * turnUnits - 1)) / (2 * turnUnits))

/-- The limits of a generator in 2⁻³² of its unit: velocity, acceleration, jerk. -/
structure GenLimits where
  v : Rat
  a : Rat
  j : Rat
deriving DecidableEq, Repr

/-- The limits of a generator from 4040h (R232): millimetres for north and east with their factor, microradians for
heading. -/
def genLimits (d : Fin 3) (s : P1) : GenLimits :=
  let q (k : Nat) (unit : Rat) : Rat := (s.rd (ob 0x4040 k) : Rat) * 4294967296 / unit
  if d = 2 then ⟨q 4 1000000, q 5 1000000, q 6 1000000⟩
  else
    let f := s.ctl.gens[d].scale
    ⟨f * q 1 1000, f * q 2 1000, f * q 3 1000⟩

/-- The sign of a rational. -/
def signQ (x : Rat) : Rat := if 0 < x then 1 else if x < 0 then -1 else 0

/-- A rational clamped to a range. -/
def clampQ (lo hi x : Rat) : Rat := if x < lo then lo else if hi < x then hi else x

/-- One tick of a generator (R233) with the free values from `n` on; the second component is AT_TARGET. -/
def genTick (n : Nat) (l : GenLimits) (wrap : Bool) (g : Gen) : Gen × Bool :=
  let e : Int := if wrap then wrapUnits (g.target - g.p) else g.target - g.p
  let ae : Rat := if e < 0 then -e else e
  let av : Rat := if g.v < 0 then -g.v else g.v
  let rest : Gen := { g with p := g.target, v := 0, a := 0 }
  if ae ≤ 4294967296 / 1000000 ∧ av ≤ 42949672960 / 1000000 then (rest, true)
  else
    let vb : Rat := vBrake n l.a l.j ae
    let vdes := signQ e * (if l.v < vb then l.v else vb)
    let dv := vdes - g.v
    let root : Rat := sqrtFree (n + 1) (2 * l.j * ratAbs dv)
    let ades := signQ dv * (if l.a < root then l.a else root)
    let a1 := nearFree (n + 2) (g.a + clampQ (-(l.j / 4000)) (l.j / 4000) (ades - g.a))
    let v1 := clamp (-l.v.floor) l.v.floor (nearFree (n + 3) (g.v + a1 / 4000))
    let p1 := nearFree (n + 4) (g.p + v1 / 4000)
    if e * (e - (p1 - g.p)) ≤ 0 then (rest, true) else ({ g with p := p1, v := v1, a := a1 }, false)

/-! ### Targets and captures (R226, R232) -/

/-- A number of metres or radians in generator units, with the FP64 rounding free. -/
def toUnits (n : Nat) (q : Option Rat) : Int := (Config.fp64 n (q.getD 0 * 4294967296)).floor

/-- A new horizontal target: both generators take it with the limit factors of R232. -/
def aimHoriz (n e : Int) (s : P1) : P1 :=
  let g := s.ctl.gens
  let beta := Config.atan2 ((e - g[1].p : Int) : Rat) ((n - g[0].p : Int) : Rat)
  let f (x : Rat) : Rat := if ratAbs x < 1 / 16 then 1 / 16 else ratAbs x
  { s with ctl := { s.ctl with gens := #v[{ g[0] with target := n, scale := f (Config.cos beta) },
      { g[1] with target := e, scale := f (Config.sin beta) }, g[2]] } }

/-- A new heading target. -/
def aimHeading (h : Int) (s : P1) : P1 :=
  let g := s.ctl.gens
  { s with ctl := { s.ctl with gens := #v[g[0], g[1], { g[2] with target := h }] } }

/-- Capture of the position at a value: position and target set to it, at rest (R226). -/
def captureHoriz (n e : Int) (s : P1) : P1 :=
  let g := s.ctl.gens
  { s with ctl := { s.ctl with gens := #v[⟨n, 0, 0, n, g[0].scale⟩, ⟨e, 0, 0, e, g[1].scale⟩, g[2]] } }

/-- Capture of the heading at a value. -/
def captureHeading (h : Int) (s : P1) : P1 :=
  let g := s.ctl.gens
  { s with ctl := { s.ctl with gens := #v[g[0], g[1], ⟨h, 0, 0, h, g[2].scale⟩] } }

/-- Position and heading captured at the estimate (R74). -/
def capturePose (s : P1) : P1 :=
  let p := lowPose s
  captureHeading (toUnits (s.free + 2) p.psi)
    (captureHoriz (toUnits s.free p.n) (toUnits (s.free + 1) p.e) (s.drawN 3))

/-- Heading captured at the estimate (R74). -/
def captureHdg (s : P1) : P1 := captureHeading (toUnits s.free (lowPose s).psi) s.draw

/-! ### Set-point objects (R226) -/

/-- The modes in which a set-point object may be written: 4030h:01, 02, 04 and 05 in 6 and 10; 4030h:03 and 06 in 5 as
well; 4031h:02–04 in 8; 4032h:03 and 04 in 9. -/
def setpointMode (ms : List Nat) (s : P1) : Nat := if ms.contains s.mode then 0 else abMode

/-- The latitude and longitude of the current target, as 4030h:01 and 02 read. -/
def targetLatLon (s : P1) : Rat × Rat :=
  let o := frameOrigin s
  Config.latLon o.1 o.2 (unitsQ s.ctl.gens[0].target) (unitsQ s.ctl.gens[1].target)

/-- The rule of 4030h:01 and 02. -/
def positionRule (longitude : Bool) (v : Int) : Rule P1 where
  mode := setpointMode [6, 10]
  check := fun _ => 0
  busy := fun _ => 0
  eff := fun s =>
    let c := targetLatLon s
    let q := (f64 v).q
    let o := frameOrigin s
    let t := Config.northEast o.1 o.2 (if longitude then c.1 else q) (if longitude then q else c.2)
    aimHoriz (toUnits s.free (some t.1)) (toUnits (s.free + 1) (some t.2)) (s.drawN 2)

/-- The rule of 4030h:03. -/
def headingRule (v : Int) : Rule P1 where
  mode := setpointMode [5, 6, 10]
  check := fun _ => 0
  busy := fun _ => 0
  eff := fun s => aimHeading (toUnits s.free (some ((v : Rat) / 1000000))) s.draw

/-- The rule of 4030h:04 and 05: a distance in vessel axes at the estimated heading, added to the target held. -/
def relativeMoveRule (lateral : Bool) (v : Int) : Rule P1 where
  mode := setpointMode [6, 10]
  check := fun _ => 0
  busy := fun _ => 0
  eff := fun s =>
    let d : Option Rat := some ((v : Rat) / 10000)
    let m := if lateral then toEarth (poseOf s.lawMode s).psi (some 0) d else toEarth (poseOf s.lawMode s).psi d (some 0)
    let g := s.ctl.gens
    aimHoriz (g[0].target + toUnits s.free m.1) (g[1].target + toUnits (s.free + 1) m.2) (s.drawN 2)

/-- The rule of 4030h:06. -/
def relativeTurnRule (v : Int) : Rule P1 where
  mode := setpointMode [5, 6, 10]
  check := fun _ => 0
  busy := fun _ => 0
  eff := fun s => aimHeading (s.ctl.gens[2].target + toUnits s.free (some ((v : Rat) / 1000000))) s.draw

/-- The rule of 4031h:02–04. -/
def targetOffsetRule (axis : Fin 3) (v : Int) : Rule P1 where
  mode := setpointMode [8]
  check := fun _ => 0
  busy := fun _ => 0
  eff := fun s => s.wr (ob 0x4031 (2 + axis)) v

/-- The rule of 4032h:03 and 04. -/
def weathervaneRule (factor : Bool) (v : Int) : Rule P1 where
  mode := setpointMode [9]
  check := fun _ => 0
  busy := fun _ => 0
  eff := fun s => s.wr (ob 0x4032 (if factor then 4 else 3)) v

/-- The rule of 4040h:01–06 (R234): a limit takes effect at the next servo tick, which reads it. -/
def profileLimitRule (limit : Fin 6) (v : Int) : Rule P1 := plainRule (ob 0x4040 (1 + limit)) (.num v)

/-! ### Follow Target and Weathervane (R227, R228) -/

/-- The pivot is set (R228). -/
def pivotSet (s : P1) : Bool := s.rd (ob 0x4032 1) ≠ 0 || s.rd (ob 0x4032 2) ≠ 0

/-- North and east of the pivot. -/
def pivotPos (s : P1) : Rat × Rat :=
  let o := frameOrigin s
  Config.northEast o.1 o.2 (f64 (s.rd (ob 0x4032 1))).q (f64 (s.rd (ob 0x4032 2))).q

/-- Entry to Weathervane: the radius is captured as the distance from the pivot to the estimate (R228). -/
def captureRadius (s : P1) : P1 :=
  let p := lowPose s
  let c := pivotPos s
  let dn := p.n.getD 0 - c.1
  let de := p.e.getD 0 - c.2
  (s.wr (ob 0x4032 3) (clamp 0 5000000 (Config.fp64 s.free (10000 * Config.sqrt (dn * dn + de * de))).floor)).draw

/-- The set-points of a Weathervane cycle (R228): the point at the radius on the bearing from the pivot to the estimate,
and the bearing from that point to the pivot. -/
def aimWeathervane (s : P1) : P1 :=
  let p := lowPose s
  let c := pivotPos s
  let b := Config.atan2 (p.e.getD 0 - c.2) (p.n.getD 0 - c.1)
  let r : Rat := (s.rd (ob 0x4032 3) : Rat) / 10000
  aimHeading (toUnits (s.free + 2) (some (wrapPi (b + Config.pi))))
    (aimHoriz (toUnits s.free (some (c.1 + r * Config.cos b))) (toUnits (s.free + 1) (some (c.2 + r * Config.sin b)))
      (s.drawN 3))

/-- The target pose that the constant-velocity model predicts for a time (R146). -/
def targetAt (g : Target) (tm : Int) : Rat × Rat × Rat :=
  let dt : Rat := ((tm - g.tm : Int) : Rat) / 1000000000
  (g.pose.1 + g.rate.1 * dt, g.pose.2.1 + g.rate.2.1 * dt, wrapPi (g.pose.2.2 + g.rate.2.2 * dt))

/-- The target pose predicted to the instant of this grain (R227). -/
def targetNow (g : Target) (s : P1) : Rat × Rat × Rat := targetAt g s.ns

/-- Entry to Follow Target: the offset is captured so that the set-point equals the estimate (R227). -/
def captureOffset (s : P1) : P1 :=
  match s.fus.target with
  | none => s
  | some g =>
    let (tn, te, th) := targetNow g s
    let p := lowPose s
    let v := toVessel (some th) (osub p.n (some tn)) (osub p.e (some te))
    let put (j : Nat) (x : Option Rat) (f : Rat) : Int := sat32 (Config.fp64 (s.free + j) (x.getD 0 * f)).floor
    (s.wrs [(ob 0x4031 2, put 0 v.1 10000), (ob 0x4031 3, put 1 v.2 10000),
      (ob 0x4031 4, put 2 ((osub p.psi (some th)).map wrapPi) 1000000)]).drawN 3

/-- The set-points of a Follow Target cycle (R227): the predicted target pose composed with the offset. -/
def aimTarget (s : P1) : P1 :=
  match s.fus.target with
  | none => s
  | some g =>
    let (tn, te, th) := targetNow g s
    let o := toEarth (some th) (some ((s.rd (ob 0x4031 2) : Rat) / 10000)) (some ((s.rd (ob 0x4031 3) : Rat) / 10000))
    aimHeading (toUnits (s.free + 2) (some (th + (s.rd (ob 0x4031 4) : Rat) / 1000000)))
      (aimHoriz (toUnits s.free (oadd (some tn) o.1)) (toUnits (s.free + 1) (oadd (some te) o.2)) (s.drawN 3))

/-! ### Auto Track (R229, R230) -/

/-- The waypoint list in force. -/
def trackList (s : P1) : List Byte := s.octets (ob 0x4033 1)

/-- The number of waypoints, 4033h:02. -/
def trackCount (b : List Byte) : Nat := leAt b 4 2

/-- One waypoint of a list meets R230. -/
def waypointOk (b : List Byte) (j : Nat) : Bool :=
  let o := 16 + 32 * j
  (ieeeDecode 52 11 (leAt b o 8) ≠ .bad) && (ieeeDecode 52 11 (leAt b (o + 8) 8) ≠ .bad)
    && 1 ≤ leAt b (o + 20) 2 && leAt b (o + 20) 2 ≤ 2000 && leAt b (o + 22) 2 / 2 = 0
    && leAt b (o + 24) 4 ≤ 3600000 && leAt b (o + 28) 4 = 0

/-- The checks of R230: magic, version, count against length, the CRC-32C, fields. -/
def trackOk (b : List Byte) : Bool :=
  let c := trackCount b
  leAt b 0 2 = 0x4B54 && leAt b 2 1 = 1 && leAt b 3 1 = 0 && 1 ≤ c && c ≤ 64 && leAt b 6 2 = 0 && leAt b 8 8 = 0
    && b.length = 20 + 32 * c && leAt b (16 + 32 * c) 4 = crc32c (b.take (16 + 32 * c))
    && (List.range c).all (waypointOk b)

/-- A replacement of this octet string waits for its G+0 (R128). -/
def nextBusy (k : Nat) (s : P1) : Bool := s.next.any fun e => e.1 = k

/-- An accepted content waits for the next G+0 (R128); its generation counts from its acceptance (DEDUCED, assumption 44). -/
def submitNext (k : Nat) (b : List Byte) (s : P1) : P1 :=
  { s with next := s.next ++ [(k, b)], dom := domInsert k ⟨s.octets k, s.gen k + 1⟩ s.dom }

/-- The rule of an octet string that is checked, and replaced at the next G+0 (R128). -/
def replaceRule (k : Nat) (b : List Byte) (mode : P1 → Nat) (ok : Bool) : Rule P1 where
  mode := mode
  check := fun _ => if ok then 0 else abRange
  busy := fun s => if nextBusy k s then abBusy else 0
  eff := submitNext k b

/-- The rule of 4033h:01 (R230). -/
def waypointRule (b : List Byte) : Rule P1 :=
  replaceRule (ob 0x4033 1) b (fun s => if s.mode = 7 then abMode else 0) (trackOk b)

/-- North and east of waypoint `j`. -/
def waypointPos (j : Nat) (s : P1) : Rat × Rat :=
  let b := trackList s
  let o := frameOrigin s
  Config.northEast o.1 o.2 (ieeeDecode 52 11 (leAt b (16 + 32 * j) 8)).q (ieeeDecode 52 11 (leAt b (24 + 32 * j) 8)).q

/-- Waypoint `j` becomes the target (R229): position, heading or the leg's bearing from the leg's start. -/
def aimWaypoint (j : Nat) (s : P1) : P1 :=
  let b := trackList s
  let w := waypointPos j s
  let n := toUnits s.free (some w.1)
  let e := toUnits (s.free + 1) (some w.2)
  let along := (leAt b (38 + 32 * j) 2).testBit 0
  let h : Rat := if along then Config.atan2 (unitsQ (e - s.ctl.track.fromE)) (unitsQ (n - s.ctl.track.fromN))
    else (ofBits 32 (leAt b (32 + 32 * j) 4) : Rat) / 1000000
  let t := aimHeading (toUnits (s.free + 2) (some h)) (aimHoriz n e (s.drawN 3))
  { t.wr (ob 0x4033 4) j with ctl := { t.ctl with track := { t.ctl.track with dwellFrom := none } } }

/-- Entry to Auto Track (R229): captured at the estimate, waypoint 0 the target. -/
def enterTrack (s : P1) : P1 :=
  let t := capturePose s
  let g := t.ctl.gens
  aimWaypoint 0 { t with ctl := { t.ctl with track := ⟨g[0].p, g[1].p, none⟩ } }

/-- A track is loaded and the estimate lies within the capture distance of waypoint 0 (R229). -/
def trackReady (s : P1) : Bool :=
  trackList s ≠ [] && match (lowPose s).n, (lowPose s).e with
    | some n, some e =>
      let w := waypointPos 0 s
      let d : Rat := (s.rd (ob 0x4033 3) : Rat) / 10000
      (w.1 - n) * (w.1 - n) + (w.2 - e) * (w.2 - e) ≤ d * d
    | _, _ => false

/-- The dwell of the current waypoint in grains (R229, R230). -/
def dwellSpan (s : P1) : Nat := 1000 * leAt (trackList s) (40 + 32 * s.rdN (ob 0x4033 4)) 4

/-- What remains of the dwell under way, in grains; 0 where none is. -/
def dwellLeft (s : P1) : Nat :=
  match s.ctl.track.dwellFrom with
  | some g => dwellSpan s - (s.elapsed - g)
  | none => 0

/-- At a servo tick in Auto Track, north and east at their targets begin the dwell (R229). -/
def trackTick (s : P1) : P1 :=
  if s.lawMode = 7 && s.bit (ob 0x4040 7) 0 && s.bit (ob 0x4040 7) 1 && s.ctl.track.dwellFrom.isNone then
    { s with ctl := { s.ctl with track := { s.ctl.track with dwellFrom := some s.elapsed } } }
  else s

/-- The horizontal velocity limit of the leg under way (R229), in mm/s. -/
def legLimit (s : P1) : Nat := leAt (trackList s) (36 + 32 * s.rdN (ob 0x4033 4)) 2

/-- The limits of a generator in the mode that governs: in Auto Track the leg's speed bounds the horizontal one. -/
def genLimitsIn (d : Fin 3) (s : P1) : GenLimits :=
  let l := genLimits d s
  if s.lawMode = 7 && s.rd (ob 0x4033 4) ≠ 0xFF && d ≠ 2 then
    let leg : Rat := s.ctl.gens[d].scale * ((legLimit s : Nat) : Rat) * 4294967296 / 1000
    { l with v := if leg < l.v then leg else l.v }
  else l

/-- The three generators at a servo tick, and 4040h:07. -/
def gensTick (s : P1) : P1 :=
  let r (d : Fin 3) : Gen × Bool := genTick (s.free + 5 * d) (genLimitsIn d s) (d = 2) s.ctl.gens[d]
  let t := { s with ctl := { s.ctl with gens := #v[(r 0).1, (r 1).1, (r 2).1] } }
  (t.setBits (ob 0x4040 7) [(0, (r 0).2), (1, (r 1).2), (2, (r 2).2)]).drawN 15

/-- The next waypoint after a dwell, or none at the end of the track; 0404h is recorded (R229). -/
def dwellEnd (s : P1) : P1 × Bool :=
  let j := s.rdN (ob 0x4033 4)
  let t := record 0x0404 j s
  if j + 1 < trackCount (trackList s) then
    let g := t.ctl.gens
    (aimWaypoint (j + 1) { t with ctl := { t.ctl with track := ⟨g[0].target, g[1].target, none⟩ } }, false)
  else (t, true)

/-! ### Meanings -/

/-- POSITION_SETPOINT_WRITE (R226). -/
def execPositionSetpointWrite (w : Nat) (longitude : Bool) (v : Int) (s : State) : Out :=
  onReq w (ob 0x4030 (if longitude then 2 else 1)) (.num v) (positionRule longitude v) s

/-- HEADING_SETPOINT_WRITE (R226). -/
def execHeadingSetpointWrite (w : Nat) (v : Int) (s : State) : Out :=
  onReq w (ob 0x4030 3) (.num v) (headingRule v) s

/-- RELATIVE_MOVE (R226). -/
def execRelativeMove (w : Nat) (lateral : Bool) (v : Int) (s : State) : Out :=
  onReq w (ob 0x4030 (if lateral then 5 else 4)) (.num v) (relativeMoveRule lateral v) s

/-- RELATIVE_TURN (R226). -/
def execRelativeTurn (w : Nat) (v : Int) (s : State) : Out :=
  onReq w (ob 0x4030 6) (.num v) (relativeTurnRule v) s

/-- TARGET_OFFSET_WRITE (R226, R227). -/
def execTargetOffsetWrite (w : Nat) (axis : Fin 3) (v : Int) (s : State) : Out :=
  onReq w (ob 0x4031 (2 + axis)) (.num v) (targetOffsetRule axis v) s

/-- WEATHERVANE_WRITE (R226, R228). -/
def execWeathervaneWrite (w : Nat) (factor : Bool) (v : Int) (s : State) : Out :=
  onReq w (ob 0x4032 (if factor then 4 else 3)) (.num v) (weathervaneRule factor v) s

/-- WAYPOINT_LIST_WRITE (R230). -/
def execWaypointListWrite (w : Nat) (bytes : List Byte) (s : State) : Out :=
  onReq w (ob 0x4033 1) (.bytes bytes) (waypointRule bytes) s

/-- PROFILE_LIMIT_WRITE (R234). -/
def execProfileLimitWrite (w : Nat) (limit : Fin 6) (v : Int) (s : State) : Out :=
  onReq w (ob 0x4040 (1 + limit)) (.num v) (profileLimitRule limit v) s

end Sys2Proof.Machine
end

