-- ==== Sys2Proof/Machine/Recorder.lean ====
section
/-! DEFINITION. The event recorder (chapter "Event recorder"): periods and accumulators, records, commits, the
window, freezes and clears. -/

namespace Sys2Proof.Machine

/-! ### Samples of quantities (R491) -/

/-- The bin of a sample (R491). -/
def binOf (low width v : Rat) : Nat := (clamp 0 63 (Rat.floor ((v - low) / width) + 1)).toNat

/-- An empty quantity accumulator. -/
def QuantAcc.empty : QuantAcc := ⟨0, none, none, List.replicate 64 0⟩

/-- An accumulator with one more sample: minimum and maximum keep the first time each was reached. -/
def QuantAcc.sample (a : QuantAcc) (low width v : Rat) (ns : Nat) : QuantAcc :=
  let b := binOf low width v
  { samples := min 0xFFFFFFFF (a.samples + 1)
    least := match a.least with
      | some m => if v < m.1 then some (v, ns) else some m
      | none => some (v, ns)
    most := match a.most with
      | some m => if m.1 < v then some (v, ns) else some m
      | none => some (v, ns)
    bins := a.bins.set b (min 0xFFFFFFFF (a.bins.getD b 0 + 1)) }

/-- Sample entry `j` with `v` when its quantity code is `code`. -/
def sampleEntry (code : Nat) (v : Rat) (s : P1) (j : Fin 16) : P1 :=
  if s.rdN (ob (0x6010 + j) 1) = code then
    let low := (f32 (s.rd (ob (0x6010 + j) 2))).q
    let width := (f32 (s.rd (ob (0x6010 + j) 3))).q
    { s with recorder := { s.recorder with quants := upd s.recorder.quants j fun a => a.sample low width v s.ns } }
  else s

/-- A sample of a quantity goes to every entry configured with its code (R491). -/
def sampleQuantity (code : Nat) (v : Rat) (s : P1) : P1 := (List.finRange 16).foldl (sampleEntry code v) s

/-! ### Records (R495–R499) -/

/-- The 4,096 octets of a record at its position in a log (R495). -/
def Rec.bytes (r : Rec) (position logNo : Nat) : List Byte :=
  let head := le 2 0x5243 ++ le 1 1 ++ le 1 r.kind ++ le 4 position ++ le 4 logNo ++ le 1 (r.part + 16 * r.parts)
    ++ le 1 r.flags ++ le 2 r.entries ++ le 8 r.start ++ le 8 r.stop
  let whole := padTo 4088 (head ++ r.body)
  whole ++ le 4 0x56435243 ++ le 4 (crc32c whole)

/-- The octets of a code-count entry (R497). -/
def CodeCount.bytes (c : CodeCount) : List Byte :=
  le 2 c.code ++ zeros 2 ++ le 4 c.count ++ le 4 c.suppressed ++ le 4 c.lastParam ++ le 8 c.first ++ le 8 c.last

/-- The head of a code-count body (R497). -/
def codeHead (codes unplaced : Nat) : List Byte := le 2 codes ++ zeros 2 ++ le 4 unplaced

/-- The octets of a quantity block (R496). -/
def QuantAcc.bytes (a : QuantAcc) (code : Nat) (low width : Int) : List Byte :=
  let val (m : Option (Rat × Nat)) : Int := match m with
    | some x => toF32 x.1
    | none => 0
  let time (m : Option (Rat × Nat)) : Nat := match m with
    | some x => x.2
    | none => 0
  le 1 code ++ le 1 (if a.samples = 0 then 1 else 0) ++ zeros 2 ++ le 4 (toBits 32 low) ++ le 4 (toBits 32 width)
    ++ le 4 a.samples ++ le 4 (toBits 32 (val a.least)) ++ le 4 (toBits 32 (val a.most)) ++ le 8 (time a.least)
    ++ le 8 (time a.most) ++ a.bins.flatMap fun n => le 4 n

/-- The configured quantities in ascending 6010h order. -/
def quantBlocks (s : P1) : List (List Byte) :=
  (List.finRange 16).filterMap fun (j : Fin 16) =>
    if s.rdN (ob (0x6010 + j) 1) = 0 then none
    else some (s.recorder.quants[j].bytes (s.rdN (ob (0x6010 + j) 1)) (s.rd (ob (0x6010 + j) 2))
      (s.rd (ob (0x6010 + j) 3)))

/-- Cut a list into parts of at most `n` elements; a part stands for each of the first `fuel` cuts. -/
def cut {α : Type} (n : Nat) : Nat → List α → List (List α)
  | 0, _ => []
  | fuel + 1, l => if l = [] then [] else l.take n :: cut n fuel (l.drop n)

/-- The records of one kind from the parts of their bodies. -/
def partRecords (kind flags start stop : Nat) (parts : List (Nat × List Byte)) : List Rec :=
  parts.zipIdx.map fun p => ⟨kind, p.2 + 1, parts.length, flags, p.1.1, start, stop, p.1.2⟩

/-- The code-count records of the period in progress (R497). -/
def countRecords (s : P1) (flags start : Nat) : List Rec :=
  let r := s.recorder
  let parts := if r.codes = [] then [[]] else cut 120 3 r.codes
  partRecords 3 flags start s.ns
    (parts.map fun l => (l.length, codeHead r.codes.length r.unplaced ++ l.flatMap CodeCount.bytes))

/-- The period summaries of the period in progress (R496). -/
def summaryRecords (s : P1) (flags start : Nat) : List Rec :=
  partRecords 4 flags start s.ns ((cut 8 2 (quantBlocks s)).map fun l => (l.length, l.flatten))

/-- Accumulators from zero, from the grain in progress (R490). -/
def freshAccumulators (s : P1) : P1 :=
  ({ s with recorder := { s.recorder with
      codes := [], unplaced := 0, quants := Vector.replicate 16 QuantAcc.empty, periodStart := s.ns,
      partialSpan := false, stepped := false, mergedStart := none } }).wr
    (ob 0x6120 1) s.ns

/-- A period begins in this grain (R489): the period length takes the value of 6000h:05. -/
def beginPeriod (s : P1) : P1 :=
  { s with recorder := { s.recorder with periodGrain := s.elapsed, periodLen := s.rdN (ob 0x6000 5), begun := true } }

/-- A period boundary is reached (R489): the first period starts at a whole multiple of 60,000,000 grains of module time, and each lasts
its length in elapsed grains. -/
def boundaryDue (s : P1) : Bool :=
  if s.recorder.begun then s.recorder.periodLen * 1000000 ≤ s.elapsed - s.recorder.periodGrain else s.grainIndex % 60000000 = 0

/-- A period closes (R490, R502, R589): the accumulators are closed into the period's records, or run on, to be
written MERGED, when Q78 or Q79 cannot take every part. The session buffer becomes a record. -/
def closePeriod (s : P1) : P1 :=
  let r := s.recorder
  let start := r.mergedStart.getD r.periodStart
  let base := (if r.mergedStart.isSome then 1 else 0) + (if r.freeze.isSome then 2 else 0)
    + (if r.stepped then 4 else 0) + (if r.partialSpan then 16 else 0)
  let again (kind : Nat) : Nat := if r.restart.contains kind then 8 else 0
  let cs := countRecords s (base + again 3) start
  let ss := summaryRecords s (base + again 4) start
  let t :=
    if r.counts.length + cs.length ≤ 8 && r.summaries.length + ss.length ≤ 8 then
      freshAccumulators { s with recorder := { r with
        counts := r.counts ++ cs, summaries := r.summaries ++ ss,
        restart := r.restart.filter fun k => k ≠ 3 && (k ≠ 4 || ss = []) } }
    else { s with recorder := { r with mergedStart := some start } }
  beginPeriod (showPending (closeSessions t))

/-- A period boundary (R489, R490). -/
def periodBoundary (s : P1) : P1 := if boundaryDue s then closePeriod s else s

/-! ### Commits (R500–R503) -/

/-- Take the head of the first non-empty pending queue, Q76 first (R500). -/
def Recorder.take (r : Recorder) : Option (Rec × Recorder) :=
  match r.clears, r.sessions, r.counts, r.summaries with
  | x :: l, _, _, _ => some (x, { r with clears := l })
  | [], x :: l, _, _ => some (x, { r with sessions := l })
  | [], [], x :: l, _ => some (x, { r with counts := l })
  | [], [], [], x :: l => some (x, { r with summaries := l })
  | [], [], [], [] => none

/-- A record whose commit was under way waits again. -/
def uncommit (r : Recorder) : Recorder :=
  match r.commit with
  | none => r
  | some c =>
    if c.stale then { r with commit := none }
    else match c.record.kind with
      | 1 => { r with commit := none, clears := c.record :: r.clears }
      | 2 => { r with commit := none, sessions := c.record :: r.sessions }
      | 3 => { r with commit := none, counts := c.record :: r.counts }
      | _ => { r with commit := none, summaries := c.record :: r.summaries }

/-- The number of positions of the log (R487). -/
def logSize : Nat := 32760

/-- The start of a commit (R500, R506): none while frozen, stopped or committing, nor before the cycle's last release (R22). A full log takes no record: it is
counted in 6000h:03 and discarded (R488). Commits go through DMA channel 0. -/
def recordCommit (s : P1) : P1 :=
  let r := s.recorder
  if r.commit.isSome || r.freeze.isSome || s.stopped recorderAddr || s.stopped (dmaAddr 0) || s.alc.opened then s
  else match r.take with
    | none => s
    | some (x, r') =>
      if r.log.length < logSize then
        showPending ((({ s with recorder := { r' with commit := some ⟨x, 0, false, 0⟩ } }).setBit kRec 3 true))
      else showPending (({ s with recorder := r' }).inc (ob 0x6000 3))

/-- What the management positions take with a commit (R585). -/
def mgmtNow (s : P1) : List Nat := [4, 6, 7, 8, 9].map fun k => s.rdN (ob 0x6000 k)

/-- The write response of the valid mark returns (R501): the record is committed and the next position taken. The
last position sets FULL and raises the recorder alarm (R488). A commit that a cycle start has suspended is not at its end before
that cycle's last release (R26). -/
def commitComplete (s : P1) : P1 :=
  let r := s.recorder
  match r.commit with
  | none => s
  | some c =>
    if s.alc.opened || s.stopped (dmaAddr 0) then s
    else
    let t := ({ s with recorder := { r with commit := none } }).setBit kRec 3 false
    if c.stale then t
    else
      let log := r.log ++ [c.record]
      let u := ({ t with recorder := { t.recorder with log := log, mgmt := mgmtNow s } }).wr (ob 0x6000 2) log.length
      let v := u.setBit kRec 1 (32000 ≤ log.length)
      if log.length = logSize then recordAlarm true 0x0013 0 0 (v.setBit kRec 0 true) else v

/-- A commit's write response is lost (R503): retried, 3 attempts in all; then the sequencer has failed. The failure
itself is reported by the caller as a unit fault. -/
def commitLost (s : P1) : P1 × Bool :=
  match s.recorder.commit with
  | none => (s, false)
  | some c =>
    if c.lost + 1 < 3 then
      ({ s with recorder := { s.recorder with commit := some { c with lost := c.lost + 1 } } }, false)
    else
      let r := s.recorder
      let t := ((({ s with recorder := { r with
        commit := none, clears := [], sessions := [], counts := [], summaries := [] } }).add
          (ob 0x6000 3) (r.pending + 1)).setBit kRec 3 false).setBit kRec 4 true
      (recordAlarm true 0x0013 0 0 (showPending t), true)

/-- A cycle start suspends a commit in progress until the cycle's last release (R26): one suspended across 4 consecutive cycles is counted. -/
def suspendCommit (s : P1) : P1 :=
  match s.recorder.commit with
  | none => s
  | some c =>
    let t := { s with recorder := { s.recorder with commit := some { c with cycles := c.cycles + 1 } } }
    if c.cycles + 1 = 4 then t.inc (ob 0x2001 6) else t

/-! ### Cursor and window (R505) -/

/-- The rule of 6100h:01. -/
def cursorRule (v : Int) : Rule P1 :=
  effRule fun s =>
    ({ s with recorder := { s.recorder with cursorLog := s.rdN (ob 0x6000 4) } }.wr (ob 0x6100 1) v).setBit
      (ob 0x6100 4) 2 false

/-- The rule of 6100h:03: the cursor moves by n records, clamped to the log. -/
def advanceRule (v : Int) : Rule P1 :=
  effRule fun s => s.wr (ob 0x6100 1) (clamp 0 (s.rd (ob 0x6000 2)) (s.rd (ob 0x6100 1) + v))

/-- The window 6100h:02: the 4,096 octets at the cursor, empty at or beyond the records held (R505). -/
def windowBytes (s : P1) : List Byte :=
  match s.recorder.log[s.rdN (ob 0x6100 1)]? with
  | some r => r.bytes (s.rdN (ob 0x6100 1)) (s.rdN (ob 0x6000 4))
  | none => []

/-- The window status 6100h:04 (R505, R508). -/
def windowStatus (s : P1) : Int :=
  let inside := s.rdN (ob 0x6100 1) < s.recorder.log.length
  (if inside then 1 else 2) + (if s.bit (ob 0x6100 4) 2 then 4 else 0)
    + (if s.recorder.cursorLog ≠ s.rdN (ob 0x6000 4) then 8 else 0)
    + (if s.recorder.freeze.isSome then 16 else 0)

/-- The freeze time left, in ms (6100h:06). -/
def freezeRemaining (s : P1) : Nat :=
  match s.recorder.freeze with
  | some f => (60000000 - (s.elapsed - f.2)) / 1000
  | none => 0

/-! ### Freeze (R506) -/

/-- A record that waits carries DEFERRED. -/
def Rec.defer (r : Rec) : Rec := if r.flags.testBit 1 then r else { r with flags := r.flags + 2 }

/-- Some deferred record is not yet committed. -/
def deferredLeft (r : Recorder) : Bool :=
  (r.clears ++ r.sessions ++ r.counts ++ r.summaries ++ (r.commit.map (·.record)).toList).any fun x => x.flags.testBit 1

/-- End a freeze. -/
def endFreeze (s : P1) : P1 :=
  (({ s with recorder := { s.recorder with freeze := none } }).setBit kRec 2 false).wr (ob 0x6100 5) 0

/-- The rule of a write of 1 to 6100h:05. -/
def freezeRule (w : Nat) : Rule P1 where
  mode := fun _ => 0
  check := fun _ => 0
  busy := fun s => if s.recorder.freeze.isNone && deferredLeft s.recorder then abBusy else 0
  eff := fun s =>
    if s.recorder.freeze.isSome then s
    else
      let r := s.recorder
      sessEvent 5 w 0 ((({ s with recorder := { r with
        freeze := some (w, s.elapsed), clears := r.clears.map Rec.defer, sessions := r.sessions.map Rec.defer,
        counts := r.counts.map Rec.defer, summaries := r.summaries.map Rec.defer } }).setBit kRec 2 true).wr
          (ob 0x6100 5) 1)

/-- The rule of a write of 0 to 6100h:05. -/
def releaseRule (w : Nat) : Rule P1 :=
  effRule fun s => if s.recorder.freeze.isSome then sessEvent 6 w 0 (endFreeze s) else s

/-- The rule of 6100h:05. -/
def freezeObjectRule (w : Nat) (v : Int) : Rule P1 := if v = 1 then freezeRule w else releaseRule w

/-- A freeze has lasted 60,000,000 grains (R506). -/
def freezeExpiry (s : P1) : P1 :=
  match s.recorder.freeze with
  | some f =>
    if 60000000 ≤ s.elapsed - f.2 then sessEvent 7 f.1 0 ((endFreeze s).setBit (ob 0x6100 4) 2 true) else s
  | none => s

/-! ### Clearing (R507) -/

/-- Another session holds a freeze. -/
def frozenByOther (w : Nat) (s : P1) : Bool :=
  match s.recorder.freeze with
  | some f => f.1 ≠ w
  | none => false

/-- A refusal of a clear with a value-out-of-range or busy abort buffers session event 9, the abort as its detail. -/
def clearRefused (w ab : Nat) (s : P1) : P1 :=
  if ab = abRange || ab = abBusy then sessEvent 9 w ab s else s

/-- Replace the confirm code of a session. -/
def setCode (w : Nat) (c : Option ClearCode) (s : P1) : P1 :=
  { s with sessions := s.sessions.map fun x => if x.no = w then { x with code := c } else x }

/-- The rule of 6110h:01 (R507 step 1). The code itself is a free value, never 0. -/
def clearRequestRule (w : Nat) : Rule P1 where
  mode := fun _ => 0
  check := fun _ => 0
  busy := fun s => if frozenByOther w s then abBusy else 0
  eff := fun s =>
    let code := 1 + Config.freeNat s.free % 65535
    sessEvent 8 w 0 ((setCode w (some ⟨code, s.elapsed⟩) s.draw).wr (ob 0x6110 2) code)
  refused := clearRefused w

/-- The clear that the code `v` of session `w` asks for is in order: issued to it within 30 s. -/
def codeGood (w : Nat) (v : Int) (s : P1) : Bool :=
  s.sessions.any fun x => x.no = w && match x.code with
    | some c => (c.code : Int) = v && s.elapsed - c.grain < 30000000
    | none => false

/-- The clear record of R499. -/
def clearRecord (session : Nat) (prevLog prevRecords prevOverflow : Nat) (full : Bool) (identity : List Byte)
    (flags ns : Nat) : Rec :=
  ⟨1, 1, 1, flags, 1, ns, ns,
    le 2 session ++ zeros 2 ++ le 4 prevLog ++ le 4 prevRecords ++ le 4 prevOverflow ++ le 1 (if full then 1 else 0)
      ++ zeros 7 ++ le 8 ns ++ padTo 16 identity⟩

/-- A descriptor that reads the log fails with cause 10 (R520). -/
def failLogReaders (s : P1) : P1 :=
  let mark (r : DmaRun) : DmaRun := if r.desc.srcKind = 2 then { r with lost := some 10 } else r
  { s with dma := s.dma.map fun c => { c with run := c.run.map mark } }

/-- A clear is accepted (R507, R585). -/
def clearLog (w : Nat) (s : P1) : P1 :=
  let r := s.recorder
  let ident := match s.sessions.find? fun x => x.no = w with
    | some x => x.identity
    | none => []
  let rcd := clearRecord w (s.rdN (ob 0x6000 4)) r.log.length (s.rdN (ob 0x6000 3)) (s.bit kRec 0) ident
    (closeFlags { r with freeze := none } 1) s.ns
  let t := { s with recorder := { r with
    log := [], clears := rcd :: r.clears, commit := r.commit.map fun c => { c with stale := true },
    restart := r.restart.filter (· ≠ 1) } }
  let t1 := failLogReaders (if r.freeze.isSome then endFreeze t else t)
  let t2 := ((((t1.wr (ob 0x6000 4) ((t1.rd (ob 0x6000 4) + 1) % 2 ^ 32)).wr (ob 0x6000 2) 0).clearSubs 0x6000 3 3).clearSubs
    0x6000 6 9).wr (ob 0x6110 2) 0
  let t3 := (t2.setBit kRec 0 false).setBit kRec 1 false
  showPending (setCode w none (if t3.bit kRec 4 then t3 else lower 0x0013 0 t3))

/-- The rule of 6110h:03 (R507 step 3). -/
def confirmClearRule (w : Nat) (v : Int) : Rule P1 where
  mode := fun _ => 0
  check := fun s => if codeGood w v s then 0 else abRange
  busy := fun s => if frozenByOther w s then abBusy else 0
  eff := clearLog w
  refused := clearRefused w

/-! ### Code limits (R586) -/

/-- Drop the buckets whose limits a change of 6030h or 6031h has changed: they are full again (R493). -/
def refill (before after : P1) : P1 :=
  { after with recorder := { after.recorder with
      buckets := after.recorder.buckets.filter fun b => limitOf before b.code = limitOf after b.code } }

/-- The content test of a write to 6031h. -/
def codeLimitCheck (sub : Nat) (v : Int) (s : P1) : Nat :=
  let code := v.toNat % 65536
  let burst := v.toNat / 65536 % 65536
  let rate := v.toNat / 2 ^ 32
  if code = 0 then 0
  else if burst = 0 || rate = 0 || 1000000 < rate then abRange
  else if s.od.any (fun e => e.1 / 256 = 0x6031 && e.1 % 256 ≠ sub && e.2.toNat % 65536 = code) then abRange
  else 0

/-- The rule of 6031h:sub. -/
def codeLimitRule (sub : Nat) (v : Int) : Rule P1 :=
  checkRule (codeLimitCheck sub v) fun s => refill s (s.wr (ob 0x6031 sub) v)

/-- The rule of 6030h:sub. -/
def defaultLimitRule (sub : Nat) (v : Int) : Rule P1 := effRule fun s => refill s (s.wr (ob 0x6030 sub) v)

/-! ### Meanings -/

/-- PERIOD_BOUNDARY (R490). -/
def execPeriodBoundary (s : State) : Out := onP1 periodBoundary s

/-- RECORD_COMMIT (R500). -/
def execRecordCommit (s : State) : Out := onP1 recordCommit s

/-- COMMIT_COMPLETE (R501). -/
def execCommitComplete (s : State) : Out := onP1 commitComplete s

/-- CURSOR_WRITE (R505). -/
def execCursorWrite (w : Nat) (v : Int) (s : State) : Out :=
  onReq w (ob 0x6100 1) (.num v) (cursorRule v) s

/-- CURSOR_ADVANCE (R505). -/
def execCursorAdvance (w : Nat) (v : Int) (s : State) : Out :=
  onReq w (ob 0x6100 3) (.num v) (advanceRule v) s

/-- FREEZE (R506): the write of `v` to 6100h:05. -/
def execFreeze (w : Nat) (v : Int) (s : State) : Out :=
  onReq w (ob 0x6100 5) (.num v) (freezeObjectRule w v) s

/-- FREEZE_RELEASE (R506): the write of `v` to 6100h:05. -/
def execFreezeRelease (w : Nat) (v : Int) (s : State) : Out :=
  onReq w (ob 0x6100 5) (.num v) (freezeObjectRule w v) s

/-- FREEZE_EXPIRY (R506). -/
def execFreezeExpiry (s : State) : Out := onP1 freezeExpiry s

/-- CLEAR_REQUEST (R507). -/
def execClearRequest (w : Nat) (v : Int) (s : State) : Out :=
  onReq w (ob 0x6110 1) (.num v) (clearRequestRule w) s

/-- CONFIRM_CLEAR (R507). -/
def execConfirmClear (w : Nat) (v : Int) (s : State) : Out :=
  onReq w (ob 0x6110 3) (.num v) (confirmClearRule w v) s

/-- CODE_LIMIT_WRITE (R586). -/
def execCodeLimitWrite (w : Nat) (sub : Fin 64) (v : Int) (s : State) : Out :=
  onReq w (ob 0x6031 (sub + 1)) (.num v) (codeLimitRule (sub + 1) v) s

end Sys2Proof.Machine
end

