-- ==== Sys2Proof/Machine/Thrusters.lean ====
section
/-! DEFINITION. Thrusters (chapter "Thrust allocation and thruster commands", R251–R255, R273–R280): forces, curves,
feedback, availability, frames and analog values. -/

namespace Sys2Proof.Machine

/-! ### Configuration -/

/-- A cell of 4100h+i. -/
def thrKey (i : Fin 16) (sub : Nat) : Nat := ob (0x4100 + i) sub

/-- The type of a thruster (R251); 0 where it is disabled. -/
def thrType (i : Fin 16) (s : P1) : Nat := if s.rd (thrKey i 1) = 1 then s.rdN (thrKey i 2) else 0

/-- Direction of positive thrust at zero angle in radians (R251, mount entry 64 + i). -/
def thrYaw (i : Fin 16) (s : P1) : Rat := (s.rd (ob (0x3240 + i) 6) : Rat) / 1000000

/-- Lever arm in metres. -/
def thrArm (i : Fin 16) (s : P1) : Rat × Rat :=
  ((s.rd (ob (0x3240 + i) 1) : Rat) / 10000, (s.rd (ob (0x3240 + i) 2) : Rat) / 10000)

/-- A cell of a thruster as a rational. -/
def thrQ (i : Fin 16) (sub : Nat) (s : P1) : Rat := (s.rd (thrKey i sub) : Rat)

/-- Lift factor k_r as a fraction. -/
def liftFactor (i : Fin 16) (s : P1) : Rat := thrQ i 0x0E s / 1000

/-- Apply to each thruster in order. -/
def eachThr (f : Fin 16 → P1 → P1) (s : P1) : P1 := (List.finRange 16).foldl (fun t (i : Fin 16) => f i t) s

/-- The state with a thruster changed. -/
def setThr (i : Fin 16) (f : Thruster → Thruster) (s : P1) : P1 := { s with alc := { s.alc with thr := upd s.alc.thr i f } }

/-- Unit vector at a direction in radians. -/
def unitVec (x : Rat) : Rat × Rat := (Config.cos x, Config.sin x)

/-- The force on the vessel of a thruster's variables (R251). -/
def vesselForce (i : Fin 16) (f : Rat × Rat) (s : P1) : Rat × Rat :=
  let ty := thrType i s
  if ty = 0 then (0, 0)
  else if ty = 1 then f
  else
    let e := unitVec (thrYaw i s)
    let l := if ty = 3 then f.2 else 0
    (f.1 * e.1 - l * e.2, f.1 * e.2 + l * e.1)

/-- Surge, sway and yaw of a force at a thruster (R251). -/
def wrench (i : Fin 16) (f : Rat × Rat) (s : P1) : Rat × Rat × Rat :=
  let v := vesselForce i f s
  let a := thrArm i s
  (v.1, v.2, a.1 * v.2 - a.2 * v.1)

/-- Sum of the wrenches of all thrusters. -/
def totalWrench (f : Vector (Rat × Rat) 16) (s : P1) : Rat × Rat × Rat :=
  (List.finRange 16).foldl (fun a (i : Fin 16) =>
    let w := wrench i f[i] s
    (a.1 + w.1, a.2.1 + w.2.1, a.2.2 + w.2.2)) (0, 0, 0)

/-! ### Curves (R252) -/

/-- Point k of a curve: 24h is the astern curve, 23h the ahead curve. -/
def curvePoint (i : Fin 16) (astern : Bool) (k : Nat) (s : P1) : Rat :=
  ((leAt (s.octets (thrKey i (if astern then 0x24 else 0x23))) (4 * k) 4 : Nat) : Rat)

/-- The thrust in N of a command (R252). -/
def curveThrust (i : Fin 16) (c : Int) (s : P1) : Rat :=
  let a : Nat := c.natAbs
  let k := min 7 (a / 1250)
  let lo := curvePoint i (c < 0) k s
  let hi := curvePoint i (c < 0) (k + 1) s
  let t := lo + (hi - lo) * mkRat ((a : Int) - 1250 * k) 1250
  if c < 0 then -t else t

/-- The first segment from `k` on that holds a thrust. -/
def curveSegment (i : Fin 16) (astern : Bool) (t : Rat) (s : P1) : Nat → Nat → Option Nat
  | 0, _ => none
  | n + 1, k =>
    if curvePoint i astern k s ≤ t && t ≤ curvePoint i astern (k + 1) s then some k
    else curveSegment i astern t s n (k + 1)

/-- The command of a signed thrust (R252). A thrust above the curve's end has no stated command: a free value in the
command's range. -/
def curveCommand (i : Fin 16) (t : Rat) (s : P1) : Int :=
  let a := ratAbs t
  let neg : Bool := t < 0
  let c : Int := match curveSegment i neg a s 8 0 with
    | some k =>
      let lo := curvePoint i neg k s
      let hi := curvePoint i neg (k + 1) s
      if hi = lo then 1250 * k else ((1250 * (k : Nat) : Rat) + 1250 * ((a - lo) / (hi - lo)) + 1 / 2).floor
    | none => clamp 0 10000 (Config.freeInt s.free)
  if neg then -c else c

/-- A curve of nine points starts at 0, never decreases, and ends at its bound (R252). -/
def curveOk (b : List Byte) (top : Int) : Bool :=
  b.length = 36 && leAt b 0 4 = 0 && leAt b 32 4 = top
    && (List.range 8).all fun k => leAt b (4 * k) 4 ≤ leAt b (4 * k + 4) 4

/-- The rule of 4100h+i:23 and 24. -/
def thrustCurveRule (i : Fin 16) (astern : Bool) (b : List Byte) : Rule P1 :=
  checkRule (fun s => if curveOk b (s.rd (thrKey i (if astern then 0x0A else 9))) then 0 else abRange)
    fun s => s.setOctets (thrKey i (if astern then 0x24 else 0x23)) b

/-! ### Analog inputs as sources (R376) -/

/-- An analog input is a faulted source (R376). -/
def aiFaulted (n : Nat) (s : P1) : Bool :=
  n < 16 && (s.rd (ob 0x5504 (n + 1)) ≠ 0 || s.stopped (aiAddr n) || s.stopped filterAddr)

/-- The engineering value of an analog input. -/
def aiValue (n : Nat) (s : P1) : Rat := (f64 (s.rd (ob 0x5503 (n + 1)))).q

/-! ### Feedback and availability (R253, R254) -/

/-- Field feedback: the axis, the analog input, the READY and REMOTE inputs of 4100h+i:08. -/
def fieldFb (i : Fin 16) (n : Nat) (s : P1) : Nat := s.field (thrKey i 8) (8 * n) 8

/-- A digital input as a feedback bit, as the latch takes it (R20); FFh reads as 1 (R253). -/
def diBit (n : Nat) (s : P1) : Bool := n = 0xFF || bitOf s.before.di n

/-- A thruster's feedback with its thrust and angle, as the latch takes them: a frame of the grain in progress belongs to the next
cycle (R20). -/
def latchedFb (i : Fin 16) (s : P1) : Feedback × Int × Int :=
  let f := s.alc.thr[i].fb
  if f.ok && f.grain = s.elapsed then
    let b := s.before.fb[i]
    ({ b.1 with age := min 1000 (b.1.age + 1) }, b.2)
  else (f, s.rd (thrKey i 0x2A), s.rd (thrKey i 0x2B))

/-- An axis reports a fault: it is stopped (R333). -/
def axisFaulted (a : Nat) (s : P1) : Bool := a < 8 && s.stopped (axisAddr a)

/-- Feedback is valid (R253). -/
def feedbackValid (i : Fin 16) (s : P1) : Bool :=
  let f := (latchedFb i s).1
  if s.rd (thrKey i 7) = 0 then f.ok && f.age ≤ 3 && !f.status.testBit 2
  else !(axisFaulted (fieldFb i 0 s) s) && !(aiFaulted (fieldFb i 1 s) s)

/-- READY and REMOTE of a thruster (R253). -/
def readyRemote (i : Fin 16) (s : P1) : Bool × Bool :=
  if s.rd (thrKey i 7) = 0 then ((latchedFb i s).1.status.testBit 0, (latchedFb i s).1.status.testBit 1)
  else (diBit (fieldFb i 2 s) s, diBit (fieldFb i 3 s) s)

/-- The thruster is held stopped by SF-1, status bit 5 (R283). -/
def sf1Stopped (i : Fin 16) (s : P1) : Bool := s.bit (thrKey i 0x25) 5

/-- A drive's FAULT bit sets or clears (R280, R553): the alarm 0016h of its thruster. -/
def driveFault (i : Fin 16) (was now : Bool) (s : P1) : P1 :=
  if now && !was then recordAlarm true 0x0016 i.val i.val s
  else if was && !now then lower 0x0016 i.val s else s

/-- A thruster is available (R254). -/
def available (i : Fin 16) (s : P1) : Bool :=
  thrType i s ≠ 0 && feedbackValid i s && (readyRemote i s).1 && (readyRemote i s).2 && !sf1Stopped i s
    && !s.bit (thrKey i 0x25) 9

/-- Status bits of a thruster at G+0 (R283). -/
def judgeThruster (i : Fin 16) (s : P1) : P1 :=
  let a := available i s
  let r := readyRemote i s
  let fault : Bool := thrType i s ≠ 0 && s.rd (thrKey i 7) = 0 && (latchedFb i s).1.status.testBit 2
  driveFault i (s.bit (thrKey i 0x25) 4) fault (s.setBits (thrKey i 0x25) [(0, a), (1, feedbackValid i s), (2, r.1), (3, r.2),
    (4, fault)])

/-- The configuration mask (R254). -/
def configMask (s : P1) : Nat :=
  (List.finRange 16).foldl (fun m (i : Fin 16) => if available i s then m + 2 ^ i.val else m) 0

/-- Availability is judged at G+0: one more cycle since each feedback, status bits, the mask and its record (R254). -/
def judgeAvailability (s : P1) : P1 :=
  let older (x : Thruster) : Thruster :=
    if x.fb.ok && x.fb.grain = s.elapsed then x else { x with fb := { x.fb with age := min 1000 (x.fb.age + 1) } }
  let t := eachThr judgeThruster { s with alc := { s.alc with thr := s.alc.thr.map older } }
  let m := configMask t
  let old := t.rdN (ob 0x4200 0x12)
  if m = old then t else record 0x0507 (packDetails [(16, old), (16, m)]) (t.wr (ob 0x4200 0x12) m)

/-- The octets of a feedback frame are valid (R280): length, version, thruster, check. -/
def feedbackOk (i : Fin 16) (b : List Byte) : Bool :=
  b.length = 16 && leAt b 0 1 = 1 && leAt b 3 1 % 16 = i.val && leAt b 12 4 = crc32c (b.take 12)

/-- A valid feedback frame governs from its arrival on (R279 step 6, R280). LEAD_MISMATCH ends when it names this module
(R277). -/
def takeFeedback (i : Fin 16) (b : List Byte) (s : P1) : P1 :=
  let f : Feedback := ⟨0, leAt b 1 1, leAt b 2 1 % 4, true, s.elapsed⟩
  let t := (setThr i (fun x => { x with fb := f }) s).wrs
    [(thrKey i 0x2A, ofBits 16 (leAt b 6 2)), (thrKey i 0x2B, leAt b 8 2), (thrKey i 0x2C, leAt b 10 2)]
  if (f.lead : Int) = s.rd kModuleId then
    setThr i (fun x => { x with mismatch := 0 }) (t.setBit (thrKey i 0x25) 9 false)
  else t

/-- A lead source other than this module's for 3 consecutive cycles while Lead (R277). -/
def judgeMismatch (i : Fin 16) (s : P1) : P1 :=
  let f := (latchedFb i s).1
  if thrType i s = 0 || s.rd (thrKey i 7) ≠ 0 || s.role ≠ 2 || !f.ok then s
  else if (f.lead : Int) = s.rd kModuleId then setThr i (fun x => { x with mismatch := 0 }) s
  else
    let t := setThr i (fun x => { x with mismatch := min 3 (x.mismatch + 1) }) s
    if 2 ≤ s.alc.thr[i].mismatch && !s.bit (thrKey i 0x25) 9 then
      record 0x0509 i.val (t.setBit (thrKey i 0x25) 9 true)
    else t

/-- The feedback thrust and angle in the command's units. Field signals give the angle in radians (R332); the scale of
the thrust input is not stated: a free value. -/
def feedbackCommand (i : Fin 16) (s : P1) : Int × Nat :=
  if s.rd (thrKey i 7) = 0 then ((latchedFb i s).2.1, (latchedFb i s).2.2.toNat)
  else
    let rad := (f64 ((s.before.axes.toList.map (·.value)).getD (fieldFb i 0 s) 0)).q
    (clamp (-10000) 10000 (Config.freeInt (s.free + i)), toBits 16 (rad * 65536 / (2 * Config.pi) + 1 / 2).floor)

/-- An angle code of 65,536 per revolution in radians. -/
def angleRad (a : Nat) : Rat := ((a : Nat) : Rat) * 2 * Config.pi / 65536

/-- The force of a thruster at a thrust and an angle code, in its variables (R255). -/
def forceAt (i : Fin 16) (c : Int) (angle : Nat) (s : P1) : Rat × Rat :=
  let t := curveThrust i c s
  let ty := thrType i s
  if ty = 1 then
    let e := unitVec (angleRad angle + thrYaw i s)
    (t * e.1, t * e.2)
  else if ty = 3 then
    (t, if 0 < c then t * liftFactor i s * ((ofBits 16 angle : Rat) * 2 * Config.pi / 65536) / (thrQ i 0x2D s / 1000000)
      else 0)
  else (t, 0)

/-- The variables of a thruster's feedback force (R255). -/
def feedbackForce (i : Fin 16) (s : P1) : Rat × Rat := forceAt i (feedbackCommand i s).1 (feedbackCommand i s).2 s

/-- The feedback forces of all thrusters. -/
def feedbackForces (s : P1) : Vector (Rat × Rat) 16 := Vector.ofFn fun i => if thrType i s = 0 then (0, 0) else feedbackForce i s

/-- A real force rounded half up to I32 (R268). -/
def roundForce (x : Rat) : Int := sat32 (x + 1 / 2).floor

/-- A wrench as three integers. -/
def dofWrench (w : Rat × Rat × Rat) : Dof := ⟨roundForce w.1, roundForce w.2.1, roundForce w.2.2⟩

/-- F_ach computed from the feedback latched in the last cycle (R79, R255). -/
def feedbackDof (s : P1) : Dof := dofWrench (totalWrench (feedbackForces s) s)

/-! ### Command components (R273) -/

/-- Direction of a vessel-axes vector in radians. -/
def dirOf (v : Rat × Rat) : Rat := Config.atan2 v.2 v.1

/-- The thrust command and angle of a thruster's variables (R273). -/
def commandOf (i : Fin 16) (f : Rat × Rat) (s : P1) : Int × Nat :=
  let ty := thrType i s
  if ty = 1 then
    let m := Config.sqrt (f.1 * f.1 + f.2 * f.2)
    if f.1 = 0 && f.2 = 0 then (curveCommand i 0 s, s.rdN (thrKey i 0x27))
    else (curveCommand i m s, toBits 16 (((dirOf f - thrYaw i s) * 65536 / (2 * Config.pi)) + 1 / 2).floor)
  else if ty = 3 then
    let kr := liftFactor i s
    let delta : Rat := if 0 < f.1 && kr ≠ 0 then thrQ i 0x2D s / 1000000 * f.2 / (kr * f.1) else 0
    (curveCommand i f.1 s, toBits 16 (delta * 65536 / (2 * Config.pi) + 1 / 2).floor)
  else (curveCommand i f.1 s, 0)

/-! ### Frames (R274–R276) -/

/-- The sequence of R275. -/
def frameSequence (s : P1) : Nat := s.alc.latch / 1000 / 2500 % 65536

/-- The flags octet (R274). -/
def FrameFlags.byte (f : FrameFlags) : Nat :=
  let b (x : Bool) (n : Nat) : Nat := if x then 2 ^ n else 0
  b f.lead 0 + b f.safe 1 + b f.test 2 + b f.stale 3 + b f.fallback 4 + b f.power 5 + b f.zero 6

/-- No flag set: a no-lead frame. -/
def noFlags : FrameFlags := ⟨false, false, false, false, false, false, false⟩

/-- The 24 octets of a command frame (R274). -/
def frameBytes (i : Fin 16) (fl : FrameFlags) (c : Int) (angle : Nat) (s : P1) : List Byte :=
  let b := le 1 1 ++ le 1 fl.byte ++ le 1 (s.rdN kModuleId % 4 + 4 * (s.rdN (ob 0x2000 1) % 4))
    ++ le 1 (i.val + 16 * s.rdN (thrKey i 2)) ++ le 2 (frameSequence s) ++ le 2 (s.rdN (ob 0x2100 0x12))
    ++ le 4 (s.alc.latch % 2 ^ 32) ++ le 4 s.stamp ++ le 2 (toBits 16 c) ++ le 2 angle
  b ++ le 4 (crc32c b)

/-- The identifier of a command frame (R274). -/
def frameIdent (i : Fin 16) (s : P1) : Nat := s.rdN (ob 0x4200 0x10) + 0x20 * (s.rdN kModuleId - 1) + i

/-- Queue a command frame on the thruster's channel in priority 0 (R274, R440): it replaces an earlier frame for that
thruster, which is counted as superseded. The utilisation of a LEAD frame is sampled (R491). -/
def sendFrame (i : Fin 16) (fl : FrameFlags) (c : Int) (angle : Nat) (s : P1) : P1 :=
  let ch : Fin 4 := ⟨s.rdN (thrKey i 4) % 4, Nat.mod_lt _ (by decide)⟩
  let same (f : TxFrame) : Bool := match f.kind with
    | .command k _ => k = i.val
    | _ => false
  let n := (s.can[ch].q0.filter same).length
  let q := if fl.lead then sampleQuantity (0x10 + i.val) (mkRat c.natAbs 10000) s else s
  let t := { q with can := upd q.can ch fun x => { x with q0 := x.q0.filter fun f => !same f } }
  canQueue ch 0 (txFrame (.command i.val fl.lead) (frameIdent i s) (frameBytes i fl c angle s))
    (t.add (ob (0x5600 + ch) 0x13) n)

/-! ### Analog outputs (R278, R377, R378) -/

/-- An analog output is named by a thruster component (R278). -/
def aoOfThruster (n : Nat) (s : P1) : Bool :=
  (List.finRange 16).any fun (i : Fin 16) => s.rd (thrKey i 5) = n || s.rd (thrKey i 6) = n

/-- An analog output is named by a servo loop (R235). -/
def aoOfLoop (n : Nat) (s : P1) : Bool := (List.range 32).any fun l => s.rd (ob (0x4060 + l) 5) = n

/-- The assignments of analog outputs (R278): the thrusters' components and the servo loops' outputs. -/
def aoKeys : List Nat :=
  ((List.finRange 16).flatMap fun (i : Fin 16) => [thrKey i 5, thrKey i 6]) ++ (List.range 32).map fun l => ob (0x4060 + l) 5

/-- The rule of an assignment (R278): an output that has one takes no second. -/
def aoAssignRule (k : Nat) (v : Int) : Rule P1 :=
  checkRule (fun s => if v ≠ 0xFF && aoKeys.any (fun j => j ≠ k && s.rd j = v) then abRange else 0) fun s => s.wr k v

/-- An analog output is assigned (R377). -/
def aoAssigned (n : Nat) (s : P1) : Bool := aoOfThruster n s || aoOfLoop n s

/-- The core's commanded code of an analog output; `safe` is AO_SAFE of R378. -/
def aoSet (n : Nat) (code : Int) (safe : Bool) (s : P1) : P1 :=
  if h : n < 16 then
    { s with ao := s.ao.set n code }.setBits (ob 0x5508 (n + 1)) [(0, aoAssigned n s), (3, safe)]
  else s

/-- The safe code of an analog output, 5506h. -/
def aoSafeCode (n : Nat) (s : P1) : Int := s.rd (ob 0x5506 (n + 1))

/-- The release delay of a cycle, and in an allocating mode its total power, are sampled (R491). -/
def sampleRelease (s : P1) : P1 :=
  let t := if 4 ≤ s.lawMode && s.lawMode ≤ 10 then sampleQuantity 5 (s.rd (ob 0x4201 0x0A) : Rat) s else s
  sampleQuantity 6 (s.rd (ob 0x2001 1) : Rat) t

/-- A thruster's analog components at their safe codes (R66, R278). -/
def analogSafe (i : Fin 16) (s : P1) : P1 :=
  let put (sub : Nat) (t : P1) : P1 :=
    if t.rd (thrKey i sub) = 0xFF then t else aoSet (t.rdN (thrKey i sub)) (aoSafeCode (t.rdN (thrKey i sub)) t) true t
  put 6 (put 5 s)

/-- Every analog command output at its safe value (R66, R82, R476). -/
def analogSafeAll (s : P1) : P1 := eachThr analogSafe s

/-- The analog values of a command (R278). -/
def analogCommand (i : Fin 16) (c : Int) (angle : Nat) (s : P1) : P1 :=
  let a : Int := if angle % 65536 ≤ 32768 then (angle % 65536 : Nat) else (angle % 65536 : Nat) - 65536
  let put (sub : Nat) (v : Int) (t : P1) : P1 :=
    if t.rd (thrKey i sub) = 0xFF then t else aoSet (t.rdN (thrKey i sub)) v false t
  put 6 ((2 * a * 32767 + 32768) / 65536) (put 5 ((2 * c * 32767 + 10000) / 20000) s)

/-- Send a command by a thruster's path: a frame, or analog values where `analog` allows them (R66, R274, R278). -/
def sendCommand (i : Fin 16) (fl : FrameFlags) (analog : Bool) (c : Int) (angle : Nat) (s : P1) : P1 :=
  if s.rd (thrKey i 3) = 0 then sendFrame i fl c angle s
  else if analog then analogCommand i c angle s else analogSafe i s

/-- A safe frame of a thruster (R276). -/
def safeCommand (i : Fin 16) (s : P1) : P1 :=
  let a := if s.rd (thrKey i 0x21) = 1 then s.rdN (thrKey i 0x27) else s.rdN (thrKey i 0x20)
  sendCommand i { noFlags with safe := true } false (s.rd (thrKey i 0x1F)) a s

/-- A no-lead frame of a thruster (R66). Its thrust and angle are not stated: free values. -/
def noLeadCommand (i : Fin 16) (s : P1) : P1 :=
  sendCommand i noFlags false (clamp (-10000) 10000 (Config.freeInt s.free)) (Config.freeNat (s.free + 1) % 65536)
    (s.drawN 2)

/-! ### Thruster tests (R281) -/

/-- The thruster under test, 4200h:1B. -/
def testIndex (s : P1) : Nat := s.rdN (ob 0x4200 0x1B)

/-- The next test command: the commanded values move towards 4200h:1C and 1D at the thrust and angle rates. Its frame has TEST
set and not LEAD (assumption 92). -/
def testCommand (i : Fin 16) (s : P1) : P1 :=
  let dt : Rat := ((s.cycleLen : Nat) : Rat) / 1000000
  let t0 := s.alc.thr[i].fPrev.1
  let goal := curveThrust i (s.rd (ob 0x4200 0x1C)) s
  let step := thrQ i 0x0C s * dt
  let t1 := clampQ (t0 - step) (t0 + step) goal
  let a0 : Int := s.rd (thrKey i 0x27)
  let da : Int := ofBits 16 (toBits 16 (s.rd (ob 0x4200 0x1D) - a0))
  let lim := (thrQ i 0x0D s / 1000000 * dt * 65536 / (2 * Config.pi)).floor
  let a1 := toBits 16 (a0 + clamp (-lim) lim da)
  let c := curveCommand i t1 s
  sendCommand i { noFlags with test := true } true c a1
    ((setThr i (fun x => { x with fPrev := (t1, 0) }) s).draw.wrs [(thrKey i 0x26, c), (thrKey i 0x27, a1)])

/-- The test ends (R281): recorded under 050Ah; 4200h:1B reads FFh. -/
def endTest (s : P1) : P1 :=
  if h : testIndex s < 16 then
    let i : Fin 16 := ⟨testIndex s, h⟩
    analogSafe i (record 0x050A i.val ((s.wr (ob 0x4200 0x1B) 0xFF).setBit (thrKey i 0x25) 11 false))
  else s

/-- The module sends thruster frames in a cycle in which it does not allocate (R66, R459): a Lead in Standby, Manual Lever and
Winter, any module in Commissioning. -/
def sendsIdle (s : P1) : Bool := s.lawMode = 1 || (s.role = 2 && (s.lawMode = 2 || s.lawMode = 3 || s.lawMode = 11))

/-- The frame of a thruster in a mode that does not allocate (R66, R276, R459), by the mode that governs the cycle (R69). -/
def idleCommand (i : Fin 16) (s : P1) : P1 :=
  if thrType i s = 0 || !sendsIdle s then analogSafe i s
  else if s.lawMode = 11 then safeCommand i s
  else if s.lawMode = 1 && testIndex s = i.val then testCommand i s
  else noLeadCommand i s

/-- The commands of a cycle that does not allocate wait for their release: a module that sends none has its analog outputs at
their safe values at once (R66). -/
def queueIdle (l : List (Fin 16)) (s : P1) : P1 :=
  if sendsIdle s then { s with alc := { s.alc with queue := (l.filter fun i => thrType i s ≠ 0).map fun i => ⟨i, none⟩ } }
  else analogSafeAll { s with alc := { s.alc with queue := [] } }

end Sys2Proof.Machine
end

