-- ==== Sys2Proof/Machine/Alloc.lean ====
section
/-! DEFINITION. Allocation (chapter "Thrust allocation and thruster commands", R256–R272): the sets of a cycle, the
iterations, the power limit, stale results and fallback tables. -/

namespace Sys2Proof.Machine

/-- A full turn in µrad. -/
def turnMicro : Rat := 2 * Config.pi * 1000000

/-- An angle in µrad reduced to one turn. -/
def normMicro (x : Rat) : Rat := x - turnMicro * ((x / turnMicro).floor : Rat)

/-- The station cycle in seconds. -/
def cycleSec (s : P1) : Rat := ((s.cycleLen : Nat) : Rat) / 1000000

/-! ### Sectors and arcs (R263) -/

/-- An arc or sector: its start in µrad and its length clockwise. -/
structure Arc where
  start : Rat
  len : Rat
deriving DecidableEq, Repr

/-- The SF-2 sectors of a thruster: those of every sector axis that names it (6820h+a), in µrad. -/
def sf2Sectors (i : Fin 16) (s : P1) : List Arc :=
  (List.range 8).flatMap fun a =>
    let k := 0x6820 + a
    if s.rd (ob k 1) = i.val && s.rd (ob k 0x0C) ≠ 0 then
      (List.range (s.rdN (ob k 2))).map fun j =>
        let q (x : Int) : Rat := (x : Rat) * turnMicro / (s.rd (ob k 0x0C) : Rat)
        ⟨q (s.rd (ob k (3 + 2 * j))), normMicro (q (s.rd (ob k (4 + 2 * j))) - q (s.rd (ob k (3 + 2 * j))))⟩
    else []

/-- The forbidden sectors of a thruster (R263): its own pairs, and the SF-2 sectors. -/
def forbidden (i : Fin 16) (s : P1) : List Arc :=
  ((List.range 4).filterMap fun j =>
    let a := s.rd (thrKey i (0x14 + 2 * j))
    let b := s.rd (thrKey i (0x15 + 2 * j))
    if a = b then none else some ⟨(a : Rat), normMicro ((b : Rat) - (a : Rat))⟩) ++ sf2Sectors i s

/-- A direction lies in an arc. -/
def inArc (x : Rat) (a : Arc) : Bool := normMicro (x - a.start) ≤ a.len

/-- A direction is forbidden. -/
def isForbidden (i : Fin 16) (x : Rat) (s : P1) : Bool := (forbidden i s).any (inArc x)

/-- Insert into an ascending list. -/
def insertQ (x : Rat) : List Rat → List Rat
  | [] => [x]
  | y :: r => if x ≤ y then x :: y :: r else y :: insertQ x r

/-- The allowed arcs numbered clockwise from azimuth 0 (R263): each begins where a forbidden sector ends in no other one,
and runs to the next start of a forbidden sector. -/
def arcs (i : Fin 16) (s : P1) : List Arc :=
  let f := forbidden i s
  let strictly (x : Rat) (a : Arc) : Bool := normMicro (x - a.start) < a.len && normMicro (x - a.start) ≠ 0
  let ends := ((f.map fun a => normMicro (a.start + a.len)).filter fun x => !f.any (strictly x)).eraseDups
  let len (x : Rat) : Rat := f.foldl (fun m a => let d := normMicro (a.start - x); if d < m then d else m) turnMicro
  let l := (ends.foldl (fun acc x => insertQ x acc) []).map fun x => (⟨x, len x⟩ : Arc)
  match l.find? (fun a => inArc 0 a && a.start ≠ 0) with
  | some w => w :: l.filter (fun a => a ≠ w)
  | none => l

/-- An arc by its number; 0 is the full circle. -/
def arcNo (n : Nat) (i : Fin 16) (s : P1) : Arc := if n = 0 then ⟨0, turnMicro⟩ else (arcs i s).getD (n - 1) ⟨0, turnMicro⟩

/-- The number of the arc that contains a direction, or else of the arc whose edge is nearest. -/
def arcOf (i : Fin 16) (x : Rat) (s : P1) : Nat :=
  let l := arcs i s
  if forbidden i s = [] then 0
  else
    let dist (a : Arc) : Rat :=
      if inArc x a then 0
      else minQ (normMicro (a.start - x)) (normMicro (x - a.start - a.len))
    let best := l.zipIdx.foldl (fun (m : Nat × Rat) e => if dist e.1 < m.2 then (e.2 + 1, dist e.1) else m) (0, turnMicro)
    best.1
where
  /-- The smaller of two rationals. -/
  minQ (a b : Rat) : Rat := if a < b then a else b

/-- The previous commanded azimuth angle in µrad. -/
def alphaPrev (i : Fin 16) (s : P1) : Rat := angleRad (s.rdN (thrKey i 0x27)) * 1000000

/-- The azimuth angle of a vector in µrad. -/
def azimuthOf (i : Fin 16) (v : Rat × Rat) (s : P1) : Rat := normMicro ((dirOf v - thrYaw i s) * 1000000)

/-- Magnitude of a vector. -/
def magOf (v : Rat × Rat) : Rat := Config.sqrt (v.1 * v.1 + v.2 * v.2)

/-- The part of a clockwise way of less than a turn that lies in an arc. -/
def overlap (start len : Rat) (a : Arc) : Rat :=
  let d := normMicro (a.start - start)
  let tail := d + a.len - turnMicro
  (if d < len then arcOf.minQ a.len (len - d) else 0) + (if 0 < tail then arcOf.minQ tail len else 0)

/-- Forbidden angle, and whether an SF-2 sector is crossed, on the clockwise way from a direction over a length: what the allowed
arcs leave of it. -/
def routeCost (i : Fin 16) (start len : Rat) (s : P1) : Rat × Bool :=
  (len - (arcs i s).foldl (fun m a => m + overlap start len a) 0, (sf2Sectors i s).any fun a => 0 < overlap start len a)

/-- Arc selection of an azimuth before the job (R263). -/
def selectArc (i : Fin 16) (s : P1) : P1 :=
  let x := s.alc.thr[i]
  let h := thrQ i 0x12 s
  let step := thrQ i 0x0D s * cycleSec s
  let showArc (n : Nat) (t : P1) : P1 := t.setField (thrKey i 0x25) 16 4 n
  match x.transit with
  | some tr =>
    let b := arcNo tr.toArc i s
    let left := if inArc tr.angle b then 0
      else if tr.clockwise then normMicro (b.start - tr.angle) else normMicro (tr.angle - b.start - b.len)
    let mv := if step < left + h then step else left + h
    let a1 := normMicro (if tr.clockwise then tr.angle + mv else tr.angle - mv)
    let deep := if tr.clockwise then normMicro (a1 - b.start) else normMicro (b.start + b.len - a1)
    if inArc a1 b && h ≤ deep then
      (showArc tr.toArc (setThr i (fun y => { y with transit := none }) s)).setBit (thrKey i 0x25) 6 false
    else setThr i (fun y => { y with transit := some { tr with angle := a1 } }) s
  | none =>
    let cur := s.field (thrKey i 0x25) 16 4
    let a := arcNo cur i s
    let td := if s.alc.first || magOf x.ft < thrQ i 9 s / 100 then alphaPrev i s else azimuthOf i x.ft s
    if forbidden i s = [] then showArc 0 s
    else if cur = 0 then showArc (arcOf i td s) s
    else if inArc td a then s
    else
      let bn := arcOf i td s
      let b := arcNo bn i s
      let dl := normMicro (a.start - td)
      let dr := normMicro (td - a.start - a.len)
      let near := if dl < dr then dl else dr
      if bn = cur || near ≤ h then s
      else
        let al := alphaPrev i s
        let cw := routeCost i al (normMicro (b.start - al)) s
        let cc := routeCost i (b.start + b.len) (normMicro (al - b.start - b.len)) s
        let pick : Option Bool :=
          if cw.2 && cc.2 then none else if cw.2 then some false else if cc.2 then some true
          else some (cw.1 ≤ cc.1)
        match pick with
        | none => s
        | some dir =>
          record 0x0506 (packDetails [(8, i.val), (8, bn)])
            ((setThr i (fun y => { y with transit := some ⟨al, dir, bn⟩ }) s).setBit (thrKey i 0x25) 6 true)

/-- ANGLE_LIMITED (R262). -/
def angleLimited (i : Fin 16) (s : P1) : Bool :=
  let d := normMicro (angleRad (feedbackCommand i s).2 * 1000000 - alphaPrev i s)
  thrQ i 0x13 s < (if turnMicro - d < d then turnMicro - d else d)

/-- The branch of a main propeller (R261): it changes only where t_prev = 0. -/
def selectBranch (i : Fin 16) (s : P1) : P1 :=
  let x := s.alc.thr[i]
  let hys := thrQ i 0x10 s
  if x.fPrev.1 = 0 then
    if x.ft.1 < -hys then s.setBit (thrKey i 0x25) 7 true
    else if hys < x.ft.1 then s.setBit (thrKey i 0x25) 7 false else s
  else s

/-- Arc and branch selection, and ANGLE_LIMITED, for every thruster before the job. -/
def selectSets (s : P1) : P1 :=
  eachThr (fun i t =>
    if !available i t then t
    else if thrType i t = 1 then (selectArc i t).setBit (thrKey i 0x25) 8 (angleLimited i t)
    else if thrType i t = 3 then selectBranch i t else t) s

/-! ### Projection (R260–R262) -/

/-- Projection of a tunnel or fixed thruster (R260). -/
def projScalar (fneg fpos rT tp t : Rat) : Rat :=
  clampQ (if -fneg < tp - rT then tp - rT else -fneg) (if tp + rT < fpos then tp + rT else fpos) t

/-- Projection of a main propeller (R261). -/
def projMain (astern : Bool) (fneg fpos rT rlT kr : Rat) (prev v : Rat × Rat) : Rat × Rat :=
  let tp := prev.1
  if astern then
    (clampQ (if -fneg < tp - rT then tp - rT else -fneg) (if tp + rT < 0 then tp + rT else 0) v.1, 0)
  else
    let t := clampQ (if 0 < tp - rT then tp - rT else 0) (if tp + rT < fpos then tp + rT else fpos) v.1
    let lo := if -(kr * t) < prev.2 - rlT then prev.2 - rlT else -(kr * t)
    let hi := if prev.2 + rlT < kr * t then prev.2 + rlT else kr * t
    (t, if lo ≤ hi then clampQ lo hi v.2 else clampQ (-(kr * t)) (kr * t) v.2)

/-- The nearer edge of an interval on the circle, or the direction itself inside it. -/
def edgeOf (x lo len : Rat) : Rat :=
  if normMicro (x - lo) ≤ len then x
  else if normMicro (lo - x) < normMicro (x - lo - len) then lo else lo + len

/-- Intersection of the window about α_prev with the arc in force: start and length (R262). -/
def windowOf (alpha half : Rat) (a : Arc) : Rat × Rat :=
  if a.len = turnMicro then (alpha - half, 2 * half)
  else
    let off := normMicro (alpha - half - a.start)
    if off ≤ a.len then (alpha - half, if 2 * half < a.len - off then 2 * half else a.len - off)
    else
      let d := normMicro (a.start - (alpha - half))
      if d ≤ 2 * half then (a.start, if a.len < 2 * half - d then a.len else 2 * half - d)
      else (edgeOf alpha a.start a.len, 0)

/-- Dot product with a unit vector. -/
def dotU (v e : Rat × Rat) : Rat := v.1 * e.1 + v.2 * e.2

/-- Projection of an azimuth (R262). -/
def projAzimuth (i : Fin 16) (v : Rat × Rat) (s : P1) : Rat × Rat :=
  let x := s.alc.thr[i]
  let ftr := thrQ i 0x11 s
  match x.transit with
  | some tr =>
    let e := unitVec (tr.angle / 1000000 + thrYaw i s)
    let m := clampQ 0 ftr (dotU v e)
    (m * e.1, m * e.2)
  | none =>
    let w := windowOf (alphaPrev i s) (thrQ i 0x0D s * cycleSec s) (arcNo (s.field (thrKey i 0x25) 16 4) i s)
    let e := unitVec (edgeOf (azimuthOf i v s) w.1 w.2 / 1000000 + thrYaw i s)
    let mp := magOf x.fPrev
    let rT := thrQ i 0x0C s * cycleSec s
    let lo0 := if 0 < mp - rT then mp - rT else 0
    let hi0 := if mp + rT < thrQ i 9 s then mp + rT else thrQ i 9 s
    let hi := if s.bit (thrKey i 0x25) 8 && ftr < hi0 then ftr else hi0
    let lo := if hi < lo0 && s.bit (thrKey i 0x25) 8 then hi else lo0
    let m := clampQ lo hi (dotU v e)
    (m * e.1, m * e.2)

/-- Projection onto the set of a thruster in this cycle; {0} where it is not available (R258). -/
def projThr (i : Fin 16) (v : Rat × Rat) (s : P1) : Rat × Rat :=
  if !s.bit (thrKey i 0x25) 0 then (0, 0)
  else
    let p := s.alc.thr[i].fPrev
    let rT := thrQ i 0x0C s * cycleSec s
    match thrType i s with
    | 1 => projAzimuth i v s
    | 3 => projMain (s.bit (thrKey i 0x25) 7) (thrQ i 0x0A s) (thrQ i 9 s) rT (thrQ i 0x0F s * cycleSec s)
        (liftFactor i s) p v
    | 0 => (0, 0)
    | _ => (projScalar (thrQ i 0x0A s) (thrQ i 9 s) rT p.1 v.1, 0)

/-- Projection of every thruster's force. -/
def projAll (f : Vector (Rat × Rat) 16) (s : P1) : Vector (Rat × Rat) 16 := Vector.ofFn fun i => projThr i f[i] s

/-! ### The problem and the iterations (R256–R265) -/

/-- The variables of the problem: thruster and component (R251, R254). -/
def forceVars (s : P1) : List (Fin 16 × Bool) :=
  (List.finRange 16).flatMap fun (i : Fin 16) =>
    match thrType i s with
    | 0 => []
    | 1 | 3 => [(i, false), (i, true)]
    | _ => [(i, false)]

/-- The scale of a thruster's variables (R256). -/
def varScale (i : Fin 16) (s : P1) : Rat :=
  let a := thrQ i 9 s
  let b := thrQ i 0x0A s
  let m := if a < b then b else a
  if m = 0 then 1 else m

/-- A component of a force. -/
def comp (v : Rat × Rat) (second : Bool) : Rat := if second then v.2 else v.1

/-- A component of the demand's scale, 4200h:05–07. -/
def demandScale (d : Fin 3) (s : P1) : Rat := (s.rd (ob 0x4200 (5 + d)) : Rat)

/-- A component of a wrench. -/
def wcomp (w : Rat × Rat × Rat) (d : Fin 3) : Rat := if d = 0 then w.1 else if d = 1 then w.2.1 else w.2.2

/-- The column of B of a variable, in scaled units. -/
def columnB (v : Fin 16 × Bool) (s : P1) : Fin 3 → Rat := fun d =>
  wcomp (wrench v.1 (if v.2 then (0, varScale v.1 s) else (varScale v.1 s, 0)) s) d / demandScale d s

/-- The change weight of a thruster, with the factor of R257. -/
def changeWeight (i : Fin 16) (s : P1) : Rat :=
  thrQ i 0x1D s / 1000 * (if s.bit (ob 0x4200 1) 8 && s.rd (thrKey i 0x1E) = 0 then (s.rd (ob 0x4200 0x0B) : Rat) else 1)

/-- The rows of the matrix K (R259). -/
def matrixK (s : P1) : List (List Rat) :=
  let vs := forceVars s
  let m := vs.length
  let rho := (f32 (s.rd (ob 0x4200 8))).q
  let sigma : Rat := 1 / 1000000
  let diag (j k : Nat) (x : Rat) : Rat := if j = k then x else 0
  let rowF (e : (Fin 16 × Bool) × Nat) : List Rat :=
    let w := 2 * (thrQ e.1.1 0x1C s / 1000 + changeWeight e.1.1 s)
    (List.range m).map (fun k => diag e.2 k (w + sigma + rho)) ++ [0, 0, 0]
      ++ (List.finRange 3).map fun (d : Fin 3) => columnB e.1 s d
  let rowS (d : Fin 3) : List Rat :=
    List.replicate m 0
      ++ (List.finRange 3).map (fun (e : Fin 3) => diag d e (2 * (f32 (s.rd (ob 0x4200 (2 + d)))).q + sigma))
      ++ (List.finRange 3).map fun (e : Fin 3) => diag d e (-1)
  let rowN (d : Fin 3) : List Rat :=
    vs.map (fun v => columnB v s d) ++ (List.finRange 3).map (fun (e : Fin 3) => diag d e (-1))
      ++ (List.finRange 3).map fun (e : Fin 3) => diag d e (-sigma)
  (vs.zipIdx.map rowF) ++ (List.finRange 3).map rowS ++ (List.finRange 3).map rowN

/-- The elements of K as SUP writes them (R259), as F64 bits: of the lower triangle in original numbering (assumption 4). -/
def elementK (k : List (List Rat)) (i j : Nat) : Nat :=
  (toF64 (Config.fp64 (64 * i + j) ((k.getD i []).getD j 0))).toNat

/-- Structure 2 as it is resident (R259). -/
def allocStructure (s : P1) : Spelled := spell (s.octets (ob 0x4412 1))

/-- The delta list of a cycle (R185, R259): the elements of K that differ from the resident values. -/
def allocDelta (s : P1) : List Byte :=
  let x := allocStructure s
  let k := matrixK s
  let l := (densePattern k.length).filterMap fun e => match deltaPos x e.1 e.2 with
    | some p => if x.values.getD p 0 = elementK k e.1 e.2 then none else some (e.1, e.2, elementK k e.1 e.2)
    | none => none
  if l = [] then [] else layDelta 2 (s.rdN (ob 0x4412 2)) l

/-- One state of the iteration: z, u, f̃ in N, x and ν in scaled units. -/
structure Iter where
  z : Vector (Rat × Rat) 16
  u : Vector (Rat × Rat) 16
  ft : Vector (Rat × Rat) 16
  x : List Rat
  nu : List Rat
deriving DecidableEq, Repr

/-- The right side of a solve (R264). -/
def rightSide (it : Iter) (s : P1) : List Rat :=
  let vs := forceVars s
  let rho := (f32 (s.rd (ob 0x4200 8))).q
  let sigma : Rat := 1 / 1000000
  let f (e : (Fin 16 × Bool) × Nat) : Rat :=
    let v := e.1
    let sc := varScale v.1 s
    sigma * it.x.getD e.2 0 + 2 * changeWeight v.1 s * comp (s.alc.thr[v.1]).fPrev v.2 / sc
      + rho * (comp it.z[v.1] v.2 - comp it.u[v.1] v.2) / sc
  vs.zipIdx.map f ++ (List.range 3).map (fun j => sigma * it.x.getD (vs.length + j) 0)
    ++ (List.finRange 3).map fun (d : Fin 3) => (s.rd (ob 0x4201 (1 + d)) : Rat) / demandScale d s

/-- A solve (R264) with the resident factor: x, ν and f̃ from the engine's solution; `k` numbers its roundings. -/
def solveStep (k : Nat) (f : List Column) (it : Iter) (s : P1) : Iter :=
  let vs := forceVars s
  let perm := (allocStructure s).perm
  let b := rightSide it s
  let y := solveWith f (perm.map fun i => b.getD i 0)
  let sol := (List.range perm.length).map fun i => Config.fp64 (s.free + 64 * k + i) (y.getD (perm.idxOf i) 0)
  let val (i : Fin 16) (second : Bool) : Rat :=
    match vs.findIdx? (fun v => v = (i, second)) with
    | some k => sol.getD k 0 * varScale i s
    | none => 0
  { it with ft := Vector.ofFn fun i => (val i false, val i true), x := sol.take (vs.length + 3), nu := sol.drop (vs.length + 3) }

/-- Componentwise sum and difference of forces. -/
def vadd (a b : Vector (Rat × Rat) 16) : Vector (Rat × Rat) 16 := Vector.ofFn fun i => (a[i].1 + b[i].1, a[i].2 + b[i].2)
/-- See `vadd`. -/
def vsub (a b : Vector (Rat × Rat) 16) : Vector (Rat × Rat) 16 := Vector.ofFn fun i => (a[i].1 - b[i].1, a[i].2 - b[i].2)

/-- The iterations from the second on. -/
def iterate (f : List Column) (s : P1) : Nat → Iter → Iter
  | 0, it => it
  | n + 1, it =>
    let z := projAll (vadd it.ft it.u) s
    iterate f s n (solveStep n f { it with z := z, u := vsub (vadd it.u it.ft) z } s)

/-- The start of the iterations (R192, R265): cold in the first cycle of an allocating mode and where the warm start is refused,
else warm. -/
def startIter (cold : Bool) (s : P1) : Iter :=
  let prev : Vector (Rat × Rat) 16 := Vector.ofFn fun i => s.alc.thr[i].fPrev
  let zero : Vector (Rat × Rat) 16 := Vector.replicate 16 (0, 0)
  let vs := forceVars s
  if cold then
    let w := totalWrench prev s
    ⟨prev, zero, zero, vs.map (fun v => comp prev[v.1] v.2 / varScale v.1 s)
      ++ (List.finRange 3).map (fun (d : Fin 3) => (wcomp w d - (s.rd (ob 0x4201 (1 + d)) : Rat)) / demandScale d s), []⟩
  else ⟨Vector.ofFn fun i => s.alc.thr[i].z, Vector.ofFn fun i => s.alc.thr[i].u, zero, s.alc.x, []⟩

/-- `n` iterations of the ALLOC job (R264) with a factor. -/
def admm (n : Nat) (cold : Bool) (f : List Column) (s : P1) : Iter :=
  let it := startIter cold s
  iterate f s (n - 1) (solveStep n f { it with z := projAll it.z s } s)

/-- The solution of an ALLOC record (R265): z, then s, then ν, in scaled units. -/
def allocSolution (it : Iter) (s : P1) : List Rat :=
  let vs := forceVars s
  (vs.map fun v => comp it.z[v.1] v.2 / varScale v.1 s) ++ it.x.drop vs.length ++ it.nu

/-- The warm state a delivered result leaves with the structure (R265). -/
def keepWarm (it : Iter) (s : P1) : P1 :=
  let t := eachThr (fun i => setThr i fun x => { x with z := it.z[i], u := it.u[i], ft := it.ft[i] }) s
  { t with alc := { t.alc with x := it.x } }

/-- What the matrix K depends on (R259): weights, ρ, enables, types, mounts and the state of R257. -/
def matrixKey (s : P1) : List Int :=
  (s.rd (ob 0x4200 8)) :: (if s.bit (ob 0x4200 1) 8 then 1 else 0) :: s.rd (ob 0x4200 0x0B)
    :: ((List.range 3).map fun d => s.rd (ob 0x4200 (2 + d)))
    ++ (List.finRange 16).flatMap fun (i : Fin 16) =>
      [s.rd (thrKey i 1), s.rd (thrKey i 2), s.rd (thrKey i 0x1C), s.rd (thrKey i 0x1D), s.rd (thrKey i 0x1E),
        s.rd (ob (0x3240 + i) 1), s.rd (ob (0x3240 + i) 2), s.rd (ob (0x3240 + i) 6)]

/-- WAVE_WEIGHTS and REFACTORED of a cycle (R257, R259). -/
def prepareMatrix (s : P1) : P1 :=
  let w : Bool := (List.range 3).any fun d => s.rd (ob 0x4201 (4 + d)) ≠ 0
  let t := s.setBit (ob 0x4200 1) 8 w
  let k := matrixKey t
  { t with alc := { t.alc with matrix := k } }.setBit (ob 0x4200 1) 9 (k ≠ s.alc.matrix || allocDelta t ≠ [])

/-! ### Power and rate overrides (R266, R267) -/

/-- Thrust magnitude of a thruster's variables. -/
def thrustMag (i : Fin 16) (f : Rat × Rat) (s : P1) : Rat := if thrType i s = 1 then magOf f else ratAbs f.1

/-- The power of a thruster in kW (R266). -/
def powerOf (i : Fin 16) (f : Rat × Rat) (s : P1) : Rat :=
  let top := if thrType i s = 3 && f.1 < 0 then thrQ i 0x0A s else thrQ i 9 s
  if top = 0 then 0
  else
    let q := thrustMag i f s / top
    thrQ i 0x0B s * (q * Config.sqrt q)

/-- The total power of all thrusters. -/
def totalPower (f : Vector (Rat × Rat) 16) (s : P1) : Rat :=
  (List.finRange 16).foldl (fun a (i : Fin 16) => a + powerOf i f[i] s) 0

/-- The power limit in kW (R266, R376): 0 is none. -/
def powerLimit (s : P1) : Rat :=
  let a : Rat := (s.rd (ob 0x4200 9) : Rat)
  let n := s.rdN (ob 0x4200 0x0A)
  let b := if n = 0xFF || aiFaulted n s then 0 else aiValue n s
  if a = 0 then b else if b = 0 then a else if a < b then a else b

/-- The power scale s of R266 under a limit; 1 while the limit holds. -/
def powerScale (lim : Rat) (f : Vector (Rat × Rat) 16) (s : P1) : Rat :=
  let p := totalPower f s
  if 0 < lim && lim < p then clampQ 0 1 (Config.pow23 (lim / p)) else 1

/-- The rate bound of R267 that a released force breaks, by the number of its rule; 0 for none. `z` is the force before
the power limit. -/
def overrideRule (i : Fin 16) (z f : Rat × Rat) (s : P1) : Nat :=
  let x := s.alc.thr[i]
  let rT := thrQ i 0x0C s * cycleSec s
  let ty := thrType i s
  let outside (v : Rat × Rat) : Bool :=
    if ty = 1 then magOf v < magOf x.fPrev - rT || magOf x.fPrev + rT < magOf v
    else v.1 < x.fPrev.1 - rT || x.fPrev.1 + rT < v.1
  let lift (v : Rat × Rat) : Bool :=
    ty = 3 && (v.2 < x.fPrev.2 - thrQ i 0x0F s * cycleSec s || x.fPrev.2 + thrQ i 0x0F s * cycleSec s < v.2)
  if ty = 0 || !s.bit (thrKey i 0x25) 0 then 0
  else if outside z && x.transit.isSome then 4
  else if outside z && s.bit (thrKey i 0x25) 8 then 3
  else if lift z then 2
  else if outside f || lift f then 1
  else 0

/-- Report a rate override (R267). -/
def showOverride (i : Fin 16) (rule : Nat) (s : P1) : P1 :=
  let t := s.setBit (thrKey i 0x25) 10 (rule ≠ 0)
  if rule = 0 then t
  else record 0x0505 (packDetails [(8, i.val), (8, rule)]) ((t.setBit (ob 0x4200 1) 4 true).inc (ob 0x4200 0x16))

/-! ### The achieved force and release (R268, R273, R276) -/

/-- Degree of freedom d is saturated (R268). -/
def saturated (d : Fin 3) (demand achieved : Int) (s : P1) : Bool :=
  let lim : Rat := (s.rd (ob 0x4200 (0x0C + d)) : Rat)
  let rel : Rat := (s.rd (ob 0x4200 0x0F) : Rat) * ((demand.natAbs : Nat) : Rat) / 1000
  (if lim < rel then rel else lim) < (((demand - achieved).natAbs : Nat) : Rat)

/-- The thrust command and angle released last. -/
def lastCommand (i : Fin 16) (s : P1) : Int × Int := (s.rd (thrKey i 0x26), s.rd (thrKey i 0x27))

/-- Release of one thruster's command in an allocating mode (R273, R276). -/
def releaseThr (i : Fin 16) (f : Rat × Rat) (fl : FrameFlags) (s : P1) : P1 :=
  if thrType i s = 0 then s
  else if s.bit (thrKey i 0x25) 0 then
    let c := commandOf i f s
    let v := vesselForce i f s
    sendCommand i fl true c.1 c.2 ((setThr i (fun x => { x with fPrev := f, old := lastCommand i s, releasedAt := s.ns }) s).wrs
      [(thrKey i 0x26, c.1), (thrKey i 0x27, c.2), (thrKey i 0x28, roundForce v.1), (thrKey i 0x29, roundForce v.2)])
  else
    sendCommand i { fl with zero := true } true 0 (s.rdN (thrKey i 0x27))
      ((setThr i (fun x => { x with fPrev := (0, 0), old := lastCommand i s, releasedAt := s.ns }) s).wrs
        [(thrKey i 0x26, 0), (thrKey i 0x28, 0), (thrKey i 0x29, 0)])

/-- The command of thruster i may be released (R25, R480): before G+900, and in a set of 2 or 3 not before G+106+36k. -/
def mayRelease (i : Fin 16) (s : P1) : Bool :=
  s.ns < s.alc.latch + 900000 && (s.setSize = 1 || s.alc.latch + (106 + 36 * i.val) * 1000 ≤ s.ns)

/-- One command of the cycle is released (R24). -/
def releaseOne (r : Release) (s : P1) : P1 :=
  let t := match r.work with
    | some (f, fl) => releaseThr r.thr f fl s
    | none => idleCommand r.thr s
  { t with alc := { t.alc with released := s.ns } }

/-- Commands are released in ascending thruster index, each as soon as it may be (R22, R480). -/
def releaseFrom : List Release → P1 → P1
  | [], s => { s with alc := { s.alc with queue := [] } }
  | r :: l, s => if mayRelease r.thr s then releaseFrom l (releaseOne r s) else { s with alc := { s.alc with queue := r :: l } }

/-- The commands that wait and whose time has come. -/
def releaseReady (s : P1) : P1 := releaseFrom s.alc.queue s

/-- 2001h:01 and 02 after the last release of a cycle (R38). -/
def showDelay (s : P1) : P1 :=
  if s.alc.released < s.alc.latch then s
  else
    let delay : Int := (((s.alc.released - s.alc.latch) / 1000 : Nat) : Int)
    s.wrs [(ob 0x2001 1, min 65535 delay), (ob 0x2001 2, max (s.rd (ob 0x2001 2)) (min 65535 delay))]

/-- The forces of a cycle after R269: power limit, overrides, achieved force; the commands wait for their release (R266–R268,
R273). -/
def releaseForces (z : Vector (Rat × Rat) 16) (s0 : P1) : P1 :=
  let k := powerScale (powerLimit s0) z s0
  let f : Vector (Rat × Rat) 16 := Vector.ofFn fun i => (k * z[i].1, k * z[i].2)
  let lim : Bool := k ≠ 1
  let rules : Fin 16 → Nat := fun i => overrideRule i z[i] f[i] s0
  let s1 := eachThr (fun i => showOverride i (rules i)) (s0.setBit (ob 0x4200 1) 4 false)
  let s2 := (s1.setBit (ob 0x4200 1) 3 lim).wr (ob 0x4200 0x13) (if lim then (k * 1000 + 1 / 2).floor else 1000)
  let s3 := if lim then s2.inc (ob 0x4200 0x17) else s2
  let s4 := if lim && !s0.alc.powerRun then record 0x0504 0 s3 else s3
  let a := dofWrench (totalWrench f s0)
  let sat (d : Fin 3) : Bool := saturated d (s0.rd (ob 0x4201 (1 + d))) (a.get d) s0
  let s5 := (s4.wrs [(ob 0x4201 7, a.x), (ob 0x4201 8, a.y), (ob 0x4201 9, a.n),
    (ob 0x4201 0x0A, (Config.fp64 s0.free (totalPower f s0)).floor)]).setBits (ob 0x4200 1)
      [(5, sat 0), (6, sat 1), (7, sat 2)]
  let src := s5.field (ob 0x4200 1) 0 2
  let fl : FrameFlags := ⟨true, false, false, src = 2, src = 3, lim, false⟩
  let q : List Release := ((List.finRange 16).filter fun i => thrType i s5 ≠ 0).map fun i => ⟨i, some (f[i], fl)⟩
  releaseReady { s5.draw with alc := { s5.alc with due := false, first := false, powerRun := lim, queue := q } }

/-! ### Stale results and fallback tables (R269–R272) -/

/-- The number of entries of a fallback table. -/
def tableCount (b : List Byte) : Nat := leAt b 3 1

/-- The mask of an entry. -/
def tableMask (b : List Byte) (e : Nat) : Nat := leAt b (16 + 264 * e) 2

/-- The checks of R271: magic, version, length, CRC-32C, unique nonzero masks, fallback angles in no forbidden sector. -/
def tableOk (b : List Byte) (s : P1) : Bool :=
  let c := tableCount b
  let masks := (List.range c).map (tableMask b)
  let angle (e : Nat) (i : Fin 16) : Rat := (ofBits 32 (leAt b (24 + 264 * e + 16 * i) 4) : Rat)
  leAt b 0 2 = 0x4654 && leAt b 2 1 = 1 && 1 ≤ c && c ≤ 32 && b.length = 20 + 264 * c
    && leAt b (16 + 264 * c) 4 = crc32c (b.take (16 + 264 * c)) && masks.all (· ≠ 0) && masks.eraseDups.length = c
    && (List.range c).all fun e => (List.finRange 16).all fun (i : Fin 16) =>
      thrType i s ≠ 1 || !(tableMask b e).testBit i || !isForbidden i (angle e i) s

/-- The rule of 4210h:01 (R271). -/
def fallbackRule (b : List Byte) : Rule P1 where
  mode := fun _ => 0
  check := fun s => if tableOk b s then 0 else abRange
  busy := fun s => if nextBusy (ob 0x4210 1) s then abBusy else 0
  eff := submitNext (ob 0x4210 1) b

/-- The entry whose mask is the configuration mask. -/
def tableEntry (s : P1) : Option Nat :=
  let b := s.octets (ob 0x4210 1)
  (List.range (tableCount b)).find? fun e => tableMask b e = s.rdN (ob 0x4200 0x12)

/-- The value of a binary32 octet group. -/
def f32At (b : List Byte) (off : Nat) : Rat := (f32 (leAt b off 4 : Nat)).q

/-- The fallback forces of an entry (R270). -/
def fallbackForces (e : Nat) (s : P1) : Vector (Rat × Rat) 16 :=
  let b := s.octets (ob 0x4210 1)
  let t (d : Fin 3) : Rat := (s.rd (ob 0x4201 (1 + d)) : Rat)
  Vector.ofFn fun i =>
    let o := 28 + 264 * e + 16 * i.val
    let g := f32At b o * t 0 + f32At b (o + 4) * t 1 + f32At b (o + 8) * t 2
    let top := thrQ i 9 s
    let low := -(thrQ i 0x0A s)
    match thrType i s with
    | 0 => (0, 0)
    | 1 =>
      let u := unitVec ((ofBits 32 (leAt b (24 + 264 * e + 16 * i.val) 4) : Rat) / 1000000 + thrYaw i s)
      let m := clampQ 0 top g
      (m * u.1, m * u.2)
    | 3 => (if s.bit (thrKey i 0x25) 7 then clampQ low 0 g else clampQ 0 top g, 0)
    | _ => (clampQ low top g, 0)

/-- The arcs of the azimuths under a fallback entry (R270): each the arc that contains the fallback angle. -/
def fallbackArcs (e : Nat) (s : P1) : P1 :=
  let b := s.octets (ob 0x4210 1)
  eachThr (fun i t =>
    if thrType i t = 1 then
      (setThr i (fun x => { x with transit := none }) t).setBit (thrKey i 0x25) 6 false |>.setField (thrKey i 0x25) 16 4
        (arcOf i (ofBits 32 (leAt b (24 + 264 * e + 16 * i.val) 4) : Rat) t)
    else t) s

/-- How an ALLOC job ended for its cycle: DONE or TRUNCATED with its last iterate, or STALE (R195, R264). -/
inductive AllocEnd
  | delivered (it : Iter) (truncated : Bool)
  | stale
deriving DecidableEq, Repr

/-- The forces last released. -/
def prevForces (s : P1) : Vector (Rat × Rat) 16 := Vector.ofFn fun i => s.alc.thr[i].fPrev

/-- After each cycle's ALLOC result (R269): the forces are chosen and released. The second component is true where no
fallback entry exists, and nothing is released. -/
def allocResult (r : AllocEnd) (s : P1) : P1 × Bool :=
  let st := ob 0x4200 1
  match r with
  | .delivered it truncated =>
    let s1 := if s.field st 0 2 = 3 then record 0x0502 0 s else s
    let s2 := (((keepWarm it s1).setField st 16 8 0).setField st 0 2 1).setBit st 2 truncated
    (releaseForces it.z (s2.setField st 24 5 0), false)
  | .stale =>
    let run := min (s.field st 16 8 + 1) 255
    let s1 := ((s.setField st 16 8 run).inc (ob 0x4200 0x14)).setBit st 2 false
    let s2 := if run = 1 then record 0x0500 0 s1 else s1
    if run ≤ 3 then (releaseForces (projAll (prevForces s2) s2) ((s2.setField st 0 2 2).setField st 24 5 0), false)
    else match tableEntry s2 with
    | some e =>
      let s3 := if s2.field st 0 2 ≠ 3 then record 0x0501 (s2.rdN (ob 0x4200 0x12)) s2 else s2
      let s4 := fallbackArcs e (((s3.setField st 0 2 3).setField st 24 5 e).inc (ob 0x4200 0x15))
      (releaseForces (projAll (fallbackForces e s4) s4) s4, false)
    | none => (record 0x0503 (s2.rdN (ob 0x4200 0x12)) (s2.inc (ob 0x4200 0x18)), true)

/-- Allocation ends (R218, R285): SOURCE reads 00b and the saturation, power and override bits clear. -/
def stopAllocating (s : P1) : P1 :=
  { s with alc := { s.alc with due := false, first := true, powerRun := false } }.wrs
    [(ob 0x4200 1, 0), (ob 0x4200 0x13, 1000), (ob 0x4201 7, 0), (ob 0x4201 8, 0), (ob 0x4201 9, 0), (ob 0x4201 0x0A, 0)]

/-! ### The mirror's section 4 (R466, R472) -/

/-- Section 4 as the ALLOC job of a cycle finds it: the demand, the sets, f_prev and the warm state of iteration 1. -/
def beginMirror (cold : Bool) (s : P1) : P1 :=
  let it := startIter cold s
  let x : MirrorAlloc :=
    { demand := (List.range 3).map fun d => s.rd (ob 0x4201 (1 + d))
      wave := (List.range 3).map fun d => s.rd (ob 0x4201 (4 + d))
      mask := s.rdN (ob 0x4200 0x12)
      thrusters := (List.finRange 16).map fun (i : Fin 16) =>
        ⟨s.rd (thrKey i 0x25), s.rd (thrKey i 0x27), (s.alc.thr[i]).transit.map (fun t => (t.angle, t.clockwise, t.toArc)),
          (s.alc.thr[i]).fPrev, it.z[i], it.u[i]⟩
      x := it.x
      power := powerLimit s
      codes := [], staleRun := 0, source := 0, entry := 0, achieved := [] }
  { s with alc := { s.alc with cycle := x } }

/-- Section 4 of the last released cycle. -/
def allocSection (s : P1) : MirrorAlloc :=
  { s.alc.cycle with
    codes := (List.finRange 16).map fun (i : Fin 16) => lastCommand i s
    staleRun := s.field (ob 0x4200 1) 16 8
    source := s.field (ob 0x4200 1) 0 2
    entry := s.field (ob 0x4200 1) 24 5
    achieved := (List.range 3).map fun d => s.rd (ob 0x4201 (7 + d)) }

/-- The state in which a Lead's cycle is replayed from section 4 (R472). -/
def mirrorAlloc (m : MirrorAlloc) (s : P1) : P1 :=
  let thr (i : Fin 16) : Option MirrorThruster := m.thrusters[i.val]?
  let t := s.wrs ((List.range 3).flatMap (fun d => [(ob 0x4201 (1 + d), m.demand.getD d 0), (ob 0x4201 (4 + d), m.wave.getD d 0)])
    ++ [(ob 0x4200 0x12, (m.mask : Int))]
    ++ (List.finRange 16).flatMap fun (i : Fin 16) => match thr i with
      | some x => [(thrKey i 0x25, x.status), (thrKey i 0x27, x.angle)]
      | none => [])
  let put (i : Fin 16) (y : Thruster) : Thruster := match thr i with
    | some x => { y with fPrev := x.fPrev, z := x.z, u := x.u, transit := x.transit.map fun q => ⟨q.1, q.2.1, q.2.2⟩ }
    | none => y
  { t with alc := { t.alc with x := m.x, thr := Vector.ofFn fun (i : Fin 16) => put i t.alc.thr[i] } }

/-- The forces that a replay of section 4 releases: of the job's z, or under STALE_RUN those held or of the fallback entry. -/
def mirrorForces (m : MirrorAlloc) (z : Vector (Rat × Rat) 16) (s : P1) : Vector (Rat × Rat) 16 :=
  let t := mirrorAlloc m s
  let f := if m.source = 2 then projAll (Vector.ofFn fun i => t.alc.thr[i].fPrev) t
    else if m.source = 3 then projAll (fallbackForces m.entry t) t else z
  let k := powerScale m.power f t
  Vector.ofFn fun i => (k * f[i].1, k * f[i].2)

/-- The thrust and angle codes of a replay equal the mirrored ones (R472). -/
def mirrorAgrees (m : MirrorAlloc) (z : Vector (Rat × Rat) 16) (s : P1) : Bool :=
  let t := mirrorAlloc m s
  let f := mirrorForces m z s
  (List.finRange 16).all fun (i : Fin 16) =>
    let d := commandOf i f[i] t
    let c : Int × Int := if t.bit (thrKey i 0x25) 0 then (d.1, (d.2 : Int)) else (0, t.rd (thrKey i 0x27))
    thrType i t = 0 || m.codes.getD i.val c = c

/-! ### Generation (R272) -/

/-- The masks of 4211h that are used. -/
def wantedMasks (s : P1) : List Nat := ((List.range 32).map fun j => s.rdN (ob 0x4211 (j + 1))).filter (· ≠ 0)

/-- The direction of a thruster at its fallback angle: the unit force of R272. -/
def fallbackUnit (i : Fin 16) (s : P1) : Rat × Rat :=
  if thrType i s = 1 then unitVec ((s.rd (thrKey i 0x22) : Rat) / 1000000 + thrYaw i s) else (1, 0)

/-- The 3 × 3 matrix B W⁻¹ Bᵀ of a mask. -/
def gramOf (mask : Nat) (s : P1) (d e : Fin 3) : Rat :=
  (List.finRange 16).foldl (fun a (i : Fin 16) =>
    if mask.testBit i && thrType i s ≠ 0 then
      let w := wrench i (fallbackUnit i s) s
      let wp := thrQ i 0x1C s / 1000
      let fp := thrQ i 9 s
      a + wcomp w d * wcomp w e * (if wp = 0 then Config.freeRat s.free else fp * fp / wp)
    else a) 0

/-- The pivots of the Gram matrix, in order. -/
def pivotsOf (g : Fin 3 → Fin 3 → Rat) : List Rat :=
  let p0 := g 0 0
  let m (a b : Fin 3) : Rat := if p0 = 0 then g a b else g a b - g a 0 * g 0 b / p0
  let p1 := m 1 1
  let p2 := if p1 = 0 then m 2 2 else m 2 2 - m 2 1 * m 1 2 / p1
  [p0, p1, p2]

/-- A mask is generated (R272): no pivot below 10⁻⁹ of the largest, no fallback angle in a forbidden sector. -/
def generable (mask : Nat) (s : P1) : Bool :=
  let p := (pivotsOf (gramOf mask s)).map ratAbs
  let top := p.foldl (fun a b => if a < b then b else a) 0
  0 < top && p.all (fun x => top / 1000000000 ≤ x)
    && (List.finRange 16).all fun (i : Fin 16) =>
      !mask.testBit i || thrType i s ≠ 1 || !isForbidden i (s.rd (thrKey i 0x22) : Rat) s

/-- The gain rows of a mask (R272): the solution of (B W⁻¹ Bᵀ) y = e_d through the engine, then W⁻¹ Bᵀ y, in binary32. -/
def gainOf (mask : Nat) (i : Fin 16) (d : Fin 3) (s : P1) : Int :=
  let rows := (List.finRange 3).map fun (a : Fin 3) => (List.finRange 3).map fun (b : Fin 3) => gramOf mask s a b
  let y := Config.solve rows ((List.finRange 3).map fun (a : Fin 3) => if a = d then (1 : Rat) else 0)
  let w := wrench i (fallbackUnit i s) s
  let wp := thrQ i 0x1C s / 1000
  let fp := thrQ i 9 s
  if mask.testBit i && thrType i s ≠ 0 && wp ≠ 0 then
    toF32 (fp * fp / wp * (wcomp w 0 * y.getD 0 0 + wcomp w 1 * y.getD 1 0 + wcomp w 2 * y.getD 2 0))
  else 0

/-- The octets of a generated entry (R271). -/
def generateEntry (mask : Nat) (s : P1) : List Byte :=
  le 2 mask ++ zeros 6 ++ (List.finRange 16).flatMap fun (i : Fin 16) =>
    le 4 (if thrType i s = 1 then toBits 32 (s.rd (thrKey i 0x22)) else 0)
      ++ (List.finRange 3).flatMap fun (d : Fin 3) => le 4 (gainOf mask i d s).toNat

/-- The table in force, 4210h:02 and 03 follow a replacement. -/
def showTable (s : P1) : P1 :=
  let b := s.octets (ob 0x4210 1)
  s.wrs [(ob 0x4210 2, tableCount b), (ob 0x4210 3, leAt b (b.length - 4) 4)]

/-- The rule of 4200h:1A (R272); the object reads 0. -/
def generateRule : Rule P1 where
  mode := fun s => if s.mode = 1 then 0 else abMode
  check := fun _ => 0
  busy := fun _ => 0
  eff := fun s =>
    let good := (wantedMasks s).filter fun m => generable m s
    let skipped := (wantedMasks s).length - good.length
    let b := le 2 0x4654 ++ le 1 1 ++ le 1 good.length ++ zeros 12 ++ good.flatMap fun m => generateEntry m s
    record 0x0508 (packDetails [(8, good.length), (8, skipped)])
      (showTable (s.setOctets (ob 0x4210 1) (b ++ le 4 (crc32c b))))

/-- The rule of 4200h:19. -/
def allocClearRule : Rule P1 := effRule fun s => s.clearSubs 0x4200 0x14 0x18

/-- The rule of 4200h:1B (R281): an index starts a test, FFh ends the one in progress. `seen` says whether a Lead of the
set is heard. -/
def testRule (v : Int) : Rule P1 where
  mode := fun s =>
    let heard : Bool := s.red.partners.any fun p => p.age ≤ 1 && p.msg.role = .lead
    if v ≠ 0xFF && s.setSize ≠ 1 && (s.bit kRed 5 || heard) then abMode else 0
  check := fun _ => 0
  busy := fun s => if v ≠ 0xFF && testIndex s < 16 then abBusy else 0
  eff := fun s =>
    if h : v.toNat < 16 then
      let i : Fin 16 := ⟨v.toNat, h⟩
      let c := feedbackCommand i s
      let t := (s.wr (ob 0x4200 0x1B) v).setBit (thrKey i 0x25) 11 true
      record 0x050A i.val { (setThr i (fun x => { x with fPrev := (curveThrust i c.1 s, 0) }) t).wrs
        [(thrKey i 0x26, c.1), (thrKey i 0x27, c.2)] with alc := { (setThr i (fun x =>
          { x with fPrev := (curveThrust i c.1 s, 0) }) t).alc with testStart := s.elapsed } }
    else endTest s

/-- A test that has lasted 4200h:1E ends (R281). -/
def expireTest (s : P1) : P1 := if s.alc.testStart + 1000 * s.rdN (ob 0x4200 0x1E) ≤ s.elapsed then endTest s else s

/-- A frame on an enabled thruster's channel is that thruster's feedback, by its identifier (R280). -/
def isFeedback (ch : Fin 4) (ident : Nat) (i : Fin 16) (s : P1) : Bool :=
  s.rd (thrKey i 1) = 1 && s.rd (thrKey i 7) = 0 && s.rdN (thrKey i 4) = ch.val && ident = s.rdN (ob 0x4200 0x11) + i.val

/-- A feedback frame with a correct check governs its thruster (R280). -/
def feedbackFrame (ch : Fin 4) (ident : Nat) (bytes : List Byte) (s : P1) : P1 :=
  eachThr (fun i t => if isFeedback ch ident i t && feedbackOk i bytes then takeFeedback i bytes t else t) s

/-! ### Meanings -/

/-- THRUST_CURVE_WRITE (R252). -/
def execThrustCurveWrite (w : Nat) (i : Fin 16) (astern : Bool) (bytes : List Byte) (s : State) : Out :=
  onReq w (thrKey i (if astern then 0x24 else 0x23)) (.bytes bytes) (thrustCurveRule i astern bytes) s

/-- FALLBACK_TABLE_WRITE (R271). -/
def execFallbackTableWrite (w : Nat) (bytes : List Byte) (s : State) : Out :=
  onReq w (ob 0x4210 1) (.bytes bytes) (fallbackRule bytes) s

/-- GENERATE_FALLBACK_TABLES (R272). -/
def execGenerateFallbackTables (w : Nat) (v : Int) (s : State) : Out :=
  onReq w (ob 0x4200 0x1A) (.num v) generateRule s

/-- TEST_THRUSTER_START (R281). -/
def execTestThrusterStart (w : Nat) (v : Int) (s : State) : Out :=
  onReq w (ob 0x4200 0x1B) (.num v) (testRule v) s

/-- TEST_THRUSTER_END (R281): the write that ends a test. -/
def execTestThrusterEnd (w : Nat) (v : Int) (s : State) : Out :=
  onReq w (ob 0x4200 0x1B) (.num v) (testRule v) s

/-- TEST_DURATION_EXPIRY (R281). -/
def execTestDurationExpiry (s : State) : Out := onP1 expireTest s

/-- ALLOCATION_CLEAR_STATISTICS (R284). -/
def execAllocationClearStatistics (w : Nat) (v : Int) (s : State) : Out :=
  onReq w (ob 0x4200 0x19) (.num v) allocClearRule s

/-- THRUSTER_FEEDBACK_FRAME (R280). -/
def execThrusterFeedbackFrame (ch : Fin 4) (ident : Nat) (bytes : List Byte) (s : State) : Out :=
  onP1 (feedbackFrame ch ident bytes) s

end Sys2Proof.Machine
end

