-- ==== Sys2Proof/Machine/Can.lean ====
section
/-! DEFINITION. CAN channels (chapter "DP network, sensor ports, CAN and serial", R437–R447): transmission, error
states, channel writes. Reception is in Intake. -/

namespace Sys2Proof.Machine

/-- The channel takes part in bus traffic: not off, its unit not stopped, and not away for the grain of a reconfiguration (R438). -/
def canOn (c : Fin 4) (s : P1) : Bool := s.rd (ob (0x5600 + c) 1) ≠ 0 && !s.stopped (canAddr c) && !s.can[c].away

/-- Listen-only (R444). -/
def listenOnly (c : Fin 4) (s : P1) : Bool := s.rd (ob (0x5600 + c) 7) = 1

/-- The head of the highest non-empty priority queue (R439). -/
def CanChan.head (x : CanChan) : Option (Nat × TxFrame) :=
  match x.q0, x.q1, x.q2, x.q3 with
  | f :: _, _, _, _ => some (0, f)
  | [], f :: _, _, _ => some (1, f)
  | [], [], f :: _, _ => some (2, f)
  | [], [], [], f :: _ => some (3, f)
  | [], [], [], [] => none

/-- Remove the head of a queue. -/
def CanChan.pop (x : CanChan) (p : Nat) : CanChan := x.setQueue p ((x.queue p).drop 1)

/-- Replace the head of a queue. -/
def CanChan.putHead (x : CanChan) (p : Nat) (f : TxFrame) : CanChan := x.setQueue p (f :: (x.queue p).drop 1)

/-- The state with a channel changed. -/
def setCan (c : Fin 4) (f : CanChan → CanChan) (s : P1) : P1 := { s with can := upd s.can c f }

/-- The error state that error counts give (R442): 0 active, 1 passive, 2 bus-off. -/
def errStateOf (tec rxErr : Nat) : Nat := if 255 < tec then 2 else if 127 < tec || 127 < rxErr then 1 else 0

/-- New error counts of a channel, with the records of entry to and exit from error passive (R442). Bus-off is left to
the caller. -/
def setErrCounts (c : Fin 4) (tec rxErr : Nat) (s : P1) : P1 :=
  let old := s.can[c].errState
  let new := errStateOf tec rxErr
  let t := setCan c (fun x => { x with tec := tec, rxErr := rxErr, errState := new }) s
  if old = 0 && new = 1 then record 0x0D04 (packDetails [(8, 1), (8, c.val)]) t
  else if old = 1 && new = 0 then record 0x0D04 (packDetails [(8, 0), (8, c.val)]) t
  else t

/-- The parameter of ALONE set (R458, R492). -/
def aloneParam (c : Fin 4) : Nat := packDetails [(8, 1), (8, c.val)]

/-- ALONE is set (R443). -/
def setAlone (c : Fin 4) (s : P1) : P1 :=
  recordAlarm true 0x0D05 (aloneParam c) (aloneParam c) (setCan c (fun x => { x with alone := true }) s)

/-- An acknowledged frame or a received valid frame ends ALONE and the run towards it (R443). -/
def breakAlone (c : Fin 4) (s : P1) : P1 :=
  let t := setCan c (fun x => { x with alone := false, aloneRun := 0 }) s
  if s.can[c].alone then recordAlarm false 0x0D05 (packDetails [(8, 0), (8, c.val)]) (aloneParam c) t else t

/-- A frame is reported failed; the third in a row with cause 2 sets ALONE (R443). -/
def canFail (c : Fin 4) (prio : Nat) (f : TxFrame) (cause : Nat) (s : P1) : P1 :=
  let t := canReportFailed c prio f cause s
  if cause = 2 then
    let u := setCan c (fun x => { x with aloneRun := x.aloneRun + 1 }) t
    if 3 ≤ u.can[c].aloneRun && !u.can[c].alone then setAlone c u else u
  else t

/-- A frame was transmitted to its end of frame (R439, R442, R443). -/
def canFrameSent (c : Fin 4) (s : P1) : P1 :=
  match s.can[c].head with
  | none => s
  | some (p, _) =>
    if canOn c s && !listenOnly c s && s.can[c].errState ≠ 2 then
      let t := (setCan c (fun x => x.pop p) s).incWrap (ob (0x5600 + c) 0x10)
      breakAlone c (setErrCounts c (s.can[c].tec - 1) s.can[c].rxErr t)
    else s

/-- The transmit error count after a failed attempt (R442, R443): a loss of arbitration, and an acknowledgement error in
error passive, leave it. -/
def tecAfter (tec errState : Nat) : AttemptCause → Nat
  | .lostArbitration => tec
  | .ackError => if errState = 1 then tec else tec + 8
  | .otherError => tec + 8

/-- The failure cause at the retry limit (R441). -/
def limitCause (f : TxFrame) : Nat := if f.onlyAck then 2 else if f.lastArb then 1 else 3

/-- A transmission attempt fails (R441–R443). -/
def canAttemptFail (c : Fin 4) (cause : AttemptCause) (s : P1) : P1 :=
  match s.can[c].head with
  | none => s
  | some (p, f) =>
    if canOn c s && !listenOnly c s && s.can[c].errState ≠ 2 then
      let f1 : TxFrame := { f with attempts := f.attempts + 1, onlyAck := f.onlyAck && cause = .ackError,
                                   lastArb := cause = .lostArbitration }
      let t := setErrCounts c (tecAfter s.can[c].tec s.can[c].errState cause) s.can[c].rxErr s
      if t.can[c].errState = 2 then
        recordAlarm true 0x0D02 c.val c.val (canFail c p f1 4 (setCan c (fun x => x.pop p) t))
      else if s.rdN (ob (0x5600 + c) (0x0A + p)) < f1.attempts then
        canFail c p f1 (limitCause f1) (setCan c (fun x => x.pop p) t)
      else setCan c (fun x => x.putHead p f1) t
    else s

/-- Recovery from bus-off (R442). -/
def canBusOffRecovery (c : Fin 4) (s : P1) : P1 :=
  if s.can[c].errState = 2 && canOn c s then
    let t := setCan c (fun x => { x with tec := 0, rxErr := 0, errState := 0 }) s
    recordAlarm false 0x0D03 c.val c.val (lower 0x0D02 c.val (t.inc (ob (0x5600 + c) 0x15)))
  else s

/-- Reference messages and thruster command frames, which expire at a G+0 (R440). -/
def TxFrame.expires (f : TxFrame) : Bool :=
  match f.kind with
  | .reference | .command _ _ => true
  | .canopen | .sdo => false

/-- A station cycle has begun since the frame was queued (R440). -/
def TxFrame.old (f : TxFrame) (s : P1) : Bool := f.expires && s.grainIndex % s.cycleLen < s.elapsed - f.queuedAt

/-- The expired frames of a channel are removed, reported with cause 5 and counted in 5600h+c:14 (R440). -/
def canExpire (c : Fin 4) (s : P1) : P1 :=
  let old := s.can[c].q0.filter fun f => f.old s
  let t := setCan c (fun x => { x with q0 := x.q0.filter fun f => !f.old s }) s
  canReportAll c 0 5 old (t.add (ob (0x5600 + c) 0x14) old.length)

/-- LEAD command frames and reference messages, removed at a relinquish with cause 5 (R476). -/
def TxFrame.leads (f : TxFrame) : Bool :=
  match f.kind with
  | .reference => true
  | .command _ lead => lead
  | .canopen | .sdo => false

/-- Remove the LEAD frames and reference messages of a channel, reported failed with cause 5 (R476). -/
def canDropLead (c : Fin 4) (s : P1) : P1 :=
  let old := s.can[c].q0.filter TxFrame.leads
  canReportAll c 0 5 old (setCan c (fun x => { x with q0 := x.q0.filter fun f => !f.leads }) s)

/-- Every frame of a channel's queues is reported failed with a cause and removed (R56, R441). -/
def canDropAll (c : Fin 4) (cause : Nat) (s : P1) : P1 :=
  let x := s.can[c]
  let t := setCan c (fun y => { y with q0 := [], q1 := [], q2 := [], q3 := [] }) s
  canReportAll c 3 cause x.q3 (canReportAll c 2 cause x.q2 (canReportAll c 1 cause x.q1 (canReportAll c 0 cause x.q0 t)))

/-- A thruster binds its CAN channel (R438): enabled, of type 1–4, with command path CAN or feedback frames. -/
def thrusterBinds (c : Nat) (s : P1) : Bool :=
  (List.range 16).any fun i =>
    s.rd (ob (0x4100 + i) 1) = 1 && s.rd (ob (0x4100 + i) 2) ≠ 0 && s.rd (ob (0x4100 + i) 4) = c
      && (s.rd (ob (0x4100 + i) 3) = 0 || s.rd (ob (0x4100 + i) 7) = 0)

/-- The content test of a channel write (R438, R456). -/
def canWriteCheck (c : Fin 4) (sub : Nat) (v : Int) (s : P1) : Nat :=
  if sub = 1 then
    if v < 0 || 3 < v then abRange
    else if v = 3 && c.val < 2 then abRange
    else if v = 1 && thrusterBinds c s then abRange
    else if v = 0 && s.bit (ob 0x5030 1) c then abRange
    else 0
  else if sub = 7 then
    if v = 1 && (thrusterBinds c s || s.bit (ob 0x5030 1) c) then abRange else 0
  else if sub = 9 then
    if v < 0 || 0x7F8 < v || v % 8 ≠ 0 then abRange else 0
  else 0

/-- The channel leaves the bus for a grain: the frame in its transmit buffer fails with cause 7 (R438). A channel that
goes off or listen-only reports its queued frames with cause 6. -/
def canReconfigure (c : Fin 4) (s : P1) : P1 :=
  let t := match s.can[c].head with
    | some (p, f) => canReportFailed c p f 7 (setCan c (fun x => x.pop p) s)
    | none => s
  if t.rd (ob (0x5600 + c) 1) = 0 || listenOnly c t then canDropAll c 6 t else t

/-- The rule of 5600h+c:sub (R438): a write of its configuration waits for the next grain; a retry limit acts at once. -/
def canChannelRule (c : Fin 4) (sub : Nat) (v : Int) : Rule P1 :=
  checkRule (canWriteCheck c sub v) fun s =>
    if sub ≤ 9 then setCan c (fun x => { x with writes := x.writes ++ [(sub, v)] }) s else s.wr (ob (0x5600 + c) sub) v

/-- The grain after a write of a channel's configuration begins (R438): the values take effect, and the channel leaves the bus for
this grain. -/
def adoptCan (c : Fin 4) (s : P1) : P1 :=
  if s.can[c].writes = [] then (if s.can[c].away then setCan c (fun x => { x with away := false }) s else s)
  else
    let t := s.wrs (s.can[c].writes.map fun e => (ob (0x5600 + c) e.1, e.2))
    canReconfigure c (setCan c (fun x => { x with writes := [], away := true }) t)

/-- The rule of 5600h+c:19. -/
def canClearRule (c : Fin 4) : Rule P1 := effRule fun s => s.clearSubs (0x5600 + c) 0x12 0x17

/-- A bus error detected while receiving raises the receive error count (R442); listen-only leaves it (R444). -/
def canReceiveError (c : Fin 4) (increment : Nat) (s : P1) : P1 :=
  if canOn c s && !listenOnly c s && s.can[c].errState ≠ 2 then
    setErrCounts c s.can[c].tec (min 255 (s.can[c].rxErr + increment)) s
  else s

/-! ### Meanings -/

/-- CAN_FRAME_SENT (R439). -/
def execCanFrameSent (c : Fin 4) (s : State) : Out := onP1 (canFrameSent c) s

/-- CAN_BUS_OFF_RECOVERY (R442). -/
def execCanBusOffRecovery (c : Fin 4) (s : State) : Out := onP1 (canBusOffRecovery c) s

/-- CAN_FRAME_EXPIRY (R440). -/
def execCanFrameExpiry (c : Fin 4) (s : State) : Out := onP1 (canExpire c) s

/-- CAN_CHANNEL_WRITE (R438). -/
def execCanChannelWrite (w : Nat) (c : Fin 4) (sub : Nat) (v : Int) (s : State) : Out :=
  onReq w (ob (0x5600 + c) (sub % 256)) (.num v)
    (if sub % 256 = 0x19 then canClearRule c else canChannelRule c (sub % 256) v) s

/-- CAN_CLEAR_COUNTERS (R456). -/
def execCanClearCounters (w : Nat) (c : Fin 4) (v : Int) (s : State) : Out :=
  onReq w (ob (0x5600 + c) 0x19) (.num v) (canClearRule c) s

/-- CAN_RECEIVE_ERROR (R442). -/
def execCanReceiveError (c : Fin 4) (increment : Nat) (s : State) : Out := onP1 (canReceiveError c increment) s

end Sys2Proof.Machine
end

