-- ==== Sys2Proof/Machine/Network.lean ====
section
/-! DEFINITION. The DP network pair, sensor ports and service ports (chapter "DP network, sensor ports, CAN and
serial", R421–R436). -/

namespace Sys2Proof.Machine

/-- Frames outside the redundancy trailer's sequence (R422). -/
def NetItem.bare : NetItem → Bool
  | .supervision | .ptpAnnounce _ | .ptpSync => true
  | _ => false

/-- Both ports of the DP pair are stopped. -/
def dpDown (s : P1) : Bool := !dpOn 0 s && !dpOn 1 s

/-- A sensor port works: it is not stopped, and Dormant does not power it down (R47, R55). -/
def sensorOn (p : Nat) (s : P1) : Bool := s.mode ≠ 0 && pktOn s && !s.stopped (unitAddr 1 2 0 1 p)

/-- A service port works. -/
def serviceOn (p : Nat) (s : P1) : Bool := s.mode ≠ 0 && pktOn s && !s.stopped (unitAddr 1 2 0 2 p)

/-- Put an item into a transmit queue of the DP pair (R422, R427): a full queue refuses it and counts in 5900h:11. A pair
whose ports are both stopped sends nothing, and without an IPv4 address it sends supervision and PTP frames alone (R454). -/
def netSend (cls : Fin 8) (x : NetItem) (s : P1) : P1 :=
  if dpDown s || !pktOn s || (!x.bare && s.rd (ob 0x5900 3) = 0) then s
  else if s.net.tx[cls].length < 1024 then
    { s with net := { s.net with
        tx := upd s.net.tx cls fun l => l ++ [x]
        prpSeq := if x.bare then s.net.prpSeq else (s.net.prpSeq + 1) % 65536 } }
  else s.inc (ob 0x5900 0x11)

/-- The index of a DP port: 0 A, 1 B. -/
def dpIdx : DpPort → Nat
  | .a => 0
  | .b => 1

/-- The number by which 0D00h and 0D08h name a port: DP ports 0 and 1, sensor ports 2 to 5, service ports 6 and 7
(assumption 23). -/
def portIdx : NetPort → Nat
  | .dp p => dpIdx p
  | .sensor p => 2 + p
  | .service p => 6 + p

/-- The LAN fault of a port is set: alarm and record 0D01h (R425). -/
def setLanFault (p : DpPort) (s : P1) : P1 :=
  if s.bit kNet (2 + dpIdx p) then s
  else
    let m := packDetails [(8, 1), (8, dpIdx p)]
    recordAlarm true 0x0D01 m m (s.setBit kNet (2 + dpIdx p) true)

/-- The LAN fault of a port clears. -/
def clearLanFault (p : DpPort) (s : P1) : P1 :=
  if s.bit kNet (2 + dpIdx p) then
    recordAlarm false 0x0D01 (packDetails [(8, 0), (8, dpIdx p)]) (packDetails [(8, 1), (8, dpIdx p)])
      (s.setBit kNet (2 + dpIdx p) false)
  else s

/-- The parameter of the RATE_MISMATCH and NODE_TABLE_FULL alarms under 0D00h (assumption 23). -/
def rateMismatchParam : Nat := 0x10000
/-- See `rateMismatchParam`. -/
def nodeTableParam : Nat := 0x20000

/-- RATE_MISMATCH follows the rates of the two ports (R421). -/
def judgeRates (s : P1) : P1 :=
  let a := s.field kNet 8 2
  let b := s.field kNet 10 2
  if a ≠ 0 && b ≠ 0 && a ≠ b then raise 0x0D00 rateMismatchParam (s.setBit kNet 4 true)
  else lower 0x0D00 rateMismatchParam (s.setBit kNet 4 false)

/-- Reports for the joined groups (R428). -/
def igmpReports (s : P1) : P1 := s.net.joined.foldl (fun t g => netSend 4 (.igmpReport g) t) s

/-- Put an item into Q(16 + 4p) of a sensor port. -/
def sensorSend (p : Fin 4) (x : NetItem) (s : P1) : P1 :=
  if s.net.sensorTx[p].length < 4096 then
    { s with net := { s.net with sensorTx := upd s.net.sensorTx p fun l => l ++ [x] } }
  else s.inc (ob (0x5930 + p) 0x0C)

/-- The multicast groups of a sensor port (R430). -/
def sensorGroups (p : Fin 4) (s : P1) : List Nat :=
  ((List.range 4).map fun i => s.rdN (ob (0x5930 + p) (6 + i))).filter (· ≠ 0)

/-- Reports for the groups of a sensor port (R430). -/
def sensorReports (p : Fin 4) (s : P1) : P1 := (sensorGroups p s).foldl (fun t g => sensorSend p (.igmpReport g) t) s

/-- A sensor port can link at a rate (1 100 Mbit/s, 2 1 Gbit/s, 3 2.5 Gbit/s): it is enabled, and so is the speed (R430). -/
def sensorSpeed (p : Fin 4) (rate : Nat) (s : P1) : Bool :=
  s.rd (ob (0x5930 + p) 1) = 1 && 1 ≤ rate && rate ≤ 3 && s.bit (ob (0x5930 + p) 2) (rate - 1)

/-- A link goes up or down (R425, R430, R431): recorded under 0D00h; a DP port without link has a LAN fault. A
port that is powered down or stopped has no link to change, and one whose module is not of the accepted types stays down (R421, R570). -/
def linkChange (p : NetPort) (up : Bool) (rate : Nat) (s : P1) : P1 :=
  let t := record 0x0D00 (packDetails [(8, if up then 0 else 1), (8, portIdx p)]) s
  match p with
  | .dp d =>
    if !dpOn (dpIdx d) s || (up && rate ≠ 1 && rate ≠ 2) then s
    else
      let u := (t.setBit kNet (dpIdx d) up).setField kNet (8 + 2 * (dpIdx d)) 2 (if up then rate else 0)
      let v : P1 := { u with net := { u.net with linkAt := u.net.linkAt.set! (dpIdx d) s.elapsed } }
      judgeRates (if up then igmpReports (clearLanFault d v) else setLanFault d u)
  | .sensor q =>
    if !sensorOn q s || (up && !sensorSpeed q rate s) then s
    else
      let u := (t.setBit kNet (12 + q) up).wr (ob (0x5930 + q) 5) (if up then rate else 0)
      if up then sensorReports q u else u
  | .service q => if !serviceOn q s || (up && rate ≠ 1 && rate ≠ 2) then s else t.setBit kNet (16 + q) up

/-- An SFP module is inserted or removed (R421, R570): one of another type than those accepted gives no rate. -/
def sfpChange (p : DpPort) (inserted : Bool) (rate : Nat) (s : P1) : P1 :=
  judgeRates ((record 0x0D08 (packDetails [(8, if inserted then 1 else 0), (8, dpIdx p)]) s).setField kNet
    (8 + 2 * (dpIdx p)) 2 (if inserted && (rate = 1 || rate = 2) then rate else 0))

/-- The receive class of a payload (R427). -/
def rxClass : DpPayload → Fin 8
  | .setMessage => 7 | .ptp => 6 | .dataGroup => 5 | .republication => 5 | .control => 4 | .aoaRequest => 3 | .other => 0

/-- Classify an accepted frame to its receive queue: a full queue refuses it and counts in 5900h:11 (R427). Anything
else than the classes of R427 is counted in Q8 and discarded, and so is IP traffic while the pair has no IPv4 address (R454). -/
def classify (x : DpPayload) (s : P1) : P1 :=
  if x = .other || (x ≠ .ptp && x ≠ .control && s.rd (ob 0x5900 3) = 0) then
    { s with net := { s.net with strays := s.net.strays + 1 } }
  else if s.net.rx[rxClass x] < 1024 then
    { s with net := { s.net with rx := upd s.net.rx (rxClass x) fun n => n + 1 } }
  else s.inc (ob 0x5900 0x11)

/-- The nodes, 5900h:0C. -/
def showNodes (s : P1) : P1 := s.wr (ob 0x5900 0x0C) s.net.nodes.length

/-- A frame is a duplicate of one accepted from its node less than 400 ms earlier (R423). -/
def Node.duplicate (n : Node) (q grain : Nat) : Bool := n.seqs.any fun e => e.1 = q && grain - e.2 < 400000

/-- A node with one more accepted frame: the last 256 are kept (R423). -/
def Node.take (n : Node) (q grain : Nat) : Node :=
  { n with seqs := (n.seqs ++ [(q, grain)]).drop (n.seqs.length + 1 - 256), lastGrain := grain }

/-- Duplicate discard of a frame with a trailer (R423, R424); the second component says whether it is accepted. -/
def prpAccept (p : DpPort) (f : DpFrame) (s : P1) : P1 × Bool :=
  match s.net.nodes.find? fun n => n.source = f.source with
  | some n =>
    let dup := n.duplicate f.seq s.elapsed
    let change (x : Node) : Node :=
      if x.source ≠ f.source then x else if dup then { x with lastGrain := s.elapsed } else x.take f.seq s.elapsed
    let t : P1 := { s with net := { s.net with nodes := s.net.nodes.map change } }
    if dup then (t.inc (ob 0x5900 0x0B), false) else (t, true)
  | none =>
    if s.net.nodes.length < 512 then
      (showNodes { s with net := { s.net with nodes := s.net.nodes ++ [⟨f.source, [(f.seq, s.elapsed)], s.elapsed⟩] } },
        true)
    else (raise 0x0D00 nodeTableParam (s.setBit kNet 5 true), p = .a)

/-- A DP port has received no frame for 3 supervision intervals (R425), counted at the earliest from its link-up. -/
def quiet (p : DpPort) (s : P1) : Bool :=
  let p := dpIdx p
  3000 * s.rdN (ob 0x5900 7) ≤ s.elapsed - max (s.net.linkAt[p]!) ((s.net.heardAt[p]!).getD 0)

/-- The other port of the pair. -/
def otherPort : DpPort → DpPort
  | .a => .b
  | .b => .a

/-- A DP port has a LAN fault (R425): its link is down, or it is quiet and the other port has received a frame meanwhile. -/
def lanFaulty (p : DpPort) (s : P1) : Bool :=
  !s.bit kNet (dpIdx p) || (quiet p s && (s.net.heardAt[dpIdx (otherPort p)]!).isSome && !quiet (otherPort p) s)

/-- A DP port receives a frame: its LAN fault, if any, clears (R425). -/
def portHears (p : DpPort) (s : P1) : P1 :=
  clearLanFault p { s with net := { s.net with heardAt := s.net.heardAt.set! (dpIdx p) (some s.elapsed) } }

/-- A frame is received on a DP port (R423–R427): a port without link receives none. -/
def prpFrame (p : DpPort) (f : DpFrame) (s : P1) : P1 :=
  if !dpOn (dpIdx p) s || !pktOn s || !s.bit kNet (dpIdx p) then s
  else
  let s0 := portHears p s
  if f.fragment then s0.inc (ob 0x5900 0x0E)
  else match f.lanId with
    | none => classify f.payload s0
    | some l =>
      if f.payload = .ptp then classify f.payload s0
      else
        let s1 := if l = 10 + (dpIdx p) then s0 else s0.inc (ob 0x5900 0x0D)
        let r := prpAccept p f s1
        if r.2 then classify f.payload r.1 else r.1

/-- A node has sent no frame for the node forget time (R424). -/
def Node.forgotten (n : Node) (s : P1) : Bool := s.rdN (ob 0x5900 8) * 1000000 ≤ s.elapsed - n.lastGrain

/-- A node is removed (R424). -/
def nodeForget (source : Nat) (s : P1) : P1 :=
  if s.net.nodes.any fun n => n.source = source && n.forgotten s then
    lower 0x0D00 nodeTableParam
      ((showNodes { s with net := { s.net with nodes := s.net.nodes.filter fun n => n.source ≠ source } }).setBit kNet 5
        false)
  else s

/-- An address is an IPv4 multicast address. -/
def isMulticast (v : Int) : Bool := 0xE0000000 ≤ v && v ≤ 0xEFFFFFFF

/-- The module joins a multicast group on the DP pair (R428). -/
def joinGroup (g : Nat) (s : P1) : P1 :=
  netSend 4 (.igmpReport g) { s with net := { s.net with joined := s.net.joined.filter (· ≠ g) ++ [g] } }

/-- The module leaves a multicast group that no enabled transmission group uses (R428). -/
def leaveGroup (g : Nat) (s : P1) : P1 :=
  if (List.range 16).any fun j => s.rd (ob (0x5910 + j) 1) = 1 && s.rdN (ob (0x5910 + j) 2) = g then s
  else if s.net.joined.contains g then
    netSend 4 (.igmpLeave g) { s with net := { s.net with joined := s.net.joined.filter (· ≠ g) } }
  else s

/-- The rule of 5910h+k:01 (R428). -/
def groupEnableRule (k : Fin 16) (v : Int) : Rule P1 :=
  effRule fun s =>
    let g := s.rdN (ob (0x5910 + k) 2)
    let t := s.wr (ob (0x5910 + k) 1) v
    if v = 1 then joinGroup g t else leaveGroup g t

/-- The rule of 5900h:09: an IPv4 multicast address. -/
def multicastRule (k : Nat) (v : Int) : Rule P1 :=
  checkRule (fun _ => if isMulticast v then 0 else abRange) fun s => s.wr k v

/-- The rule of 5910h+k:02 (R428): an enabled group moves to its new address. -/
def groupAddressRule (k : Fin 16) (v : Int) : Rule P1 :=
  checkRule (fun _ => if isMulticast v then 0 else abRange) fun s =>
    let g := s.rdN (ob (0x5910 + k) 2)
    let t := s.wr (ob (0x5910 + k) 2) v
    if s.rd (ob (0x5910 + k) 1) = 1 then joinGroup v.toNat (leaveGroup g t) else t

/-- The rule of 5930h+p:06–09 (R430): the port leaves the group it named and joins the new one. -/
def sensorGroupRule (p : Fin 4) (sub : Nat) (v : Int) : Rule P1 :=
  checkRule (fun _ => if isMulticast v || v = 0 then 0 else abRange) fun s =>
    let g := s.rdN (ob (0x5930 + p) sub)
    let t := s.wr (ob (0x5930 + p) sub) v
    if s.rd (ob (0x5930 + p) 1) = 0 || !sensorOn p s then t
    else
      let u := if g ≠ 0 && !(sensorGroups p t).contains g then sensorSend p (.igmpLeave g) t else t
      if v = 0 then u else sensorSend p (.igmpReport v.toNat) u

/-- Answer a datagram of a service port from Q(32 + 2s); a full queue refuses and counts (R50, R427). -/
def serviceSend (p : Fin 2) (x : NetItem) (s : P1) : P1 :=
  if s.net.serviceTx[p].length < 256 then
    { s with net := { s.net with serviceTx := upd s.net.serviceTx p fun l => l ++ [x] } }
  else s.inc (ob 0x5900 0x11)

/-- Receive queue q of a sensor port: 0 lidar segments, 1 other slots, 2 ARP, ICMP and IGMP (R430). -/
def sensorQ (p : Fin 4) (q : Fin 3) : Fin 12 := ⟨3 * p.val + q.val, by omega⟩

/-- A receive queue of a sensor port has room for a frame (R430). -/
def sensorRoom (p : Fin 4) (q : Fin 3) (s : P1) : Bool := s.net.sensorRx[sensorQ p q] < 4096

/-- A datagram enters a receive queue of a sensor port. -/
def sensorTake (p : Fin 4) (q : Fin 3) (s : P1) : P1 :=
  { s.inc (ob (0x5930 + p) 0x0A) with net := { s.net with sensorRx := upd s.net.sensorRx (sensorQ p q) fun n => n + 1 } }

/-- Q(33 + 2s) has room for a frame (R431). -/
def serviceRoom (p : Fin 2) (s : P1) : Bool := s.net.serviceRx[p] < 256

/-- A frame enters Q(33 + 2s). -/
def serviceTake (p : Fin 2) (s : P1) : P1 :=
  { s with net := { s.net with serviceRx := upd s.net.serviceRx p fun n => n + 1 } }

/-- A datagram on a sensor or service port that is no slot or AOA traffic (R430, R431). -/
def portDatagram (port : SidePort) (kind : PortDatagram) (s : P1) : P1 :=
  match port with
  | .sensor p =>
    if s.rd (ob (0x5930 + p) 1) = 0 || !sensorOn p s then s
    else match kind with
      | .other => s.inc (ob (0x5930 + p) 0x0B)
      | k =>
        if !sensorRoom p 2 s then s.inc (ob (0x5930 + p) 0x0C)
        else match k with
          | .arp => sensorSend p .arpReply (sensorTake p 2 s)
          | .icmpEcho => sensorSend p .echoReply (sensorTake p 2 s)
          | .igmp | .other => sensorReports p (sensorTake p 2 s)
  | .service p =>
    if !serviceOn p s then s
    else match kind with
      | .arp => if serviceRoom p s then serviceSend p .arpReply (serviceTake p s) else s.inc (ob 0x5900 0x11)
      | .icmpEcho => if serviceRoom p s then serviceSend p .echoReply (serviceTake p s) else s.inc (ob 0x5900 0x11)
      | .igmp | .other => s

/-- The rule of 5900h:12 (R454). -/
def networkClearRule : Rule P1 := effRule fun s => (s.wr (ob 0x5900 0x0B) 0).clearSubs 0x5900 0x0D 0x11

/-- An AOA datagram is discarded and counted (R433). -/
def aoaDiscard (s : P1) : P1 := s.inc (ob 0x5900 0x0F)

/-- An interface receives datagrams: its ports are powered and not in fault, and the DP pair has an IPv4 address (R454). -/
def ifaceUp (i : Iface) (s : P1) : Bool :=
  match i with
  | .dp => dpIp s
  | .svc0 => serviceOn 0 s
  | .svc1 => serviceOn 1 s

/-- The supervision interval has passed since the last supervision frame (R425). -/
def supervisionDue (s : P1) : Bool :=
  match s.net.supervisedAt with
  | some g => s.rdN (ob 0x5900 7) * 1000 ≤ s.elapsed - g
  | none => true

/-- A supervision frame is sent on both ports (R425). -/
def supervise (s : P1) : P1 :=
  if supervisionDue s then
    let t := netSend 4 .supervision s
    { t with net := { t.net with supervisedAt := some s.elapsed } }
  else s

/-- A port has a LAN fault (R425). -/
def lanFault (p : DpPort) (s : P1) : P1 := if dpOn (dpIdx p) s && lanFaulty p s then setLanFault p s else s

/-! ### Meanings -/

/-- PRP_FRAME_RECEIVED (R423). -/
def execPrpFrameReceived (p : DpPort) (f : DpFrame) (s : State) : Out := onP1 (prpFrame p f) s

/-- PRP_SUPERVISION (R425). -/
def execPrpSupervision (s : State) : Out := onP1 supervise s

/-- SFP_MODULE_CHANGE (R421). -/
def execSfpModuleChange (p : DpPort) (inserted : Bool) (rate : Nat) (s : State) : Out :=
  onP1 (sfpChange p inserted rate) s

/-- NODE_FORGET (R424). -/
def execNodeForget (source : Nat) (s : State) : Out := onP1 (nodeForget source) s

/-- IGMP_QUERY (R428). -/
def execIgmpQuery (s : State) : Out := onP1 igmpReports s

/-- GROUP_ENABLE (R428). -/
def execGroupEnable (w : Nat) (k : Fin 16) (v : Int) (s : State) : Out :=
  onReq w (ob (0x5910 + k) 1) (.num v) (groupEnableRule k v) s

/-- AOA_DATAGRAM_DISCARD (R433): the count is one for every AOA interface that receives. -/
def execAoaDatagramDiscard (iface : Iface) (s : State) : Out := onP1 (fun t => if ifaceUp iface t then aoaDiscard t else t) s

/-- SET_MESSAGE_SEGMENT_TIMEOUT (R436): the incomplete message of the DP pair is discarded and counted. -/
def execSetMessageSegmentTimeout (s : State) : Out := onP1 (fun t => if dpIp t then aoaDiscard t else t) s

/-- SENSOR_PORT_DATAGRAM (R430). -/
def execSensorPortDatagram (port : SidePort) (kind : PortDatagram) (s : State) : Out := onP1 (portDatagram port kind) s

/-- NETWORK_CLEAR_COUNTERS (R454). -/
def execNetworkClearCounters (w : Nat) (v : Int) (s : State) : Out :=
  onReq w (ob 0x5900 0x12) (.num v) networkClearRule s

end Sys2Proof.Machine
end

