-- ==== Sys2Proof/Machine/Store.lean ====
section
/-! DEFINITION. The parameter store (chapter "DMA engine and parameter store", R524–R530) and the images of R412 over
stored objects (R463). A bank's body lists the stored values that differ from their defaults (assumption 22). -/

namespace Sys2Proof.Machine

/-- The value of a stored subindex in force. -/
def valueOf (s : P1) (k : Nat) : Val :=
  match rowOf k with
  | some r => if r.ty.octets then .bytes (s.octets k) else .num (s.rd k)
  | none => .num 0

/-- The octets of a stored value with the padding of R525. -/
def entrySize (s : P1) (k : Nat) : Nat :=
  match rowOf k with
  | some r => 8 + (((if r.ty.octets then (s.octets k).length else r.ty.size) + 3) / 4 * 4)
  | none => 0

/-- The length of the body of an image (R525). -/
def imageLength (s : P1) : Nat := (allKeys.filter stored).foldl (fun n k => n + entrySize s k) 0

/-- The objects that the set check leaves out (R463): module-local ones. -/
def setLocal (k : Nat) : Bool :=
  k = ob 0x2100 0x11 || (ob 0x5900 3 ≤ k && k ≤ ob 0x5900 5)
    || ((k / 256 = 0x5920 || k / 256 = 0x5921) && k % 256 ≤ 3)
    || (0x5930 ≤ k / 256 && k / 256 < 0x5934 && (k % 256 = 3 || k % 256 = 4))
    || k = ob 0x6400 7 || (0x6610 ≤ k / 256 && k / 256 < 0x6614 && k % 256 = 2)

/-- The image of R412 over the keys that meet a test. -/
def imageOf (s : P1) (p : Nat → Bool) : List Byte :=
  (allKeys.filter p).flatMap fun k =>
    match rowOf k with
    | some r => imageEntry k r.ty (valueOf s k)
    | none => []

/-- The set check 6400h:0A (R463). -/
def setCheckOf (s : P1) : Nat := crc32c (imageOf s fun k => stored k && !setLocal k)

/-- The stored values that differ from their defaults, in ascending key (R525). -/
def imageBody (s : P1) : List (Nat × Val) :=
  (s.od.filter fun e => stored e.1).map (fun e => (e.1, Val.num e.2))
    ++ (s.dom.filter fun e => stored e.1 && e.2.bytes ≠ []).map (fun e => (e.1, Val.bytes e.2.bytes))

/-- A bank of the store: 0 A, 1 B. -/
def P1.bank (s : P1) (b : Nat) : Option Bank := if b = 0 then s.bankA else s.bankB

/-- The state with a bank replaced. -/
def P1.setBank (s : P1) (b : Nat) (x : Option Bank) : P1 := if b = 0 then { s with bankA := x } else { s with bankB := x }

/-- The state of the store, 6500h:02, after a save has begun or ended. -/
def showStore (s : P1) : P1 :=
  (s.setBit (ob 0x6500 2) 0 s.save.isSome).setBit (ob 0x6500 2) 1 s.saveHeld

/-- Begin a save to the bank that is not active (R528): the target's magic is no longer sound from here on. -/
def beginSave (s : P1) : P1 :=
  let active := s.rdN (ob 0x6500 3)
  let target := if active = 0 then 1 else 0
  let q := if active = 0xFF then 1 else (s.rdN (ob 0x6500 4) + 1) % 2 ^ 32
  showStore ({ s with save := some ⟨1, target, ⟨q, s.ns, setCheckOf s, imageBody s⟩, s.elapsed⟩ }.setBank target none)

/-- The grain of the request ends: the image holds the values in force after every event of it (R527). -/
def sealImage (s : P1) : P1 :=
  match s.save with
  | some v =>
    if v.grain = s.elapsed then
      { s with save := some { v with image := { v.image with setCheck := setCheckOf s, body := imageBody s } } }
    else s
  | none => s

/-- A save is requested (R527): it begins, or it is held while one runs. -/
def requestSave (s : P1) : P1 :=
  if s.save.isSome then showStore { s with saveHeld := true } else beginSave s

/-- The rule of 6500h:01. -/
def saveRule : Rule P1 where
  mode := fun s => if s.mode = 0 then abMode else 0
  check := fun _ => 0
  busy := fun _ => 0
  eff := requestSave

/-- A held save starts when the running one has ended (R527). -/
def nextSave (s : P1) : P1 := if s.saveHeld then beginSave { s with saveHeld := false } else showStore s

/-- A step of the running save has failed with a cause of R519 (R528). -/
def saveFails (v : Save) (cause : Nat) (s : P1) : P1 :=
  nextSave (recordAlarm true 0x0F01 (packDetails [(8, v.step), (8, cause)]) 0
    (({ s with save := none }.inc (ob 0x6500 6)).setBit (ob 0x6500 2) 2 true))

/-- A step of the running save has completed with its read-back, or failed in it (R528). The steps follow the grain of the request,
and run on DMA channel 1: stopped, it fails them with cause 7. -/
def saveStep (ok : Bool) (s : P1) : P1 :=
  match s.save with
  | none => s
  | some v =>
    if v.grain = s.elapsed then s
    else if s.stopped (dmaAddr 1) then saveFails v 7 s
    else if !ok then saveFails v 6 s
    else if v.step < 3 then { s with save := some { v with step := v.step + 1 } }
    else
      let t := ((((({ s with save := none }.setBank v.target (some v.image)).wr (ob 0x6500 3) v.target).wr
        (ob 0x6500 4) v.image.sequence).inc (ob 0x6500 5)).wr (ob 0x6500 7) v.image.saveTime).wr (ob 0x6500 8)
          (imageLength s)
      let u := record 0x0F00 (packDetails [(8, v.target), (24, v.image.sequence)])
        (t.setBit (ob 0x6500 2) 2 false)
      nextSave (lower 0x0F01 0 u)

/-- The rule of 6500h:0B (R530). -/
def eraseRule : Rule P1 where
  mode := fun s => if s.mode = 1 then 0 else abMode
  check := fun _ => 0
  busy := fun _ => 0
  eff := fun s => record 0x0F02 0 { s with bankA := none, bankB := none }

/-! ### Loading (R91, R529, R536) -/

/-- Sequence `a` is later than `b` (R91). -/
def laterSeq (a b : Nat) : Bool :=
  let d := (a + 2 ^ 32 - b) % 2 ^ 32
  1 ≤ d && d ≤ 0x7FFFFFFF

/-- The bank selected at a start (R91): 0 A, 1 B, none where neither is valid. -/
def selectBank (s : P1) : Option Nat :=
  match s.bankA, s.bankB with
  | some a, some b => if laterSeq b.sequence a.sequence then some 1 else some 0
  | some _, none => some 0
  | none, some _ => some 1
  | none, none => none

/-- The value of a stored entry is accepted by its object at load (R529, R586). -/
def loadable (s : P1) (k : Nat) (x : Val) : Bool :=
  match rowOf k with
  | some r => stored k && sizeOk r x && r.rng.admits r.ty x
      && (match x with
        | .num v => k / 256 ≠ 0x6031 || codeLimitCheck (k % 256) v s = 0
        | .bytes _ => true)
  | none => false

/-- Load one entry, or skip it (R529). Loading is not a write: no generation changes (R536). -/
def loadEntry (s : P1) (e : Nat × Val) : P1 :=
  if loadable s e.1 e.2 then
    match e.2 with
    | .num v => s.wr e.1 v
    | .bytes b => { s with dom := domInsert e.1 ⟨b, s.gen e.1⟩ s.dom }
  else record 0x0F03 (e.1 / 256) (s.inc (ob 0x6500 9))

/-! ### Meanings -/

/-- STORE_SAVE (R527). -/
def execStoreSave (w : Nat) (v : Int) (s : State) : Out := onReq w (ob 0x6500 1) (.num v) saveRule s

/-- SAVE_STEP_COMPLETE (R528). -/
def execSaveStepComplete (ok : Bool) (s : State) : Out := onP1 (saveStep ok) s

/-- ERASE_STORE (R530). -/
def execEraseStore (w : Nat) (v : Int) (s : State) : Out := onReq w (ob 0x6500 0x0B) (.num v) eraseRule s

end Sys2Proof.Machine
end

