-- ==== Sys2Proof/Machine/Wave.lean ====
section
/-! DEFINITION. Close Hold (chapter "Station control law and Close Hold", R237–R242): the wave series, predictions, the
skill and WAVE_READY. -/

namespace Sys2Proof.Machine

/-- The engine that a job type is assigned to (R173, 4400h:02): 15 where it is unassigned. -/
def engineOf (t : Nat) (s : P1) : Nat := s.field (ob 0x4400 2) (4 * (t - 1)) 4

/-- A job type is assigned (R173). -/
def assigned (t : Nat) (s : P1) : Bool := engineOf t s ≠ 15

/-- The sample interval Δ in ms (R237, 4300h:05). -/
def waveDelta (s : P1) : Nat := if s.rd (ob 0x4300 5) = 0 then 100 else 50

/-- Samples in the skill window 4300h:07 and in the fit window 4300h:03. -/
def skillCount (s : P1) : Nat := s.rdN (ob 0x4300 7) * 1000 / waveDelta s
/-- See `skillCount`. -/
def fitCount (s : P1) : Nat := s.rdN (ob 0x4300 3) * 1000 / waveDelta s

/-- The window of samples that have a prediction, when it is full (R239, R240). -/
def skillWindow (s : P1) : Option (List (Vector Rat 3 × Vector Rat 3)) :=
  let l := (s.ctl.wave.samples.take (skillCount s)).filterMap fun x => x.hat.map fun h => (x.x, h)
  if l.length = skillCount s && l ≠ [] then some l else none

/-- The skill S of a degree of freedom over a window (R239). -/
def skillOf (d : Fin 3) (l : List (Vector Rat 3 × Vector Rat 3)) (s : P1) : Rat :=
  let xx := l.foldl (fun a e => a + e.1[d] * e.1[d]) 0
  let ee := l.foldl (fun a e => a + (e.1[d] - e.2[d]) * (e.1[d] - e.2[d])) 0
  let unit : Rat := if d = 2 then 1000000 else 10000
  let quiet : Rat := (s.rd (ob (0x4301 + d) 9) : Rat) / unit
  if xx < quiet * quiet * ((l.length : Nat) : Rat) then 1 else if xx = 0 then Config.freeRat s.free else 1 - ee / xx

/-- The smaller of two rationals. -/
def minQ (a b : Rat) : Rat := if a < b then a else b

/-- The Close Hold skill in per mille (R239); below 0 it reads 0 (assumption 6). -/
def skillNow (l : List (Vector Rat 3 × Vector Rat 3)) (s : P1) : Int :=
  clamp 0 1000 (Config.fp64 s.free (1000 * minQ (skillOf 0 l s) (minQ (skillOf 1 l s) (skillOf 2 l s)))).floor

/-- WAVE_READY, 4304h:02 bit 0. -/
def waveReady (s : P1) : Bool := s.bit (ob 0x4304 2) 0

/-- A fit exists and its age is within 4300h:06 (R240). -/
def fitFresh (s : P1) : Bool :=
  s.octets (ob 0x4304 5) ≠ [] && s.ns - s.rdN (ob 0x4304 4) ≤ s.rdN (ob 0x4300 6) * 1000000000

/-- WAVE_READY clears for a condition of R240: 1 fit age, 2 WAVE unassigned, 3 skill at the exit level. -/
def clearReady (cause : Nat) (s : P1) : P1 :=
  if waveReady s then record 0x0402 cause (s.setBit (ob 0x4304 2) 0 false) else s

/-- The exit time runs while the skill is at or below the exit level (R240). -/
def trackExit (s : P1) : P1 :=
  if waveReady s && s.rd (ob 0x4304 1) ≤ s.rd (ob 0x4300 0x0A) then
    if s.ctl.wave.exitSince.isSome then s
    else { s.setBit (ob 0x4304 2) 2 true with
           ctl := { s.ctl with wave := { s.ctl.wave with exitSince := some s.elapsed } } }
  else { s.setBit (ob 0x4304 2) 2 false with ctl := { s.ctl with wave := { s.ctl.wave with exitSince := none } } }

/-- WAVE_READY sets when every condition of R240 holds. -/
def judgeReady (s : P1) : P1 :=
  if !waveReady s && assigned 6 s && fitFresh s && (skillWindow s).isSome
      && s.rd (ob 0x4300 8) ≤ s.rd (ob 0x4304 1) then record 0x0401 0 (s.setBit (ob 0x4304 2) 0 true)
  else s

/-- The three displacements of the wave series at this instant (R237). -/
def waveNow (s : P1) : Vector Rat 3 :=
  #v[(waveSum s.fus.x 0 0).getD 0, (waveSum s.fus.x 1 0).getD 0, (waveSum s.fus.x 2 0).getD 0]

/-- A sample of the wave series (R237, R239): compared with the prediction made for its instant, or with the latest made
for an earlier one (assumption 6). Samples fall on module-time multiples of Δ. -/
def waveSample (s : P1) : P1 :=
  if s.grainStart % (waveDelta s * 1000000) ≠ 0 then s
  else
  let w := s.ctl.wave
  let due := w.preds.filter fun p => p.1 ≤ s.ns
  let x : WaveSample := ⟨s.ns, waveNow s, due.getLast?.map (·.2)⟩
  let keep := max (fitCount s) (skillCount s)
  let t : P1 := { s with ctl := { s.ctl with wave := { w with
    samples := (x :: w.samples).take keep, preds := w.preds.filter fun p => s.ns < p.1 } } }
  let u := match skillWindow t with
    | some l => (t.wr (ob 0x4304 1) (skillNow l t)).draw
    | none => t
  judgeReady (trackExit u)

/-- The order p of the fit in force. -/
def waveOrder (s : P1) : Nat := (s.octets (ob 0x4304 5)).length / 24

/-- Coefficient a_i of a degree of freedom. -/
def waveCoeff (b : List Byte) (p : Nat) (d : Fin 3) (i : Nat) : Rat := (ieeeDecode 52 11 (leAt b (8 * (p * d.val + i)) 8)).q

/-- The series run forward by `n` steps (R241): newest first, earlier predictions used as they are made. -/
def runForward (a : List Rat) : Nat → List Rat → List Rat
  | 0, l => l
  | n + 1, l => runForward a n ((List.zipWith (· * ·) a l).foldl (· + ·) 0 :: l)

/-- The prediction of a degree of freedom at t_p (R241): x̂, v̂ and â by linear interpolation and central differences. -/
def predict (d : Fin 3) (s : P1) : Rat × Rat × Rat :=
  let w := s.ctl.wave
  let b := s.octets (ob 0x4304 5)
  let p := waveOrder s
  let a := (List.range p).map fun i => waveCoeff b p d i
  let last := match w.samples with
    | x :: _ => x.ns
    | [] => s.ns
  let dt : Rat := ((waveDelta s : Nat) : Rat) / 1000
  let ahead : Rat := (((s.ns + s.rdN (ob 0x4300 4) * 1000000 : Nat) : Rat) - ((last : Nat) : Rat)) / 1000000000 / dt
  let k := ahead.floor.toNat
  let f := ahead - ((k : Nat) : Rat)
  let l := runForward a (k + 2) (w.samples.map fun x => x.x[d])
  let at_ (j : Nat) : Rat := l.getD j 0
  let x := at_ 2 + f * (at_ 1 - at_ 2)
  let v (j : Nat) : Rat := (at_ (j - 1) - at_ (j + 1)) / (2 * dt)
  let acc (j : Nat) : Rat := (at_ (j - 1) - 2 * at_ j + at_ (j + 1)) / (dt * dt)
  (x, v 2 + f * (v 1 - v 2), acc 2 + f * (acc 1 - acc 2))

/-- The predictions of a station cycle (R241): x̂ clipped to the amplitude limit; they wait for their instant (R239) and
stand ready for the wave term. -/
def wavePredict (s : P1) : P1 :=
  if s.octets (ob 0x4304 5) = [] then s
  else
    let lim (d : Fin 3) : Rat := (s.rd (ob (0x4301 + d) 8) : Rat)
    let unit (d : Fin 3) : Rat := if d = 2 then 1000000 else 10000
    let r (d : Fin 3) : Rat × Rat × Rat := predict d s
    let x (d : Fin 3) : Rat := clampQ (-(lim d)) (lim d) (Config.fp64 (s.free + d) ((r d).1 * unit d))
    let v (d : Fin 3) : Option Rat := some (Config.fp64 (s.free + 3 + d) ((r d).2.1 * unit d))
    let a (d : Fin 3) : Option Rat := some (Config.fp64 (s.free + 6 + d) ((r d).2.2 * unit d))
    let w := s.ctl.wave
    let hat : Vector Rat 3 := #v[x 0 / unit 0, x 1 / unit 1, x 2 / unit 2]
    { s with ctl := { s.ctl with wave := { w with
        preds := w.preds ++ [(s.ns + s.rdN (ob 0x4300 4) * 1000000, hat)]
        xhat := #v[some (x 0), some (x 1), some (x 2)]
        vhat := #v[v 0, v 1, v 2]
        ahat := #v[a 0, a 1, a 2] } } }.drawN 9

/-- Frequency in rad/s and damping of a pole of a series with a sample interval in seconds (R238): of the natural mode
(assumption 108). -/
def poleOsc (dt : Rat) (p : Rat × Rat) : Rat × Rat :=
  let a := Config.log (Config.sqrt (p.1 * p.1 + p.2 * p.2)) / dt
  let b := Config.atan2 p.2 p.1 / dt
  let w := Config.sqrt (a * a + b * b)
  (w, if w = 0 then 0 else -a / w)

/-- The square of a pole's magnitude. -/
def poleSize (p : Rat × Rat) : Rat := p.1 * p.1 + p.2 * p.2

/-- Poles in descending order of magnitude. -/
def sortPoles (l : List (Rat × Rat)) : List (Rat × Rat) :=
  l.foldl (fun o p => o.takeWhile (fun q => poleSize p ≤ poleSize q) ++ p :: o.dropWhile (fun q => poleSize p ≤ poleSize q)) []

/-- The oscillators that a fit sets (R238): of the complex pole pairs of each degree of freedom the three largest. -/
def oscillators (b : List Byte) (s : P1) : Vector (Option (Rat × Rat)) 9 :=
  let p := b.length / 24
  let dt : Rat := ((waveDelta s : Nat) : Rat) / 1000
  let of (d : Fin 3) : List (Rat × Rat) :=
    (sortPoles ((Config.poles ((List.range p).map fun i => waveCoeff b p d i)).filter fun z => 0 < z.2)).map (poleOsc dt)
  Vector.ofFn fun (k : Fin 9) => (of ⟨k.val / 3, by omega⟩)[k.val % 3]?

/-- A fit that ended takes effect at a G+0 (R238): coefficients, the end of its window, and the estimator's oscillators. -/
def adoptFit (s : P1) : P1 :=
  match s.ctl.wave.result with
  | some (stop, b) =>
    let t : P1 := { s.setOctets (ob 0x4304 5) b with
      ctl := { s.ctl with wave := { s.ctl.wave with result := none } }, fus := { s.fus with osc := oscillators b s } }
    judgeReady (t.wr (ob 0x4304 4) stop)
  | none => s

/-- The rule of 4300h:08–0A (R249): the levels stay in the order S_exit < S_fade ≤ ready level. -/
def waveLevelRule (sub : Nat) (v : Int) : Rule P1 :=
  checkRule (fun s =>
    let x (k : Nat) : Int := if k = sub then v else s.rd (ob 0x4300 k)
    if x 0x0A < x 9 && x 9 ≤ x 8 then 0 else abRange) fun s => s.wr (ob 0x4300 sub) v

end Sys2Proof.Machine
end

