-- ==== Sys2Proof/Machine/Handover.lean ====
section
/-! DEFINITION. Roles and modes as every chapter changes them: the set messages and the relinquish (R464, R476), the
module-level fault (R62), the transition table (R66–R78) with its actions, Winter (R82), the automatic transitions. -/

namespace Sys2Proof.Machine

/-! ### Set messages (R464, R466) -/

/-- The role of a code of 2100h:10. -/
def roleOf (n : Nat) : Role := if n = 2 then .lead else if n = 1 then .shadow else .isolated

/-- A real number of metres or radians as the mirror carries it: in 2⁻³² units. -/
def mirrorUnits (n : Nat) (q : Option Rat) : Int := toUnits n q

/-- The set-point objects of section 2 beside the generators (R466). -/
def setPointKeys : List Nat :=
  [ob 0x4031 2, ob 0x4031 3, ob 0x4031 4, ob 0x4032 1, ob 0x4032 2, ob 0x4032 3, ob 0x4033 4]

/-- A value as an F32 carries it. -/
def asF32 (q : Rat) : Rat := (f32 (toF32 q)).q

/-- Section 5 (R466): the covariance as F32, and for each slot bits 31 to 16 of its status with the counts behind them. -/
def estimateSection (s : P1) : MirrorEstimate :=
  ⟨s.fus.x.toList, s.fus.cov.toList.map (fun v => v.map asF32), s.fus.cross.map (fun v => v.map asF32),
    (List.finRange 64).map fun (i : Fin 64) =>
      (s.field (ob (0x3100 + i) 0x14) 16 16, s.slots[i].passes, s.slots[i].fails, s.slots[i].failsH)⟩

/-- The mirror of the last released cycle (R466); its writes are those of the cycle. -/
def buildMirror (s : P1) : Mirror :=
  let b := s.ctl.usedBlend.getD ⟨⟨0, 0, 0⟩, 0, 0⟩
  let p := lowPose s
  let g (i : Fin 3) : GenState := ⟨s.ctl.gens[i].p, s.ctl.gens[i].v, s.ctl.gens[i].a, s.ctl.gens[i].target⟩
  { mode := s.mode
    previousMode := s.rdN (ob 0x2100 3)
    target := s.field kModeStatus 16 8
    pending := s.bit kModeStatus 0
    blendR := [b.r.x, b.r.y, b.r.n]
    blendK := b.k
    blendKk := b.len
    grade := s.grade
    hold := s.rdN (ob 0x3300 0x0D)
    dispute := s.rdN (ob 0x3300 0x0E)
    changeStamp := s.rdN (ob 0x2100 8)
    gens := [g 0, g 1, g 2]
    setPoints := setPointKeys.map fun k => s.rd k
    dwell := dwellLeft s
    law := s.ctl.used.toList
    lawOutput := (List.range 3).map fun d => s.rd (ob 0x4201 (1 + d))
    estNorth := mirrorUnits s.free p.n
    estEast := mirrorUnits s.free p.e
    estHeading := mirrorUnits s.free p.psi
    alloc := allocSection s
    estimate := estimateSection s
    close := ⟨s.octets (ob 0x4304 5), s.rd (ob 0x4304 1), waveReady s, s.rdN (ob 0x4304 4)⟩
    writes := s.red.sending }

/-- The partners heard in the last 3 cycles, as the message's octet (R464). -/
def heardMap (s : P1) : Nat := s.red.partners.foldl (fun m p => if p.age ≤ 3 then m ||| 2 ^ p.id else m) 0

/-- A set message of this module (R464); `nominee` and `cls` are those of a relinquish. -/
def buildMessage (nominee cls : Nat) (m : Option Mirror) (s : P1) : SetMessage :=
  { source := s.rdN kModuleId
    seq := frameSequence s
    role := roleOf s.role
    mode := s.mode
    grade := s.grade
    health := s.rdN (ob 0x6400 5)
    eligible := s.bit kRed 0
    member := s.bit kRed 1
    rejoinHold := s.bit kRed 2
    moduleFault := s.red.moduleFault
    heard := heardMap s
    setCheck := setCheckOf s
    leadSince := s.rdN (ob 0x6400 6)
    nominee := nominee
    cls := cls
    mirror := m }

/-! ### Roles (R459, R476, R483) -/

/-- The Lead output follows the role (R459, R483): its DO is on exactly while the module is Lead. -/
def leadOutput (s : P1) : P1 :=
  let n := s.rdN (ob 0x6400 7)
  if n < 16 then s.setBit (ob 0x5400 7) n (s.role = 2) else s

/-- The role in force, with Lead since and the Lead output. -/
def setRole (r : Nat) (s : P1) : P1 :=
  leadOutput (s.wrs [(kRole, r), (ob 0x6400 6, if r = 2 then s.ns else 0)])

/-- Commands of the current cycle that are not yet released are not released; LEAD frames and reference messages are
removed; analog command outputs go to their safe values (R476 steps 1 and 2). -/
def stopLeading (s : P1) : P1 :=
  analogSafeAll (eachCan canDropLead { s with alc := { s.alc with due := false, queue := [] } })

/-- SUP and die N work, so that the relinquish message can be sent (R476 step 4). -/
def canSend (s : P1) : Bool := !s.stopped (ctlAddr 2) && !s.stopped (dieBlock .n)

/-- The mirror of a relinquish (R476, R478, R482): that of the last released cycle, with the mode and a pending change as
they stand, and the accepted writes that no message has carried. -/
def lastMirror (s : P1) : Option Mirror :=
  s.red.mirrorSent.map fun m => { m with
    mode := s.mode
    previousMode := s.rdN (ob 0x2100 3)
    target := s.field kModeStatus 16 8
    pending := s.bit kModeStatus 0
    writes := s.red.sending ++ s.red.forward }

/-- The record of a role that is given up; the alarm that 0E03h raises ends at once (R553). -/
def recordGiveUp (code p : Nat) (s : P1) : P1 :=
  if code = 0x0E03 then lower code p (recordAlarm true code p p s) else record code p s

/-- A Lead relinquishes (R476) under a record code: `newRole` 0 Isolated or 1 Shadow. A Shadow enters rejoin hold (R474). In
a set of one only the role changes (R98, R460). -/
def relinquishAs (code p cls nominee newRole : Nat) (s : P1) : P1 :=
  let t := stopLeading s
  if s.setSize = 1 then setRole newRole t
  else
    let u := if canSend s then netSend 7 (.setMessage (buildMessage nominee cls (lastMirror s) s) true) t else t
    let v := recordGiveUp code p ((setRole newRole u).inc (ob 0x6400 0x0F))
    if newRole = 1 then { v.setBit kRed 2 true with red := { v.red with rejoinSince := some v.elapsed } } else v

/-- A relinquish with its class and nominee, 0E03h. -/
def relinquish (cls nominee newRole : Nat) (s : P1) : P1 :=
  relinquishAs 0x0E03 (packDetails [(8, cls), (8, nominee)]) cls nominee newRole s

/-- Partners whose cycle message of the previous station cycle was received. -/
def recent (s : P1) : List Partner := s.red.partners.filter fun p => p.age ≤ 1

/-- Rank order of R462: health, then Shadow before Isolated, then the lower ID. -/
def ranksBefore (h1 : Nat) (shadow1 : Bool) (id1 h2 : Nat) (shadow2 : Bool) (id2 : Nat) : Bool :=
  h2 < h1 || (h1 = h2 && ((shadow1 && !shadow2) || (shadow1 = shadow2 && id1 < id2)))

/-- A partner is eligible in this module's view: by its flags. A Lead, whose own frames keep a partner from being eligible
until it relinquishes, goes by membership, health and rejoin hold (R461, R477). -/
def ableInView (p : Partner) (s : P1) : Bool :=
  if s.role = 2 then p.msg.member && !p.msg.rejoinHold && s.rdN (ob 0x6400 4) ≤ p.msg.health else p.msg.eligible

/-- The first-ranked eligible partner (R462), none where none is eligible. -/
def bestPartner (s : P1) : Option Partner :=
  (recent s).foldl (fun m p =>
    if !ableInView p s then m
    else match m with
      | none => some p
      | some q => if ranksBefore p.msg.health (p.msg.role = .shadow) p.id q.msg.health (q.msg.role = .shadow) q.id
          then some p else m) none

/-- The nominee of a relinquish (R476). -/
def nomineeOf (s : P1) : Nat := match bestPartner s with
  | some p => p.id
  | none => 0

/-- A module-level fault (R62): control is given up and the role is Isolated until a reset (R98). -/
def moduleFault (s : P1) : P1 :=
  let t := { s with red := { s.red with moduleFault := true } }
  if s.role = 2 then relinquish 0 (nomineeOf s) 0 t
  else if s.role = 1 then
    record 0x0E00 (packDetails [(8, 1), (8, 0)]) (stopLeading (setRole 0 t))
  else stopLeading t

/-! ### Modes (R66–R70) -/

/-- The modes in which a Lead allocates (R66). -/
def allocating (m : Nat) : Bool := 4 ≤ m && m ≤ 10

/-- 2100h:02, 03, 08 and TARGET of an accepted change (R69, R96, R97). A target that has not governed is recorded under
0230h plus its code; Dormant has no cycle to govern, so its change stays pending until the wake supersedes it (assumption
93). -/
def changeMode (target : Nat) (s : P1) : P1 :=
  let t := if s.bit kModeStatus 0 then record (0x0230 + s.field kModeStatus 16 8) 0 s else s
  (t.wrs [(ob 0x2100 3, s.mode), (kMode, target), (ob 0x2100 8, s.stamp)]).setField kModeStatus 16 8 target |>.setBit
    kModeStatus 0 true

/-- The target governs (R69): PENDING clears. -/
def govern (s : P1) : P1 :=
  let m := s.mode
  { s with lawMode := m,
           alc := { s.alc with first := s.alc.first || !allocating s.lawMode },
           ctl := { s.ctl with first := true } }.setBit kModeStatus 0 false

/-- Winter and Manual Lever act at once (R70, R82): the rest of the current cycle's commands are Winter or no-lead
commands, analog outputs go to their safe values, integrators, generators and blend are cleared. -/
def actAtOnce (s : P1) : P1 :=
  let rest := if s.alc.due then List.finRange 16 else s.alc.queue.map (·.thr)
  let t := clearLaw (stopAllocating (govern (analogSafeAll s)))
  if s.alc.opened then releaseReady (queueIdle rest t) else t

/-- Every slot set to qualifying (R74, R83). -/
def requalifyAll (s : P1) : P1 :=
  let clear (x : SlotState) : SlotState := { x with passes := 0, fails := 0, failsH := 0, entered := false }
  (List.range 64).foldl (fun t i =>
    if t.bit (ob (0x3100 + i) 0x14) 0 then t.setField (ob (0x3100 + i) 0x14) 16 3 1 |>.setField (ob (0x3100 + i) 0x14) 24 4 0
    else t) { s with slots := s.slots.map clear }

/-- The save on a transition from Commissioning to Standby (R527). -/
def autoSave (s : P1) : P1 := if s.rd (ob 0x6500 0x0A) = 1 then requestSave s else s

/-- Close Hold begins (R242): the ramp starts, and the fade factor has not yet been full. -/
def enterCloseHold (s : P1) : P1 :=
  { s with ctl := { s.ctl with wave := { s.ctl.wave with entry := s.elapsed, full := false } } }

/-- The actions of entry to a mode from another (R74); `auto` marks an automatic transition, whose trigger sets the set-points
from Auto Track. -/
def entryAction (auto : Bool) (source target : Nat) (s : P1) : P1 :=
  match target with
  | 0 => if s.role = 2 then relinquish 0xFF (nomineeOf s) 0 s else setRole 0 s
  | 1 => if s.role = 2 then relinquish 0xFF (nomineeOf s) 0 s else setRole 0 s
  | 2 =>
    if source = 1 then autoSave (requalifyAll (endTest s))
    else if 3 ≤ source ∧ source ≤ 10 then clearLaw s
    else s
  | 3 => actAtOnce s
  | 5 => captureHdg s
  | 6 => if source = 10 || (auto && source = 7) then s else capturePose s
  | 7 => enterTrack s
  | 8 => captureOffset (capturePose s)
  | 9 => captureRadius (capturePose s)
  | 10 => enterCloseHold s
  | 11 => actAtOnce (if source = 1 then endTest s else s)
  | _ => s

/-- A module of a set of one takes the Lead role in the grain of a transition out of Dormant or Commissioning (R98). -/
def leaveIdle (source : Nat) (s : P1) : P1 :=
  if source ≤ 1 && 2 ≤ s.mode && s.setSize = 1 && !s.red.moduleFault then setRole 2 s else s

/-- An accepted transition (R74): the change, its action and its record. -/
def transition (auto : Bool) (target code : Nat) (s : P1) : P1 :=
  let m := s.mode
  record code 0 (leaveIdle m (entryAction auto m target (changeMode target s)))

/-- An automatic transition (R74, R75). A Shadow's mode follows the Lead (R71). -/
def automatic (target cause : Nat) (s : P1) : P1 :=
  if s.role = 1 then s else transition true target (0x0210 + target) (s.wr (ob 0x2100 0x0A) cause)

/-! ### The transition table (R74) -/

/-- A heading source is accepted. -/
def headingAccepted (s : P1) : Bool := 0 < s.rd (ob 0x3300 0x11)

/-- Grade G1, G2 or G3. -/
def gradeHolds (s : P1) : Bool := 1 ≤ s.grade && s.grade ≤ 3

/-- At least one thruster is enabled and not stopped by SF-1. -/
def thrusterReady (s : P1) : Bool :=
  (List.finRange 16).any fun (i : Fin 16) => s.rd (thrKey i 1) = 1 && !sf1Stopped i s

/-- The fusion state of a slot (R150): 2 is accepted. -/
def slotFusion (i : Nat) (s : P1) : Nat := s.field (ob (0x3100 + i) 0x14) 16 3

/-- The target slot 4031h:01 is accepted. -/
def targetAccepted (s : P1) : Bool := s.rdN (ob 0x4031 1) < 64 && slotFusion (s.rdN (ob 0x4031 1)) s = 2

/-- A pair of the transition table (R74). -/
def pairAllowed (source target : Nat) : Bool :=
  match target with
  | 0 => source = 2
  | 1 => source = 2
  | 2 => source = 0 || source = 1 || (3 ≤ source && source ≤ 11)
  | 3 => source = 2 || (4 ≤ source && source ≤ 10)
  | 4 => source = 2 || source = 3 || (5 ≤ source && source ≤ 10)
  | 5 => (2 ≤ source && source ≤ 4) || (6 ≤ source && source ≤ 10)
  | 6 => (2 ≤ source && source ≤ 5) || (7 ≤ source && source ≤ 10)
  | 7 => 4 ≤ source && source ≤ 6
  | 8 => source = 6
  | 9 => source = 6
  | 10 => source = 6
  | 11 => 1 ≤ source && source ≤ 10
  | _ => false

/-- The reason for which the condition of a row fails (R74, R78); 0 where it holds. Where several conditions fail, thrusters are
tested first, then the grade, then the others in the order of R74's row (assumption 94). -/
def conditionReason (source target : Nat) (authorisedSession : Bool) (s : P1) : Nat :=
  match target with
  | 1 => if authorisedSession then 0 else 9
  | 4 => if thrusterReady s then 0 else 12
  | 5 => if !thrusterReady s then 12 else if headingAccepted s then 0 else 3
  | 6 =>
    if source = 10 then 0
    else if !thrusterReady s then 12 else if gradeHolds s then 0 else 2
  | 7 => if !gradeHolds s then 2 else if trackReady s then 0 else 8
  | 8 => if !gradeHolds s then 2 else if targetAccepted s then 0 else 7
  | 9 => if !gradeHolds s then 2 else if pivotSet s then 0 else 13
  | 10 =>
    if !(1 ≤ s.grade && s.grade ≤ 2) then 2
    else if !s.bit (ob 0x3300 3) 5 then 5
    else if !(s.cycleLen = 2500 || s.cycleLen = 5000) then 4
    else if waveReady s then 0 else 6
  | _ => 0

/-- The Spring sequence runs (R83). -/
def springing (s : P1) : Bool := s.bit kModeStatus 2

/-- A session whose requests come over a service port, which is unpowered in Dormant (R47). -/
def overService (w : Nat) (s : P1) : Bool := s.sessions.any fun x => x.no = w && (x.iface = 1 || x.iface = 2)

/-- The reason for which a mode command is refused (R68, R71, R78, R84); 0 where it is accepted or without effect. The role is
tested before the Spring sequence (assumption 94). -/
def refusalReason (target : Nat) (authorisedSession : Bool) (s : P1) : Nat :=
  if s.role = 1 then 10
  else if s.role = 0 && !(target ≤ 2 || target = 11) then 10
  else if springing s then (if target = 11 then 0 else 11)
  else if target = s.mode then 0
  else if !pairAllowed s.mode target then 1
  else conditionReason s.mode target authorisedSession s

/-- The Spring sequence ends in failure or by a command to Winter (R84). -/
def endSpring (s : P1) : P1 := { s with springStep := 0 }.setBit kModeStatus 2 false

/-- The Spring sequence starts (R83): step 1 holds the Winter outputs and is recorded. -/
def startSpring (s : P1) : P1 :=
  record 0x0240 0 (({ s with springStep := 2 }.setBits kModeStatus [(2, true), (3, false)]).setField
    kModeStatus 8 8 0)

/-- The effect of an accepted mode command (R69, R74, R83). -/
def acceptMode (target : Nat) (s : P1) : P1 :=
  if springing s then endSpring s
  else if target = s.mode then s
  else if s.mode = 11 then startSpring s
  else transition false target (0x0200 + target) s

/-- A refused mode command: the reason, and the record 0220h plus its target (R68). -/
def refuseMode (target reason : Nat) (s : P1) : P1 := record (0x0220 + target) 0 (s.wr (ob 0x2100 7) reason)

/-- The reason for which a session's mode command is refused; Dormant is not left over a service port (R74), with reason 1
(assumption 94). -/
def sessionReason (w target : Nat) (s : P1) : Nat :=
  if s.mode = 0 && target ≠ 0 && overService w s then 1 else refusalReason target (authorised w s && w ≠ 0) s

/-- The rule of 2100h:01. -/
def modeRule (w : Nat) (target : Nat) : Rule P1 where
  mode := fun _ => 0
  check := fun _ => 0
  busy := fun s => if sessionReason w target s = 0 then 0 else abTransition
  eff := acceptMode target
  refused := fun a s => if a = abTransition then refuseMode target (sessionReason w target s) s else s

/-- A panel mode command (R67, R71): only from an input assigned to the mode; a Shadow counts it. -/
def panelMode (di : Fin 32) (target : Nat) (s : P1) : P1 :=
  if s.rdN (ob 0x2101 (target + 1)) ≠ di.val then s
  else if s.role = 1 then s.inc (ob 0x2100 0x0D)
  else
    let r := refusalReason target false s
    if r = 0 then acceptMode target s else refuseMode target r s

/-- A mode command from its source (R67). -/
def modeCommand (target : Nat) (src : CmdSource) (s : P1) : P1 :=
  match src with
  | .panel di =>
    if s.serves then panelMode di target s
    else if s.rdN (ob 0x2101 (target + 1)) = di.val then discard 1 0 target 0 s else s
  | .session w =>
    if s.serves then request w (ob 0x2100 1) (.num target) (modeRule w target) s else discard 1 w target (ob 0x2100 1) s

/-! ### Automatic transitions -/

/-- The conditions of Close Hold hold (R243). -/
def closeHoldHolds (s : P1) : Bool := conditionReason 6 10 false s = 0

/-- The loss of a Close Hold condition (R243). -/
def judgeCloseHold (s : P1) : P1 := if s.mode = 10 && !closeHoldHolds s then automatic 6 1 s else s

/-- The transitions that a grade causes (R74, R77, R165): below G5 to Winter, G5 to Joystick Auto Heading. -/
def judgeGrade (s : P1) : P1 :=
  if s.grade = 6 && 4 ≤ s.mode && s.mode ≤ 10 then automatic 11 5 s
  else if s.grade = 5 && 6 ≤ s.mode && s.mode ≤ 10 then automatic 5 4 s
  else judgeCloseHold s

/-- The target slot is no longer accepted (R74): set-points captured at the estimate. -/
def judgeTarget (s : P1) : P1 := if s.mode = 8 && !targetAccepted s then automatic 6 3 s else s

/-- The end of the track (R229): set-points captured at the final waypoint. -/
def trackEnd (s : P1) : P1 :=
  let g := s.ctl.gens
  automatic 6 2 (captureHeading g[2].target (captureHoriz g[0].target g[1].target s))

/-- The ALLOC result of a cycle, and the transition to Winter where no fallback entry exists (R269); it starts from modes
4–10 (R74), so a cycle that ends under a pending change to another mode only releases nothing. A result at G+900
or later releases nothing (R25). -/
def takeAlloc (r : AllocEnd) (s : P1) : P1 :=
  if s.alc.due && s.ns < s.alc.latch + 900000 then
    let t := allocResult r s
    if !t.2 then t.1
    else if allocating t.1.mode then automatic 11 6 t.1
    else { t.1 with alc := { t.1.alc with due := false } }
  else s

end Sys2Proof.Machine
end

