-- ==== Sys2Proof/Machine/FaultOps.lean ====
section
/-! DEFINITION. Reports of faults (chapter "Build hierarchy: units to module", R51–R62) and the end of a fault (R58). What
a stopped unit does with its own work stands with the unit. -/

namespace Sys2Proof.Machine

/-- Insert a fault in ascending address. -/
def insertFault (f : FaultRec) : List FaultRec → List FaultRec
  | [] => [f]
  | g :: r => if f.addr < g.addr then f :: g :: r else g :: insertFault f r

/-- The number of a die in alarm parameters. -/
def dieIdx (d : Die) : Fin 7 := match d with
  | .c => 0 | .t => 1 | .n => 2 | .g => 3 | .w => 4 | .f0 => 5 | .f1 => 6

/-- The dies. -/
def allDies : List Die := [.c, .t, .n, .g, .w, .f0, .f1]

/-- The state of a die (R59, R64, R583): 3 where a fault of its die or package is the failure of a link, 2 where another fault
stops it, 1 while its temperature alarm stands, else 0. Where both hold, the failed link is shown (assumption 89). -/
def dieState (d : Die) (s : P1) : Nat :=
  let l := (s.faults ++ s.unreported).filter fun f =>
    (levelOf f.addr = 3 || levelOf f.addr = 4) && blockHolds f.addr (dieBlock d)
  if l.any fun f => causeOf f.addr = 6 then 3
  else if l ≠ [] then 2
  else if (s.alarms ++ s.unlisted).any (fun a => a.code = 0x0015 && a.param = (dieIdx d).val && a.active) then 1 else 0

/-- 2201h and 2202h follow the faults (R64, R583): a die that is halted, behind a failed link or in a package in fault has no
temperature. -/
def showDies (s : P1) : P1 :=
  allDies.foldl (fun t d =>
    let st := dieState d s
    (if 2 ≤ st then t.wr (ob 0x2201 (dieSub d)) (-32768) else t).wr (ob 0x2202 (dieSub d)) st) s

/-- A subindex of structure k. -/
def stKey (k sub : Nat) : Nat := ob (0x4410 + k) sub

/-- An engine runs: no fault, powered (R47, R54). -/
def engineRuns (e : Nat) (s : P1) : Bool := !s.stopped (slvAddr e) && s.mode ≠ 0

/-- Structure k is resident (R208): one has been built or swapped in. -/
def isResident (k : Nat) (s : P1) : Bool := s.octets (stKey k 1) ≠ []

/-- RUNNING and RESIDENT of 4400h:01 follow the engines and the structures (R208). -/
def showSolver (s : P1) : P1 :=
  let running : Nat := (List.range 4).foldl (fun m i => if engineRuns i s then m + 2 ^ i else m) 0
  let resident : Nat := (List.range 16).foldl (fun m k => if isResident k s then m + 2 ^ k else m) 0
  (s.setField (ob 0x4400 1) 0 4 running).setField (ob 0x4400 1) 16 16 resident

/-- What shows which blocks work: the dies and the solver engines. -/
def showBlocks (s : P1) : P1 := showSolver (showDies s)

/-- 2200h:03 and 2200h:04 follow the faults (R64), and with them the dies and engines. -/
def showFaults (s : P1) : P1 :=
  showBlocks <| (s.wr (ob 0x2200 3) s.faults.length).setOctets (ob 0x2200 4)
    (s.faults.flatMap fun f => le 4 f.addr ++ le 4 (f.ns % 2 ^ 32))

/-- The block of a fault address is already in fault, itself or in a block that holds it (R57). -/
def contained (addr : Nat) (s : P1) : Bool := s.faults.any fun f => blockHolds f.addr (blockOf addr)

/-- LAST_CAUSE of a unit set. -/
def setLastCause (unit cause : Nat) (s : P1) : P1 :=
  { s with lastCauses := (unit, cause) :: s.lastCauses.filter fun e => e.1 ≠ unit }

/-- A fault of this block, with the faults already in force, is a module-level fault (R62). -/
def moduleLevel (block : Nat) (s : P1) : Bool :=
  block / 2 ^ 30 = 0
    || (block / 2 ^ 30 = 1 && (3 ≤ levelOf block
      || (List.range 3).any fun e => blockHolds block (ctlAddr e)))
    || ((List.range 4).any (fun e => blockHolds block (estAddr e)) && (List.range 4).all fun e => s.stopped (estAddr e))
    || ((List.range 4).any (fun e => blockHolds block (slvAddr e)) && (List.range 4).all fun e => s.stopped (slvAddr e))

/-- A fault comes on a block that works until then (R55): none in force stops it. -/
def stopsAnew (addr : Nat) (s : P1) : Bool :=
  if levelOf (blockOf addr) = 5 then !contained addr s else !s.stopped (blockOf addr)

/-- A fault inside one at system level is not reported (R57), and yet stops its block (R55), since that fault stops none. -/
def holdFault (addr : Nat) (s : P1) : P1 :=
  let b := blockOf addr
  if levelOf b = 5 || s.stopped b then s
  else
    { s with unreported := ⟨addr, s.ns, s.elapsed⟩ :: s.unreported.filter fun f => !blockHolds b f.addr }

/-- A fault is reported (R57, R62, R64). One inside a block already in fault is only counted; faults reported in this grain
inside the block are counted and withdrawn. LAST_CAUSE of a unit is the cause of its own last fault, contained or not; a fault
at a higher level that stops it changes none (assumption 90). -/
def addFault (addr : Nat) (s : P1) : P1 :=
  if contained addr s then
    let t := holdFault addr (s.inc (ob 0x2200 6))
    showBlocks (if levelOf (blockOf addr) = 0 then setLastCause (blockOf addr) (causeOf addr) t else t)
  else
    let b := blockOf addr
    let inner := s.faults.filter fun f => f.grain = s.elapsed && blockHolds b f.addr
    let t := inner.foldl (fun t f => lower 0x0014 f.addr (t.inc (ob 0x2200 6)))
      { s with
        faults := s.faults.filter fun f => !(f.grain = s.elapsed && blockHolds b f.addr)
        unreported := if levelOf b = 5 then inner ++ s.unreported else s.unreported }
    let u := { t with faults := insertFault ⟨addr, t.ns, t.elapsed⟩ t.faults }
    let v := if levelOf b = 0 then setLastCause b (causeOf addr) u else u
    let w := recordAlarm true 0x0014 addr addr (showFaults (v.wrs [(ob 0x2200 1, addr), (ob 0x2200 2, v.stamp)]))
    if moduleLevel b w then moduleFault w else w

/-- The fault of a block has ended (R58). -/
def endFault (block : Nat) (s : P1) : P1 :=
  let mine := s.faults.filter fun f => blockOf f.addr = block
  showFaults (mine.foldl (fun t f => lower 0x0014 f.addr t)
    { s with
      faults := s.faults.filter fun f => blockOf f.addr ≠ block
      unreported := s.unreported.filter fun f => blockOf f.addr ≠ block })

end Sys2Proof.Machine
end

