-- ==== Sys2Proof/Machine/Axes.lean ====
section
/-! DEFINITION. Encoder axes, compare lists, index, sector entries, emulated outputs and probes (chapter "Encoder axes and
the filter chain", R328–R347, R356–R359). -/

namespace Sys2Proof.Machine

/-! ### Axis cells -/

/-- A subindex of axis a. -/
def axKey (a : Fin 8) (sub : Nat) : Nat := ob (0x5200 + a) sub

/-- The state with an axis changed. -/
def setAxis (a : Fin 8) (f : AxisState → AxisState) (s : P1) : P1 := { s with axes := upd s.axes a f }

/-- The axis runs: enabled, not stopped by a fault. -/
def axisRuns (a : Fin 8) (s : P1) : Bool := s.rd (axKey a 1) = 1 && !s.stopped (axisAddr a)

/-- A modulo axis (R332). -/
def isModulo (a : Fin 8) (s : P1) : Bool := s.rd (axKey a 3) = 1

/-- An absolute axis (R329). -/
def isAbsolute (a : Fin 8) (s : P1) : Bool := s.rd (axKey a 2) = 3 || s.rd (axKey a 2) = 4

/-- Counts per revolution. -/
def cprOf (a : Fin 8) (s : P1) : Int := s.rd (axKey a 4)

/-- A position as the axis shows it (R332). -/
def wrapPos (a : Fin 8) (p : Int) (s : P1) : Int := if isModulo a s then p % cprOf a s else p

/-- The signed way from one position to another; on a modulo axis the shorter way round (R338). -/
def wayTo (a : Fin 8) (p q : Int) (s : P1) : Int :=
  if isModulo a s then
    let m := (q - p) % cprOf a s
    if cprOf a s < 2 * m then m - cprOf a s else m
  else q - p

/-- How far above `p` the position `x` lies, along the rising direction. -/
def riseTo (a : Fin 8) (p x : Int) (s : P1) : Int := if isModulo a s then (x - p) % cprOf a s else x - p

/-- A motion by `d` from `p` rises to `x`: the distance at which it does. -/
def risesTo (a : Fin 8) (p d x : Int) (s : P1) : Option Int :=
  let t := riseTo a p x s
  if 0 < d && 0 ≤ t && t ≤ d then some t else none

/-- A motion by `d` from `p` falls to `x`: the distance at which it does. -/
def fallsTo (a : Fin 8) (p d x : Int) (s : P1) : Option Int :=
  let t := riseTo a x p s
  if d < 0 && 0 ≤ t && t ≤ -d then some t else none

/-- The position and its scaled value (R332). -/
def showPos (a : Fin 8) (p : Int) (s : P1) : P1 :=
  let q := (f64 (s.rd (axKey a 0x15))).q + (f64 (s.rd (axKey a 0x14))).q * p
  (s.wrs [(axKey a 0x16, p), (axKey a 0x17, toF64 (Config.fp64 s.free q))]).draw

/-! ### Compare entries (R337–R342) -/

/-- The sign of an integer. -/
def signI (x : Int) : Int := if 0 < x then 1 else if x < 0 then -1 else 0

/-- The direction of the last count change, rising after a reset (R339). -/
def lastDir (a : Fin 8) (s : P1) : Int := if s.bit (axKey a 0x1A) 23 then -1 else 1

/-- The side from which R338 arms an entry at a position: the side on which it stands at least h from x. -/
def armSide (a : Fin 8) (p x old : Int) (s : P1) : Int :=
  let d := wayTo a x p s
  if s.rd (axKey a 0x23) ≤ d then 1 else if d ≤ -(s.rd (axKey a 0x23)) then -1 else old

/-- An entry as a write leaves it (R339). -/
def writtenEntry (a : Fin 8) (e : CmpEntry) (s : P1) : CmpEntry :=
  let p := s.rd (axKey a 0x16)
  let d := wayTo a p e.x s
  if 0 < d * lastDir a s then { e with behind := false, armed := -(signI d), since := s.elapsed }
  else { e with behind := true, armed := armSide a p e.x 0 s, since := s.elapsed }

/-- Behind writes counted for entries that were written (R339). -/
def countBehind (a : Fin 8) (l : List CmpEntry) (s : P1) : P1 := s.add (axKey a 0x28) ((l.filter (·.behind)).length)

/-- Every user entry evaluated as at a write (R342). -/
def reevaluate (a : Fin 8) (s : P1) : P1 :=
  let l := (s.axes[a]).entries.map fun e => writtenEntry a e s
  countBehind a l (setAxis a (fun x => { x with entries := l }) s)

/-- The octets of an entry of the compare list (R358). -/
def CmpEntry.bytes (e : CmpEntry) : List Byte :=
  le 8 (toBits 64 e.x) ++ le 1 e.dir ++ le 1 ((if e.enabled then 1 else 0) + (if e.once then 2 else 0)
    + (if e.event then 4 else 0) + (if e.pulse then 8 else 0) + (if e.behind then 16 else 0)) ++ le 1 e.no ++ zeros 5

/-- The octets of sector entry j. -/
def SectorEntry.bytes (e : SectorEntry) (j : Nat) : List Byte :=
  le 8 (toBits 64 e.x) ++ le 1 0 ++ le 1 0x21 ++ le 1 (248 + j) ++ zeros 5

/-- A compare list from its entries' octets (R358). -/
def listBytes (l : List (List Byte)) : List Byte :=
  let b := le 2 0x4350 ++ le 1 1 ++ zeros 1 ++ le 2 l.length ++ zeros 10 ++ l.flatten
  b ++ le 4 (crc32c b)

/-- What a read of 5200h+a:21 returns: every entry in force, sector entries included (R358). -/
def compareList (a : Fin 8) (s : P1) : List Byte :=
  listBytes ((s.axes[a]).entries.map CmpEntry.bytes
    ++ ((s.axes[a]).sectors.zipIdx.map fun e => e.1.bytes e.2))

/-- The entry of 16 octets (R358). -/
def readEntry (no : Nat) (b : List Byte) : CmpEntry :=
  let f := leAt b 9 1
  ⟨no, ofBits 64 (leAt b 0 8), leAt b 8 1, f.testBit 0, f.testBit 1, f.testBit 2, f.testBit 3, false, 0, 0⟩

/-- Insert an entry in ascending number, in place of one of the same number. -/
def putEntry (e : CmpEntry) : List CmpEntry → List CmpEntry
  | [] => [e]
  | x :: r => if e.no < x.no then e :: x :: r else if e.no = x.no then e :: r else x :: putEntry e r

/-- The user entries of a written list. -/
def listEntries (b : List Byte) : List CmpEntry :=
  (List.range (leAt b 4 2)).foldl (fun l j => putEntry (readEntry (leAt b (26 + 16 * j) 1) (b.drop (16 + 16 * j))) l) []

/-- The tests of a written list (R358): magic, version, length, check, entry numbers. -/
def listOk (b : List Byte) : Bool :=
  let n := leAt b 4 2
  let nos := (List.range n).map fun j => leAt b (26 + 16 * j) 1
  leAt b 0 2 = 0x4350 && leAt b 2 1 = 1 && n ≤ 248 && b.length = 20 + 16 * n
    && leAt b (16 + 16 * n) 4 = crc32c (b.take (16 + 16 * n))
    && nos.all (fun x => x < 248) && decide nos.Nodup

/-- The user entries as they will stand with the writes of this grain. -/
def comingEntries (a : Fin 8) (s : P1) : List CmpEntry :=
  (s.axes[a]).staged.foldl (fun l e => putEntry e l) (if (s.axes[a]).restage then [] else (s.axes[a]).entries)

/-- The stored content of the list: the user entries (assumption 26). -/
def keepList (a : Fin 8) (s : P1) : P1 :=
  s.setOctets (axKey a 0x21) (listBytes ((comingEntries a s).map CmpEntry.bytes))

/-- A written list waits for the next grain. -/
def putEntries (a : Fin 8) (l : List CmpEntry) (s : P1) : P1 :=
  keepList a (setAxis a (fun x => { x with staged := l, restage := true }) s)

/-- Written entries take effect in the first grain after their acknowledgement (R339). -/
def adoptEntries (a : Fin 8) (s : P1) : P1 :=
  let x := s.axes[a]
  if x.staged = [] && !x.restage then s
  else
    let w := x.staged.map fun e => writtenEntry a e s
    let l := w.foldl (fun l e => putEntry e l) (if x.restage then [] else x.entries)
    countBehind a w (setAxis a (fun x => { x with entries := l, staged := [], restage := false }) s)

/-- The rule of 5200h+a:21 (R358). -/
def compareListRule (a : Fin 8) (b : List Byte) : Rule P1 :=
  checkRule (fun _ => if listOk b then 0 else abRange) (putEntries a (listEntries b))

/-- The rule of 5200h+a:22 (R339, R341): 20 octets, a user entry. -/
def compareEntryRule (a : Fin 8) (b : List Byte) : Rule P1 :=
  checkRule (fun _ => if b.length = 20 && leAt b 0 4 < 248 then 0 else abRange) fun s =>
    keepList a (setAxis a (fun x => { x with staged := putEntry (readEntry (leAt b 0 4) (b.drop 4)) x.staged }) s)

/-- The octets of a compare event record (R359). -/
def eventRecord (e : CmpEntry) (falling lost : Bool) (ns : Nat) : List Byte :=
  le 8 ns ++ le 1 e.no ++ le 1 (if falling then 1 else 0) ++ le 1 ((if e.behind then 1 else 0) + (if lost then 2 else 0))
    ++ zeros 5

/-- Queue a compare event; a full queue counts it (R340). -/
def queueEvent (a : Fin 8) (e : CmpEntry) (falling : Bool) (ns : Nat) (s : P1) : P1 :=
  let x := s.axes[a]
  if x.events.length < 64 then
    setAxis a (fun x => { x with events := x.events ++ [eventRecord e falling x.lost ns], lost := false }) s
  else (setAxis a (fun x => { x with lost := true }) s).inc (axKey a 0x29)

/-- An entry fires (R338, R340). -/
def fireEntry (a : Fin 8) (falling : Bool) (ns : Nat) (e : CmpEntry) (s : P1) : P1 :=
  let t := s.inc (axKey a 0x27)
  let u := if e.event then queueEvent a e falling ns t else t
  let v := if e.pulse then setAxis a (fun x => { x with pulseEnd := some (s.elapsed + s.rdN (axKey a 0x24)) }) u else u
  let e' : CmpEntry := { e with behind := false, armed := 0, enabled := e.enabled && !e.once }
  setAxis a (fun x => { x with entries := putEntry e' x.entries }) v

/-- An armed entry is reached by a motion (R338): disarmed, and fired where its direction allows. -/
def reachEntry (a : Fin 8) (falling : Bool) (ns : Nat) (e : CmpEntry) (s : P1) : P1 :=
  if e.enabled && (e.dir = 0 || (e.dir = 1 && !falling) || (e.dir = 2 && falling)) then fireEntry a falling ns e s
  else setAxis a (fun x => { x with entries := putEntry { e with armed := 0 } x.entries }) s

/-- Where a motion reaches an entry from the side from which it is armed; not in the grain of its write (R339). -/
def entryReached (a : Fin 8) (p d : Int) (e : CmpEntry) (s : P1) : Option Int :=
  if e.since = s.elapsed then none
  else if e.armed = -1 then risesTo a p d e.x s
  else if e.armed = 1 then fallsTo a p d e.x s
  else none

/-- Insert by distance. -/
def insertDist (x : Int × CmpEntry) : List (Int × CmpEntry) → List (Int × CmpEntry)
  | [] => [x]
  | y :: r => if x.1 < y.1 then x :: y :: r else y :: insertDist x r

/-- The entries that a motion reaches, in order along it (R340). -/
def reachedEntries (a : Fin 8) (p d : Int) (s : P1) : List CmpEntry :=
  ((s.axes[a]).entries.foldl (fun l e => match entryReached a p d e s with
    | some t => insertDist (t, e) l
    | none => l) []).map (·.2)

/-- Every entry armed where the new position stands at least h from it (R338). -/
def armEntries (a : Fin 8) (p : Int) (s : P1) : P1 :=
  setAxis a (fun x => { x with entries := x.entries.map fun e => { e with armed := armSide a p e.x e.armed s } }) s

/-! ### Faults of an axis (R333) -/

/-- The parameter of 0A00h: axis and cause. -/
def axisFaultParam (a : Fin 8) (cause : Nat) : Nat := packDetails [(8, a.val), (16, cause)]

/-- Emulated outputs whose source stops hold their lines (R347). -/
def holdEmulation (a : Fin 8) (s : P1) : P1 :=
  (List.range 2).foldl (fun t o =>
    if t.bit (ob (0x5210 + o) 5) 0 && t.rd (ob (0x5210 + o) 2) = a.val then
      t.setBits (ob (0x5210 + o) 5) [(0, false), (2, true)]
    else t) s

/-- What the stop of an axis does (R333, R347): not referenced, its lines idle. -/
def axisStop (a : Fin 8) (s : P1) : P1 :=
  let f (x : AxisState) : AxisState :=
    { x with sectors := [], up := 0, down := 0, anchor := none, edges := [] }
  holdEmulation a (setAxis a f (s.setBits (axKey a 0x1A) [(16, false), (21, false)]))

/-- A fault of an axis (R333). -/
def axisFault (a : Fin 8) (cause : Nat) (s : P1) : P1 :=
  if s.stopped (axisAddr a) then s.inc (ob 0x2200 6)
  else
    let p := axisFaultParam a cause
    axisStop a (addFault (axisAddr a + cause) (recordAlarm true 0x0A00 p p s))

/-! ### Sector entries (R341) -/

/-- The boundaries of a sector axis in their order (R396), from the block of parameters. -/
def boundaries (rd : Nat → Int) (a : Nat) : List Int :=
  (List.range (2 * (rd (ob (0x6820 + a) 2)).toNat)).map fun j => rd (ob (0x6820 + a) (3 + j))

/-- Load the sector entries of an axis (R341) from a block: only where it binds a thruster. -/
def loadSectors (rd : Nat → Int) (a : Fin 8) (s : P1) : P1 :=
  if rd (ob (0x6820 + a) 1) = 0xFF || (boundaries rd a).length = 0 then s
  else
    let p := s.rd (axKey a 0x16)
    let h := rd (ob (0x6820 + a) 0x0B)
    let l := (boundaries rd a).map fun x => SectorEntry.mk x h (0 ≤ wayTo a x p s)
    setAxis a (fun x => { x with sectors := l, loads := x.loads + 1 }) (s.setBit (axKey a 0x1A) 21 true)

/-- CONFIRMED as the core knows it (R417). -/
def blockConfirmed (s : P1) : Bool := s.bit (ob 0x6883 1) 0

/-- The sector entries are loaded when the axis becomes referenced, from the confirmed block (R341). -/
def loadReferenced (a : Fin 8) (s : P1) : P1 :=
  if blockConfirmed s && s.bit (axKey a 0x1A) 16 then loadSectors s.rd a s else s

/-- A pulse queued on a line of the axis (R341): `some` state, or none where its queue is full. -/
def queuePulse (a : Fin 8) (up : Bool) (s : P1) : P1 :=
  if 8 ≤ (if up then (s.axes[a]).up else (s.axes[a]).down) then axisFault a 0x105 s
  else setAxis a (fun x => if up then { x with up := x.up + 1 } else { x with down := x.down + 1 }) s

/-- A motion by `d` from `p` past one sector entry (R341). -/
def passSector (a : Fin 8) (p d : Int) (j : Nat) (s : P1) : P1 :=
  match (s.axes[a]).sectors[j]? with
  | none => s
  | some e =>
    let turn (above : Bool) (t : P1) : P1 :=
      setAxis a (fun x => { x with sectors := x.sectors.set j { e with above := above } }) t
    if !e.above && (risesTo a p d (wrapPos a (e.x + e.h) s) s).isSome then queuePulse a true (turn true s)
    else if e.above && (fallsTo a p d (wrapPos a (e.x - e.h) s) s).isSome then queuePulse a false (turn false s)
    else s

/-- A motion past every sector entry; none while the axis is stopped (R333). -/
def passSectors (a : Fin 8) (p d : Int) (s : P1) : P1 :=
  (List.range (s.axes[a]).sectors.length).foldl (fun t j => if t.stopped (axisAddr a) then t else passSector a p d j t) s

/-! ### Emulated outputs (R347) -/

/-- The emulated count of output o for a position. -/
def emuTarget (o : Fin 2) (p : Int) (s : P1) : Int :=
  let a := s.rdN (ob (0x5210 + o) 2)
  let l4 := 4 * s.rd (ob (0x5210 + o) 3)
  let q := p * l4 / s.rd (ob (0x5200 + a) 4)
  if s.rd (ob (0x5200 + a) 3) = 1 then q % l4 else q

/-- The signed way of an emulated count to its target; on a modulo source the shorter way round. -/
def emuWay (o : Fin 2) (c q : Int) (s : P1) : Int :=
  if s.rd (ob (0x5200 + s.rdN (ob (0x5210 + o) 2)) 3) = 1 then
    let l4 := 4 * s.rd (ob (0x5210 + o) 3)
    let m := (q - c) % l4
    if l4 < 2 * m then m - l4 else m
  else q - c

/-- Output o follows a position at a time in ns: one edge at a time, at least 200 ns apart (R347). -/
def emuFollow (o : Fin 2) (p : Int) (ns : Nat) (s : P1) : P1 :=
  if !s.bit (ob (0x5210 + o) 5) 0 then s
  else
    let e := s.emu[o]
    let d := emuWay o e.count (emuTarget o p s) s
    let lagging := s.bit (ob (0x5210 + o) 5) 1
    let could := if lagging then (ns - e.last) / 200 else if 200 ≤ ns - e.last then 1 else 0
    let n := min d.natAbs could
    let left := d.natAbs - n
    let l4 := 4 * s.rd (ob (0x5210 + o) 3)
    let c := e.count + signI d * (n : Int)
    let cw := if s.rd (ob (0x5200 + s.rdN (ob (0x5210 + o) 2)) 3) = 1 then c % l4 else c
    let last := if n = 0 then e.last else if lagging then e.last + 200 * n else ns
    let t := { s with emu := upd s.emu o fun _ => ⟨cw, last⟩ }
    let u := if left ≠ 0 && !lagging then record 0x0A04 (packDetails [(8, o.val)]) t else t
    (u.setBit (ob (0x5210 + o) 5) 1 (left ≠ 0)).wr (ob (0x5210 + o) 6) left

/-- The emulated outputs whose source is axis a follow it. -/
def emuAxis (a : Fin 8) (p : Int) (ns : Nat) (s : P1) : P1 :=
  let f (o : Fin 2) (t : P1) : P1 := 
    if t.rd (ob (0x5210 + o) 2) = a.val && !t.stopped (unitAddr 1 1 2 0 (8 + o)) then emuFollow o p ns t else t
  f 1 (f 0 s)

/-- The rule of 5210h+o:01 (R347): at enable the counter takes q without edges. -/
def emulationRule (o : Fin 2) (v : Int) : Rule P1 :=
  effRule fun s =>
    let t := s.wr (ob (0x5210 + o) 1) v
    let a := s.rdN (ob (0x5210 + o) 2)
    if v = 1 && a < 8 then
      ({ t with emu := upd t.emu o fun e => ⟨emuTarget o (t.rd (ob (0x5200 + a) 0x16)) t, e.last⟩ }.setBits
        (ob (0x5210 + o) 5) [(0, true), (1, false), (2, false)]).wr (ob (0x5210 + o) 6) 0
    else (t.setBits (ob (0x5210 + o) 5) [(0, false), (1, false), (2, false)]).wr (ob (0x5210 + o) 6) 0

/-! ### Motion (R337) -/

/-- Edge stamps kept for period mode (R334): the last five in one direction. -/
def keepEdge (edges : List Nat) (reversed : Bool) (ns : Nat) : List Nat := (ns :: (if reversed then [] else edges)).take 5

/-- A motion by `d` at COUNT_EDGE passes a coarse edge: every count edge on an incremental axis, a quadrant change on a sine/cosine
axis. -/
def coarseEdge (a : Fin 8) (d : Int) (s : P1) : Bool :=
  let t := (s.axes[a]).travel
  s.rd (axKey a 2) = 1 || (s.rd (axKey a 2) = 2 && t / 1024 ≠ (t + d) / 1024)

/-- The position moves by `d`, at a time in ns, with a coarse edge or without (R337): entries and sector entries along the motion, then
the position. -/
def moveBy (a : Fin 8) (d : Int) (edge : Bool) (ns : Nat) (s : P1) : P1 :=
  if d = 0 then s
  else
    let p := s.rd (axKey a 0x16)
    let q := wrapPos a (p + d) s
    let falling := decide (d < 0)
    let reversed := s.bit (axKey a 0x1A) 23 ≠ falling
    let t := (reachedEntries a p d s).foldl (fun t e => reachEntry a falling ns e t) s
    let u := setAxis a (fun x => { x with
      edges := if edge then keepEdge x.edges reversed ns else if reversed then [] else x.edges
      travel := x.travel + d }) (showPos a q (t.setBit (axKey a 0x1A) 23 falling))
    passSectors a p d (emuAxis a q ns (armEntries a q u))

/-- A new position value at a time in ns (R337). -/
def moveTo (a : Fin 8) (q : Int) (ns : Nat) (s : P1) : P1 :=
  let d := wayTo a (s.rd (axKey a 0x16)) (wrapPos a q s) s
  moveBy a d (coarseEdge a d s) ns s

/-- A position changed without motion (R342): no entry fires, and every user entry is evaluated as at a write. -/
def changePos (a : Fin 8) (q : Int) (s : P1) : P1 :=
  let q' := wrapPos a q s
  emuAxis a q' s.ns (reevaluate a (showPos a q' s))

/-- A signal error is counted (R330, R333): the eighth within 1,000,000 grains stops the axis. -/
def signalError (a : Fin 8) (s : P1) : P1 :=
  let l := (s.elapsed :: (s.axes[a]).errors).filter fun g => s.elapsed - g < 1000000
  let t := (setAxis a (fun x => { x with errors := l.take 8 }) s).inc (axKey a 0x20)
  if 8 ≤ l.length then axisFault a 0x101 t else t

/-- The coarse quadrant of a sine/cosine axis at a time, in quadrants moved (R330). -/
def quadrantAt (a : Fin 8) (ns : Int) (s : P1) : Int :=
  let l := (s.axes[a]).coarse
  match l.find? fun e => (e.1 : Int) ≤ ns with
  | some e => e.2
  | none => match l.getLast? with
    | some e => e.2
    | none => (s.axes[a]).travel / 1024

/-- COUNT_EDGE's effect: a count of an incremental axis or a coarse edge of a sine/cosine axis that runs. Edges of an incremental axis
closer than 50 ns are a signal error (R333). -/
def countEdge (a : Fin 8) (q : Int) (ns : Nat) (s : P1) : P1 :=
  let ty := s.rd (axKey a 2)
  if !axisRuns a s || !(ty = 1 || ty = 2) then s
  else
    let close : Bool := ty = 1 && (s.axes[a]).edges.head?.any fun e => ns < e + 50
    let t := moveTo a q ns s
    let u := setAxis a (fun x => { x with
      coarse := if ty = 2 then ((ns, x.travel / 1024) :: x.coarse).take 16 else [], valueAt := (ns : Int) }) t
    if close then signalError a u else u

/-- The end of a compare pulse (R340), once its width has passed. -/
def comparePulseEnd (a : Fin 8) (s : P1) : P1 :=
  if (s.axes[a]).pulseEnd.any fun g => g ≤ s.elapsed then setAxis a (fun x => { x with pulseEnd := none }) s else s

/-! ### Sine and cosine (R330) -/

/-- A whole number next to a quantity that the module's fixed arithmetic forms (assumption 113). -/
def nearCount (q : Rat) : Int := if (q.floor : Rat) = q then q.floor else q.floor + (if Config.roundsUp q then 1 else 0)

/-- The fine angle φ, 0–4,095, of a pair of track outputs. -/
def fineAngle (sine cosine : Int) : Int := nearCount (Config.atan2 sine cosine * 4096 / (2 * Config.pi)) % 4096

/-- φ brought into the coarse quadrant; none where they differ by two quadrants. -/
def clipAngle (phi q : Int) : Option Int :=
  match (phi / 1024 - q) % 4 with
  | 0 => some phi
  | 1 => some (q * 1024 + 1023)
  | 3 => some (q * 1024)
  | _ => none

/-- The amplitude of a pair of track outputs in mV. -/
def amplitudeOf (sine cosine : Int) : Rat :=
  Config.sqrt (sine * sine + cosine * cosine : Int) * Config.trackScale / 2147483648

/-- The output pair of a sine/cosine axis at its represented time (R330, R333): the position value n × 4096 + φ, a signal error where φ and
the quadrant differ by two, the amplitude, and AMPLITUDE after 4 such outputs in a row. A value older than the last one is kept for
interpolation alone (assumption 113). -/
def sineOutput (a : Fin 8) (sine cosine ts : Int) (s : P1) : P1 :=
  if !axisRuns a s then s
  else
    let q := quadrantAt a ts s
    let c := clipAngle (fineAngle sine cosine) (q % 4)
    let raw := q / 4 * 4096 + c.getD (q % 4 * 1024 + 512)
    let amp := amplitudeOf sine cosine
    let bad := decide (amp < 250) || decide (750 < amp) || c.isNone
    let n := if bad then (s.axes[a]).badOuts + 1 else 0
    let newer := decide ((s.axes[a]).valueAt < ts)
    let t := (setAxis a (fun x => { x with
      outs := ((ts, raw) :: x.outs).take 6, badOuts := n, valueAt := if newer then ts else x.valueAt }) s).wr (axKey a 0x2A)
        (clamp 0 65535 (nearCount amp))
    let u := if newer then moveBy a (raw - (s.axes[a]).travel) false ts.toNat t else t
    let v := if c.isNone then signalError a u else u
    if 4 ≤ n then axisFault a 0x102 v else v

/-- The lines of emulated output o (R347): A, B, Z. A leads B for rising counts, and both are high in the count of Z. -/
def emuLines (o : Fin 2) (s : P1) : Bool × Bool × Bool :=
  let q := (s.emu[o]).count
  (q % 4 = 0 || q % 4 = 3, q % 4 = 0 || q % 4 = 1, q % (4 * s.rd (ob (0x5210 + o) 3)) = 0)

/-- A digital output that is a compare output, and whether its pulse is active (R371). -/
def compareOutput (n : Nat) (s : P1) : Option Bool :=
  (List.finRange 8).foldl (fun r (a : Fin 8) =>
    if s.rd (axKey a 0x25) = n then some ((r.getD false) || (s.axes[a]).pulseEnd.isSome) else r) none

/-! ### Index (R345, R346) -/

/-- Alarms of a code whose parameters meet a test are lowered. -/
def lowerAll (code : Nat) (p : Nat → Bool) (s : P1) : P1 :=
  ((s.alarms ++ s.unlisted).filter fun x => x.code = code && p x.param).foldl (fun t x => lower code x.param t) s

/-- The axis becomes referenced (R341, R345). -/
def reference (a : Fin 8) (s : P1) : P1 :=
  loadReferenced a (record 0x0A01 (packDetails [(8, a.val)]) (s.setBit (axKey a 0x1A) 16 true))

/-- The first index after an enable or restart (R345). -/
def firstIndex (a : Fin 8) (c : Int) (s : P1) : P1 :=
  if s.bit (axKey a 0x11) 2 then
    let home := s.rd (axKey a 0x12)
    reference a (setAxis a (fun x => { x with anchor := some home, index := c }) (changePos a home s))
  else reference a (setAxis a (fun x => { x with anchor := some c, index := c }) s)

/-- The expected count nearest to a seen one, the higher on a tie (R346). -/
def expectedCount (anchor cpr c : Int) : Int := anchor + cpr * ((2 * (c - anchor) + cpr) / (2 * cpr))

/-- A change of the position by `d` carries it across a switching point of a sector entry (R346). -/
def crossesSwitch (a : Fin 8) (d : Int) (s : P1) : Bool :=
  let p := s.rd (axKey a 0x16)
  (s.axes[a]).sectors.any fun e => [e.x + e.h, e.x - e.h].any fun x =>
    (risesTo a p d (wrapPos a x s) s).isSome || (fallsTo a p d (wrapPos a x s) s).isSome

/-- A later index (R346). -/
def laterIndex (a : Fin 8) (anchor c : Int) (s0 : P1) : P1 :=
  let s := setAxis a (fun x => { x with index := c }) s0
  let e := expectedCount anchor (cprOf a s) c
  let d := c - e
  if d = 0 then lowerAll 0x0A02 (fun p => p % 256 = a.val) (s.setBit (axKey a 0x1A) 17 false)
  else
    let p := packDetails [(8, a.val), (24, d)]
    let t := recordAlarm true 0x0A02 p p (((s.setBit (axKey a 0x1A) 17 true).wr (axKey a 0x1C) (sat32 d)).inc (axKey a 0x1D))
    if s.field (axKey a 0x11) 0 2 = 2 && (d.natAbs : Int) ≤ s.rd (axKey a 0x13) then
      if crossesSwitch a (-d) t then record 0x0A03 (packDetails [(8, a.val)]) (t.inc (axKey a 0x1F))
      else (changePos a (t.rd (axKey a 0x16) - d) t).inc (axKey a 0x1E)
    else t

/-- A qualified index (R345, R346); index mode 0 ignores it. -/
def indexPulse (a : Fin 8) (c : Int) (s : P1) : P1 :=
  if !axisRuns a s || s.field (axKey a 0x11) 0 2 = 0 || isAbsolute a s then s
  else match (s.axes[a]).anchor with
    | none => firstIndex a c s
    | some x => laterIndex a x c s

/-- The rule of 5200h+a:1B (R342). -/
def setPositionRule (a : Fin 8) (v : Int) : Rule P1 where
  mode := fun s => if s.mode = 1 then 0 else abMode
  check := fun s => if s.bit (axKey a 0x1A) 21 then abRange else 0
  busy := fun _ => 0
  eff := changePos a v

/-- The rule of 5200h+a:2B. -/
def axisClearRule (a : Fin 8) : Rule P1 := effRule fun s => (s.clearSubs (0x5200 + a) 0x1D 0x20).clearSubs (0x5200 + a) 0x27 0x29

/-! ### Absolute reads (R331) -/

/-- The read period of a code, in grains. -/
def readPeriod (code : Int) : Nat := ([5, 10, 25, 50, 125, 250] : List Nat).getD code.toNat 5

/-- A read starts (R331). -/
def absoluteStart (a : Fin 8) (s : P1) : P1 :=
  if axisRuns a s && isAbsolute a s && s.grainIndex % readPeriod (s.rd (axKey a 9)) = 0 then
    setAxis a (fun x => { x with reading := some s.ns }) s
  else s

/-- A Gray code's number: each bit is the parity of the bits from it upwards. -/
def grayDecode (n : Nat) : Nat := (List.range 64).foldl (fun m k => m ^^^ (n >>> k)) 0

/-- The raw word of a read (R331): the word as transmitted, decoded where the frame is in Gray code; with the sense reversed it counts
down (R329). -/
def rawWord (a : Fin 8) (r : AbsRead) (s : P1) : Int :=
  let w := r.turn * 2 ^ s.field (axKey a 7) 0 6 + r.single
  let n : Nat := if s.bit (axKey a 7) 16 then grayDecode w else w
  if s.rd (axKey a 5) = 1 then -(n : Int) else (n : Int)

/-- The position of a good read (R331): a modulo axis shows the single turn, a linear one is unwrapped. -/
def readPos (a : Fin 8) (r : AbsRead) (s : P1) : Int :=
  let raw := rawWord a r s
  if isModulo a s then raw % cprOf a s
  else match (s.axes[a]).reads with
    | [] => raw
    | x :: _ =>
      let w : Int := 2 ^ (s.field (axKey a 7) 0 6 + s.field (axKey a 7) 8 5)
      let m := (raw - x.2.1) % w
      x.2.2 + (if w < 2 * m then m - w else m)

/-- A read fails (R331). -/
def readFails (a : Fin 8) (r : AbsRead) (s : P1) : Bool :=
  let biss := decide (s.rd (axKey a 2) = 4)
  (biss && (!r.crcOk || r.errorBit || !r.answered))
    || (!biss && s.bit (axKey a 7) 17 && r.errorBit)
    || ((s.axes[a]).reads ≠ [] && (if isModulo a s then cprOf a s / 2 else s.rd (axKey a 0x0A))
          < (wayTo a (s.rd (axKey a 0x16)) (readPos a r s) s).natAbs)

/-- A failed read (R331, R333): three in a row stop the axis. -/
def failedRead (a : Fin 8) (s : P1) : P1 :=
  let n := (s.axes[a]).failedReads + 1
  let t := (setAxis a (fun x => { x with failedReads := n, reading := none }) s).inc (axKey a 0x20)
  if 3 ≤ n then axisFault a 0x103 t else t

/-- A good read (R331): the first one references the axis. -/
def goodRead (a : Fin 8) (r : AbsRead) (s : P1) : P1 :=
  let p := readPos a r s
  let ns := ((s.axes[a]).reading).getD s.ns
  let warn := r.warningBit && (s.rd (axKey a 2) = 4 || s.bit (axKey a 7) 18)
  let t := setAxis a (fun x => { x with failedReads := 0, reading := none,
                                        reads := ((ns, rawWord a r s, p) :: x.reads).take 2 }) (s.setBit (axKey a 0x1A) 22 warn)
  if s.bit (axKey a 0x1A) 16 then moveTo a p ns t else reference a (changePos a p t)

/-- The end of a read (R331). -/
def absoluteDone (a : Fin 8) (r : AbsRead) (s : P1) : P1 :=
  if axisRuns a s && isAbsolute a s && (s.axes[a]).reading.isSome then
    if readFails a r s then failedRead a s else goodRead a r s
  else s

/-! ### Speed (R334–R336) -/

/-- A speed in counts per second shown raw and scaled (R336). -/
def showSpeed (a : Fin 8) (v : Rat) (s : P1) : P1 :=
  let raw := nearFree s.free (v * ((2 ^ s.rdN (axKey a 0x10) : Nat) : Rat))
  let sp := (f64 (s.rd (axKey a 0x14))).q * v
  ((s.wrs [(axKey a 0x18, sat32 raw), (axKey a 0x19, toF64 (Config.fp64 (s.free + 1) sp))]).setBit (axKey a 0x1A) 20
    (sat32 raw ≠ raw)).drawN 2

/-- The counts of one edge of period mode. -/
def countsPerEdge (a : Fin 8) (s : P1) : Rat := if s.rd (axKey a 2) = 2 then 1024 else 1

/-- Period mode at a servo tick (R334): the speed, and STANDSTILL. -/
def periodSpeed (a : Fin 8) (s : P1) : Rat × Bool :=
  match (s.before.axes[a]).edges with
  | [t0, _, _, _, t4] =>
    let age : Rat := ((s.grainStart : Nat) : Rat) - ((t0 : Nat) : Rat)
    if ((s.rdN (axKey a 0x0E) * 1000000 : Nat) : Rat) < age then (0, true)
    else
      let k := countsPerEdge a s * 1000000000
      let span : Rat := ((t0 : Nat) : Rat) - ((t4 : Nat) : Rat)
      let v1 := 4 * k / span
      let v := if age ≤ 0 then v1 else if k / age < v1 then k / age else v1
      (if (s.before.axes[a]).falling then -v else v, false)
  | _ => (0, true)

/-- The speed of a class T axis at a servo tick, and the mode of the next tick (R334). -/
def tickSpeed (a : Fin 8) (s : P1) : P1 :=
  if !axisRuns a s then s
  else
    let moved := (s.before.axes[a]).travel - (s.axes[a]).tickTravel
    let t := setAxis a (fun x => { x with tickTravel := (s.before.axes[a]).travel }) s
    if s.rd (axKey a 0x0B) ≠ 0 then t
    else
      let counting := isAbsolute a s || s.bit (axKey a 0x1A) 18
      let r : Rat × Bool := if counting then ((moved : Rat) * 4000, false) else periodSpeed a s
      let f := ratAbs r.1 / countsPerEdge a s
      let next := if isAbsolute a s then true
        else if counting then !(f < (s.rd (axKey a 0x0D) : Rat)) else decide ((s.rd (axKey a 0x0C) : Rat) ≤ f)
      showSpeed a r.1 (t.setBits (axKey a 0x1A) [(19, r.2), (18, next)])

/-- The end of a counting window of a class W axis (R335): its grain starts the next window. -/
def speedWindow (a : Fin 8) (s : P1) : P1 :=
  if axisRuns a s && s.rd (axKey a 0x0B) = 1 && s.grainIndex % (s.rdN (axKey a 0x0F) * 1000) = 0
      && (s.axes[a]).windowAt ≠ some s.elapsed then
    let b := (s.before.axes[a]).travel
    let moved := b - (s.axes[a]).windowTravel
    showSpeed a ((moved : Rat) * 1000 / (s.rd (axKey a 0x0F) : Rat))
      (setAxis a (fun x => { x with windowTravel := b, windowAt := some s.elapsed }) s)
  else s

/-- A condition of R333 stops an axis. The eight errors of QUADRATURE are counted (assumption 27). -/
def axisSignalFault (a : Fin 8) (cause : Fin 6) (s : P1) : P1 :=
  if axisRuns a s then axisFault a (0x100 + cause) (if cause = 1 then s.add (axKey a 0x20) 8 else s) else s

/-! ### Writes of axis objects (R331, R332, R334, R587) -/

/-- The axis starts afresh (R345): an enable or a change of what its counts mean. -/
def restartAxis (a : Fin 8) (s : P1) : P1 :=
  let p := s.rd (axKey a 0x16)
  let f (x : AxisState) : AxisState :=
    { x with
      anchor := none, sectors := [], edges := [], errors := [], reads := [], reading := none, failedReads := 0, up := 0, down := 0
      travel := p, tickTravel := p, windowTravel := p, coarse := [], outs := [], badOuts := 0 }
  let b (x : LatchedAxis) : LatchedAxis := { x with travel := p, edges := [] }
  let t := setAxis a f { s with before := { s.before with axes := upd s.before.axes a b } }
  (t.setBits (axKey a 0x1A) [(16, false), (17, false), (19, false), (21, false)]).setField (axKey a 0x1A) 24 3
    (if t.rd (axKey a 1) = 1 then t.rdN (axKey a 2) else 0)

/-- The value of a subindex with one write applied. -/
def withWrite (k : Nat) (v : Int) (s : P1) (j : Nat) : Int := if j = k then v else s.rd j

/-- An absolute modulo axis keeps cpr = 2^s (R332). -/
def absoluteCpr (a : Fin 8) (k : Nat) (v : Int) (s : P1) : Bool :=
  let r := withWrite k v s
  (r (axKey a 2) ≠ 3 && r (axKey a 2) ≠ 4) || r (axKey a 3) ≠ 1 || r (axKey a 4) = 2 ^ fieldOf (r (axKey a 7)) 0 6

/-- The fields of 5200h+a:07 (R356). -/
def absFrameOk (v : Int) : Bool :=
  1 ≤ fieldOf v 0 6 && fieldOf v 0 6 ≤ 32 && fieldOf v 6 2 = 0 && fieldOf v 8 6 ≤ 24 && fieldOf v 14 2 = 0 && v < 2 ^ 19

/-- The frame time of an absolute axis in µs (R331, assumption 25). -/
def frameTime (a : Fin 8) (s : P1) : Rat :=
  let bits := s.field (axKey a 7) 0 6 + s.field (axKey a 7) 8 5 + s.field (axKey a 7) 17 1 + s.field (axKey a 7) 18 1
    + Config.frameOverhead (s.rdN (axKey a 2))
  ((bits * 1000 : Nat) : Rat) / (s.rd (axKey a 8) : Rat)

/-- R587 refuses a write of counts per revolution. -/
def cprBound (a : Fin 8) (v : Int) (s : P1) : Bool :=
  blockConfirmed s && v ≠ s.rd (ob (0x6820 + a) 0x0C) && s.rd (ob (0x6820 + a) 1) ≠ 0xFF

/-- The content test of an axis object. -/
def axisCheck (a : Fin 8) (sub : Nat) (v : Int) (s : P1) : Nat :=
  let k := axKey a sub
  let bad := (sub = 4 && cprBound a v s)
    || ((sub = 2 || sub = 3 || sub = 4 || sub = 7) && !absoluteCpr a k v s)
    || (sub = 7 && !absFrameOk v)
    || (sub = 9 && isAbsolute a s && ((readPeriod v : Nat) : Rat) < frameTime a s + 2)
    || ((sub = 0x0C || sub = 0x0D) && withWrite k v s (axKey a 0x0C) ≤ withWrite k v s (axKey a 0x0D))
    || (sub = 0x11 && (v < 0 || 16 ≤ v || fieldOf v 0 2 = 3))
  if bad then abRange else 0

/-- The rule of an axis object with a number. -/
def axisRule (a : Fin 8) (sub : Nat) (v : Int) : Rule P1 :=
  checkRule (axisCheck a sub v) fun s =>
    let t := s.wr (axKey a sub) v
    if sub ≤ 5 || sub = 7 then restartAxis a t else t

/-! ### Reads that remove (R340, R344, R304) -/

/-- A read of an octet string answered in a session (R547). -/
def answerData (w k : Nat) (b : List Byte) (s : P1) : P1 :=
  if w = 0 then s
  else
    let q := match s.sessions.find? fun x => x.no = w with
      | some x => x.seq
      | none => 0
    answerWith ⟨w, q, 3, k / 256, k % 256, 0, 0, b.length, b.length, s.gen k, b, false⟩ s

/-- Remove the next compare event (R340). -/
def popCompare (a : Fin 8) (s : P1) : P1 := setAxis a (fun x => { x with events := x.events.drop 1 }) s

/-- The next compare event. -/
def nextCompare (a : Fin 8) (s : P1) : List Byte := ((s.axes[a]).events.head?).getD []

/-! ### Probes (R343, R344) -/

/-- A subindex of probe k. -/
def prKey (k : Fin 2) (sub : Nat) : Nat := ob (0x5218 + k) sub

/-- The state with a probe changed. -/
def setProbe (k : Fin 2) (f : Probe → Probe) (s : P1) : P1 := { s with probes := upd s.probes k f }

/-- The position of an axis at a latch: the count, or the linear extrapolation of an absolute axis (R343). -/
def latchPos (a : Fin 8) (ns : Nat) (s : P1) : Int :=
  if isAbsolute a s then
    match (s.axes[a]).reads with
    | [x, y] =>
      let d := wayTo a y.2.2 x.2.2 s
      wrapPos a (nearCount ((x.2.2 : Rat)
        + (d : Rat) * (((ns : Nat) : Rat) - ((x.1 : Nat) : Rat)) / (((x.1 : Nat) : Rat) - ((y.1 : Nat) : Rat)))) s
    | _ => s.rd (axKey a 0x16)
  else s.rd (axKey a 0x16)

/-- The axis's position in a probe record is interpolated or extrapolated (R343). -/
def derived (a : Fin 8) (s : P1) : Bool := s.rd (axKey a 2) = 2 || isAbsolute a s

/-- What a probe latches (R343). -/
def latchNow (k : Fin 2) (falling : Bool) (ns : Nat) (s : P1) : ProbeLatch :=
  ⟨ns, falling, s.rdN (prKey k 2), s.elapsed, Vector.ofFn fun (a : Fin 8) => latchPos a ns s,
    Vector.ofFn fun (a : Fin 8) => quadrantAt a ns s, Vector.ofFn fun (a : Fin 8) => s.rd (axKey a 0x16) - (s.axes[a]).travel⟩

/-- The interpolated value of a sine/cosine axis at a time, from the two outputs whose represented times bracket it (R343). -/
def bracket (ns : Int) : List (Int × Int) → Option Rat
  | x :: y :: r =>
    if y.1 ≤ ns && ns ≤ x.1 && y.1 ≠ x.1 then
      some ((y.2 : Rat) + ((x.2 - y.2 : Int) : Rat) * ((ns - y.1 : Int) : Rat) / ((x.1 - y.1 : Int) : Rat))
    else bracket ns (y :: r)
  | _ => none

/-- The position of an axis in the record of a latch: on a sine/cosine axis the latched coarse count completed by the interpolated φ; free
within the quadrant where no outputs bracket the latch in time (assumption 113). -/
def latchedPos (a : Fin 8) (x : ProbeLatch) (s : P1) : Int :=
  if s.rd (axKey a 2) = 2 then
    let q := x.quadrant[a]
    let p := match bracket x.ns (s.axes[a]).outs with
      | some v => clamp (q * 1024) (q * 1024 + 1023) (nearCount v)
      | none => q * 1024 + (Config.freeNat (s.free + a) % 1024 : Nat)
    wrapPos a (p + x.base[a]) s
  else x.pos[a]

/-- Every position of a latch is complete; 8 µs after the latch it counts as such (R343). -/
def latchComplete (x : ProbeLatch) (s : P1) : Bool :=
  8 ≤ s.elapsed - x.grain || (List.finRange 8).all fun (a : Fin 8) =>
    !x.mask.testBit a || s.rd (axKey a 2) ≠ 2 || (bracket x.ns (s.axes[a]).outs).isSome

/-- The octets of a probe record (R344). -/
def probeRecord (k : Fin 2) (x : ProbeLatch) (s : P1) : List Byte :=
  let der := (List.finRange 8).foldl (fun m (a : Fin 8) => if x.mask.testBit a && derived a s then m + 2 ^ a.val else m) 0
  le 8 (x.ns - s.rdN (prKey k 5)) ++ le 1 (if x.falling then 1 else 0) ++ le 1 x.mask ++ le 1 der ++ zeros 5
    ++ (List.finRange 8).flatMap fun (a : Fin 8) => if x.mask.testBit a then le 8 (toBits 64 (latchedPos a x s)) else zeros 8

/-- A probe edge (R343): latched, or discarded where the input returned within the filter time. -/
def probeLatch (k : Fin 2) (falling : Bool) (ns : Nat) (glitch : Bool) (s : P1) : P1 :=
  let e := s.rd (prKey k 3)
  if s.rd (prKey k 1) ≠ 1 || s.stopped (unitAddr 1 1 2 0 (10 + k)) || !(e = 2 || (e = 0 && !falling) || (e = 1 && falling)) then s
  else if glitch && s.rd (prKey k 4) ≠ 0 then s.inc (prKey k 9)
  else setProbe k (fun p => { p with latched := p.latched ++ [latchNow k falling ns s] }) s

/-- 5218h+k:06 follows the queue. -/
def showProbe (k : Fin 2) (s : P1) : P1 := s.wr (prKey k 6) (s.probes[k]).records.length

/-- The oldest latch is complete (R343): queued, or counted where 16 records are queued. -/
def probeQueued (k : Fin 2) (s : P1) : P1 :=
  match (s.probes[k]).latched with
  | [] => s
  | b :: r =>
    if !latchComplete b s then s
    else if (s.probes[k]).records.length < 16 then
      showProbe k (setProbe k (fun p => ⟨r, p.records ++ [probeRecord k b s]⟩) (s.drawN 8))
    else (setProbe k (fun p => { p with latched := r }) s).inc (prKey k 8)

/-- Remove the next probe record. -/
def popProbe (k : Fin 2) (s : P1) : P1 := showProbe k (setProbe k (fun p => { p with records := p.records.drop 1 }) s)

/-- The next probe record. -/
def nextProbe (k : Fin 2) (s : P1) : List Byte := ((s.probes[k]).records.head?).getD []

/-! ### Meanings -/

/-- COUNT_EDGE (R337). -/
def execCountEdge (a : Fin 8) (position : Int) (ns : Nat) (s : State) : Out := onP1 (countEdge a position ns) s

/-- COMPARE_PULSE_END (R340). -/
def execComparePulseEnd (a : Fin 8) (s : State) : Out := onP1 (comparePulseEnd a) s

/-- AXIS_SIGNAL_FAULT (R333). -/
def execAxisSignalFault (a : Fin 8) (cause : Fin 6) (s : State) : Out := onP1 (axisSignalFault a cause) s

/-- ABSOLUTE_READ_START (R331). -/
def execAbsoluteReadStart (a : Fin 8) (s : State) : Out := onP1 (absoluteStart a) s

/-- ABSOLUTE_READ_DONE (R331). -/
def execAbsoluteReadDone (a : Fin 8) (r : AbsRead) (s : State) : Out := onP1 (absoluteDone a r) s

/-- SPEED_WINDOW_END (R335). -/
def execSpeedWindowEnd (a : Fin 8) (s : State) : Out := onP1 (speedWindow a) s

/-- COMPARE_LIST_WRITE (R358). -/
def execCompareListWrite (w : Nat) (a : Fin 8) (bytes : List Byte) (s : State) : Out :=
  onReq w (axKey a 0x21) (.bytes bytes) (compareListRule a bytes) s

/-- COMPARE_ENTRY_WRITE (R339). -/
def execCompareEntryWrite (w : Nat) (a : Fin 8) (bytes : List Byte) (s : State) : Out :=
  onReq w (axKey a 0x22) (.bytes bytes) (compareEntryRule a bytes) s

/-- COMPARE_EVENT_READ (R340). -/
def execCompareEventRead (w : Nat) (a : Fin 8) (s : State) : Out :=
  onSup (fun t => answerData w (axKey a 0x26) (nextCompare a t) (popCompare a t)) s

/-- PROBE_LATCH (R343). -/
def execProbeLatch (k : Fin 2) (falling : Bool) (ns : Nat) (glitch : Bool) (s : State) : Out :=
  onP1 (probeLatch k falling ns glitch) s

/-- PROBE_RECORD_QUEUED (R343). -/
def execProbeRecordQueued (k : Fin 2) (s : State) : Out := onP1 (probeQueued k) s

/-- PROBE_RECORD_READ (R344). -/
def execProbeRecordRead (w : Nat) (k : Fin 2) (s : State) : Out :=
  onSup (fun t => answerData w (prKey k 7) (nextProbe k t) (popProbe k t)) s

/-- INDEX_PULSE (R346). -/
def execIndexPulse (a : Fin 8) (count : Int) (s : State) : Out := onP1 (indexPulse a count) s

/-- SET_POSITION (R342). -/
def execSetPosition (w : Nat) (a : Fin 8) (v : Int) (s : State) : Out :=
  onReq w (axKey a 0x1B) (.num v) (setPositionRule a v) s

/-- AXIS_CLEAR_COUNTERS (R356). -/
def execAxisClearCounters (w : Nat) (a : Fin 8) (v : Int) (s : State) : Out :=
  onReq w (axKey a 0x2B) (.num v) (axisClearRule a) s

/-- EMULATION_ENABLE (R347). -/
def execEmulationEnable (w : Nat) (o : Fin 2) (v : Int) (s : State) : Out :=
  onReq w (ob (0x5210 + o) 1) (.num v) (emulationRule o v) s

end Sys2Proof.Machine
end

