-- ==== Sys2Proof/Machine/Sentence.lean ====
section
/-! DEFINITION. What the sensors send: sentences (R105–R107, R449), NMEA 2000 messages (R108), binary templates
(R451–R453), lidar segments (R110) and landmark packets (R114). -/

namespace Sys2Proof.Machine

/-! ### Characters -/

/-- Octets as numbers. -/
def nats (l : List Byte) : List Nat := l.map (·.toNat)

/-- The pieces of a list between separators. -/
def splitOn (c : Nat) : List Nat → List (List Nat)
  | [] => [[]]
  | x :: r =>
    if x = c then [] :: splitOn c r
    else match splitOn c r with
      | [] => [[x]]
      | f :: fs => (x :: f) :: fs

/-- A decimal digit. -/
def isDigit (c : Nat) : Bool := 0x30 ≤ c && c ≤ 0x39

/-- A nonempty run of digits. -/
def digits (l : List Nat) : Option Nat :=
  if l ≠ [] && l.all isDigit then some (l.foldl (fun n c => 10 * n + (c - 0x30)) 0) else none

/-- An unsigned decimal number. -/
def decimalAbs (l : List Nat) : Option Rat :=
  match splitOn 0x2E l with
  | [a] => (digits a).map fun n => (n : Rat)
  | [a, b] =>
    if a = [] && b = [] then none
    else match (if a = [] then some 0 else digits a), (if b = [] then some 0 else digits b) with
      | some n, some f => some ((n : Rat) + mkRat f (10 ^ b.length))
      | _, _ => none
  | _ => none

/-- A decimal number. -/
def decimal (l : List Nat) : Option Rat :=
  match l with
  | 0x2D :: r => (decimalAbs r).map fun q => -q
  | _ => decimalAbs l

/-- A hexadecimal digit. -/
def hexDigit (c : Nat) : Option Nat :=
  if isDigit c then some (c - 0x30)
  else if 0x41 ≤ c && c ≤ 0x46 then some (c - 0x37)
  else if 0x61 ≤ c && c ≤ 0x66 then some (c - 0x57) else none

/-- XOR of characters. -/
def xorAll (l : List Nat) : Nat := l.foldl Nat.xor 0

/-- A text with `*hh`: what stands before the star, and that the checksum is there and right. -/
def summed (l : List Nat) : List Nat × Bool :=
  let body := l.takeWhile (· ≠ 0x2A)
  match l.drop body.length with
  | [_, a, b] => (body, match hexDigit a, hexDigit b with
    | some x, some y => 16 * x + y = xorAll body
    | _, _ => false)
  | _ => (body, false)

/-- The codes of a short text. -/
def text (s : String) : List Nat := nats (ascii s)

/-! ### Times and dates -/

/-- Days from 1970-01-01 to a date of the Gregorian calendar. -/
def daysOf (year month day : Nat) : Nat :=
  let y := if month ≤ 2 then year - 1 else year
  let m := if 2 < month then month - 3 else month + 9
  365 * y + y / 4 - y / 100 + y / 400 + (153 * m + 2) / 5 + day - 1 - 719468

/-- The nearest integer below a nonnegative rational. -/
def floorNat (q : Rat) : Nat := q.floor.toNat

/-- hhmmss.ss in ns since midnight. -/
def timeOfDay (l : List Nat) : Option Nat :=
  match digits (l.take 2), digits ((l.drop 2).take 2), decimalAbs (l.drop 4) with
  | some h, some m, some q =>
    if isDigit (l.getD 4 0) && isDigit (l.getD 5 0) && h < 24 && m < 60 && q < 61 then
      some ((h * 60 + m) * 60000000000 + floorNat (q * 1000000000))
    else none
  | _, _, _ => none

/-- An angle in degrees as radians. -/
def radians (deg : Rat) : Rat := deg * Config.pi / 180

/-- (d)ddmm.mm with its hemisphere, in radians. -/
def coordinate (l hemi : List Nat) (plus minus : Nat) (top : Rat) : Option Rat :=
  match decimalAbs l with
  | some q =>
    let d := (q / 100).floor
    let m := q - 100 * (d : Rat)
    let a := (d : Rat) + m / 60
    if m < 60 && a ≤ top then
      if hemi = [plus] then some (radians a) else if hemi = [minus] then some (radians (-a)) else none
    else none
  | none => none

/-! ### Sentences -/

/-- A sentence of R105: its talker, its formatter, its fields, and whether its checksum holds. -/
structure Sentence where
  talker : List Nat
  kind : List Nat
  fields : List (List Nat)
  good : Bool
deriving DecidableEq, Repr

/-- A leading tag block, without its backslashes, and what follows it (R429, R449). -/
def tagBlock (l : List Nat) : Option (List Nat) × List Nat :=
  match l with
  | 0x5C :: r =>
    let b := r.takeWhile (· ≠ 0x5C)
    (some b, r.drop (b.length + 1))
  | _ => (none, l)

/-- Read a sentence; none where it does not start as one, is too long, or is proprietary (R105, R449). -/
def readSentence (l : List Nat) : Option Sentence :=
  match l with
  | c :: r =>
    if (c = 0x24 || c = 0x21) && l.length ≤ 82 then
      let x := summed (r.filter fun c => c ≠ 0x0D && c ≠ 0x0A)
      match splitOn 0x2C x.1 with
      | a :: fields =>
        if a.length = 5 && a.head? ≠ some 0x50 then some ⟨a.take 2, a.drop 2, fields, x.2⟩ else none
      | [] => none
    else none
  | [] => none

/-- What a slot finds in an item: nothing, an error with its LAST_ERROR code (R130), a date with its time of day where the item is
for the time model, the σ of a GST with its time field, or a measurement with its tag: a time of day or a time, in ns, its GGA quality (0 none), its own σ, its time
field. -/
inductive Found
  | nothing
  | error (code : Nat)
  | date (y m d : Nat) (tod : Option Nat)
  | gst (time : List Nat) (sigma : Rat)
  | fix (m : Meas) (tod : Option Nat) (tag : Option Int) (quality : Nat) (sigma : Option Rat) (time : List Nat)
deriving DecidableEq, Repr

/-- The selection bit of a formatter and the classes it serves (R105); an empty list is any class. -/
def sentenceRow (kind : List Nat) : Option (Nat × List Nat) :=
  if kind = text "GGA" then some (0, [1])
  else if kind = text "GNS" then some (1, [1])
  else if kind = text "GST" then some (2, [1])
  else if kind = text "RMC" then some (3, [1])
  else if kind = text "VTG" then some (4, [10])
  else if kind = text "HDT" then some (5, [6])
  else if kind = text "THS" then some (6, [6])
  else if kind = text "ROT" then some (7, [6])
  else if kind = text "MWV" then some (8, [8])
  else if kind = text "VBW" then some (9, [10])
  else if kind = text "ZDA" then some (10, [])
  else none

/-- The quality of a GNS mode letter (R144): A, D, R, F, E; the letters that R144 does not map, P, M, S, take the GGA qualities of
the same meaning (assumption 32). -/
def modeQuality (c : Nat) : Option Nat :=
  if c = 0x41 then some 1 else if c = 0x44 then some 2 else if c = 0x52 then some 4 else if c = 0x46 then some 5
  else if c = 0x45 then some 6 else if c = 0x50 then some 3 else if c = 0x4D then some 7 else if c = 0x53 then some 8 else none

/-- The quality of a GNS mode field: that of its first constellation that is not N; 0 where all are N; none where the
field is malformed (assumption 32). -/
def gnsQuality (l : List Nat) : Option Nat :=
  if l = [] || !l.all (fun c => c = 0x4E || (modeQuality c).isSome) then none
  else match l.find? (· ≠ 0x4E) with
    | some c => modeQuality c
    | none => some 0

/-- The fields of a GGA or GNS beside its position: satellites, HDOP, altitude, geoid separation, age of corrections. -/
structure HeightFields where
  sats : Nat
  hdop : Nat
  alt : Nat
  geoid : Nat
  age : Nat
deriving DecidableEq, Repr

/-- A position from its fields: time, latitude, longitude from field `i` on; quality; the altitude plus the geoid separation where
the sentence has them (R105). A field used that is empty is an error (R106). -/
def positionFix (f : List (List Nat)) (time i quality : Nat) (more : Option HeightFields) : Found :=
  let g (n : Nat) : List Nat := f.getD n []
  let num (n : Nat) : Option Rat := decimal (g n)
  match timeOfDay (g time), coordinate (g i) (g (i + 1)) 0x4E 0x53 90, coordinate (g (i + 2)) (g (i + 3)) 0x45 0x57 180 with
  | some t, some la, some lo =>
    match more with
    | none => .fix (.position la lo none none) (some t) none quality none (g time)
    | some x =>
      match num x.sats, num x.hdop, num x.alt, num x.geoid, num x.age with
      | some n, some d, some a, some z, some c =>
        .fix (.position la lo (some (a + z)) (some ⟨n, d, c⟩)) (some t) none quality none (g time)
      | _, _, _, _, _ => .error 2
  | _, _, _ => .error 2

/-- What a sentence holds for a slot (R105, R106); `noPosition` is that a GGA or GNS is selected. -/
def sentenceFound (s : Sentence) (noPosition : Bool) (psi : Rat) : Found :=
  let g (n : Nat) : List Nat := s.fields.getD n []
  let num (n : Nat) : Option Rat := decimal (g n)
  if s.kind = text "GGA" then
    match digits (g 5) with
    | none => .error 2
    | some q =>
      if 9 < q then .error 2
      else match positionFix s.fields 0 1 q (some ⟨6, 7, 8, 10, 12⟩) with
        | .error e => .error e
        | x => if q = 0 then .error 3 else x
  else if s.kind = text "GNS" then
    match gnsQuality (g 5) with
    | none => .error 2
    | some q =>
      match positionFix s.fields 0 1 q (some ⟨6, 7, 8, 9, 10⟩) with
      | .error e => .error e
      | x => if q = 0 then .error 3 else x
  else if s.kind = text "GST" then
    match timeOfDay (g 0), num 5, num 6, num 7 with
    | some _, some a, some b, some _ => .gst (g 0) (if a < b then b else a) -- one σ of three: assumption 118
    | _, _, _, _ => .error 2
  else if s.kind = text "RMC" then
    if g 1 = text "V" then .error 3
    else if g 1 ≠ text "A" then .error 2
    else match digits (g 8) with
      | none => .error 2
      | some d =>
        if (g 8).length ≠ 6 then .error 2
        else if noPosition then .date (2000 + d % 100) (d / 100 % 100) (d / 10000) none
        else positionFix s.fields 0 2 0 none
  else if s.kind = text "VTG" then
    match num 0, num 4 with
    | some c, some v =>
      let k := v * 1852 / 3600
      .fix (.speed (k * Config.cos (radians c - psi)) (k * Config.sin (radians c - psi)) none) none none 0 none []
    | _, _ => .error 2
  else if s.kind = text "HDT" then
    match num 0 with
    | some h => if g 1 = text "T" then .fix (.heading (radians h)) none none 0 none [] else .error 2
    | none => .error 2
  else if s.kind = text "THS" then
    match num 0 with
    | some h => if g 1 = [] then .error 2 else if g 1 = text "A" then .fix (.heading (radians h)) none none 0 none [] else .error 3
    | none => .error 2
  else if s.kind = text "ROT" then
    match num 0 with
    | some r => .fix (.rate (radians r / 60)) none none 0 none []
    | none => .error 2
  else if s.kind = text "MWV" then
    let unit : Option Rat := if g 3 = text "M" then some 1 else if g 3 = text "N" then some (1852 / 3600)
      else if g 3 = text "K" then some (1000 / 3600) else if g 3 = text "S" then some (1609344 / 3600000) else none
    match num 0, num 2, unit with
    | some a, some v, some u =>
      if g 1 = text "T" || g 4 = text "V" then .error 3
      else if g 1 = text "R" && g 4 = text "A" then .fix (.wind (v * u) (radians a)) none none 0 none [] else .error 2
    | _, _, _ => .error 2
  else if s.kind = text "VBW" then
    let known (n : Nat) : Bool := g n = text "A" || g n = text "V"
    let k : Rat := 1852 / 3600
    match num 0, num 1, num 3, num 4 with
    | some a, some b, some c, some d =>
      if !known 2 || !known 5 then .error 2
      else if g 2 = text "V" || g 5 = text "V" then .error 3
      else .fix (.speed (a * k) (b * k) (some (c * k, d * k))) none none 0 none [] -- water first: assumption 119
    | _, _, _, _ => .error 2
  else if s.kind = text "ZDA" then
    match timeOfDay (g 0), digits (g 1), digits (g 2), digits (g 3) with
    | some t, some d, some m, some y => if 1 ≤ m && m ≤ 12 && 1 ≤ d && d ≤ 31 && 1970 ≤ y then .date y m d (some t) else .error 2
    | _, _, _, _ => .error 2
  else .nothing

/-- The items of a tag block: the text after `s:` and the number after `c:`, in ns of UTC; one of more than ten digits is
in ms (assumption 32). -/
def tagItem (b : List Nat) (c : Nat) : Option (List Nat) :=
  ((splitOn 0x2C (b.takeWhile (· ≠ 0x2A))).find? fun f => f.take 2 = [c, 0x3A]).map fun f => f.drop 2

/-- See `tagItem`. -/
def tagTime (b : List Nat) : Option Int :=
  match tagItem b 0x63 with
  | some f => (digits f).map fun n => if 10 < f.length then (n : Int) * 1000000 else (n : Int) * 1000000000
  | none => none

/-! ### NMEA 2000 (R108) -/

/-- The 29-bit identifier of a priority and what stands below it: data page, format, specific part and source address. -/
def identOf (priority : Fin 8) (pgnSource : Nat) : Nat := priority.val * 2 ^ 26 + pgnSource % 2 ^ 26

/-- The PGN of a 29-bit identifier, the group extension zeroed in its addressed form. -/
def pgnOf (ident : Nat) : Nat :=
  let p := ident / 2 ^ 8 % 2 ^ 18
  if p / 256 % 256 < 240 then p / 256 * 256 else p

/-- The selection bit of a PGN and the class it serves. -/
def pgnRow (pgn : Nat) : Option (Nat × Nat) :=
  if pgn = 129025 then some (0, 1) else if pgn = 129029 then some (1, 1) else if pgn = 127250 then some (2, 6)
  else if pgn = 127251 then some (3, 6) else if pgn = 127257 then some (4, 7) else if pgn = 130306 then some (5, 8)
  else if pgn = 128259 then some (6, 10) else if pgn = 128267 then some (7, 9) else none

/-- A PGN that travels as a fast packet. -/
def fastPgn (pgn : Nat) : Bool := pgn = 129029

/-- A signed field of `n` octets; its largest value says that data are not available (NMEA 2000; assumption 32). -/
def signedField (b : List Byte) (off n : Nat) : Option Int :=
  if b.length < off + n then none
  else
    let v := leAt b off n
    if v = 2 ^ (8 * n - 1) - 1 then none else some (ofBits (8 * n) v)

/-- An unsigned field. -/
def unsignedField (b : List Byte) (off n : Nat) : Option Nat :=
  if b.length < off + n then none
  else
    let v := leAt b off n
    if v = 2 ^ (8 * n) - 1 then none else some v

/-- What a PGN holds for a slot, in the layouts of NMEA 2000 (assumption 32). -/
def pgnFound (pgn : Nat) (b : List Byte) : Found :=
  let u (off n : Nat) : Option Nat := unsignedField b off n
  let i (off n : Nat) : Option Int := signedField b off n
  if pgn = 129025 then
    match i 0 4, i 4 4 with
    | some la, some lo => .fix (.position (radians (mkRat la 10000000)) (radians (mkRat lo 10000000)) none none) none none 0 none []
    | _, _ => .error 2
  else if pgn = 129029 then
    match u 1 2, u 3 4, i 7 8, i 15 8, u 31 1 with
    | some d, some t, some la, some lo, some m =>
      if m / 16 = 0 then .error 3
      else .fix (.position (radians (mkRat la (10 ^ 16))) (radians (mkRat lo (10 ^ 16))) ((i 23 8).map fun h => mkRat h 1000000) none) none
        (some ((d : Int) * 86400000000000 + t * 100000)) (m / 16) none []
    | _, _, _, _, _ => .error 2
  else if pgn = 127250 then
    match u 1 2, u 7 1 with
    | some h, some r => if r % 4 = 0 then .fix (.heading (mkRat h 10000)) none none 0 none [] else .nothing
    | _, _ => .error 2
  else if pgn = 127251 then
    match i 1 4 with
    | some r => .fix (.rate (mkRat r 32000000)) none none 0 none []
    | none => .error 2
  else if pgn = 127257 then
    match i 1 2, i 3 2, i 5 2 with
    | some y, some p, some r => .fix (.inertial [mkRat r 10000, mkRat p 10000, mkRat y 10000]) none none 0 none []
    | _, _, _ => .error 2
  else if pgn = 130306 then
    match u 1 2, u 3 2, u 5 1 with
    | some v, some a, some r => if r % 8 = 2 then .fix (.wind (mkRat v 100) (mkRat a 10000)) none none 0 none [] else .nothing
    | _, _, _ => .error 2
  else if pgn = 128259 then
    match u 1 2 with
    | some v => .fix (.speed (mkRat v 100) 0 none) none none 0 none []
    | none => .error 2
  else if pgn = 128267 then
    match u 1 4, i 5 2 with
    | some _, some o => .fix (.draught (mkRat o 1000)) none none 0 none []
    | _, _ => .error 2
  else .nothing

/-! ### Binary templates (R451–R453) -/

/-- A field's width. -/
def fieldWidth (ty : Nat) : Nat :=
  if ty ≤ 2 then 1 else if ty ≤ 4 then 2 else if ty ≤ 6 then 4 else if ty ≤ 8 then 8 else if ty = 9 then 4 else 8

/-- The width of a check field (R452). -/
def checkWidth (ty : Nat) : Nat := if ty = 0 then 0 else if ty ≤ 2 then 1 else if ty ≤ 4 then 2 else 4

/-- The quantities that a class requires of a template (R453). -/
def quantitiesOf (cls : Nat) : List Nat :=
  match cls with
  | 1 => [1, 2] | 2 => [4, 5] | 5 => [15, 16, 17] | 6 => [6] | 7 => [7, 8, 9] | 8 => [10, 11] | 9 => [12] | 10 => [13, 14]
  | _ => []

/-- The quantities that a template holds. -/
def quantitiesIn (t : List Byte) : List Nat := (List.range (leAt t 23 1)).map fun f => leAt t (36 + 16 * f) 1

/-- A template passes its tests (R451, R128). -/
def templateOk (t : Nat) (b : List Byte) : Bool :=
  let n := leAt b 23 1
  let len := leAt b 6 2
  leAt b 0 2 = 0x4254 && leAt b 2 1 = 1 && leAt b 3 1 = t && 1 ≤ n && n ≤ 16 && b.length = 36 + 16 * n
    && leAt b (32 + 16 * n) 4 = crc32c (b.take (32 + 16 * n)) && leAt b 4 1 ≤ 4 && leAt b 5 1 ≤ 2 && 4 ≤ len && len ≤ 1024
    && (leAt b 5 1 ≠ 1 || (1 ≤ leAt b 14 1 && leAt b 14 1 ≤ 3)) && leAt b 16 1 ≤ 2 && leAt b 19 1 ≤ 5 && leAt b 22 1 < 2
    && (List.range n).all fun f =>
      let ty := leAt b (34 + 16 * f) 1
      let q := leAt b (36 + 16 * f) 1
      1 ≤ ty && ty ≤ 10 && leAt b (35 + 16 * f) 1 < 4 && 1 ≤ q && q ≤ 20 && (q ≠ 20 || ty ≤ 8)
        && (q = 20 || (f32 (leAt b (40 + 16 * f) 4 : Nat) ≠ .bad && f32 (leAt b (44 + 16 * f) 4 : Nat) ≠ .bad))
        && leAt b (32 + 16 * f) 2 + fieldWidth ty ≤ len

/-- Octets of a field in its byte order, as a number. -/
def orderedAt (b : List Byte) (off n : Nat) (big : Bool) : Nat :=
  let l := (b.drop off).take n
  unLe (if big then l.reverse else l)

/-- One bit step of the CRC-16 of R452. -/
def crc16Step (c : Nat) : Nat := if 0x8000 ≤ c then Nat.xor (2 * c) 0x1021 % 65536 else 2 * c

/-- The CRC-16 of R452. -/
def crc16 (l : List Byte) : Nat :=
  l.foldl (fun c x =>
    crc16Step (crc16Step (crc16Step (crc16Step (crc16Step (crc16Step (crc16Step (crc16Step (Nat.xor c (x.toNat * 256)))))))))) 0xFFFF

/-- The check of a type over octets (R452). -/
def checkOver (ty : Nat) (l : List Byte) : Nat :=
  match ty with
  | 1 => xorAll (nats l)
  | 2 => (nats l).foldl (· + ·) 0 % 256
  | 3 => (nats l).foldl (· + ·) 0 % 65536
  | 4 => crc16 l
  | _ => crc32c l

/-- The length that a template gives the frame: in mode 1 by its length field; none where it is longer than the maximum. -/
def frameLength (t b : List Byte) : Option Nat :=
  let top := leAt t 6 2
  let n : Int := match leAt t 5 1 with
    | 0 => top
    | 1 =>
      let w := if leAt t 14 1 = 1 then 1 else 2
      (orderedAt b (leAt t 12 2) w (leAt t 14 1 = 3) : Int) + ofBits 8 (leAt t 15 1)
    | _ => b.length
  if 0 ≤ n && n ≤ top then some n.toNat else none

/-- A frame meets its template's form (R450, R451): sync, length and end pattern. -/
def frameOk (t b : List Byte) : Bool :=
  b.take (leAt t 4 1) = (t.drop 8).take (leAt t 4 1) && frameLength t b = some b.length
    && b.drop (b.length - leAt t 16 1) = (t.drop 17).take (leAt t 16 1)

/-- The check of a frame holds (R452). -/
def frameSum (t b : List Byte) : Bool :=
  let ty := leAt t 19 1
  let w := checkWidth ty
  let at_ := b.length - leAt t 16 1 - w
  ty = 0 || orderedAt b at_ w (leAt t 22 1 % 2 = 1) = checkOver ty ((b.take at_).drop (leAt t 20 2))

/-- The value of a field (R453): none where a real is not finite or the frame does not hold it. -/
def fieldValue (t b : List Byte) (f : Nat) : Option Rat :=
  let off := leAt t (32 + 16 * f) 2
  let ty := leAt t (34 + 16 * f) 1
  let w := fieldWidth ty
  let raw := orderedAt b off w (leAt t (35 + 16 * f) 1 % 2 = 1)
  let q : Fp := if ty = 9 then f32 raw else if ty = 10 then f64 raw
    else .fin (if ty % 2 = 0 then (ofBits (8 * w) raw : Rat) else (raw : Rat))
  if b.length < off + w then none
  else match q with
    | .fin v => some (v * (f32 (leAt t (40 + 16 * f) 4 : Nat)).q + (f32 (leAt t (44 + 16 * f) 4 : Nat)).q)
    | .bad => none

/-- Every status field of a frame passes (R453). -/
def statusOk (t b : List Byte) : Bool :=
  (List.range (leAt t 23 1)).all fun f =>
    leAt t (36 + 16 * f) 1 ≠ 20 ||
      Nat.land (orderedAt b (leAt t (32 + 16 * f) 2) (fieldWidth (leAt t (34 + 16 * f) 1)) (leAt t (35 + 16 * f) 1 % 2 = 1))
        (leAt t (40 + 16 * f) 4) = leAt t (44 + 16 * f) 4

/-- What a template frame holds for a slot of a class (R453). -/
def templateFound (t b : List Byte) (cls : Nat) : Found :=
  let n := leAt t 23 1
  let val (q : Nat) : Option Rat :=
    match (List.range n).find? fun f => leAt t (36 + 16 * f) 1 = q with
    | some f => fieldValue t b f
    | none => none
  let finite := (List.range n).all fun f => leAt t (36 + 16 * f) 1 = 20 || (fieldValue t b f).isSome
  let v (q : Nat) : Rat := (val q).getD 0
  let tagField := (List.range n).find? fun f => leAt t (36 + 16 * f) 1 = 18
  let isTod : Bool := match tagField with
    | some f => leAt t (35 + 16 * f) 1 / 2 % 2 = 1
    | none => false
  let tag : Option Int := (val 18).map fun x => x.floor
  let m : Meas := match cls with
    | 1 => .position (v 1) (v 2) (val 3) none
    | 2 => .rangeBearing (v 4) (v 5)
    | 5 => .tautWire (v 15) (v 16) (v 17)
    | 6 => .heading (v 6)
    | 7 => .inertial [v 7, v 8, v 9]
    | 8 => .wind (v 10) (v 11)
    | 9 => .draught (v 12)
    | _ => .speed (v 13) (v 14) none
  if !frameOk t b then .error 2
  else if !frameSum t b then .error 1
  else if !finite then .error 2
  else if !statusOk t b then .error 3
  else .fix m (if isTod then tag.map (·.toNat) else none) (if isTod then none else tag) 0 (val 19) []

end Sys2Proof.Machine
end

