-- ==== Sys2Proof/Machine/Geometry.lean ====
section
/-! DEFINITION. Mounts and rotations (R123), structure models and marker tables (R126, R127), and the geometry of FIT and POSE
(R201, R202). -/

namespace Sys2Proof.Machine

/-! ### Vectors and rotations -/

/-- A vector of three rationals. -/
abbrev Vec := Rat × Rat × Rat

/-- Sum of vectors. -/
def vecAdd (a b : Vec) : Vec := (a.1 + b.1, a.2.1 + b.2.1, a.2.2 + b.2.2)

/-- Difference of vectors. -/
def vecSub (a b : Vec) : Vec := (a.1 - b.1, a.2.1 - b.2.1, a.2.2 - b.2.2)

/-- A multiple of a vector. -/
def vecMul (k : Rat) (a : Vec) : Vec := (k * a.1, k * a.2.1, k * a.2.2)

/-- Scalar product. -/
def vecDot (a b : Vec) : Rat := a.1 * b.1 + a.2.1 * b.2.1 + a.2.2 * b.2.2

/-- Length of a vector. -/
def vecLen (a : Vec) : Rat := Config.sqrt (vecDot a a)

/-- The rotation by roll, pitch and yaw. -/
structure Turn where
  phi : Rat
  theta : Rat
  psi : Rat
deriving DecidableEq, Repr

/-- Rz(ψ)·Ry(θ)·Rx(φ) applied to a vector (R123). -/
def rotate (t : Turn) (v : Vec) : Vec :=
  let a : Vec := (v.1, Config.cos t.phi * v.2.1 - Config.sin t.phi * v.2.2, Config.sin t.phi * v.2.1 + Config.cos t.phi * v.2.2)
  let b : Vec := (Config.cos t.theta * a.1 + Config.sin t.theta * a.2.2, a.2.1, Config.cos t.theta * a.2.2 - Config.sin t.theta * a.1)
  (Config.cos t.psi * b.1 - Config.sin t.psi * b.2.1, Config.sin t.psi * b.1 + Config.cos t.psi * b.2.1, b.2.2)

/-- The inverse rotation: components along the turned axes. -/
def rotateBack (t : Turn) (v : Vec) : Vec :=
  (vecDot v (rotate t (1, 0, 0)), vecDot v (rotate t (0, 1, 0)), vecDot v (rotate t (0, 0, 1)))

/-! ### Mounts (R122–R125) -/

/-- A subindex of slot i. -/
def slKey (i sub : Nat) : Nat := ob (0x3100 + i) sub

/-- A subindex of mount entry e. -/
def mtKey (e sub : Nat) : Nat := ob (0x3200 + e) sub

/-- A value of a mount entry, refined where valid (R123), in metres or radians. -/
def mountVal (e k : Nat) (s : P1) : Rat :=
  let v := s.rd (mtKey e (if s.rd (mtKey e 0x0D) = 1 then 7 + k else 1 + k))
  (v : Rat) / (if k < 3 then 10000 else 1000000)

/-- The lever arm of an entry in force. -/
def mountArm (e : Nat) (s : P1) : Vec := (mountVal e 0 s, mountVal e 1 s, mountVal e 2 s)

/-- The rotation of an entry in force. -/
def mountTurn (e : Nat) (s : P1) : Turn := ⟨mountVal e 3 s, mountVal e 4 s, mountVal e 5 s⟩

/-- A point in sensor axes carried into vessel axes by a mount entry (R123). -/
def byMount (e : Nat) (v : Vec) (s : P1) : Vec := vecAdd (mountArm e s) (rotate (mountTurn e s) v)

/-- The attitude estimate R_nb. -/
def attitude (s : P1) : Turn := ⟨(s.fus.x[6]).getD 0, (s.fus.x[7]).getD 0, (s.fus.x[8]).getD 0⟩

/-! ### Models and tables (R126, R127) -/

/-- An F64 field. -/
def f64At (b : List Byte) (off : Nat) : Rat := (f64 (leAt b off 8 : Nat)).q

/-- Three F64 fields. -/
def vecAt (b : List Byte) (off : Nat) : Vec := (f64At b off, f64At b (off + 8), f64At b (off + 16))

/-- The frame in the header of a model or table. -/
def frameOf (b : List Byte) : StructFrame := ⟨leAt b 3 1, f64At b 8, f64At b 16, f64At b 24, f64At b 32⟩

/-- A primitive of a structure model (R126). -/
inductive Primitive
  | plane (point normal : Vec) (radius : Rat)
  | cylinder (start axis : Vec) (radius : Rat)
  | box (centre half : Vec) (yaw : Rat)
deriving DecidableEq, Repr

/-- Primitive n of a model with its ID, where it is enabled and of a type of R126. -/
def primitiveAt (b : List Byte) (n : Nat) : Option (Nat × Primitive) :=
  let o := 40 + 64 * n
  let p := vecAt b (o + 8)
  let q := vecAt b (o + 32)
  let r := f64At b (o + 56)
  if leAt b (o + 1) 1 % 2 = 0 then none
  else match leAt b o 1 with
  | 1 => some (leAt b (o + 2) 2, .plane p q r)
  | 2 => some (leAt b (o + 2) 2, .cylinder p q r)
  | 3 => some (leAt b (o + 2) 2, .box p q r)
  | _ => none

/-- The enabled primitives of a model. -/
def primitivesOf (b : List Byte) : List (Nat × Primitive) := (List.range (leAt b 4 2)).filterMap (primitiveAt b)

/-- The enabled markers of a table: ID and position. -/
def markersOf (b : List Byte) : List (Nat × Vec) :=
  ((List.range (leAt b 4 2)).filter fun m => leAt b (42 + 32 * m) 2 % 2 = 1).map fun m =>
    (leAt b (40 + 32 * m) 2, vecAt b (48 + 32 * m))

/-! ### Distances (R201) -/

/-- The absolute value or 0. -/
def above0 (x : Rat) : Rat := if x < 0 then 0 else x

/-- The signed distance of a point from a primitive (R201); none for a plane whose association radius does not reach it
(assumption 100). -/
def distanceTo (p : Vec) : Primitive → Option Rat
  | .plane a n r => if vecDot (vecSub p a) (vecSub p a) ≤ r * r then some (vecDot (vecSub p a) n) else none
  | .cylinder a v r =>
    let d := vecSub p a
    let t := if vecDot v v = 0 then 0 else vecDot d v / vecDot v v
    let u : Rat := if t < 0 then 0 else if 1 < t then 1 else t
    some (vecLen (vecSub d (vecMul u v)) - r)
  | .box c h yaw =>
    let q := rotateBack ⟨0, 0, yaw⟩ (vecSub p c)
    let a : Vec := (ratAbs q.1 - h.1, ratAbs q.2.1 - h.2.1, ratAbs q.2.2 - h.2.2)
    let top := if a.1 < a.2.1 then (if a.2.1 < a.2.2 then a.2.2 else a.2.1) else if a.1 < a.2.2 then a.2.2 else a.1
    some (if 0 < top then vecLen (above0 a.1, above0 a.2.1, above0 a.2.2) else top)

/-- The enabled primitive of smallest distance, with its distance (R201). -/
def nearest (l : List (Nat × Primitive)) (p : Vec) : Option (Nat × Rat) :=
  l.foldl (fun best e => match distanceTo p e.2, best with
    | some d, some b => if ratAbs d < ratAbs b.2 then some (e.1, d) else best
    | some d, none => some (e.1, d)
    | none, _ => best) none

/-- The Huber weight of a residual. -/
def huber (limit r : Rat) : Rat := if ratAbs r ≤ limit || r = 0 then 1 else limit / ratAbs r

/-! ### FIT and POSE (R201, R202) -/

/-- A point in vessel axes carried into the structure frame by a pose. -/
def intoFrame (x : Pose6) (v : Vec) : Vec := vecAdd (x.x, x.y, x.z) (rotate ⟨x.phi, x.theta, x.psi⟩ v)

/-- A point of the structure frame in vessel axes. -/
def fromFrame (x : Pose6) (v : Vec) : Vec := rotateBack ⟨x.phi, x.theta, x.psi⟩ (vecSub v (x.x, x.y, x.z))

/-- One assembly of FIT (R201): the inliers with their primitive and distance. -/
def inliers (dist : Rat) (prims : List (Nat × Primitive)) (points : List Vec) (x : Pose6) : List (Nat × Rat) :=
  (points.filterMap fun p => nearest prims (intoFrame x p)).filter fun e => ratAbs e.2 ≤ dist

/-- The camera of a head: fx, fy, cx, cy, k1, k2 (R132), and where a point in head axes is seen, distorted (R132, R202;
assumption 100). -/
def project (cam : List Rat) (q : Vec) : Option (Rat × Rat) :=
  let c (k : Nat) : Rat := cam.getD k 0
  if q.1 ≤ 0 then none
  else
    let a := q.2.1 / q.1
    let b := q.2.2 / q.1
    let r2 := a * a + b * b
    let k := 1 + c 4 * r2 + c 5 * r2 * r2
    some (c 2 + c 0 * a * k, c 3 + c 1 * b * k)

/-- One assembly of POSE (R202): for each detection that remains, its residuals in σ and its weight. -/
def sightings (limit : Rat) (table : List Byte) (cam mount : List Rat) (l : List Detection) (x : Pose6) : List (Rat × Rat × Rat) :=
  let m (k : Nat) : Rat := mount.getD k 0
  let ms := markersOf table
  l.filterMap fun d => match ms.find? fun e => e.1 = d.marker with
    | none => none
    | some e =>
      let q := rotateBack ⟨m 3, m 4, m 5⟩ (vecSub (fromFrame x e.2) (m 0, m 1, m 2))
      (project cam q).map fun p =>
        let a := d.u - p.1
        let b := d.v - p.2
        (a / d.sigma, b / d.sigma, huber limit (Config.sqrt (a * a + b * b)))

/-- An assembly of a job at an iterate: weighted residuals, their weighted sum of squares, that they are enough. -/
def poseAssembly (inp : JobInput) (x : Pose6) (s : P1) : List Rat × Rat × Bool :=
  let q (k : Nat) : Rat := (f32 (s.rd (ob 0x4400 k))).q
  match inp with
  | .points l model =>
    let a := inliers (q 5) (primitivesOf model) l x
    let w := a.map fun e => (e.2, huber (q 6) e.2)
    (w.flatMap (fun e => [e.1, e.2]), w.foldl (fun t e => t + e.2 * e.1 * e.1) 0,
      s.rdN (ob 0x4400 7) ≤ a.length && s.rdN (ob 0x4400 8) ≤ (a.map (·.1)).eraseDups.length)
  | .detections l table cam mount =>
    let a := sightings (q 9) table cam mount l x
    (a.flatMap (fun e => [e.1, e.2.1, e.2.2]), a.foldl (fun t e => t + e.2.2 * (e.1 * e.1 + e.2.1 * e.2.1)) 0, 4 ≤ a.length)
  | _ => ([], 0, true)

/-- Iterate 0 (R191, R201): the estimate in a structure's frame, predicted to a time; for a moving structure the pose that the target
model predicts (R146). -/
def priorPose (fr : StructFrame) (tm : Int) (s : P1) : Pose6 :=
  let dt : Rat := ((tm - (s.ns : Int) : Int) : Rat) / 1000000000
  let v (k : Fin 120) : Rat := (s.fus.x[k]).getD 0
  if fr.kind = 1 then
    match s.fus.target with
    | some g =>
      let q := targetAt g tm
      let p := rotateBack ⟨0, 0, q.2.2⟩ (v 0 + v 3 * dt - q.1, v 1 + v 4 * dt - q.2.1, 0)
      ⟨p.1, p.2.1, 0, v 6, v 7, wrapPi (v 8 + v 11 * dt - q.2.2)⟩
    | none => ⟨0, 0, 0, v 6, v 7, v 8⟩
  else
    let o := frameOrigin s
    let a := Config.northEast o.1 o.2 fr.lat fr.lon
    let h : Rat := match s.fus.origin with
      | some q => q.2.2
      | none => 0
    let p := rotateBack ⟨0, 0, fr.yaw⟩ (v 0 + v 3 * dt - a.1, v 1 + v 4 * dt - a.2, v 2 + v 5 * dt - (h - fr.height))
    ⟨p.1, p.2.1, p.2.2, v 6, v 7, wrapPi (v 8 + v 11 * dt - fr.yaw)⟩

end Sys2Proof.Machine
end

