-- ==== Sys2Proof/Machine/Solver.lean ====
section
/-! DEFINITION. Solver engines (chapter "Solver engines", R172–R211): assignment, queues, structures, the running of a job, its
result. What an issuer does with a result stands in SolverRun. -/

namespace Sys2Proof.Machine

/-- A subindex of job type t. -/
def jtKey (t sub : Nat) : Nat := ob (0x4420 + t) sub

/-- The state with an engine changed. -/
def setEng (e : Fin 4) (f : SolverEngine → SolverEngine) (s : P1) : P1 :=
  { s with solver := { s.solver with engines := upd s.solver.engines e f } }

/-- The state with a structure changed. -/
def setRes (k : Fin 16) (f : Resident → Resident) (s : P1) : P1 :=
  { s with solver := { s.solver with res := upd s.solver.res k f } }

/-! ### Assignment (R173, R174) -/

/-- The first engine of a list that qualifies; 15 for none. -/
def firstOf (l : List Nat) (ok : Nat → Bool) : Nat := (l.find? ok).getD 15

/-- The engines of types 1 to 8 (R173). -/
def assignments (s : P1) : List Nat :=
  let run (e : Nat) : Bool := engineRuns e s
  let alloc := firstOf [0, 1, 2, 3] run
  let est := firstOf [1, 0, 3, 2] run
  let back (e : Nat) : Bool := run e && e ≠ alloc && e ≠ est
  let fit := firstOf [2, 3] back
  let align := firstOf [3, 2] back
  [est, est, align, fit, fit, align, alloc, align]

/-- 4400h:02 from the engines of the types (R207). -/
def nibbles : List Nat → Nat
  | [] => 0
  | x :: r => x + 16 * nibbles r

/-- The assignment of a G+0 with the solver status and the solver-degraded alarm (R173, R174, R208). -/
def assignTypes (s : P1) : P1 :=
  let l := assignments s
  let e (t : Nat) : Nat := l.getD (t - 1) 15
  let off1 := e 4 = 15
  let off2 := e 3 = 15
  let was := s.bit (ob 0x4400 1) 5 || s.bit (ob 0x4400 1) 6
  let t := showSolver ((s.wr (ob 0x4400 2) (nibbles l)).setBits (ob 0x4400 1)
    [(4, e 7 = e 1 && e 7 ≠ 15), (5, off1), (6, off2)])
  if (off1 || off2) && !was then recordAlarm true 0x0010 0 0 t
  else if was && !off1 && !off2 then recordAlarm false 0x0010 0 0 t else t

/-- The engine to which a type is assigned. -/
def typeEngine (t : Nat) (s : P1) : Option (Fin 4) :=
  let e := s.field (ob 0x4400 2) (4 * (t - 1)) 4
  if h : e < 4 then some ⟨e, h⟩ else none

/-! ### Structures (R180–R184) -/

/-- A structure number within range. -/
def stNo (k : Nat) : Fin 16 := ⟨k % 16, by omega⟩

/-- Octets of the structure area that are free (R180): a load that waits for its swap has its place too (assumption 102). -/
def freeArea (s : P1) : Nat :=
  24 * 2 ^ 20 - (List.finRange 16).foldl (fun (a : Nat) (k : Fin 16) =>
    a + (if isResident k s then areaOf (s.rdN (stKey k 3)) (s.rdN (stKey k 4)) else 0)
      + match (s.solver.res[k]).swap with
        | some b => areaOf (leAt b 4 2) (leAt b 8 4)
        | none => 0) 0

/-- 4400h:01 and 03 follow the resident structures (R207, R208). -/
def showArea (s : P1) : P1 := (showSolver s).wr (ob 0x4400 3) (freeArea s)

/-- A structure that passed its checks waits to replace the resident one (R184). -/
def offerStructure (k : Fin 16) (b : List Byte) (s : P1) : P1 :=
  showArea ((setRes k (fun r => { r with swap := some b }) (s.inc (stKey k 7))).wr (stKey k 8) 3)

/-- The rule of 4410h+k:01 (R180, R183): the checks of a structure of the user, and its room in 4400h:03. -/
def structureRule (k : Fin 16) (b : List Byte) : Rule P1 :=
  checkRule (fun s => if 12 ≤ k.val && structureForm b && areaOf (leAt b 4 2) (leAt b 8 4) ≤ s.rdN (ob 0x4400 3) then 0 else abRange)
    (offerStructure k b)

/-- A job on structure k runs on some engine. -/
def structureBusy (k : Nat) (s : P1) : Bool :=
  s.solver.engines.toList.any fun e => match e.run with
    | some r => r.job.desc.structureNo = k
    | none => false

/-- A structure becomes the resident one (R184): with another tag no solution exists on it (R192, R195). -/
def installStructure (k : Fin 16) (b : List Byte) (s : P1) : P1 :=
  let same := s.rdN (stKey k 2) = tagOf b
  let f (r : Resident) : Resident :=
    if same then { r with factor := none, swap := none } else { Resident.reset with key := r.key }
  showArea (setRes k f ((s.setOctets (stKey k 1) b).wrs [(stKey k 2, tagOf b), (stKey k 3, leAt b 4 2),
    (stKey k 4, leAt b 8 4), (stKey k 5, leAt b 16 8), (stKey k 6, leAt b 24 8), (stKey k 8, 1)]))

/-- An accepted structure of the user replaces the resident one in the first grain without a job on it (R184); the engines of
Dormant have no power to (R47). -/
def structureSwap (k : Fin 16) (s : P1) : P1 :=
  match (s.solver.res[k]).swap with
  | none => s
  | some b => if structureBusy k s || s.mode = 0 || k.val < 12 then s else installStructure k b s

/-! ### Results (R195, R196) -/

/-- Status bits of R196. -/
def stDone : Nat := 1
/-- TRUNCATED. -/
def stTruncated : Nat := 2
/-- STALE. -/
def stStale : Nat := 4
/-- WARM_REJECT. -/
def stWarmReject : Nat := 8
/-- PIVOT_REG. -/
def stPivot : Nat := 16
/-- DELTA_REJECT. -/
def stDelta : Nat := 32
/-- QUEUE_EXPIRED. -/
def stExpired : Nat := 64
/-- NONFINITE. -/
def stNonfinite : Nat := 128
/-- NO_STRUCT. -/
def stNoStruct : Nat := 256
/-- REFUSED. -/
def stRefused : Nat := 512
/-- ENGINE_FAULT. -/
def stEngineFault : Nat := 1024
/-- NO_PREVIOUS. -/
def stNoPrevious : Nat := 2048

/-- What the arithmetic of a job found (R195): its solution and covariance diagonal in original numbering, the residual, the
original indices of the flagged pivots in order, the last iterate of an ALLOC job, and of a FIT or POSE that its last assembly left
enough to go by. -/
structure JobFound where
  solution : List Rat
  cov : List Rat
  residual : Rat
  flagged : List Nat
  iter : Option Iter
  enough : Bool
deriving DecidableEq, Repr

/-- How a job ended, for its issuer: the job, its status word, the iterations completed, and what it delivered. -/
structure Ended where
  job : Job
  status : Nat
  iters : Nat
  found : Option JobFound
deriving DecidableEq, Repr

/-- Values as F64 octets. -/
def f64Octets (l : List Rat) : List Byte := l.flatMap fun q => le 8 (toF64 q).toNat

/-- The values of F64 octets. -/
def f64List (b : List Byte) : List Rat := (List.range (b.length / 8)).map fun i => f64At b (8 * i)

/-- The result record (R195). -/
def resultRecord (j : Job) (status start stop : Nat) (r : Resident) (s : P1) : List Byte :=
  let k := j.desc.structureNo % 16
  le 4 j.desc.id ++ le 4 status ++ le 4 j.stamp ++ le 4 start ++ le 4 stop ++ le 2 r.pivot ++ le 1 k ++ le 1 j.desc.ty
    ++ le 8 (toBits 64 r.residual) ++ le 4 (s.rdN (stKey k 2)) ++ le 4 r.stamp ++ le 4 (s.rdN (stKey k 3)) ++ zeros 4
    ++ padTo (8 * s.rdN (stKey k 3)) (r.solution.getD []) ++ padTo (8 * s.rdN (stKey k 3)) r.cov

/-- A job is reported (R195, R210): `some d` delivers a solution, none leaves the previous one. -/
def reportJob (j : Job) (start : Option Nat) (bits iters : Nat) (d : Option JobFound) (s : P1) : P1 × Ended :=
  let k := stNo j.desc.structureNo
  let stop := s.stamp
  let t := match d with
    | some x => setRes k (fun r => { r with solution := some (f64Octets x.solution), cov := f64Octets x.cov, residual := toF64 x.residual,
                                            stamp := stop, pivot := x.flagged.headD 0xFFFF }) s
    | none => s
  let r := t.solver.res[k]
  let pivots := (d.map fun x => x.flagged.length).getD 0
  let status := bits + (if pivots = 0 then 0 else stPivot) + (if d.isNone && r.solution.isNone then stNoPrevious else 0)
    + 65536 * iters + 16777216 * min 255 pivots
  let ty := j.desc.ty
  let rec_ := resultRecord j status (start.getD stop) stop r t
  let one (b : Nat) (sub : Nat) (u : P1) : P1 := if status / b % 2 = 1 then u.inc (jtKey ty sub) else u
  let u := one stRefused 9 (one stPivot 8 (one stWarmReject 7 (one stStale 6 (one stTruncated 5 (one stDone 4 t)))))
  let dur : Int := ((s.elapsed - j.grain : Nat) : Int)
  let v := u.wrs [(jtKey ty 0x0A, status), (jtKey ty 0x0B, r.residual), (jtKey ty 0x0C, max (u.rd (jtKey ty 0x0C)) dur)]
  let w : P1 := { v with solver := { v.solver with results :=
    if h : 1 ≤ ty ∧ ty ≤ 8 then v.solver.results.set (ty - 1) rec_ else v.solver.results } }
  (if ty = 8 then (w.setOctets (ob 0x4430 4) rec_).wr (ob 0x4430 5) 3 else w, ⟨j, status, iters, d⟩)

/-! ### Issue (R178, R179) -/

/-- A type is foreground (R172). -/
def foreground (t : Nat) : Bool := t = 1 || t = 2 || t = 7

/-- The iteration range of a type (R197). -/
def iterRange (t : Nat) : Nat × Nat :=
  match t with
  | 1 => (1, 1) | 2 => (2, 8) | 3 => (1, 8) | 4 => (2, 32) | 5 => (2, 16) | 6 => (1, 1) | 7 => (40, 40) | _ => (1, 16)

/-- The structure of a type, where the type has one of its own. -/
def typeStructure (t : Nat) : Option Nat :=
  match t with
  | 1 => some 0 | 2 => some 1 | 7 => some 2 | 4 => some 3 | 5 => some 4 | 6 => some 5 | 3 => some 6 | _ => none

/-- A descriptor's type, structure, iteration count, deadline and lengths are valid (R178, R179). -/
def descOk (d : JobDesc) (s : P1) : Bool :=
  1 ≤ d.ty && d.ty ≤ 8
    && (match typeStructure d.ty with
      | some k => d.structureNo = k
      | none => 12 ≤ d.structureNo && d.structureNo ≤ 15)
    && (iterRange d.ty).1 ≤ d.iterations && d.iterations ≤ (iterRange d.ty).2
    && 1 ≤ d.deadline && d.deadline ≤ 60000000
    && (d.ty = 8 || (d.deltaLen % 16 = 0 && (if d.delta then 32 ≤ d.deltaLen else d.deltaLen = 0)
      && 48 + 16 * s.rdN (stKey d.structureNo 3) ≤ d.outputLen))

/-- Jobs in the queue that a type takes on an engine. -/
def SolverEngine.queue (x : SolverEngine) (fg : Bool) : List Job := if fg then x.fg else x.bg

/-- An engine with one of its queues replaced. -/
def SolverEngine.setQueue (x : SolverEngine) (fg : Bool) (l : List Job) : SolverEngine :=
  if fg then { x with fg := l } else { x with bg := l }

/-- A descriptor finds its queue full (R50). -/
def queueFull (t : Nat) (s : P1) : Bool :=
  match typeEngine t s with
  | some e => 16 ≤ ((s.solver.engines[e]).queue (foreground t)).length
  | none => false

/-- Queue a job on the engine of its type; the issue grain is this one (R179). -/
def enqueueJob (j : Job) (s : P1) : P1 :=
  match typeEngine j.desc.ty s with
  | none => s
  | some e =>
    let fg := foreground j.desc.ty
    (setEng e (fun x => x.setQueue fg (x.queue fg ++ [j])) s).inc (jtKey j.desc.ty 3)

/-- A refused job of the module's own issuers is reported (R179). -/
def refuseJob (j : Job) (s : P1) : P1 × Option Ended :=
  let r := reportJob j none (stStale + stRefused) 0 none s
  (r.1, some r.2)

/-- A job of one of the module's own issuers (R174, R179): not issued while its type is unassigned; a refused one is
reported. -/
def issueJob (d : JobDesc) (input : JobInput) (delta : List Byte) (fix : Option Fix) (s : P1) : P1 × Option Ended :=
  let j : Job := ⟨d, s.elapsed, s.stamp, input, delta, fix⟩
  if (typeEngine d.ty s).isNone then (s, none)
  else if !descOk d s || queueFull d.ty s then refuseJob j s
  else (enqueueJob j s, none)

/-- The delta list that the module builds for a type (R259): SUP writes the elements of K that have changed. -/
def ownDelta (t : Nat) (s : P1) : List Byte := if t = 7 then allocDelta s else []

/-- The input block that the module builds for a type, where no frame or packet gives it (R198, R238). -/
def ownInput (t : Nat) (s : P1) : JobInput :=
  if t = 6 then .samples ((s.ctl.wave.samples.take (fitCount s)).map (·.x)) else .estimate

/-- The descriptor that the module writes for a type (R178, R198). -/
def ownDesc (t : Nat) (warm : Bool) (delta : List Byte) (s : P1) : JobDesc :=
  let k := (typeStructure t).getD 0
  { id := s.solver.nextId, ty := t, structureNo := k, iterations := s.rdN (jtKey t 1), warm := warm, delta := delta ≠ []
    warmTag := s.rdN (stKey k 2), deadline := s.rdN (jtKey t 2), inputAddr := Config.jobArea t 0, inputLen := Config.jobArea t 1
    deltaLen := delta.length, deltaAddr := if delta = [] then 0 else Config.jobArea t 2
    outputAddr := Config.jobArea t 3, outputLen := 48 + 16 * s.rdN (stKey k 3) }

/-- The module issues a job of a type. -/
def issueOwn (t : Nat) (warm : Bool) (input : JobInput) (fix : Option Fix) (s : P1) : P1 × Option Ended :=
  issueJob (ownDesc t warm (ownDelta t s) s) input (ownDelta t s) fix
    { s with solver := { s.solver with nextId := (s.solver.nextId + 1) % 2 ^ 32 } }

/-- The delta list at the address that a descriptor of the module's issuers names: of ALLOC the one that SUP builds, else what the
issuer wrote there (assumption 3). -/
def deltaNamed (d : JobDesc) (s : P1) : List Byte :=
  if !d.delta then [] else if d.ty = 7 then allocDelta s else Config.freeBytes s.free

/-- JOB_ISSUE: a descriptor of the module's issuers with the input block that the module keeps for its type (R178, R179). -/
def issueDesc (d : JobDesc) (s : P1) : P1 × Option Ended := issueJob d (ownInput d.ty s) (deltaNamed d s) none s.draw

/-- The descriptor of 64 octets (R178). -/
def readJob (b : List Byte) : JobDesc :=
  { id := leAt b 0 4, ty := leAt b 4 1, structureNo := leAt b 5 1, iterations := leAt b 6 1
    warm := (leAt b 7 1).testBit 0, delta := (leAt b 7 1).testBit 1, warmTag := leAt b 8 4, deadline := leAt b 12 4
    inputAddr := leAt b 24 8, inputLen := leAt b 32 4, deltaLen := leAt b 36 4, deltaAddr := leAt b 40 8
    outputAddr := leAt b 48 8, outputLen := leAt b 56 4 }

/-- A TEST descriptor as it stands after acceptance: the module writes the issue stamp (R178). -/
def stamped (b : List Byte) (s : P1) : List Byte := b.take 16 ++ le 4 s.stamp ++ b.drop 20

/-- The TEST job of a descriptor (R211): with the right-hand side and the delta list already written. -/
def testJob (b : List Byte) (s : P1) : Job :=
  ⟨readJob b, s.elapsed, s.stamp, .rhs (s.octets (ob 0x4430 2)), s.octets (ob 0x4430 3), none⟩

/-- The rule of 4430h:01 (R179, R211). -/
def testJobRule (b : List Byte) : Rule P1 where
  mode := fun _ => 0
  check := fun s =>
    let d := readJob b
    if b.length = 64 && leAt b 7 1 < 4 && d.ty = 8 && descOk d s && (typeEngine 8 s).isSome
      && (!isResident d.structureNo s || (s.octets (ob 0x4430 2)).length = 8 * s.rdN (stKey d.structureNo 3)) then 0
    else abRange
  busy := fun s => if queueFull 8 s then abBusy else 0
  eff := fun s => (enqueueJob (testJob b s) (s.setOctets (ob 0x4430 1) (stamped b s))).wr (ob 0x4430 5) 1

/-! ### What the arithmetic of a job finds (R188–R191, R199–R203) -/

/-- What the phases of a job leave: the values of its structure as F64 bits, the ε_piv and λ of its factor where that is valid,
what it found, or nothing where a value was not finite (R189), and the iterations completed. -/
structure Worked where
  values : List Nat
  factor : Option (Int × Int)
  found : Option JobFound
  done : Nat
deriving DecidableEq, Repr

/-- The system of one linearisation: the values of the normal equations, and the right side in original numbering. -/
structure System where
  values : List Nat
  side : List (Option Rat)
deriving DecidableEq, Repr

/-- A measurement as numbers. -/
def Meas.numbers : Meas → List Rat
  | .position la lo _ _ => [1, la, lo]
  | .rangeBearing rho beta => [2, rho, beta]
  | .pose p f => [3, p.x, p.y, p.z, p.phi, p.theta, p.psi, f.lat, f.lon, f.height, f.yaw]
  | .tautWire l a b => [4, l, a, b]
  | .heading psi => [5, psi]
  | .rate r => [6, r]
  | .inertial l => 7 :: l
  | .wind v a => [8, v, a]
  | .draught d => [9, d]
  | .speed u v _ => [10, u, v]
  | .raw l => 11 :: l.flatMap fun e => [(e.1 : Rat), e.2]

/-- The residual data of an ALIGN run (R199): each fix of the window with its slot's mount, the track at the knots, and the priors. -/
def alignData (s : P1) : List (Option Rat) :=
  ((s.fus.window.flatMap fun f =>
    let e := s.rdN (slKey f.slot 0x0D)
    [(f.slot : Rat), (f.tm : Rat)] ++ f.meas.numbers ++ (List.range 6).map fun k => mountVal e k s).map some)
    ++ s.fus.knots.flatMap (fun e => some ((e.1 : Nat) : Rat) :: e.2)
    ++ (List.range 3).map fun k => some (f32 (s.rd (ob 0x4400 (0x0B + k)))).q

/-- What an assembly takes beside the iterate (R188): weighted residuals of a FIT or POSE, the data of an ALIGN run, the fixes of
an EST-LS with the estimate. -/
def jobData (j : Job) (x : List Rat) (s : P1) : List (Option Rat) :=
  match j.desc.ty with
  | 3 => alignData s
  | 4 | 5 =>
    let g (k : Nat) : Rat := x.getD k 0
    (poseAssembly j.input ⟨g 0, g 1, g 2, g 3, g 4, g 5⟩ s).1.map some
  | _ => s.fus.x.toList ++ s.fus.cov.toList ++ s.fus.cross ++ (s.fus.window.flatMap fun f => f.meas.numbers.map some)

/-- The normal equations of an autoregressive fit over a window, newest first (R203; assumption 103): three diagonal blocks. -/
def waveSystem (p : Nat) (l : List (Vector Rat 3)) (fr : Nat) (x : Spelled) : System :=
  let rows := (List.range (l.length - p)).map fun t => (List.range (p + 1)).map fun i => (l.getD (t + i) (Vector.replicate 3 0))
  let sum (d : Fin 3) (a b : Nat) : Rat := rows.foldl (fun m r =>
    m + (r.getD a (Vector.replicate 3 0))[d] * (r.getD b (Vector.replicate 3 0))[d]) 0
  let dof (m : Nat) : Fin 3 := ⟨m / p % 3, by omega⟩
  let at_ (a b : Nat) : Rat := if a / p = b / p then sum (dof a) (a % p + 1) (b % p + 1) else 0
  { values := x.pattern.zipIdx.map fun e => (toF64 (Config.fp64 (fr + e.2) (at_ (x.perm.getD e.1.1 0) (x.perm.getD e.1.2 0)))).toNat
    side := (List.range x.n).map fun m => some (Config.fp64 (fr + x.nnz + m) (sum (dof m) 0 (m % p + 1))) }

/-- The system of an iteration at an iterate; what the assembly makes of its data is the engine's arithmetic (assumption 98). -/
def systemOf (j : Job) (x : Spelled) (fr : Nat) (it : List Rat) (s : P1) : System :=
  match j.input with
  | .samples l => waveSystem (x.n / 3) l fr x
  | _ =>
    let ops := it.map some ++ jobData j it s
    { values := (List.range x.nnz).map fun m => fpBits (fr + m) ((Config.engine .normal fr m ops).filter fits64)
      side := (List.range x.n).map fun m => Config.engine .side fr m ops }

/-- A job of the Gauss-Newton or one-step linear types under way: where it linearised last, its iterate, the structure with its
values, the factor, that every value was finite, the iterations completed. -/
structure Steps where
  point : List Rat
  x : List Rat
  spelled : Spelled
  factor : List Column
  finite : Bool
  done : Nat
deriving DecidableEq, Repr

/-- A vector in original numbering from one in permuted numbering, and back. -/
def unpermute (x : Spelled) (y : List Rat) : List Rat := (List.range x.n).map fun i => y.getD (x.perm.idxOf i) 0
/-- See `unpermute`. -/
def permute (x : Spelled) (y : List Rat) : List Rat := x.perm.map fun i => y.getD i 0

/-- One iteration (R188): assembly at the iterate, with the delta list in iteration 1, factorisation, solve and update. -/
def stepOnce (j : Job) (eps lam : Rat) (fr : Nat) (r : Steps) (s : P1) : Steps :=
  let sys := systemOf j r.spelled fr r.x s
  let x : Spelled := { r.spelled with values := sys.values }
  let x : Spelled := if j.desc.delta && r.done = 0 then { x with values := applyDelta fr j.delta x } else x
  let f := factorOf x eps lam
  let ok := factorFinite x f && sys.side.all (·.isSome)
  let d := unpermute x (solveWith f (permute x (sys.side.map fun v => v.getD 0)))
  let y := ((List.range x.n).map fun i => Config.fp64 (fr + x.nnz + x.n + i) (r.x.getD i 0 + d.getD i 0))
  if ok && y.all fits64 then ⟨r.x, y, x, f, true, r.done + 1⟩ else { r with spelled := x, finite := false }

/-- Iterations until their number, or a value that is not finite, ends them. -/
def runSteps (j : Job) (eps lam : Rat) (fr : Nat) (s : P1) : Nat → Steps → Steps
  | 0, r => r
  | n + 1, r => if r.finite then runSteps j eps lam fr s n (stepOnce j eps lam (fr + 1048576 * n) r s) else r

/-- The covariance diagonal of a factored system (R188): the diagonal of the inverse, in original numbering. -/
def covDiag (x : Spelled) (f : List Column) : List Rat :=
  unpermute x ((List.range x.n).map fun i => (solveWith f ((List.range x.n).map fun k => if k = i then 1 else 0)).getD i 0)

/-- Types that deliver a covariance diagonal (R195). -/
def hasCov (t : Nat) : Bool := t = 2 || t = 3 || t = 4 || t = 5

/-- Iterations of EST-LS, GNSS-LS, ALIGN, FIT, POSE and WAVE (R188). -/
def stepsWork (r : JobRun) (n : Nat) (pv : Int × Int) (x : Spelled) (s : P1) : Worked :=
  let j := r.job
  let e := runSteps j (f64 pv.1).q (f64 pv.2).q s.free s n ⟨r.iterate, r.iterate, x, [], true, 0⟩
  let g (k : Nat) : Rat := e.point.getD k 0
  let a := poseAssembly j.input ⟨g 0, g 1, g 2, g 3, g 4, g 5⟩ s
  let res := if j.desc.ty = 4 || j.desc.ty = 5 then some a.2.1
    else Config.engine .residual s.free 0 (e.point.map some ++ jobData j e.point s)
  match e.finite, res with
  | true, some q =>
    if fits64 q then
      ⟨e.spelled.values, some pv, some ⟨e.x, if hasCov j.desc.ty then covDiag e.spelled e.factor else [], q,
        flaggedPivots e.spelled e.factor, none, a.2.2⟩, e.done⟩
    else ⟨e.spelled.values, none, none, e.done - 1⟩
  | _, _ => ⟨e.spelled.values, none, none, if e.finite then e.done - 1 else e.done⟩

/-- Iterations of a TEST job (R188, R190, R195). -/
def testWork (r : JobRun) (n : Nat) (pv : Int × Int) (x0 : Spelled) (s : P1) : Worked :=
  let j := r.job
  let x : Spelled := if j.desc.delta then { x0 with values := applyDelta s.free j.delta x0 } else x0
  let rhs : List (Option Rat) := match j.input with
    | .rhs b => (List.range x.n).map fun i => fpOf (leAt b (8 * i) 8)
    | _ => []
  let a := matrixOf x
  let f := factorOf x (f64 pv.1).q (f64 pv.2).q
  let b := permute x (rhs.map fun v => v.getD 0)
  let y (m : Nat) : List Rat := refine f a b m (permute x r.iterate)
  let rr := (List.zipWith (· - ·) b (timesVec a (y n))).foldl (fun t v => t + v * v) 0
  let bad := (List.range n).find? fun m => !(y (m + 1)).all fits64
  if !(rhs.all (·.isSome) && factorFinite x f) then ⟨x.values, none, none, 0⟩
  else match bad with
  | some m => ⟨x.values, none, none, m⟩
  | none =>
    ⟨x.values, some pv, some ⟨(unpermute x (y n)).zipIdx.map (fun e => Config.fp64 (s.free + e.2) e.1), [],
      Config.fp64 (s.free + x.n) (Config.sqrt rr), flaggedPivots x f, none, true⟩, n⟩

/-- Iterations of an ALLOC job (R188, R264): its factorisation only where a delta was applied or the factor is not valid, else
with the resident factor. -/
def admmWork (r : JobRun) (n : Nat) (pv : Int × Int) (x0 : Spelled) (s : P1) : Worked :=
  let j := r.job
  let x : Spelled := if j.desc.delta then { x0 with values := applyDelta s.free j.delta x0 } else x0
  let kept := if j.desc.delta then none else (s.solver.res[stNo j.desc.structureNo]).factor
  let use := kept.getD pv
  let f := factorOf x (f64 use.1).q (f64 use.2).q
  let it := admm n r.cold f s
  let sol := allocSolution it s
  let q := Config.engine .residual s.free 0 (sol.map some)
  if !factorFinite x f then ⟨x.values, none, none, 0⟩
  else match q with
  | some v =>
    if sol.all fits64 && fits64 v then
      ⟨x.values, some use, some ⟨sol, [], v, if kept.isSome then [] else flaggedPivots x f, some it, true⟩, n⟩
    else ⟨x.values, none, none, Config.freeNat s.free % n⟩
  | none => ⟨x.values, none, none, Config.freeNat s.free % n⟩

/-- The state in which a job of a mirror's allocation runs (R472): the demand, the sets and the warm state of section 4. -/
def replayState (j : Job) (s : P1) : P1 :=
  match j.input with
  | .mirror m => mirrorAlloc m.alloc s
  | _ => s

/-- ε_piv and λ of a job's factorisation: those at its start, unless a write has changed them since, when either may count (R209;
assumption 101). -/
def pivotsIn (r : JobRun) (s : P1) : Int × Int :=
  let k := r.job.desc.structureNo
  if Config.freeNat s.free % 2 = 0 then r.pivots else (s.rd (stKey k 5), s.rd (stKey k 6))

/-- A job after `n` iterations. -/
def work (r : JobRun) (n : Nat) (s : P1) : Worked :=
  let x := spell (s.octets (stKey r.job.desc.structureNo 1))
  let pv := pivotsIn r s
  match r.job.desc.ty with
  | 7 => admmWork r n pv x (replayState r.job s)
  | 8 => testWork r n pv x s
  | _ => stepsWork r n pv x s

/-- The values and the factor that a job leaves with its structure. -/
def leaveWork (k : Fin 16) (w : Worked) (s : P1) : P1 :=
  let b := s.octets (stKey k 1)
  let t := setRes k (fun r => { r with factor := w.factor }) s
  if (spell b).values = w.values then t else t.setOctets (stKey k 1) (withValues b w.values)

/-- Free values that the arithmetic of a job draws: none of two jobs shares one. -/
def workDraws : Nat := 2 ^ 30

/-! ### Start, completion, deadline (R187–R194) -/

/-- The start checks (R187): the status bits of the first that fails. -/
def startCheck (j : Job) (s : P1) : Nat :=
  let k := j.desc.structureNo
  if !isResident k s then stNoStruct + stStale
  else if j.desc.delta && !deltaOk k (s.rdN (stKey k 2)) j.delta (spell (s.octets (stKey k 1))) then stDelta + stStale
  else 0

/-- The oldest job of an engine (R176), and the engine without it. -/
def SolverEngine.next (x : SolverEngine) : Option (Job × SolverEngine) :=
  match x.fg, x.bg with
  | j :: r, _ => some (j, { x with fg := r })
  | [], j :: r => some (j, { x with bg := r })
  | [], [] => none

/-- The deadline grain of a job has come (R193). -/
def overdue (j : Job) (s : P1) : Bool := j.grain + j.desc.deadline ≤ s.elapsed

/-- Iterate 0 of a cold start (R191): the prediction from the estimate for GNSS-LS, FIT and POSE, whose further unknowns are 0;
corrections of 0 for ALIGN; else zero. -/
def coldIterate (j : Job) (s : P1) : List Rat :=
  match j.desc.ty, j.fix with
  | 2, _ => (List.range 3).map fun k => (s.fus.x.getD k none).getD 0
  | 4, some f | 5, some f =>
    match f.meas with
    | .pose _ fr =>
      let p := priorPose fr f.tm s
      [p.x, p.y, p.z, p.phi, p.theta, p.psi]
    | _ => []
  | _, _ => []

/-- The engine may start a job: it runs, it is idle, and a job waits whose deadline has not come (R176, R193). -/
def canStart (e : Fin 4) (s : P1) : Bool :=
  engineRuns e s && (s.solver.engines[e]).run.isNone && match (s.solver.engines[e]).next with
    | some (j, _) => !overdue j s
    | none => false

/-- Engine e is in its turn (R44): the sequencer of the cluster goes round from the engine after the one that it served last. -/
def engineTurn (e : Fin 4) (s : P1) : Bool :=
  inTurn (servedLast 0 4 s) 4 e.val fun (u : Nat) => if h : u < 4 then canStart ⟨u, h⟩ s else false

/-- A job begins to run on an engine whose queues are `x` (R187, R192). -/
def beginJob (e : Fin 4) (j : Job) (x : SolverEngine) (s : P1) : P1 :=
  let k := stNo j.desc.structureNo
  let sol := (s.solver.res[k]).solution
  let reject := j.desc.warm && (j.desc.warmTag ≠ s.rdN (stKey k 2) || sol.isNone)
  let warm := j.desc.warm && !reject
  let run : JobRun := ⟨j, s.stamp, reject, !warm, if warm then f64List (sol.getD []) else coldIterate j s,
    (s.rd (stKey k 5), s.rd (stKey k 6))⟩
  let t := setEng e (fun _ => { x with run := some run }) s
  if j.desc.ty = 8 then t.wr (ob 0x4430 5) 2 else t

/-- A free engine starts the oldest queued job (R176, R187). -/
def jobStart (e : Fin 4) (s : P1) : P1 × Option Ended :=
  if !canStart e s || !engineTurn e s then (s, none)
  else match (s.solver.engines[e]).next with
  | none => (s, none)
  | some (j, x) =>
    let t := serve 0 e.val s
    let bad := startCheck j t
    if bad ≠ 0 then
      let r := reportJob j (some t.stamp) bad 0 none (setEng e (fun _ => x) t)
      (r.1, some r.2)
    else (beginJob e j x t, none)

/-- WARM_REJECT of a running job. -/
def warmBit (r : JobRun) : Nat := if r.warmReject then stWarmReject else 0

/-- The engine is free. -/
def idleEngine (e : Fin 4) (s : P1) : P1 := setEng e (fun x => { x with run := none }) s

/-- The running job ends with what `n` iterations give: DONE or TRUNCATED; a value that is not finite ends it STALE (R189, R195). -/
def deliverRun (e : Fin 4) (r : JobRun) (bit n : Nat) (s : P1) : P1 × Ended :=
  let w := work r n s
  let t := idleEngine e (leaveWork (stNo r.job.desc.structureNo) w s.draw)
  let u := t.drawN workDraws
  match w.found with
  | some d => reportJob r.job (some r.start) (bit + warmBit r) n (some d) u
  | none => reportJob r.job (some r.start) (stStale + stNonfinite + warmBit r) w.done none u

/-- A job completes its iterations before its deadline grain (R193, R195). -/
def jobComplete (e : Fin 4) (s : P1) : P1 × Option Ended :=
  match (s.solver.engines[e]).run with
  | none => (s, none)
  | some r =>
    if overdue r.job s then (s, none)
    else
      let x := deliverRun e r stDone r.job.desc.iterations s
      (x.1, some x.2)

/-- How far an iteration that was given up had come: nothing in the structure yet; the values formed and no factor; a factor. -/
inductive Reached
  | nothing
  | formed
  | factored
deriving DecidableEq, Repr

/-- The iteration under way is given up (R194, R206). -/
def abandon (p : Reached) (r : JobRun) (done : Nat) (s : P1) : P1 :=
  let k := stNo r.job.desc.structureNo
  let w := work r (done + 1) s
  match p with
  | .nothing => s
  | .formed => (leaveWork k { w with factor := none } s.draw).drawN workDraws
  | .factored => (leaveWork k w s.draw).drawN workDraws

/-- The running job ends STALE (R194). -/
def staleRun (e : Fin 4) (r : JobRun) (p : Reached) (done : Nat) (s : P1) : P1 × Option Ended :=
  let x := reportJob r.job (some r.start) (stStale + warmBit r) done none (idleEngine e (abandon p r done s))
  (x.1, some x.2)

/-- The job at a place of a queue expires there (R194). -/
def expireAt (e : Fin 4) (fg : Bool) (pos : Nat) (s : P1) : P1 × Option Ended :=
  let q := (s.solver.engines[e]).queue fg
  match q[pos]? with
  | none => (s, none)
  | some j =>
    if overdue j s then
      let x := reportJob j none (stStale + stExpired) 0 none (setEng e (fun y => y.setQueue fg (q.eraseIdx pos)) s)
      (x.1, some x.2)
    else (s, none)

/-- How far an assembly of iteration 1 has come is not stated (assumption 101). -/
def assemblyReached (s : P1) : Reached := if Config.freeNat s.free % 2 = 0 then .nothing else .formed

/-- The deadline of a running job falls in a phase (R194). -/
def deadlineIn (e : Fin 4) (r : JobRun) (p : DeadlinePoint) (s : P1) : P1 × Option Ended :=
  let most := r.job.desc.iterations - 1
  let cut (n : Nat) : P1 × Option Ended :=
    let x := deliverRun e r stTruncated (min n most) s
    (x.1, some x.2)
  match p with
  | .startChecks => staleRun e r .nothing 0 s
  | .factorisation n => staleRun e r .formed (min n most) s
  | .assembly n => if min n most = 0 then staleRun e r (assemblyReached s) 0 s.draw else cut n
  | .solve n => if min n most = 0 then staleRun e r .factored 0 s else cut n
  | _ => (s, none)

/-- The deadline grain of a job arrives (R193, R194). -/
def jobDeadline (e : Fin 4) (p : DeadlinePoint) (s : P1) : P1 × Option Ended :=
  match p with
  | .queuedForeground pos => expireAt e true pos s
  | .queuedBackground pos => expireAt e false pos s
  | _ =>
    match (s.solver.engines[e]).run with
    | some r => if overdue r.job s then deadlineIn e r p s else (s, none)
    | none => (s, none)

/-! ### Engine faults (R204, R206) -/

/-- Report several jobs in order. -/
def reportAllJobs (bits : Nat) : List Job → P1 → P1 × List Ended
  | [], s => (s, [])
  | j :: r, s =>
    let x := reportJob j none bits 0 none s
    let y := reportAllJobs bits r x.1
    (y.1, x.2 :: y.2)

/-- The phase that a stop finds a running job in is not stated (assumption 101). -/
def reachedNow (s : P1) : Reached :=
  match Config.freeNat s.free % 3 with
  | 0 => .nothing
  | 1 => .formed
  | _ => .factored

/-- What the stop of an engine does (R206): the running job and every queued one reported, in order. -/
def engineStop (e : Fin 4) (s : P1) : P1 × List Ended :=
  let x := s.solver.engines[e]
  let bits := stStale + stEngineFault
  match x.run with
  | none => reportAllJobs bits (x.fg ++ x.bg) (setEng e (fun _ => ⟨none, [], []⟩) s)
  | some r =>
    let done := if reachedNow s = .nothing then 0 else Config.freeNat (s.free + 1) % max 1 r.job.desc.iterations
    let t := setEng e (fun _ => ⟨none, [], []⟩) (abandon (reachedNow s) r done (s.drawN 2))
    let a := reportJob r.job (some r.start) (bits + warmBit r) done none t
    let b := reportAllJobs bits (x.fg ++ x.bg) a.1
    (b.1, a.2 :: b.2)

/-- A fault of an engine, with what its stop reports. -/
def engineFault (e : Fin 4) (cause : Nat) (s : P1) : P1 × List Ended :=
  if s.stopped (slvAddr e) then (addFault (slvAddr e + cause) s, []) else engineStop e (addFault (slvAddr e + cause) s)

/-- An engine check job ends (R177): a mismatch stops the engine; only an idle engine runs one. -/
def engineCheck (e : Fin 4) (agrees : Bool) (s : P1) : P1 × List Ended :=
  let x := s.solver.engines[e]
  if engineRuns e s && x.run.isNone && x.fg = [] && x.bg = [] && !agrees then engineFault e 0x100 s else (s, [])

/-- The rule of 4420h+t:0D (R210). -/
def solverClearRule (t : Nat) : Rule P1 := effRule fun s => s.clearSubs (0x4420 + t) 3 0x0C

/-- The rule of 4420h+t:01 (R198) and :02 (R210). -/
def jobTypeRule (t sub : Nat) (v : Int) : Rule P1 :=
  checkRule (fun _ =>
    if sub = 1 && !((iterRange t).1 ≤ v && v ≤ (iterRange t).2) then abRange
    else if sub = 2 && !(1 ≤ v && v ≤ (if t = 7 then 120 else 60000000)) then abRange else 0) fun s => s.wr (jtKey t sub) v

end Sys2Proof.Machine
end

