-- ==== Sys2Proof/Machine/Intake.lean ====
section
/-! DEFINITION. Reference intake (chapter "Reference intake, slots and mounts", R99–R132): slots, the time model, lidar
frames, landmark packets, mounts, models and tables; serial channels (R448–R450, R457). -/

namespace Sys2Proof.Machine

/-- The state with a slot changed. -/
def setSlot (i : Fin 64) (f : SlotState → SlotState) (s : P1) : P1 := { s with slots := upd s.slots i f }

/-- Bits of slot status 3100h+s:14 (R130, R150). -/
def bTimeUnaligned : Nat := 4
/-- MODEL_PENDING. -/
def bModelPending : Nat := 5
/-- UNTAGGED. -/
def bUntagged : Nat := 6

/-! ### Configuration (R100–R104) -/

/-- Source types and classes that a format allows (R103). -/
def formatRow (fmt : Nat) : List Nat × List Nat :=
  match fmt with
  | 1 => ([1], [1, 6, 8, 10]) | 2 => ([3], [1, 6, 8, 10]) | 3 => ([2], [1, 6, 7, 8, 9, 10])
  | 4 => ([1, 2, 4], [1, 2, 5, 6, 7, 8, 9, 10]) | 5 => ([5], [1]) | 6 => ([4], [3]) | 7 => ([4], [4]) | 8 => ([8], [5])
  | 9 => ([7], [8, 9]) | 10 => ([6], [7]) | _ => ([], [])

/-- The template that serves a slot of format 4 (R109). -/
def slotTemplate (i : Nat) (s : P1) : Nat := s.rdN (slKey i 8) % 16

/-- The source of a slot exists and is configured for this use (R100). -/
def sourceOk (i : Nat) (s : P1) : Bool :=
  let a := s.rdN (slKey i 3)
  let fmt := s.rdN (slKey i 6)
  let aiOn (n : Nat) : Bool := n < 16 && s.rd (ob (0x5310 + n) 1) = 1
  match s.rdN (slKey i 2) with
  | 1 => a < 8 && s.rd (ob (0x5700 + a) 1) ≠ 0
      && (if fmt = 4 then s.rd (ob (0x5700 + a) 4) = 1 && s.rd (ob (0x5700 + a) 5) = slotTemplate i s
          else s.rd (ob (0x5700 + a) 4) = 0)
  | 2 => s.rd (ob (0x5600 + a / 2 ^ 30) 1) ≠ 0
  | 3 => a < 16 && s.rd (ob (0x5910 + a) 1) = 1
  | 4 => s.rd (ob (0x5930 + a % 4) 1) = 1
  | 5 => a < 3 && s.rd (ob (0x5101 + a) 1) = 1
  | 6 => a = 0
  | 7 => aiOn a
  | 8 => a % 256 < 8 && s.rd (ob (0x5200 + a % 256) 1) = 1 && aiOn (a / 256 % 256) && aiOn (a / 65536 % 256)
  | _ => false

/-- The camera head of a landmark slot is used (R132): its image has a width and a height (assumption 105). -/
def headUsed (i : Nat) (s : P1) : Bool :=
  let h := 0x3510 + s.rdN (slKey i 0x12)
  s.rd (slKey i 6) ≠ 7 || (s.rd (ob h 7) ≠ 0 && s.rd (ob h 8) ≠ 0)

/-- CONFIG_OK (R100, R104, R132, R450, R453). -/
def configOk (i : Nat) (s : P1) : Bool :=
  let r := formatRow (s.rdN (slKey i 6))
  let cls := s.rdN (slKey i 7)
  headUsed i s &&
  r.1.contains (s.rdN (slKey i 2)) && r.2.contains cls && sourceOk i s
    && (s.rd (slKey i 6) ≠ 4
      || (s.rd (ob (0x5780 + slotTemplate i s) 3) = 1
        && (quantitiesOf cls).all fun q => (quantitiesIn (s.octets (ob (0x5780 + slotTemplate i s) 1))).contains q))

/-- Three nominal periods in grains. -/
def silentAfter (i : Nat) (s : P1) : Nat := 3 * s.rdN (slKey i 0x0A)

/-- A measurement arrived within the last 3 nominal periods (R130). -/
def receiving (i : Fin 64) (s : P1) : Bool :=
  match s.slots[i].lastSeen with
  | some g => s.elapsed - g ≤ silentAfter i s
  | none => false

/-- Enabled and nothing for 3 nominal periods (R130). -/
def isSilent (i : Fin 64) (s : P1) : Bool :=
  s.rd (slKey i 1) = 1 && silentAfter i s < s.elapsed - max s.slots[i].since (s.slots[i].lastSeen.getD 0)

/-- Bits 0 to 3 of slot status follow the slot. -/
def refreshSlot (i : Fin 64) (s : P1) : P1 :=
  s.setBits (slKey i 0x14) [(0, s.rd (slKey i 1) = 1), (1, configOk i s), (2, receiving i s), (3, isSilent i s)]

/-- The slot takes items (R99, R100): enabled before this grain, consistent; a slot with a home takes them only there or
from that home's republications (R469). -/
def slotTakes (i : Fin 64) (remote : Bool) (s : P1) : Bool :=
  let home := s.rd (ob 0x6410 (i.val + 1))
  s.rd (slKey i 1) = 1 && configOk i s && s.slots[i].since < s.elapsed
    && (home = 0 || home = s.rd kModuleId || remote)

/-- The home module republishes an item that matches a slot (R470): counted when it enters Q5. DMA channel 3 assembles it (R510). -/
def republish (i : Fin 64) (x : RepubItem) (s : P1) : P1 :=
  if s.rd (slKey i 1) = 1 && s.rd (ob 0x6410 (i.val + 1)) ≠ 0 && s.rd (ob 0x6410 (i.val + 1)) = s.rd kModuleId
      && !s.stopped (dmaAddr 3) then
    let t := netSend 5 (.republication i.val x s.ns) s
    if t.net.tx[5].length = s.net.tx[5].length then t else t.incWrap (ob 0x6400 0x12)
  else s

/-- Apply to every slot in ascending number. -/
def eachSlot (f : Fin 64 → P1 → P1) (s : P1) : P1 := (List.finRange 64).foldl (fun t i => f i t) s

/-! ### Errors -/

/-- LAST_ERROR of a slot set (R130). -/
def lastError (i : Fin 64) (code : Nat) (s : P1) : P1 := s.setField (slKey i 0x14) 8 8 code

/-- A format error of a slot (R106). -/
def formatError (i : Fin 64) (code : Nat) (s : P1) : P1 := lastError i code (s.inc (slKey i 0x16))

/-- An incomplete frame or packet (R113, R115, R174). -/
def incomplete (i : Fin 64) (s : P1) : P1 := lastError i 6 (s.inc (slKey i 0x19))

/-! ### The time model (R117–R120) -/

/-- Least squares of m = o + d (b − b_last) over blocks, newest first (R118). -/
def fitBlocks (l : List (Int × Int)) : Rat × Rat × Int :=
  let last := (l.head?.map (·.1)).getD 0
  let n : Rat := ((l.length : Nat) : Rat)
  let mx := (l.foldl (fun a e => a + ((e.1 - last : Int) : Rat)) 0) / n
  let my := (l.foldl (fun a e => a + (e.2 : Rat)) 0) / n
  let sxx := l.foldl (fun a e => a + (((e.1 - last : Int) : Rat) - mx) * (((e.1 - last : Int) : Rat) - mx)) 0
  let sxy := l.foldl (fun a e => a + (((e.1 - last : Int) : Rat) - mx) * ((e.2 : Rat) - my)) 0
  let d := if sxx = 0 then 0 else sxy / sxx
  (my - d * mx, d, last)

/-- The block under way ends (R118): it joins the last 16, and the fit is made anew. -/
def TimeModel.close (m : TimeModel) : TimeModel :=
  match m.cur with
  | some b =>
    let l := (b :: m.blocks).take 16
    let f := fitBlocks l
    { m with blocks := l, cur := none, offset := f.1, drift := f.2.1, last := f.2.2, ready := 4 ≤ l.length }
  | none => m

/-- 3100h+s:1C and :1D and MODEL_PENDING follow the model (R118). -/
def showModel (i : Fin 64) (s : P1) : P1 :=
  let m := s.slots[i].tm
  (((s.wr (slKey i 0x1C) (toF64 (Config.fp64 s.free m.offset))).wr (slKey i 0x1D)
    (sat32 (nearFree (s.free + 1) (m.drift * 1000000000000)))).setBit (slKey i 0x14) bModelPending
      (s.rd (slKey i 9) = 4 && !m.ready)).drawN 2

/-- A block that has ended by an instant is closed. -/
def closeBlock (i : Fin 64) (now : Int) (s : P1) : P1 :=
  match s.slots[i].tm.cur with
  | some b => if b.1 + 1000000000 ≤ now then showModel i (setSlot i (fun x => { x with tm := x.tm.close }) s) else s
  | none => s

/-- The line o + d (t_a − b_last) of base 4. -/
def TimeModel.line (m : TimeModel) (ta : Int) : Rat := m.offset + m.drift * ((ta - m.last : Int) : Rat)

/-- The runs of R120 after a deviation, and the change of alignment that they make. -/
def judgeAlign (i : Fin 64) (d p : Rat) (s : P1) : P1 :=
  let m := s.slots[i].tm
  let above := if p < d then min 3 (m.overRun + 1) else 0
  let below := if d ≤ p / 2 then min 10 (m.underRun + 1) else 0
  let t := setSlot i (fun x => { x with tm := { x.tm with overRun := above, underRun := below } }) s
  let un := s.bit (slKey i 0x14) bTimeUnaligned
  if above = 3 && !un then record 0x0304 i.val (t.setBit (slKey i 0x14) bTimeUnaligned true)
  else if below = 10 && un then record 0x0305 i.val (t.setBit (slKey i 0x14) bTimeUnaligned false)
  else t

/-- e_k of a tag (R118). -/
def tagLag (i : Fin 64) (ta tag : Int) (s : P1) : Int := ta - s.rd (slKey i 0x0B) - tag

/-- A tag enters the block under way (R118). -/
def enterTag (i : Fin 64) (ta tag : Int) (s : P1) : P1 :=
  let e := tagLag i ta tag s
  setSlot i (fun x => { x with tm := { x.tm with cur := match x.tm.cur with
    | some c => some (c.1, min c.2 e)
    | none => some (ta - ta % 1000000000, e) } }) (closeBlock i ta s)

/-- A tagged measurement enters the model, and its deviation is judged (R118, R120): that of base 4 from the first fit on
(assumption 33). -/
def modelTag (i : Fin 64) (ta tag : Int) (s : P1) : P1 :=
  let e := tagLag i ta tag s
  let u := enterTag i ta tag s
  let m := u.slots[i].tm
  let dev : Option Rat := if u.rd (slKey i 9) = 4 then (if m.blocks = [] then none else some (ratAbs ((e : Rat) - m.line ta)))
    else some (ratAbs (e : Rat))
  match dev with
  | none => u
  | some d =>
    (judgeAlign i d ((u.rd (slKey i 0x0A) : Rat) * 1000) (u.wr (slKey i 0x1E) (sat32 (nearFree u.free (d / 1000))))).draw

/-- Nanoseconds of the scale of a time base behind module time (R117). -/
def baseShift (base : Int) (s : P1) : Int :=
  if base = 1 then s.rd (ob 0x5000 0x0C) * 1000000000 else if base = 2 then 19000000000 else 0

/-- A day in ns. -/
def dayNs : Int := 86400000000000

/-- The converted tag t̂ (R117): a time of day is completed with the date of its source, else with module UTC's; one more than 12 h after the arrival is of the day before. -/
def convertTag (i : Fin 64) (ta : Int) (tod : Option Nat) (tag : Option Int) (s : P1) : Option Int :=
  let base := s.rd (slKey i 9)
  let sh := baseShift base s
  if base = 0 then none
  else match tod, tag with
  | some t, _ =>
    let day : Int := match s.slots[i].date with
      | some d => d
      | none => (ta - baseShift 1 s) / dayNs
    let full := day * dayNs + t + sh
    some (if ta + dayNs / 2 < full then full - dayNs else full)
  | none, some t => some (t + sh)
  | none, none => none

/-- The measurement time t_m (R119), with what it leaves in the slot. -/
def measureTime (i : Fin 64) (ta : Int) (tag : Option Int) (s : P1) : Int × P1 :=
  let late := ta - s.rd (slKey i 0x0B)
  match tag with
  | none => (late, s.setBit (slKey i 0x14) bUntagged true)
  | some t =>
    let u := modelTag i ta t s
    let m := u.slots[i].tm
    let base4 := u.rd (slKey i 9) = 4
    let v := (u.setBit (slKey i 0x14) bUntagged false).draw
    if u.bit (slKey i 0x14) bTimeUnaligned || (base4 && !m.ready) then (late, v)
    else
      let tm : Int := if base4 then t + nearFree u.free (m.line ta) else t
      if ta < tm then (late, lastError i 8 (v.inc (slKey i 0x18))) else (tm, v)

/-! ### Delivery -/

/-- Slots of the same source as slot i (R117): of an IEC 61162-450 group those with the same source name (assumption 106). -/
def sameSource (i j : Fin 64) (s : P1) : Bool :=
  s.rd (slKey i 2) = s.rd (slKey j 2) && s.rd (slKey i 3) = s.rd (slKey j 3)
    && (s.rd (slKey i 2) ≠ 3 || s.octets (slKey i 5) = s.octets (slKey j 5))

/-- The quality factor of R144, in hundredths: 100 for a fix without a quality indicator. -/
def qualityFactor (quality : Nat) (s : P1) : Nat :=
  if quality = 0 then 100 else if quality ≤ 9 then s.rdN (ob 0x3001 quality) else 0

/-- The places of the covariance's elements below its diagonal, as `Fusion.cross` lists them. -/
def crossPlaces : List (Nat × Nat) := (List.range 120).flatMap fun r => (List.range r).map fun c => (r, c)

/-- A change of quality resets the covariance of the slot's bias elements to its initial value, which no rule states: free
values (R144). -/
def resetBias (i : Fin 64) (s : P1) : P1 :=
  let own (k : Nat) : Bool := 57 ≤ k && s.slots[i].pool.contains (k - 57)
  let f (x : Fusion) : Fusion := { x with
    cov := Vector.ofFn fun (k : Fin 120) => if own k.val then Config.freeFp (s.free + k.val) else x.cov[k]
    cross := (crossPlaces.zip x.cross).zipIdx.map fun e =>
      if own e.1.1.1 || own e.1.1.2 then Config.freeFp (s.free + 120 + e.2) else e.1.2 }
  { s with fus := f s.fus }.drawN 8192

/-- A measurement of a known measurement time is delivered (R102): the slot's objects, and the fix for the estimator. -/
def arriveAt (i : Fin 64) (ta tm : Int) (m : Meas) (factor : Nat) (sigma : Option Rat) (s : P1) : Fix × P1 :=
  let t := (s.inc (slKey i 0x15)).wrs [(slKey i 0x1A, toBits 32 ta), (slKey i 0x1B, toBits 32 tm)]
  (⟨i.val, ta, tm, m, factor, sigma, s.elapsed⟩, setSlot i (fun x => { x with lastSeen := some s.elapsed }) t)

/-- A measurement is delivered (R102, R119). -/
def arrive (i : Fin 64) (ta : Int) (m : Meas) (tag : Option Int) (quality : Nat) (sigma : Option Rat) (s : P1) : Fix × P1 :=
  let r := measureTime i ta tag s
  arriveAt i ta r.1 m (qualityFactor quality s) sigma r.2

/-- A fix waits for the estimator. -/
def deliver (f : Fix) (s : P1) : P1 :=
  let t : P1 := { s with fus := { s.fus with fixes := s.fus.fixes ++ [{ f with grain := s.elapsed }] } }
  match f.meas with
  | .inertial l => setSlot ⟨f.slot % 64, by omega⟩ (fun x => { x with sample := some (s.elapsed, l) }) t
  | _ => t

/-- The σ of a GST for the newest waiting fix of a slot (R105, R144). -/
def giveSigma (i : Nat) (sigma : Rat) : List Fix → List Fix
  | [] => []
  | f :: r =>
    if f.slot = i && !r.any (fun g => g.slot = i) then { f with sigma := some sigma } :: r else f :: giveSigma i sigma r

/-- A slot takes what an item holds for it. The time of a ZDA enters the time model and is no measurement (R105; assumption 107). -/
def takeFound (i : Fin 64) (ta : Int) (x : Found) (s : P1) : P1 :=
  match x with
  | .nothing => s
  | .error code => formatError i code s
  | .date y m d tod =>
    let days := daysOf y m d
    let t := eachSlot (fun j t => if sameSource i j t then setSlot j (fun x => { x with date := some days }) t else t) s
    match tod.bind fun q => convertTag i ta (some q) none t with
    | some tag => enterTag i ta tag t
    | none => t
  | .gst time sigma =>
    let t := setSlot i (fun x => { x with gst := some (time, sigma) }) s
    if s.slots[i].fixTime = time && time ≠ [] then { t with fus := { t.fus with fixes := giveSigma i sigma t.fus.fixes } } else t
  | .fix m tod tag quality sigma time =>
    let st := s.slots[i]
    let own : Option Rat := match st.gst with
      | some (t, v) => if t = time && time ≠ [] then some v else sigma
      | none => sigma
    let t := if quality ≠ 0 && quality ≠ st.lastQuality && st.lastQuality ≠ 0 then resetBias i s else s
    let r := arrive i ta m (convertTag i ta tod tag s) quality own t
    let u := setSlot i (fun x => { x with fixTime := time, lastQuality := quality }) r.2
    if r.1.factor = 0 then u else deliver r.1 u

/-- The heading estimate, 0 where there is none. -/
def headingNow (s : P1) : Rat := (s.fus.x[8]).getD 0

/-- A slot's selection bit is set (R105, R108). -/
def selects (i n : Nat) (s : P1) : Bool := s.bit (slKey i 8) n

/-- A sentence for a slot that selects it (R105, R106). -/
def takeSentence (i : Fin 64) (ta : Int) (x : Sentence) (c : Option Int) (s : P1) : P1 :=
  match sentenceRow x.kind with
  | none => s
  | some (b, classes) =>
    if selects i b s && (classes = [] || classes.contains (s.rdN (slKey i 7))) then
      if !x.good then formatError i 1 s
      else
        let date : P1 := match x.kind = text "RMC" && !(selects i 0 s || selects i 1 s) with
          | true => match sentenceFound x true (headingNow s) with
            | .date y m d _ => takeFound i ta (.date y m d none) s
            | _ => s
          | false => s
        let f := sentenceFound x (selects i 0 s || selects i 1 s) (headingNow s)
        let g := match f, c with
          | .fix m tod _ q sg tm, some t => if s.rd (slKey i 9) = 1 then .fix m none (some t) q sg tm else .fix m tod none q sg tm
          | y, _ => y
        takeFound i ta g date
    else s

/-! ### Serial channels (R448–R450) -/

/-- A subindex of serial channel k. -/
def serKey (k sub : Nat) : Nat := ob (0x5700 + k) sub

/-- A serial channel hears its line. -/
def serialOn (k : Fin 8) (s : P1) : Bool := s.rd (serKey k 1) ≠ 0 && !s.stopped (serialAddr k)

/-- The state with a serial channel changed. -/
def setSer (k : Fin 8) (f : SerialChan → SerialChan) (s : P1) : P1 := { s with serial := upd s.serial k f }

/-- Characters of a serial channel: counted; the break, if any, is over. -/
def heardChars (k : Fin 8) (n : Nat) (s : P1) : P1 :=
  let t := s.wr (serKey k 7) ((s.rd (serKey k 7) + n) % 2 ^ 32)
  setSer k (fun x => { x with lastChar := some s.elapsed, inBreak := false }) t

/-- A slot bound to a serial channel with a format. -/
def onSerial (i : Fin 64) (k : Fin 8) (fmt : Nat) (s : P1) : Bool :=
  s.rd (slKey i 2) = 1 && s.rd (slKey i 3) = k.val && s.rd (slKey i 6) = fmt

/-- A frame of a serial channel is discarded as a format error, in the channel and in its slots (R448–R450). -/
def dropSerial (k : Fin 8) (code : Nat) (s : P1) : P1 :=
  let fmt : Nat := if s.rd (serKey k 4) = 0 then 1 else 4
  eachSlot (fun i t => if onSerial i k fmt t && slotTakes i false t then formatError i code t else t)
    (setSer k (fun x => { x with spoilt := false }) (s.inc (serKey k 0x0C)))

/-- The talker filter of a serial slot (R103). -/
def talkerOk (i : Fin 64) (x : Sentence) (s : P1) : Bool :=
  let f := s.rdN (slKey i 4) % 65536
  f = 0 || x.talker = [f % 256, f / 256]

/-- A slot takes a serial sentence, from its own channel or from a republication. -/
def slotSentence (i : Fin 64) (ta : Int) (bytes : List Byte) (s : P1) : P1 :=
  match readSentence (tagBlock (nats bytes)).2 with
  | some x => if talkerOk i x s then takeSentence i ta x none s else s
  | none => s

/-- A sentence has arrived on a serial channel (R449). -/
def serialSentence (k : Fin 8) (bytes : List Byte) (s : P1) : P1 :=
  if serialOn k s && s.rd (serKey k 4) = 0 then
    let t := heardChars k bytes.length s
    let l := (tagBlock (nats bytes)).2
    let body := l.take (l.length - 2)
    if s.serial[k].spoilt || 82 < l.length || l.drop (l.length - 2) ≠ [0x0D, 0x0A]
        || (body.drop 1).any (fun c => c < 0x20 || 0x7E < c || c = 0x24 || c = 0x21) then dropSerial k 2 t
    else
      let good := (summed (body.drop 1)).2
      let u := if good then t.incWrap (serKey k 0x0B) else t.inc (serKey k 0x0C)
      eachSlot (fun i v =>
        if onSerial i k 1 v then
          let w := republish i (.sentence k bytes) v
          if slotTakes i false w then slotSentence i w.ns bytes w else w
        else v) u
  else s

/-! ### Templates (R450–R453) -/

/-- The template object in force. -/
def templateOf (t : Nat) (s : P1) : List Byte := s.octets (ob (0x5780 + t) 1)

/-- A slot takes a template frame. -/
def slotTemplateFrame (i : Fin 64) (ta : Int) (bytes : List Byte) (s : P1) : P1 :=
  takeFound i ta (templateFound (templateOf (slotTemplate i s) s) bytes (s.rdN (slKey i 7))) s

/-- The sensor-port address of a slot (R103): port, UDP port, source address. -/
def onPort (i : Fin 64) (p : Nat) (port : Nat) (s : P1) : Bool :=
  s.rd (slKey i 2) = 4 && s.rdN (slKey i 3) % 4 = p && s.rdN (slKey i 3) / 65536 = port

/-- The source filter of a sensor-port slot. -/
def ipOk (i : Fin 64) (ip : Nat) (s : P1) : Bool := s.rd (slKey i 4) = 0 || s.rdN (slKey i 4) = ip

/-- The CAN identifier filter of a slot (R103). -/
def canMatches (i : Fin 64) (c : Nat) (ident : Nat) (ext : Bool) (s : P1) : Bool :=
  let a := s.rdN (slKey i 3)
  let m := s.rdN (slKey i 4) % 2 ^ 29
  s.rd (slKey i 2) = 2 && a / 2 ^ 30 = c && (a / 2 ^ 29 % 2 = 1) = ext && Nat.land (a % 2 ^ 29) m = Nat.land ident m

/-- A slot of format 4 matches the source of a frame. -/
def templateMatches (i : Fin 64) (src : FrameSource) (s : P1) : Bool :=
  s.rd (slKey i 6) = 4 && match src with
    | .serial k => onSerial i k 4 s
    | .can c ident ext => canMatches i c ident ext s
    | .udp p port ip => onPort i p port s && ipOk i ip s

/-- A sensor port that takes datagrams: it works and is enabled (R47, R55, R430). -/
def sensorPortOn (p : Fin 4) (s : P1) : Bool := sensorOn p s && s.rd (ob (0x5930 + p) 1) = 1

/-- What the source of a frame counts. -/
def sourceCounts (src : FrameSource) (bytes : List Byte) (s : P1) : P1 :=
  match src with
  | .serial k =>
    let t := heardChars k bytes.length s
    let b := templateOf (s.rdN (serKey k 5)) s
    if frameOk b bytes && frameSum b bytes && !s.serial[k].spoilt then t.incWrap (serKey k 0x0B)
    else setSer k (fun x => { x with spoilt := false }) (t.inc (serKey k 0x0C))
  | .can _ _ _ => s
  | .udp _ _ _ => s

/-- The source of a frame hears it. -/
def sourceOn (src : FrameSource) (s : P1) : Bool :=
  match src with
  | .serial k => serialOn k s && s.rd (serKey k 4) = 1
  | .can c _ _ => s.rd (ob (0x5600 + c) 1) ≠ 0 && !s.stopped (canAddr c) && !s.can[c].away
  | .udp p _ _ => sensorPortOn p s

/-- A frame was marked for discard while its characters arrived (R448). -/
def frameSpoilt (src : FrameSource) (s : P1) : Bool :=
  match src with
  | .serial k => s.serial[k].spoilt
  | _ => false

/-- A template frame of a serial or CAN channel has arrived (R109, R450–R453). -/
def templateFrame (src : FrameSource) (bytes : List Byte) (s : P1) : P1 :=
  if sourceOn src s then
    let spoilt := frameSpoilt src s
    eachSlot (fun i t =>
      if templateMatches i src t then
        let u := republish i (.template src bytes) t
        if slotTakes i false u then (if spoilt then formatError i 2 u else slotTemplateFrame i u.ns bytes u) else u
      else t) (sourceCounts src bytes s)
  else s

/-! ### IEC 61162-450 (R107, R429) -/

/-- The lines of a datagram's text. -/
def datagramLines (l : List Nat) : List (List Nat) :=
  ((splitOn 0x0A l).map fun x => x.filter (· ≠ 0x0D)).filter (· ≠ [])

/-- A slot takes the sentences of a datagram (R107): those whose tag blocks hold, in order. -/
def slotDatagram (i : Fin 64) (ta : Int) (bytes : List Byte) (s : P1) : P1 :=
  (datagramLines (nats (bytes.drop 6))).foldl (fun t line =>
    let x := tagBlock line
    let blockOk := match x.1 with
      | some b => (summed b).2
      | none => true
    let name := nats (t.octets (slKey i 5))
    let src := match x.1 with
      | some b => (tagItem b 0x73).getD []
      | none => []
    match readSentence x.2 with
    | some y =>
      if blockOk && (name = [] || name = src) then
        takeSentence i ta y (match x.1 with | some b => tagTime b | none => none) t
      else t
    | none => t) s

/-- A datagram of an enabled group (R429). -/
def groupDatagram (k : Fin 16) (bytes : List Byte) (s : P1) : P1 :=
  if s.rd (ob (0x5910 + k) 1) = 1 && dpIp s then
    let t := s.inc (ob (0x5910 + k) 4)
    if bytes.take 6 ≠ ascii "UdPbC" ++ [0#8] then t.inc (ob (0x5910 + k) 5)
    else
      let bad := (datagramLines (nats (bytes.drop 6))).countP fun line => match (tagBlock line).1 with
        | some b => !(summed b).2
        | none => false
      eachSlot (fun i u =>
        if u.rd (slKey i 2) = 3 && u.rd (slKey i 3) = k.val && u.rd (slKey i 6) = 2 then
          let v := republish i (.datagram k bytes) u
          if slotTakes i false v then slotDatagram i v.ns bytes v else v
        else u) (t.add (ob (0x5910 + k) 5) bad)
  else s

/-! ### NMEA 2000 (R108, R446) -/

/-- A slot takes a PGN. -/
def slotPgn (i : Fin 64) (ta : Int) (pgn : Nat) (bytes : List Byte) (s : P1) : P1 :=
  match pgnRow pgn with
  | some (b, cls) => if selects i b s && s.rdN (slKey i 7) = cls then takeFound i ta (pgnFound pgn bytes) s else s
  | none => s

/-- A slot of format 3 takes messages of an identifier (R103). -/
def pgnMatches (i : Fin 64) (c ident : Nat) (s : P1) : Bool := s.rd (slKey i 6) = 3 && canMatches i c ident true s

/-- A CAN channel hears its bus. -/
def canHears (c : Fin 4) (s : P1) : Bool := s.rd (ob (0x5600 + c) 1) ≠ 0 && !s.stopped (canAddr c) && !s.can[c].away

/-- The home module republishes a frame of NMEA 2000 (R470). -/
def republishPgn (c : Fin 4) (ident : Nat) (bytes : List Byte) (s : P1) : P1 :=
  eachSlot (fun i t => if pgnMatches i c ident t then republish i (.template (.can c ident true) bytes) t else t) s

/-- A whole NMEA 2000 message reaches its slots (R108). -/
def pgnMessage (c : Fin 4) (ident : Nat) (bytes : List Byte) (s : P1) : P1 :=
  eachSlot (fun i t => if pgnMatches i c ident t && slotTakes i false t then slotPgn i t.ns (pgnOf ident) bytes t else t) s

/-- Who a fast-packet message is for: the slots bound to the channel, or one slot by republication. -/
def fastFor (only : Option (Fin 64)) (i : Fin 64) (c : Fin 4) (ident : Nat) (s : P1) : Bool :=
  match only with
  | some j => i = j
  | none => pgnMatches i c ident s && slotTakes i false s

/-- The number under which a fast-packet message is assembled beside its PGN: its source address, of a republished one a number of
its slot's own. -/
def fastSource (only : Option (Fin 64)) (ident : Nat) : Nat :=
  match only with
  | some i => 256 * (i.val + 1) + ident % 256
  | none => ident % 256

/-- The message under assembly of a source and PGN. -/
def FastPacket.is (pgn source : Nat) (f : FastPacket) : Bool := f.pgn = pgn && f.source = source

/-- A channel without the message under assembly of a source and PGN. -/
def removeFast (c : Fin 4) (pgn source : Nat) (s : P1) : P1 :=
  { s with can := upd s.can c fun x => { x with fast := x.fast.filter fun f => !f.is pgn source } }

/-- A fast-packet message is discarded (R446): counted on the channel and in its slots. -/
def dropFast (only : Option (Fin 64)) (c : Fin 4) (ident : Nat) (s : P1) : P1 :=
  eachSlot (fun i u =>
    if fastFor only i c ident u then
      match pgnRow (pgnOf ident) with
      | some (b, _) => if selects i b u then incomplete i u else u
      | none => u
    else u) ((removeFast c (pgnOf ident) (fastSource only ident) s).inc (ob (0x5600 + c) 0x17))

/-- A message has stood 750 ms without completion (R446). -/
def FastPacket.late (f : FastPacket) (s : P1) : Bool := 750000 ≤ s.elapsed - f.since

/-- 750 ms without completion (R446). -/
def fastTimeout (c : Fin 4) (pgn source : Nat) (s : P1) : P1 :=
  match s.can[c].fast.find? (FastPacket.is pgn source) with
  | some f => if f.late s then dropFast none c f.ident s else s
  | none => s

/-- A message under assembly replaced on its channel. -/
def putFast (c : Fin 4) (f : FastPacket) (s : P1) : P1 :=
  let t := removeFast c f.pgn f.source s
  { t with can := upd t.can c fun x => { x with fast := x.fast ++ [f] } }

/-- A complete fast-packet message goes to its slots. -/
def fastDone (only : Option (Fin 64)) (ta : Int) (c : Fin 4) (ident : Nat) (data : List Byte) (s : P1) : P1 :=
  match only with
  | some i => slotPgn i ta (pgnOf ident) data s
  | none => pgnMessage c ident data s

/-- A frame of a fast-packet message (R446): frame 0 carries the total length and 6 octets, later frames 7. -/
def fastFrame (only : Option (Fin 64)) (ta : Int) (c : Fin 4) (ident : Nat) (data : List Byte) (s : P1) : P1 :=
  let x := leAt data 0 1
  let counter := x / 32
  let no := x % 32
  let pgn := pgnOf ident
  let source := fastSource only ident
  let first (t : P1) : P1 :=
    let total := leAt data 1 1
    if total ≤ 6 then fastDone only ta c ident ((data.drop 2).take total) t
    else putFast c ⟨source, pgn, ident, counter, total, 1, data.drop 2, s.elapsed⟩ t
  match s.can[c].fast.find? (FastPacket.is pgn source) with
  | none => if no = 0 then first s else s.inc (ob (0x5600 + c) 0x17)
  | some f =>
    if f.counter = counter && f.next = no && no ≠ 0 && !f.late s then
      let l := f.data ++ data.drop 1
      if f.total ≤ l.length then fastDone only ta c ident (l.take f.total) (removeFast c pgn source s)
      else putFast c { f with next := no + 1, data := l } s
    else
      let t := dropFast only c ident s
      if no = 0 then first t else t

/-- A whole message from a channel (R108), republished where it is one frame. -/
def wholePgn (c : Fin 4) (ident : Nat) (bytes : List Byte) (s : P1) : P1 :=
  if canHears c s then pgnMessage c ident bytes (if fastPgn (pgnOf ident) then s else republishPgn c ident bytes s) else s

/-! ### Lidar frames (R110–R113) -/

/-- A serial number lies after another (R91). -/
def serialAfter (a b : Nat) : Bool :=
  let d := (a + 2 ^ 32 - b) % 2 ^ 32
  0 < d && d < 2 ^ 31

/-- A frame or packet goes to its FIT or POSE job with its input block (R113, R115, R174). -/
def poseJob (i : Fin 64) (ty : Nat) (input : JobInput) (frame : StructFrame) (ta : Int) (tag : Option Int) (s : P1) : P1 :=
  if (typeEngine ty s).isNone then incomplete i s
  else
    let r := arrive i ta (.pose ⟨0, 0, 0, 0, 0, 0⟩ frame) tag 0 none s
    let x := issueOwn ty false input (some r.1) r.2
    match x.2 with
    | some _ => incomplete i x.1
    | none => x.1

/-- The points of a segment (R110). -/
def segmentPoints (b : List Byte) : List LidarPoint :=
  (List.range (leAt b 10 2)).map fun j =>
    let o := 32 + 16 * j
    ⟨ofBits 32 (leAt b o 4), ofBits 32 (leAt b (o + 4) 4), ofBits 32 (leAt b (o + 8) 4), leAt b (o + 12) 2, leAt b (o + 14) 1,
      leAt b (o + 15) 1⟩

/-- A point is used (R110, R111). -/
def LidarPoint.used (p : LidarPoint) : Bool := p.ret ≤ 3 && !(p.x = 0 && p.y = 0 && p.z = 0)

/-- A point of a slot's head in vessel axes, in metres (R111, R123). -/
def LidarPoint.vessel (i : Fin 64) (s : P1) (p : LidarPoint) : Vec :=
  byMount (s.rdN (slKey i 0x0D)) ((p.x : Rat) / 10000, (p.y : Rat) / 10000, (p.z : Rat) / 10000) s

/-- The input block of FIT (R201): the points used, in vessel axes, and the model resident when the frame closed (R128). -/
def fitInput (i : Fin 64) (f : LidarFrame) (s : P1) : JobInput :=
  .points ((f.data.filter LidarPoint.used).map (LidarPoint.vessel i s)) (s.octets (ob 0x3400 1))

/-- The open frame of a slot closes (R112, R113). -/
def closeFrame (i : Fin 64) (s : P1) : P1 :=
  match s.slots[i].frame with
  | none => s
  | some f =>
    let t := setSlot i (fun x => { x with frame := none, closed := some f.seq }) s
    if s.rdN (slKey i 0x11) * f.total ≤ 1000 * f.points then
      poseJob i 4 (fitInput i f t) (frameOf (t.octets (ob 0x3400 1))) f.last
        (if f.flags % 2 = 1 then convertTag i f.last none (some f.time) t else none) t
    else incomplete i t

/-- A segment's header is in range (R110). -/
def segmentOk (b : List Byte) : Bool :=
  leAt b 0 2 = 0x464C && leAt b 2 1 = 1 && leAt b 3 1 < 4 && 1 ≤ leAt b 8 2 && leAt b 8 2 ≤ 4096 && leAt b 6 2 < leAt b 8 2
    && 1 ≤ leAt b 10 2 && leAt b 10 2 ≤ 90 && 1 ≤ leAt b 24 4 && leAt b 24 4 ≤ 65536 && leAt b 28 4 = 0
    && b.length = 32 + 16 * leAt b 10 2

/-- A segment joins the open frame. -/
def LidarFrame.join (f : LidarFrame) (b : List Byte) (ta : Int) : LidarFrame :=
  { f with got := leAt b 6 2 :: f.got, points := f.points + leAt b 10 2, data := f.data ++ segmentPoints b, last := ta }

/-- The frame that a segment opens. -/
def openFrame (b : List Byte) (ta : Int) (grain : Nat) : LidarFrame :=
  ⟨leAt b 4 2, leAt b 12 4, leAt b 24 4, leAt b 16 8, leAt b 3 1, leAt b 8 2, [leAt b 6 2], leAt b 10 2, segmentPoints b, grain, ta⟩

/-- The open frame closes when every segment has come (R112). -/
def closeFull (i : Fin 64) (s : P1) : P1 :=
  match s.slots[i].frame with
  | some f => if f.segments ≤ f.got.length then closeFrame i s else s
  | none => s

/-- A slot takes a lidar segment (R110–R113). -/
def slotSegment (i : Fin 64) (ta : Int) (b : List Byte) (s : P1) : P1 :=
  let head := s.rdN (slKey i 4) % 65536
  let seq := leAt b 12 4
  if !segmentOk b then formatError i 4 s
  else if head ≠ 0 && leAt b 4 2 ≠ head then formatError i 9 s
  else match s.slots[i].frame with
  | some f =>
    if f.seq = seq && f.head = leAt b 4 2 then
      if f.total ≠ leAt b 24 4 || f.time ≠ leAt b 16 8 || f.flags ≠ leAt b 3 1 then
        formatError i 4 (setSlot i (fun x => { x with frame := none, closed := some f.seq }) s)
      else if f.got.contains (leAt b 6 2) then s.inc (slKey i 0x16)
      else closeFull i (setSlot i (fun x => { x with frame := some (f.join b ta) }) s)
    else if serialAfter seq f.seq then
      closeFull i (setSlot i (fun x => { x with frame := some (openFrame b ta s.elapsed) }) (closeFrame i s))
    else s.inc (slKey i 0x16)
  | none =>
    if match s.slots[i].closed with
      | some c => serialAfter seq c
      | none => true then
      closeFull i (setSlot i (fun x => { x with frame := some (openFrame b ta s.elapsed) }) s)
    else s.inc (slKey i 0x16)

/-- 2 nominal periods since the first segment (R112). -/
def frameTimeout (i : Fin 64) (s : P1) : P1 :=
  match s.slots[i].frame with
  | some f => if 2 * s.rdN (slKey i 0x0A) ≤ s.elapsed - f.first then closeFrame i s else s
  | none => s

/-! ### Landmark packets (R114, R115) -/

/-- The marker IDs of a packet's detections. -/
def detectionIds (b : List Byte) : List Nat := (List.range (leAt b 6 2)).map fun j => leAt b (32 + 16 * j) 2

/-- A detection is used (R115): `ids` are the markers enabled in the table. -/
def detectionUsed (b : List Byte) (ids : List Nat) (j : Nat) : Bool :=
  let id := leAt b (32 + 16 * j) 2
  leAt b (34 + 16 * j) 1 ≠ 0 && ids.contains id && (detectionIds b).count id = 1

/-- Detection j of a packet (R114): a σ of 0 stands for the slot's, in 1/256 px as well. -/
def detectionAt (b : List Byte) (sigma : Rat) (j : Nat) : Detection :=
  let o := 32 + 16 * j
  let raw := leAt b (o + 12) 2
  ⟨leAt b o 2, leAt b (o + 2) 1, (ofBits 32 (leAt b (o + 4) 4) : Rat) / 256, (ofBits 32 (leAt b (o + 8) 4) : Rat) / 256,
    (if raw = 0 then sigma else (raw : Rat)) / 256⟩

/-- A packet's form (R114). -/
def packetOk (b : List Byte) : Bool :=
  let n := leAt b 6 2
  leAt b 0 2 = 0x4D4C && leAt b 2 1 = 1 && leAt b 3 1 < 2 && n ≤ 90 && leAt b 12 4 = 0 && leAt b 28 4 = 0
    && b.length = 32 + 16 * n && (List.range n).all fun j => leAt b (35 + 16 * j) 1 = 0 && leAt b (46 + 16 * j) 2 = 0

/-- The camera of a slot's head (R132). -/
def cameraOf (i : Fin 64) (s : P1) : List Rat :=
  (List.range 6).map fun k => (f64 (s.rd (ob (0x3510 + s.rdN (slKey i 0x12)) (1 + k)))).q

/-- The input block of POSE (R202): the detections used, the table resident when the packet came (R128), camera and mount. -/
def sightInput (i : Fin 64) (l : List Detection) (s : P1) : JobInput :=
  .detections l (s.octets (ob 0x3500 1)) (cameraOf i s) ((List.range 6).map fun k => mountVal (s.rdN (slKey i 0x0D)) k s)

/-- A slot takes a landmark packet (R114, R115). -/
def slotPacket (i : Fin 64) (ta : Int) (b : List Byte) (s : P1) : P1 :=
  let n := leAt b 6 2
  if !packetOk b then formatError i 4 s
  else if leAt b 4 2 ≠ s.rdN (slKey i 0x12) then formatError i 9 s
  else
    let table := s.octets (ob 0x3500 1)
    let ids := (markersOf table).map (·.1)
    let l := ((List.range n).filter (detectionUsed b ids)).map (detectionAt b (f32 (s.rd (slKey i 0x0E))).q)
    let t := if l.length < n then lastError i 5 (s.add (slKey i 0x16) ((n - l.length : Nat) : Int)) else s
    let tag := if leAt b 3 1 = 1 then convertTag i ta none (some (leAt b 16 8)) t else none
    if l.length < 4 then incomplete i (arrive i ta (.pose ⟨0, 0, 0, 0, 0, 0⟩ (frameOf table)) tag 0 none t).2
    else poseJob i 5 (sightInput i l t) (frameOf table) ta tag t

/-! ### Sensor ports and republications (R101, R430, R471) -/

/-- A datagram of a sensor port is for an enabled slot (R103): the filter of a lidar slot names a head, not an address. -/
def udpMatches (i : Fin 64) (p : Fin 4) (port ip : Nat) (s : P1) : Bool :=
  s.rd (slKey i 1) = 1 && onPort i p port s && (s.rd (slKey i 6) = 6 || ipOk i ip s)

/-- A slot takes a UDP payload in its format. -/
def slotPayload (i : Fin 64) (ta : Int) (b : List Byte) (s : P1) : P1 :=
  if s.rd (slKey i 6) = 6 then slotSegment i ta b s
  else if s.rd (slKey i 6) = 7 then slotPacket i ta b s else slotTemplateFrame i ta b s

/-- A datagram on a sensor port (R430): one that no enabled slot binds is discarded and counted; a full queue refuses it, counted
on the port and in the slots; else it reaches every slot that it matches (R101). -/
def sensorDatagram (p : Fin 4) (port ip : Nat) (bytes : List Byte) (s : P1) : P1 :=
  let hits := (List.finRange 64).filter fun (i : Fin 64) => udpMatches i p port ip s
  let q : Fin 3 := if hits.any fun i => s.rd (slKey i 6) = 6 then 0 else 1
  if !sensorPortOn p s then s
  else if hits = [] then s.inc (ob (0x5930 + p) 0x0B)
  else if sensorRoom p q s then
    hits.foldl (fun t i =>
      let u := republish i (.udpPayload p bytes) t
      if slotTakes i false u then slotPayload i u.ns bytes u else u) (sensorTake p q s)
  else hits.foldl (fun t i => if slotTakes i false t then formatError i 10 t else t) (s.inc (ob (0x5930 + p) 0x0C))

/-- A frame that a template reads has arrived (R109, R450–R453). -/
def templateArrived (src : FrameSource) (bytes : List Byte) (s : P1) : P1 :=
  match src with
  | .udp p port ip => sensorDatagram p port ip bytes s
  | x => templateFrame x bytes s

/-- A republished item through a slot, with the home module's arrival stamp (R471). -/
def slotItem (i : Fin 64) (x : RepubItem) (ta : Int) (s : P1) : P1 :=
  match x with
  | .sentence _ b => slotSentence i ta b s
  | .datagram _ b => slotDatagram i ta b s
  | .template (.can c ident _) b =>
    if s.rd (slKey i 6) ≠ 3 then slotTemplateFrame i ta b s
    else if fastPgn (pgnOf ident) then fastFrame (some i) ta c ident b s
    else slotPgn i ta (pgnOf ident) b s
  | .template _ b => slotTemplateFrame i ta b s
  | .udpPayload _ b => slotPayload i ta b s

/-! ### Slot, mount and model objects -/

/-- The rule of 3100h+s:01 (R100, R148): an enabled slot starts anew, qualifying; a disabled one leaves its fusion state with the decision
level of the next cycle, which still uses what it has latched. -/
def slotEnableRule (i : Fin 64) (v : Int) : Rule P1 :=
  checkRule (fun s => if v = 1 && !configOk i s then abRange else 0) fun s =>
    if s.rd (slKey i 1) = v then s
    else if v = 0 then refreshSlot i (setSlot i (fun x => { x with since := s.elapsed }) (s.wr (slKey i 1) 0))
    else
      let t := setSlot i (fun x => { SlotState.reset with since := s.elapsed, date := x.date }) (s.wr (slKey i 1) v)
      let u := (t.setField (slKey i 0x14) 16 16 1).setBits (slKey i 0x14)
        [(bTimeUnaligned, false), (bModelPending, s.rd (slKey i 9) = 4), (bUntagged, false)]
      refreshSlot i (u.wrs [(slKey i 0x1C, 0), (slKey i 0x1D, 0)])

/-- The rule of 3100h+s:09 (R118): MODEL_PENDING follows the time base. -/
def timeBaseRule (i : Fin 64) (v : Int) : Rule P1 :=
  effRule fun s => (s.wr (slKey i 9) v).setBit (slKey i 0x14) bModelPending (s.rd (slKey i 1) = 1 && v = 4 && !s.slots[i].tm.ready)

/-- The rule of 3100h+s:1F (R129). -/
def slotClearRule (i : Fin 64) : Rule P1 := effRule fun s => s.clearSubs (0x3100 + i) 0x15 0x19

/-- The refined values of a mount entry read the commissioned ones (R124, R125). -/
def refineAnew (e : Nat) (s : P1) : P1 :=
  (s.wrs ((List.range 6).map fun k => (mtKey e (7 + k), s.rd (mtKey e (1 + k))))).wrs
    [(mtKey e 0x0D, 0), (mtKey e 0x0E, 0), (mtKey e 0x0F, 0)]

/-- The rule of 3200h+e:01–06 (R125). -/
def mountRule (e : Fin 80) (sub : Nat) (v : Int) : Rule P1 := effRule fun s => refineAnew e (s.wr (mtKey e sub) v)

/-- The rule of 3200h+e:10 (R125): the copy waits for the next G+0. -/
def acceptRule (e : Fin 80) : Rule P1 :=
  checkRule (fun s => if s.rd (mtKey e 0x0D) = 1 then 0 else abRange) fun s =>
    record 0x0301 e.val { s.inc (mtKey e 0x11) with fus := { s.fus with accepts := s.fus.accepts ++ [e.val] } }

/-- An accepted copy takes effect (R125). -/
def adoptMounts (s : P1) : P1 :=
  let t := s.fus.accepts.foldl (fun u e => u.wrs ((List.range 6).map fun k => (mtKey e (1 + k), u.rd (mtKey e (7 + k))))) s
  { t with fus := { t.fus with accepts := [] } }

/-- A structure model (R126) or marker table (R127) passes the tests of R128. -/
def modelOk (b : List Byte) (magic top size idOff : Nat) : Bool :=
  let n := leAt b 4 2
  leAt b 0 2 = magic && leAt b 2 1 = 1 && 1 ≤ n && n ≤ top && b.length = 44 + size * n
    && leAt b (40 + size * n) 4 = crc32c (b.take (40 + size * n))
    && decide ((List.range n).map fun m => leAt b (40 + size * m + idOff) 2).Nodup

/-- The rule of 3400h:01. -/
def modelRule (b : List Byte) : Rule P1 := replaceRule (ob 0x3400 1) b (fun _ => 0) (modelOk b 0x5344 256 64 2)

/-- The rule of 3500h:01. -/
def markerRule (b : List Byte) : Rule P1 := replaceRule (ob 0x3500 1) b (fun _ => 0) (modelOk b 0x4D54 1024 32 0)

/-- The rule of 5780h+t:01 (R451). -/
def templateRule (t : Fin 16) (b : List Byte) : Rule P1 :=
  replaceRule (ob (0x5780 + t) 1) b (fun _ => 0) (templateOk t b)

/-- The rule of 5700h+k:0E (R457). -/
def serialClearRule (k : Fin 8) : Rule P1 := effRule fun s => s.clearSubs (0x5700 + k) 8 0x0D

/-! ### Measurements in the grain of a reset (R18) -/

/-- A measurement that P1 does not take. One in the grain of a reset is discarded by it and counted in 3100h+s:19 of every enabled slot
that it would have reached (assumption 55); a later one is lost. -/
def discardMeasured (hit : Fin 64 → P1 → Bool) (s : P1) : P1 :=
  if s.phase = .off || s.phase = .run || s.elapsed ≠ s.startGrain then s
  else eachSlot (fun i t => if t.rd (slKey i 1) = 1 && hit i t then t.inc (slKey i 0x19) else t) s

/-- A measurement arrives: `hit` says which slots' source it matches. -/
def onMeasured (hit : Fin 64 → P1 → Bool) (f : P1 → P1) (s : State) : Out :=
  .next { s with p1 := if s.p1.up then f s.p1 else discardMeasured hit s.p1 }

/-- The slots of a group of the DP pair. -/
def onGroup (k : Fin 16) (i : Fin 64) (s : P1) : Bool := s.rd (slKey i 2) = 3 && s.rd (slKey i 3) = k.val && s.rd (slKey i 6) = 2

/-! ### Meanings -/

/-- SLOT_ENABLE (R100). -/
def execSlotEnable (w : Nat) (i : Fin 64) (v : Int) (s : State) : Out :=
  onReq w (slKey i 1) (.num v) (slotEnableRule i v) s

/-- NMEA_SENTENCE (R105). -/
def execNmeaSentence (k : Fin 8) (bytes : List Byte) (s : State) : Out := onMeasured (fun i t => onSerial i k 1 t) (serialSentence k bytes) s

/-- UDPBC_DATAGRAM (R107). -/
def execUdpbcDatagram (k : Fin 16) (bytes : List Byte) (s : State) : Out := onMeasured (onGroup k) (groupDatagram k bytes) s

/-- NMEA2000_MESSAGE (R108). -/
def execNmea2000Message (c : Fin 4) (priority : Fin 8) (pgnSource : Nat) (bytes : List Byte) (s : State) : Out :=
  onMeasured (fun i t => pgnMatches i c (identOf priority pgnSource) t) (wholePgn c (identOf priority pgnSource) bytes) s

/-- FAST_PACKET_TIMEOUT (R446). -/
def execFastPacketTimeout (c : Fin 4) (pgn source : Nat) (s : State) : Out := onP1 (fastTimeout c pgn source) s

/-- TEMPLATE_FRAME (R109). -/
def execTemplateFrame (src : FrameSource) (bytes : List Byte) (s : State) : Out :=
  onMeasured (fun i t => templateMatches i src t) (templateArrived src bytes) s

/-- LIDAR_SEGMENT (R112). -/
def execLidarSegment (p : Fin 4) (port ip : Nat) (bytes : List Byte) (s : State) : Out :=
  onMeasured (fun i t => udpMatches i p port ip t) (sensorDatagram p port ip bytes) s

/-- LIDAR_FRAME_TIMEOUT (R112). -/
def execLidarFrameTimeout (i : Fin 64) (s : State) : Out := onP1 (frameTimeout i) s

/-- LANDMARK_PACKET (R114). -/
def execLandmarkPacket (p : Fin 4) (port ip : Nat) (bytes : List Byte) (s : State) : Out :=
  onMeasured (fun i t => udpMatches i p port ip t) (sensorDatagram p port ip bytes) s

/-- TIME_MODEL_BLOCK_END (R118). -/
def execTimeModelBlockEnd (i : Fin 64) (s : State) : Out := onP1 (fun p => closeBlock i p.ns p) s

/-- ACCEPT_REFINED (R125). -/
def execAcceptRefined (w : Nat) (e : Fin 80) (v : Int) (s : State) : Out :=
  onReq w (mtKey e 0x10) (.num v) (acceptRule e) s

/-- MOUNT_COMMISSIONED_WRITE (R125). -/
def execMountCommissionedWrite (w : Nat) (e : Fin 80) (sub : Fin 6) (v : Int) (s : State) : Out :=
  onReq w (mtKey e (1 + sub)) (.num v) (mountRule e (1 + sub) v) s

/-- STRUCTURE_MODEL_WRITE (R128). -/
def execStructureModelWrite (w : Nat) (bytes : List Byte) (s : State) : Out :=
  onReq w (ob 0x3400 1) (.bytes bytes) (modelRule bytes) s

/-- MARKER_TABLE_WRITE (R128). -/
def execMarkerTableWrite (w : Nat) (bytes : List Byte) (s : State) : Out :=
  onReq w (ob 0x3500 1) (.bytes bytes) (markerRule bytes) s

/-- SLOT_CLEAR_COUNTERS (R129). -/
def execSlotClearCounters (w : Nat) (i : Fin 64) (v : Int) (s : State) : Out :=
  onReq w (slKey i 0x1F) (.num v) (slotClearRule i) s

/-- TEMPLATE_WRITE (R451). -/
def execTemplateWrite (w : Nat) (t : Fin 16) (bytes : List Byte) (s : State) : Out :=
  onReq w (ob (0x5780 + t) 1) (.bytes bytes) (templateRule t bytes) s

/-- SERIAL_BREAK (R448). -/
def execSerialBreak (k : Fin 8) (s : State) : Out :=
  onP1 (fun p => if serialOn k p then setSer k (fun x => { x with inBreak := true }) (p.inc (serKey k 0x0D)) else p) s

/-- SERIAL_OVERRUN (R448). -/
def execSerialOverrun (k : Fin 8) (s : State) : Out :=
  onP1 (fun p => if serialOn k p then p.inc (serKey k 0x0A) else p) s

/-- SERIAL_CLEAR_COUNTERS (R457). -/
def execSerialClearCounters (w : Nat) (k : Fin 8) (v : Int) (s : State) : Out :=
  onReq w (serKey k 0x0E) (.num v) (serialClearRule k) s

/-- SERIAL_CHARACTER_ERROR (R448): the frame under way is marked for discard. -/
def execSerialCharacterError (k : Fin 8) (e : CharError) (s : State) : Out :=
  onP1 (fun p => if serialOn k p then
    setSer k (fun x => { x with spoilt := true }) (p.inc (serKey k (match e with | .framing => 8 | .parity => 9))) else p) s

/-- SENTENCE_SYNTAX_DISCARD (R449). -/
def execSentenceSyntaxDiscard (k : Fin 8) (s : State) : Out :=
  onP1 (fun p => if serialOn k p && p.rd (serKey k 4) = 0 then dropSerial k 2 p else p) s

/-- TEMPLATE_FRAME_GAP (R450). -/
def execTemplateFrameGap (k : Fin 8) (s : State) : Out :=
  onP1 (fun p => if serialOn k p && p.rd (serKey k 4) = 1 then dropSerial k 2 p else p) s

end Sys2Proof.Machine
end

