-- ==== Sys2Proof/Machine/DmaOps.lean ====
section
/-! DEFINITION. The DMA cluster (chapter "DMA engine and parameter store", R510–R521): descriptors, the bytes they
move, pauses, failures and the end of a channel's work. Commits and reads of objects are in Dma. -/

namespace Sys2Proof.Machine

/-- The state with a channel changed. -/
def setDma (d : Fin 16) (f : DmaChan → DmaChan) (s : P1) : P1 := { s with dma := upd s.dma d f }

/-- The descriptor that 32 octets spell (R512). -/
def readDesc (b : List Byte) : Desc :=
  let key (off : Nat) : Nat := ob (leAt b off 2) (leAt b (off + 2) 1)
  ⟨leAt b 0 4, leAt b 4 1, leAt b 5 1, (leAt b 6 1).testBit 0, key 8, key 12, leAt b 16 4, leAt b 20 4, leAt b 24 4⟩

/-- The reserved fields of a descriptor are 0, and the object fields of kinds 0, 2 and 3 (R512). -/
def descReserved (b : List Byte) : Bool :=
  leAt b 6 1 / 2 = 0 && leAt b 7 1 = 0 && leAt b 28 4 = 0 && leAt b 11 1 = 0 && leAt b 15 1 = 0
    && (leAt b 4 1 = 1 || leAt b 8 4 = 0) && (leAt b 5 1 = 1 || leAt b 12 4 = 0)

/-- The staging buffer of a channel. -/
def stagingKey (d : Nat) : Nat := ob (0x5800 + d) 0x10

/-- Source and destination are the same endpoint and the destination lies higher in an overlap (R515). -/
def Desc.backward (x : Desc) : Bool :=
  ((x.srcKind = 0 && x.dstKind = 0) || (x.srcKind = 1 && x.dstKind = 1 && x.srcKey = x.dstKey)) && x.srcOff < x.dstOff && x.dstOff < x.srcOff + x.len

/-- The next source and destination offsets of a running descriptor (R516). -/
def DmaRun.next (r : DmaRun) : Nat × Nat :=
  if r.backward then (r.desc.srcOff + (r.desc.len - r.moved), r.desc.dstOff + (r.desc.len - r.moved))
  else (r.desc.srcOff + r.moved, r.desc.dstOff + r.moved)

/-- Octets of `l` with `b` laid at `off`; a gap is filled with 0 (assumption 21). -/
def layAt (l : List Byte) (off : Nat) (b : List Byte) : List Byte :=
  padTo off l ++ b ++ l.drop (off + b.length)

/-- `n` octets at `off`; octets past the content read 0 (assumption 21). -/
def takeAt (l : List Byte) (off n : Nat) : List Byte := padTo n ((l.drop off).take n)

/-- The receive buffer a channel holds for an object, with octets laid in it (R518). -/
def putBuffer (h : Holder) (k off : Nat) (b : List Byte) (grain : Nat) (l : List RxBuf) : List RxBuf :=
  if l.any (fun x => x.holder = h && x.key = k) then
    l.map fun x => if x.holder = h && x.key = k then { x with data := layAt x.data off b, lastGrain := grain } else x
  else l ++ [⟨h, k, layAt [] off b, grain⟩]

/-- The offsets and the remaining octets that a channel shows (R516). -/
def showRun (d : Fin 16) (r : DmaRun) (s : P1) : P1 :=
  s.wrs [(ob (0x5800 + d) 8, (r.next.1 : Int)), (ob (0x5800 + d) 9, (r.next.2 : Int)), (ob (0x5800 + d) 0x0A, ((r.desc.len - r.moved : Nat) : Int))]

/-- Move the next `n` octets of a running descriptor; `src` gives the source octets at an offset (R514, R515). -/
def dmaStep (d : Fin 16) (r : DmaRun) (n : Nat) (src : Nat → Nat → List Byte) (s : P1) : P1 :=
  let m := min n (r.desc.len - r.moved)
  let so := if r.backward then r.next.1 - m else r.next.1
  let dk := if r.backward then r.next.2 - m else r.next.2
  let b := src so m
  let t := if r.desc.dstKind = 0 then s.setOctets (stagingKey d) (layAt (s.octets (stagingKey d)) dk b)
    else { s with bufs := putBuffer (.channel d) r.desc.dstKey dk b s.elapsed s.bufs }
  let u := t.wr (ob (0x5800 + d) 0x0C) ((t.rd (ob (0x5800 + d) 0x0C) + m) % 2 ^ 64)
  let q : DmaRun := { r with moved := r.moved + m }
  showRun d q (setDma d (fun c => { c with run := some q }) u)

/-- The status word of a completion (R519). -/
def completionStatus (ok backward readback committed paused : Bool) (cause : Nat) : Nat :=
  (if ok then 1 else 2) + (if backward then 4 else 0) + (if readback then 8 else 0) + (if committed then 16 else 0)
    + (if paused then 32 else 0) + 256 * cause

/-- The octets of a completion record (R519). -/
def Completion.bytes (c : Completion) : List Byte := le 4 c.id ++ le 4 c.status ++ le 4 c.moved ++ le 4 c.stamp

/-- The receive buffers of a channel are discarded. -/
def dropChannelBufs (d : Nat) (s : P1) : P1 := { s with bufs := s.bufs.filter fun b => b.holder ≠ .channel d }

/-- End the running descriptor with a status (R517–R519). -/
def dmaFinish (d : Fin 16) (r : DmaRun) (ok readback committed : Bool) (cause : Nat) (s : P1) : P1 :=
  let c : Completion := ⟨r.desc.id, completionStatus ok r.backward readback committed r.paused cause, r.moved, s.stamp⟩
  let t := setDma d (fun x =>
    { x with run := none, done := x.done ++ [c], lostRun := if cause = 5 then x.lostRun else 0 }) s
  if ok then t else t.inc (ob (0x5800 + d) 0x0D)

/-- Report one descriptor of an ended channel: FAILED with its cause, recorded under 0F04h (R521). -/
def dmaEndOne (d : Fin 16) (cause : Nat) (r : DmaRun) (s : P1) : P1 :=
  record 0x0F04 (packDetails [(8, d.val), (8, cause)]) (dmaFinish d r false false false cause s)

/-- End every descriptor of a channel in ring order (R521). -/
def dmaEndAll (d : Fin 16) (cause : Nat) (s : P1) : P1 :=
  let c := s.dma[d]
  let t := match c.run with
    | some r => dmaEndOne d cause r s
    | none => s
  let u := c.ring.foldl (fun t x => dmaEndOne d cause ⟨x, 0, x.backward, false, none⟩ t) t
  dropChannelBufs d (setDma d (fun x => { x with ring := [], pausing := false, paused := false }) u)

/-- End the work of every channel that a closing session owns, with cause 8 (R521, R545). -/
def dmaEndSession (w : Nat) (s : P1) : P1 :=
  (List.finRange 16).foldl (fun t (d : Fin 16) =>
    if 8 ≤ d.val && w ≠ 0 && t.rdN (ob (0x5800 + d) 0x0B) = w then
      ((dmaEndAll d 8 t).wr (ob (0x5800 + d) 0x0B) 0).wr (ob (0x5800 + d) 2) 0
    else t) s

/-- The rule of 5800h+d:02 (R512, R521): 1 binds the channel to the writing session and empties the completion queue;
0 ends its work with cause 7. A channel bound to another session is busy (assumption 21). -/
def dmaEnableRule (w : Nat) (d : Fin 16) (v : Int) : Rule P1 where
  mode := fun _ => 0
  check := fun _ => 0
  busy := fun s => if s.rdN (ob (0x5800 + d) 0x0B) ≠ 0 && s.rdN (ob (0x5800 + d) 0x0B) ≠ w then abBusy else 0
  eff := fun s =>
    if v = 1 then
      let t := (s.wr (ob (0x5800 + d) 2) 1).wr (ob (0x5800 + d) 0x0B) w
      if s.rd (ob (0x5800 + d) 2) = 1 && s.rdN (ob (0x5800 + d) 0x0B) = w then t
      else setDma d (fun c => { c with done := [] }) t
    else ((dmaEndAll d 7 s).wr (ob (0x5800 + d) 0x0B) 0).wr (ob (0x5800 + d) 2) 0

/-- The rule of 5800h+d:04 (R521). -/
def dmaResetRule (d : Fin 16) : Rule P1 := effRule (dmaEndAll d 7)

/-- The start of a channel's next descriptor (R511, R516, R520): only when the previous one has completed and the
channel is not paused. A destination object whose receive buffer another writer holds fails it with cause 9. -/
def dmaStart (d : Fin 16) (s : P1) : P1 :=
  let c := s.dma[d]
  match c.run, c.ring with
  | none, x :: rest =>
    if c.paused || c.pausing || s.stopped (dmaAddr d) then s
    else
      let r : DmaRun := ⟨x, 0, x.backward, false, none⟩
      let t := showRun d r (setDma d (fun y => { y with ring := rest, run := some r }) s)
      if x.dstKind = 1 && s.bufs.any (fun b => b.key = x.dstKey && b.holder ≠ .channel d) then
        dmaFinish d r false false false 9 t
      else t
  | _, _ => s

/-- The drain of a pause has ended (R516): PAUSED is set. -/
def dmaPaused (d : Fin 16) (s : P1) : P1 :=
  if s.dma[d].pausing then
    setDma d (fun c => { c with pausing := false, paused := true,
                                run := c.run.map fun r => { r with paused := true } }) s
  else s

/-- A lost write response fails the running descriptor with cause 5; three in a row stop the channel (R517). The unit
fault itself is reported by the caller. -/
def dmaLost (d : Fin 16) (s : P1) : P1 × Bool :=
  match s.dma[d].run with
  | none => (s, false)
  | some r =>
    let t := setDma d (fun c => { c with lostRun := c.lostRun + 1 }) (dmaFinish d r false false false 5 s)
    (t, 3 ≤ t.dma[d].lostRun)

/-! ### Meanings -/

/-- DMA_ENABLE (R512). -/
def execDmaEnable (w : Nat) (d : Fin 16) (v : Int) (s : State) : Out :=
  onReq w (ob (0x5800 + d) 2) (.num v) (dmaEnableRule w d v) s

/-- DMA_DESCRIPTOR_START (R511). -/
def execDmaDescriptorStart (d : Fin 16) (s : State) : Out := onP1 (dmaStart d) s

/-- DMA_PAUSED (R516). -/
def execDmaPaused (d : Fin 16) (s : State) : Out := onP1 (dmaPaused d) s

/-- DMA_RESET (R521). -/
def execDmaReset (w : Nat) (d : Fin 16) (v : Int) (s : State) : Out :=
  onReq w (ob (0x5800 + d) 4) (.num v) (dmaResetRule d) s

end Sys2Proof.Machine
end

