-- ==== Sys2Proof/Machine/Filter.lean ====
section
/-! DEFINITION. The filter chain and the analog inputs (chapters "Encoder axes and the filter chain", R348–R360, and "Field
digital and analog I/O", R375, R376). -/

namespace Sys2Proof.Machine

/-- A subindex of filter channel c. -/
def fiKey (c : Fin 32) (sub : Nat) : Nat := ob (0x5310 + c) sub

/-- The state with a filter channel changed. -/
def setFilt (c : Fin 32) (f : FilterChan → FilterChan) (s : P1) : P1 := { s with filt := upd s.filt c f }

/-- A track channel (R348). -/
def isTrack (c : Fin 32) : Bool := 16 ≤ c.val

/-- The axis of a track channel. -/
def trackAxis (c : Fin 32) : Fin 8 := ⟨(c.val - 16) / 2, by omega⟩

/-- A channel is enabled; tracks follow their axis (R350). -/
def filtOn (c : Fin 32) (s : P1) : Bool :=
  !s.stopped filterAddr && (if isTrack c then s.rd (axKey (trackAxis c) 1) = 1 else s.rd (fiKey c 1) = 1)

/-- The output period T in ns (R349, R350). -/
def periodNs (c : Fin 32) (s : P1) : Nat :=
  if isTrack c then 2000
  else ([2000, 4000, 10000, 20000, 50000, 100000, 250000, 1000000] : List Nat).getD (s.rdN (fiKey c 2)) 100000

/-- The group delay G in ns. -/
def delayNs (c : Fin 32) (s : P1) : Nat := if isTrack c then 2500 else periodNs c s * 23 / 2

/-- The represented time of an output (R351): its fraction of a nanosecond is free (assumption 5). -/
def representedTime (c : Fin 32) (s : P1) : Int :=
  nearFree s.free (((s.ns / 1000 * 1000 + 40 * c.val : Nat) : Rat) - ((delayNs c s : Nat) : Rat)
    - ((s.rdN (fiKey c 3) * periodNs c s : Nat) : Rat) / 256)

/-- An event that starts an unsettled run (R352). -/
def startRun (c : Fin 32) (s : P1) : P1 :=
  let n := s.rdN (fiKey c 4)
  (s.setField (fiKey c 0x0D) 8 8 n).setBit (fiKey c 0x0D) 0 (n ≠ 0)

/-- The step event (R352). -/
def isStep (c : Fin 32) (v : Int) (s : P1) : Bool :=
  match (s.filt[c]).last with
  | some x => s.rd (fiKey c 5) ≠ 0 && s.rd (fiKey c 5) < (v - x).natAbs
  | none => false

/-! ### Thresholds (R354) -/

/-- The parameter of 0A05h: channel, threshold (0 upper, 1 lower), direction (1 set, 0 cleared). -/
def thresholdParam (c : Fin 32) (lower set : Bool) : Nat :=
  packDetails [(8, c.val), (8, if lower then 1 else 0), (8, if set then 1 else 0)]

/-- A threshold event in ascending channel, after the earlier ones of its channel (R17). -/
def placeCrossing (x : Nat × Bool × Bool) : List (Nat × Bool × Bool) → List (Nat × Bool × Bool)
  | [] => [x]
  | y :: r => if x.1 < y.1 then x :: y :: r else y :: placeCrossing x r

/-- A threshold changes (R354): its event waits for precedence 8 of the grain (R355). -/
def crossThreshold (c : Fin 32) (low set : Bool) (s : P1) : P1 :=
  { s.setBit (fiKey c 0x0D) (if low then 3 else 2) set with crossings := placeCrossing (c, low, set) s.crossings }

/-- A threshold event is processed (R354): counted, recorded, and its alarm raised or lowered. -/
def thresholdEvent (c : Fin 32) (low set : Bool) (s : P1) : P1 :=
  let t := record 0x0A05 (thresholdParam c low set) (s.inc (fiKey c 0x0E))
  let cls := s.rdN (fiKey c 0x0A)
  if 16 ≤ cls then t
  else if set then raiseIn cls 0x0A05 (thresholdParam c low true) t
  else lower 0x0A05 (thresholdParam c low true) t

/-- The threshold events of the grain are processed (R355). -/
def crossFlush (s : P1) : P1 :=
  s.crossings.foldl (fun t e => if h : e.1 < 32 then thresholdEvent ⟨e.1, h⟩ e.2.1 e.2.2 t else t) { s with crossings := [] }

/-- Both thresholds judged on a settled output (R354). -/
def judgeThresholds (c : Fin 32) (v : Int) (s : P1) : P1 :=
  let k := fiKey c 0x0D
  let hys := s.rd (fiKey c 8)
  let up := s.bit (fiKey c 9) 0
  let dn := s.bit (fiKey c 9) 1
  let s1 := if up && !s.bit k 2 && s.rd (fiKey c 6) ≤ v then crossThreshold c false true s
    else if s.bit k 2 && v < s.rd (fiKey c 6) - hys then crossThreshold c false false s else s
  if dn && !s.bit k 3 && v ≤ s.rd (fiKey c 7) then crossThreshold c true true s1
  else if s.bit k 3 && s.rd (fiKey c 7) + hys < v then crossThreshold c true false s1 else s1

/-! ### Analog inputs (R375, R376) -/

/-- The current mode of an analog input. -/
def currentMode (n : Nat) (s : P1) : Bool := s.rd (ob 0x5500 (n + 1)) = 1

/-- Volts or milliamperes of an output value (R375). -/
def aiPhysical (n : Nat) (v : Int) (s : P1) : Rat := (v : Rat) / 2147483648 * (if currentMode n s then 25 else 25 / 2)

/-- The normalised value (R375). -/
def aiNormal (n : Nat) (v : Int) (s : P1) : Rat :=
  if currentMode n s then (aiPhysical n v s - 12) / 8 else aiPhysical n v s / 10

/-- The parameter of 0B05h: channel, kind (0 WIRE_BREAK, 1 OVER_RANGE, 2 SHUNT_OPEN), set or cleared. -/
def aiParam (n kind : Nat) (set : Bool) : Nat := packDetails [(8, n), (8, kind), (8, if set then 1 else 0)]

/-- A fault of an analog input sets or clears (R376). -/
def setAiFault (n kind : Nat) (set : Bool) (s : P1) : P1 :=
  if s.bit (ob 0x5504 (n + 1)) kind = set then s
  else recordAlarm set 0x0B05 (aiParam n kind set) (aiParam n kind true) (s.setBit (ob 0x5504 (n + 1)) kind set)

/-- Faults judged on an output (R375). -/
def judgeAi (n : Nat) (v : Int) (s : P1) : P1 :=
  let x := aiPhysical n v s
  if currentMode n s then setAiFault n 1 (21 < x) (setAiFault n 0 (x < 18 / 5) s)
  else setAiFault n 1 (21 / 2 < ratAbs x) (setAiFault n 0 false s)

/-- The engineering value of a settled output (R375). -/
def showAi (n : Nat) (v : Int) (s : P1) : P1 :=
  let q := (f64 (s.rd (ob 0x5502 (n + 1)))).q + (f64 (s.rd (ob 0x5501 (n + 1)))).q * aiNormal n v s
  (s.wr (ob 0x5503 (n + 1)) (toF64 (Config.fp64 s.free q))).draw

/-- The current of an analog input in overload for 10 ms opens its shunt (R375). -/
def judgeShunt (c : Fin 32) (overload : Bool) (s : P1) : P1 :=
  let since := if overload then some (((s.filt[c]).overSince).getD s.elapsed) else none
  let t := setFilt c (fun x => { x with overSince := since }) s
  match since with
  | some g => if !isTrack c && currentMode c s && 10000 ≤ s.elapsed - g && !t.bit (ob 0x5504 (c.val + 1)) 2 then
      setAiFault c 2 true (setFilt c (fun x => { x with shuntAt := s.elapsed }) t)
    else t
  | none => t

/-- An output of a settled analog channel reaches its users (R353, R354, R375). -/
def settledOutput (c : Fin 32) (v : Int) (s : P1) : P1 :=
  let t := setFilt c (fun x => { x with settled := ((s.elapsed, v) :: x.settled).take 2 }) s
  if isTrack c then t
  else showAi c v (judgeAi c v (judgeThresholds c v t))

/-- The cosine output of a round completes the pair of its axis (R330, R348); outputs of an unsettled run give no value
(assumption 113). -/
def trackOutput (c : Fin 32) (v ts : Int) (s : P1) : P1 :=
  if isTrack c && c.val % 2 = 1 && s.rd (axKey (trackAxis c) 2) = 2 then
    match s.filt[c.val - 1].last with
    | some x => sineOutput (trackAxis c) x v ts s
    | none => s
  else s

/-- An output of a channel falls in this grain and has not been given (R348, R349). -/
def outputDue (c : Fin 32) (s : P1) : Bool :=
  s.grainIndex % (periodNs c s / 1000) = 0 && s.filt[c].outAt ≠ some s.elapsed

/-- A filter channel delivers an output (R351, R352). -/
def filterOutput (c : Fin 32) (v : Int) (overload : Bool) (s : P1) : P1 :=
  if !filtOn c s || !outputDue c s then s
  else
    let k := fiKey c 0x0D
    let ts := representedTime c s
    let s1 := if overload || isStep c v s then startRun c s else s
    let left := s1.field k 8 8
    let s2 := (s1.wrs [(fiKey c 0x0B, sat32 v), (fiKey c 0x0C, ts % 4294967296)]).draw
    let s3 := ((s2.setField k 8 8 (left - 1)).setBits k [(0, left ≠ 0), (1, overload)])
    let s4 := judgeShunt c overload (setFilt c (fun x => { x with last := some v, outAt := some s.elapsed }) s3)
    if left = 0 then trackOutput c v ts (settledOutput c v s4) else s4

/-- The settled output that a station cycle or servo tick uses (R353): the last one attributed to an earlier grain. -/
def settledBefore (c : Fin 32) (s : P1) : Option Int :=
  ((s.filt[c]).settled.find? fun e => e.1 < s.elapsed).map (·.2)

/-- The settled mask 5300h:02. -/
def settledMask (s : P1) : Nat :=
  (List.finRange 32).foldl (fun m (c : Fin 32) => if filtOn c s && !s.bit (fiKey c 0x0D) 0 then m + 2 ^ c.val else m) 0

/-- The shunt is retried 1 s after it opened (R375): it opens again while the overcurrent persists, without a record. -/
def shuntRetry (n : Fin 16) (overcurrent : Bool) (s : P1) : P1 :=
  let c : Fin 32 := ⟨n.val, by omega⟩
  if !s.bit (ob 0x5504 (n.val + 1)) 2 || s.elapsed < s.filt[c].shuntAt + 1000000 then s
  else if overcurrent then setFilt c (fun x => { x with shuntAt := s.elapsed }) s
  else setAiFault n 2 false s

/-- The rule of a filter object with a number (R350, R352, R360). -/
def filterRule (c : Fin 32) (sub : Nat) (v : Int) : Rule P1 :=
  checkRule (fun _ => if isTrack c && (sub ≤ 2 || (5 ≤ sub && sub ≤ 0x0A)) then abRange
    else if sub = 0x0A && !((0 ≤ v && v ≤ 15) || v = 0xFF) then abRange else 0) fun s =>
    let t := s.wr (fiKey c sub) v
    if s.rd (fiKey c sub) ≠ v && ((sub = 1 && v = 1) || sub = 2 || sub = 3) then startRun c t else t

/-- The rule of an axis object: the tracks of an axis that is enabled start unsettled runs (R350, R352). -/
def axisTrackRule (a : Fin 8) (sub : Nat) (v : Int) : Rule P1 :=
  let r := axisRule a sub v
  let sine : Fin 32 := ⟨16 + 2 * a.val, by omega⟩
  let cosine : Fin 32 := ⟨17 + 2 * a.val, by omega⟩
  { r with eff := fun s =>
      if sub = 1 && v = 1 && s.rd (axKey a 1) = 0 then startRun cosine (startRun sine (r.eff s)) else r.eff s }

/-- The rule of 5500h (R375): a change of mode starts an unsettled run. -/
def aiModeRule (n : Fin 16) (v : Int) : Rule P1 :=
  effRule fun s =>
    let t := s.wr (ob 0x5500 (n.val + 1)) v
    if s.rd (ob 0x5500 (n.val + 1)) = v then t else startRun ⟨n.val, by omega⟩ t

/-! ### Meanings -/

/-- FILTER_OUTPUT (R351). -/
def execFilterOutput (c : Fin 32) (value : Int) (overload : Bool) (s : State) : Out := onP1 (filterOutput c value overload) s

/-- SHUNT_RETRY (R375). -/
def execShuntRetry (n : Fin 16) (overcurrent : Bool) (s : State) : Out := onP1 (shuntRetry n overcurrent) s

end Sys2Proof.Machine
end

