-- ==== Sys2Proof/Machine/Field.lean ====
section
/-! DEFINITION. Field digital and analog I/O (chapter "Field digital and analog I/O", R362–R374, R377–R383): package P3 and
the field frames between it and the core. -/

namespace Sys2Proof.Machine

/-! ### Frames (R363–R365) -/

/-- The number of a field die. -/
def fieldIdx : FieldDie → Fin 2
  | .f0 => 0
  | .f1 => 1

/-- The core and a field die reach each other. -/
def fieldLink (d : FieldDie) (s : State) : Bool :=
  s.p1.phase = .run && s.p3.powered && s.p3.link[fieldIdx d] && s.p1.fldLink[fieldIdx d]

/-- The commanded digital outputs that a frame carries: compare outputs follow their pulses (R371). -/
def doImage (s : P1) : Nat :=
  (List.range 16).foldl (fun m n =>
    if (match compareOutput n s with
      | some b => b
      | none => s.bit (ob 0x5400 7) n) then m + 2 ^ n else m) 0

/-- What P3 takes from a frame (R363). -/
def takeFrame (d : FieldDie) (s : P1) (f : P3) : P3 :=
  match d with
  | .f0 => { f with doCmd := doImage s, doSafe := s.rdN (ob 0x5400 9), timeout := s.rdN (ob 0x5400 3) }
  | .f1 => { f with aoCmd := s.ao, aoSafe := Vector.ofFn fun (n : Fin 16) => s.rd (ob 0x5506 (n.val + 1)),
                    timeout := s.rdN (ob 0x5400 3) }

/-- The parameter of 0B02h and 0B03h: the die. -/
def silenceParam (d : FieldDie) : Nat := packDetails [(8, (fieldIdx d).val)]

/-- A silence that has not been reported is reported (R365). -/
def reportSilence (d : FieldDie) (f : P3) (s : P1) : P1 :=
  if f.report[fieldIdx d] then recordAlarm true 0x0B02 (silenceParam d) (silenceParam d) s else s

/-- The end of a silence (R365). -/
def reportEnd (d : FieldDie) (f : P3) (s : P1) : P1 :=
  if f.silent[fieldIdx d] then lower 0x0B02 (silenceParam d) (record 0x0B03 (silenceParam d) s) else s

/-! ### What the core sees -/

/-- A unit of P3 is stopped by a fault (R55). -/
def P3.stopped (f : P3) (addr : Nat) : Bool := f.down.any fun b => blockHolds b addr

/-- A digital output that P3 drives on: its command or, in silence, its safe state (R365); that of a stopped group, or
without supply, is off (R63, assumption 40). -/
def doCommanded (f : P3) (n : Nat) : Bool :=
  f.powered && !f.stopped (unitAddr 3 0 1 0 (n / 8)) && (if f.silent[(0 : Fin 2)] then f.doSafe else f.doCmd).testBit n

/-- The commanded code of an analog output at P3 (R365); that of a stopped output, or without supply, is 0 (assumption
40). -/
def aoCommanded (f : P3) (n : Fin 16) : Int :=
  if !f.powered || f.stopped (unitAddr 3 1 1 0 n) then 0
  else if f.silent[(1 : Fin 2)] then f.aoSafe[n] else f.aoCmd[n]

/-- The switch of a digital output drives: commanded on and not switched off by a fault (R372). -/
def doDriven (f : P3) (n : Fin 16) : Bool :=
  let x := f.dos[n]
  doCommanded f n && !x.short && !x.thermal && !x.groupOff

/-- The digital outputs that are driven. -/
def driveImage (f : P3) : Nat := (List.finRange 16).foldl (fun m (n : Fin 16) => if doDriven f n then m + 2 ^ n.val else m) 0

/-- One microsecond of P3's oscillators (R45): it notes switch-offs and changes of codes. -/
def tickField (f : P3) : P3 :=
  if !f.powered then f
  else
    let c := f.clock + 1
    let d := driveImage f
    let codes : Vector Int 16 := Vector.ofFn fun (n : Fin 16) => aoCommanded f n
    { f with
      clock := c, drive := d, aoSeen := codes
      offAt := Vector.ofFn fun (n : Fin 16) => if f.drive.testBit n && !d.testBit n then c else f.offAt[n]
      aoAt := Vector.ofFn fun (n : Fin 16) => if f.aoSeen[n] = codes[n] then f.aoAt[n] else c }

/-- DO status 5403h as P3 knows it (R381). -/
def doStatus (x : DoState) : Int :=
  (if x.short then 1 else 0) + (if x.thermal then 2 else 0) + (if x.openLoad then 4 else 0) + (if x.external then 8 else 0)
    + (if x.groupOff then 16 else 0)

/-- A DO group stands under GROUP_LIMIT. -/
def groupLimited (f : P3) (g : Nat) : Bool :=
  (List.finRange 16).any fun (n : Fin 16) => n.val / 8 = g && (f.dos[n]).groupOff

/-- Field status 5400h:01 (R380). -/
def fieldStatus (f : P3) : Int :=
  (if f.low then 1 else 0) + (if f.missing then 2 else 0) + (if f.silent[(0 : Fin 2)] then 4 else 0)
    + (if f.silent[(1 : Fin 2)] then 8 else 0) + (if f.diValid then 16 else 0) + (if groupLimited f 0 then 256 else 0)
    + (if groupLimited f 1 then 512 else 0)

/-- The objects that follow die F0. -/
def cellsF0 (f : P3) : List (Nat × Int) :=
  [(ob 0x5400 1, fieldStatus f), (ob 0x5400 2, (f.fld : Int)), (ob 0x5400 5, (f.di : Int)), (ob 0x5400 8, (f.readback : Int))]
    ++ (List.finRange 16).map fun (n : Fin 16) => (ob 0x5403 (n.val + 1), doStatus f.dos[n])

/-- The bits of 5508h that follow die F1. -/
def showAo (f : P3) (s : P1) : P1 :=
  (List.finRange 16).foldl (fun t (n : Fin 16) =>
    t.setBits (ob 0x5508 (n.val + 1)) [(1, (f.aos[n]).limiting), (2, (f.aos[n]).deviation)]) s

/-- The core's view of P3, as far as the links carry it. -/
def syncField (s : State) : State :=
  let t := if fieldLink .f0 s then { s with p1 := s.p1.wrs (cellsF0 s.p3) } else s
  if fieldLink .f1 t then { t with p1 := showAo t.p3 t.p1 } else t

/-- An event of P3 and its record in the core, where the die's link carries it. -/
def onP3 (d : FieldDie) (f : P3 → P3) (r : P1 → P1) (s : State) : State :=
  let t := { s with p3 := f s.p3 }
  syncField (if fieldLink d s then { t with p1 := r t.p1 } else t)

/-! ### Silence -/

/-- The core's PLL has lost lock and has not been held again (R12). -/
def pllDown (s : P1) : Bool := s.pllLost && !s.bit kClock 0

/-- A frame reaches its die (R363, R365). P1 without its PLL sends none (R12). -/
def fieldFrame (d : FieldDie) (s : State) : State :=
  if !fieldLink d s || pllDown s.p1 then s
  else
    let p0 := reportEnd d s.p3 (reportSilence d s.p3 s.p1)
    let p1 := { p0 with acks := p0.acks.map fun a => { a with carried := a.carried || a.die = (fieldIdx d).val } }
    let f := takeFrame d s.p1 s.p3
    syncField { s with p1 := p1,
                       p3 := { f with silent := f.silent.set (fieldIdx d) false, report := f.report.set (fieldIdx d) false,
                                      frameAt := f.frameAt.set (fieldIdx d) f.clock } }

/-- The silence timeout has passed (R365). -/
def fieldSilence (d : FieldDie) (f : P3) : P3 :=
  if !f.powered || f.silent[fieldIdx d] || f.clock < f.frameAt[fieldIdx d] + f.timeout * 1000 then f
  else { f with silent := f.silent.set (fieldIdx d) true, report := f.report.set (fieldIdx d) true }

/-- A link to a field die comes back (R365): the die reports its silence. -/
def linkBack (d : FieldDie) (s : State) : State :=
  let t := { s with p1 := reportSilence d s.p3 s.p1, p3 := { s.p3 with report := s.p3.report.set (fieldIdx d) false } }
  syncField t

/-! ### FLD (R366, R367) -/

/-- One flag of R366 after a measurement: its value, its run. -/
def fldFlag (flag : Bool) (run v setBelow clearFrom : Nat) : Bool × Nat :=
  let side := if flag then decide (clearFrom ≤ v) else decide (v < setBelow)
  if !side then (flag, 0) else if 10 ≤ run + 1 then (!flag, 0) else (flag, run + 1)

/-- A measurement of FLD in units of 10 mV (R366). -/
def fldMeasure (v : Nat) (f : P3) : P3 :=
  if !f.powered then f
  else
    let l := fldFlag f.low f.lowRun v 1800 1850
    let m := fldFlag f.missing f.missingRun v 1200 1250
    { f with fld := v, low := l.1, lowRun := l.2, missing := m.1, missingRun := m.2, measured := min 10 (f.measured + 1)
             lowCleared := f.lowCleared || !l.1, missingCleared := f.missingCleared || !m.1, diValid := !m.1
             sinceClear := if m.1 then 0 else if f.missing then 0 else f.sinceClear + 1 }

/-- The parameter of 0B00h and 0B01h. -/
def setParam (b : Bool) : Nat := packDetails [(8, if b then 1 else 0)]

/-- The records of one flag (R366): a change, but for the first clear after a start; a flag still set when the first 10
measurements are complete. -/
def recordFlag (code : Nat) (old new cleared tenth : Bool) (s : P1) : P1 :=
  if new && (!old || tenth) then recordAlarm true code (setParam true) (setParam true) s
  else if old && !new then
    if cleared then recordAlarm false code (setParam false) (setParam true) s else lower code (setParam true) s
  else s

/-- The records of a measurement. -/
def recordFld (old new : P3) (s : P1) : P1 :=
  let tenth := old.measured = 9 && new.measured = 10
  recordFlag 0x0B01 old.missing new.missing old.missingCleared tenth
    (recordFlag 0x0B00 old.low new.low old.lowCleared tenth s)

/-! ### Digital inputs (R368, R369) -/

/-- A new filtered state is still the baseline after FLD_MISSING (R367). -/
def isBaseline (n : Fin 32) (f : P3) (s : P1) : Bool :=
  f.sinceClear * 100 ≤ s.rdN (ob 0x5401 (n.val + 1)) * s.rdN (ob 0x5400 4)

/-- The mode to which an input is assigned (R73). -/
def panelTarget (n : Fin 32) (s : P1) : Option Nat := (List.range 12).find? fun m => s.rd (ob 0x2101 (m + 1)) = n.val

/-- The uses of an edge in the core: its count, SNAP (R30), a panel mode command (R67). -/
def takeEdge (n : Fin 32) (level : Bool) (s : P1) : P1 :=
  let t := s.inc (ob 0x5402 (n.val + 1))
  let e := t.rd (ob 0x2300 8)
  let u := if t.rd (ob 0x2300 7) = n.val && (e = 2 || (e = 0 && level) || (e = 1 && !level)) then snapLater 1 t else t
  if level then
    match panelTarget n u with
    | some m => panelMode n m u
    | none => u
  else u

/-- The inputs sample in the grain in progress (R368); without the core's grains the sender says when. -/
def diSamples (s : State) : Bool := !fieldLink .f0 s || s.p1.grainIndex % s.p1.rdN (ob 0x5400 4) = 0

/-- An input changes its filtered state (R367, R369). -/
def diEdge (n : Fin 32) (level : Bool) (s : State) : State :=
  if !diSamples s || !s.p3.powered || s.p3.missing || s.p3.stopped (unitAddr 3 0 0 0 (n.val / 8)) || s.p3.di.testBit n = level then s
  else
    let f := { s.p3 with di := if level then s.p3.di + 2 ^ n.val else s.p3.di - 2 ^ n.val }
    let t := onP3 .f0 (fun _ => f) (if isBaseline n s.p3 s.p1 then id else takeEdge n level) s
    match s.p1.phase = .run || !level, panelTarget n s.p1 with
    | false, some m => { t with p1 := discard 1 0 m 0 t.p1 }
    | _, _ => t

/-! ### Digital outputs (R370–R374) -/

/-- The kinds of 0B04h, in the order of R372. -/
def doParam (n kind : Nat) : Nat := packDetails [(8, n), (8, kind)]

/-- The faults of an output before and after, as 0B04h records them: kinds that set are recorded and raise their alarm, kinds
that clear end it. -/
def recordDo (n : Fin 16) (old new : DoState) (s : P1) : P1 :=
  let one (kind : Nat) (a b : Bool) (t : P1) : P1 :=
    if !a && b then recordAlarm true 0x0B04 (doParam n kind) (doParam n kind) t
    else if a && !b then lower 0x0B04 (doParam n kind) t else t
  one 5 old.groupOff new.groupOff (one 4 old.external new.external (one 3 old.openLoad new.openLoad
    (one 2 old.thermal new.thermal (one 1 old.short new.short s))))

/-- The faults of every output recorded. -/
def recordDos (old new : P3) (s : P1) : P1 :=
  (List.finRange 16).foldl (fun t (n : Fin 16) => recordDo n old.dos[n] new.dos[n] t) s

/-- One readback of an output (R372): `cmd` that it is commanded on, `on` that its switch drives, `settled` that it has been off for
2 ms, `high` its terminal, `loaded` a current of 2 mA or more. -/
def doRead (cmd on settled high loaded : Bool) (x : DoState) : DoState :=
  let openRun := if on && !loaded then min 100 (x.openRun + 1) else 0
  let closeRun := if on && loaded then min 100 (x.closeRun + 1) else 0
  let highRun := if !cmd && high && (settled || x.highRun ≠ 0) then min 3 (x.highRun + 1) else 0
  let lowRun := if !cmd && !high then min 3 (x.lowRun + 1) else 0
  { x with openRun := openRun, closeRun := closeRun, highRun := highRun, lowRun := lowRun
           openLoad := if !on || closeRun = 100 then false else x.openLoad || openRun = 100
           external := if cmd || lowRun = 3 then false else x.external || highRun = 3 }

/-- The millisecond readback of every output (R372); diagnostics rest while FLD is missing (R367). -/
def doReadback (terminals loaded : Nat) (f : P3) : P3 :=
  if !f.powered then f
  else if f.missing then { f with readback := terminals % 65536 }
  else
    let one (n : Fin 16) : DoState :=
      let x := f.dos[n]
      doRead (doCommanded f n) (doDriven f n) (f.offAt[n] + 2000 ≤ f.clock) (terminals.testBit n) (loaded.testBit n) x
    { f with readback := terminals % 65536, dos := Vector.ofFn one }

/-- P3 with an output changed; no fault is raised while FLD is missing (R367). -/
def setDo (n : Fin 16) (g : DoState → DoState) (f : P3) : P3 :=
  if f.powered && !f.missing then { f with dos := upd f.dos n g } else f

/-- An output in current limit is switched off (R372). -/
def doShort (n : Fin 16) (f : P3) : P3 :=
  if doDriven f n then setDo n (fun x => { x with short := true }) { f with shortAt := f.shortAt.set n f.clock } else f

/-- SHORT_RETRY: 1 s after an output was switched off (R372). -/
def shortRetry (n : Fin 16) (f : P3) : P3 :=
  if f.shortAt[n] + 1000000 ≤ f.clock then setDo n (fun x => { x with short := false }) f else f

/-- Switched off in descending number until the group draws 4.0 A or less (R372): the outputs, from the highest. -/
def limitGroup : List (Nat × Nat) → Nat → List Nat
  | [], _ => []
  | (n, ma) :: r, total => if total ≤ 4000 then [] else n :: limitGroup r (total - ma)

/-- A group has drawn more than 4.0 A for 10 ms (R372). -/
def groupLimit (g : Fin 2) (milliamps : List Nat) (f : P3) : P3 :=
  let l := ((List.range 8).map fun j => (8 * g.val + (7 - j), milliamps.getD (7 - j) 0)).filter fun e => doCommanded f e.1
  let off := limitGroup l (l.foldl (fun t e => t + e.2) 0)
  if f.powered && !f.missing then
    { f with dos := Vector.ofFn fun (n : Fin 16) => if off.contains n.val then { f.dos[n] with groupOff := true } else f.dos[n] }
  else f

/-- A write of 1 to 5400h:0B (R372). -/
def clearLatched (f : P3) : P3 := { f with dos := f.dos.map fun x => { x with short := false, groupOff := false } }

/-- An event of the outputs of P3, with its records. -/
def onDos (g : P3 → P3) (s : State) : State := onP3 .f0 g (recordDos s.p3 (g s.p3)) s

/-! ### Analog outputs (R377, R378) -/

/-- The readback of an analog output (R378): more than 100 mV is more than 327.67 codes. A change of code settles within 20 µs (R363), and a
readback before that counts for neither run. -/
def aoRead (n : Fin 16) (code : Int) (limiting : Bool) (f : P3) : P3 :=
  if !f.powered then f
  else if f.missing then f
  else
    let k := aoCommanded f n
    let far := decide (328 ≤ ((if k = -32768 then -32767 else k) - code).natAbs)
    let one (x : AoState) : AoState :=
      if f.clock < f.aoAt[n] + 20 then { x with limiting := limiting } else
      let bad := if far then min 3 (x.badRun + 1) else 0
      let good := if far then 0 else min 3 (x.goodRun + 1)
      { limiting := limiting, badRun := bad, goodRun := good
        deviation := if bad = 3 then true else if good = 3 then false else x.deviation }
    { f with aos := upd f.aos n one }

/-- The records of an analog output's faults (R378): kind 1 CURRENT_LIMIT, kind 2 DEVIATION. -/
def recordAo (n : Fin 16) (old new : AoState) (s : P1) : P1 :=
  let one (kind : Nat) (a b : Bool) (t : P1) : P1 :=
    if !a && b then recordAlarm true 0x0B06 (doParam n kind) (doParam n kind) t
    else if a && !b then lower 0x0B06 (doParam n kind) t else t
  one 2 old.deviation new.deviation (one 1 old.limiting new.limiting s)

/-! ### Writes that wait for their frame (R364) -/

/-- The die that an output object's frame goes to. -/
def heldDie (k : Nat) : Option (Fin 2) := if k = ob 0x5400 7 then some 0 else if k / 256 = 0x5505 then some 1 else none

/-- A write of an output object: answered when its frame is confirmed, where its tests pass (R364, R538). -/
def requestHeld (w k : Nat) (d : Fin 2) (x : Val) (r : Rule P1) (s : P1) : P1 :=
  if verdict w k x r s = 0 then
    let t := forward w k x (r.eff s)
    if w = 0 then t else { t with acks := t.acks ++ [⟨d.val, w, k, s.rd k, false⟩] }
  else answer w k (verdict w k x r s) (r.refused (verdict w k x r s) s)

/-- A write of an output object as a command. -/
def onHeldReq (w k : Nat) (d : Fin 2) (x : Val) (r : Rule P1) (s : State) : Out :=
  .next { s with p1 := if s.p1.serves then requestHeld w k d x r s.p1 else discardWrite w k x s.p1 }

/-- The rule of 5400h:07 (R371): a change of a compare output is refused; with the die's link failed the frame cannot be
confirmed. -/
def doCommandRule (v : Int) : Rule P1 where
  mode := fun _ => 0
  check := fun s =>
    if (List.range 16).any (fun n => bitOf v n ≠ s.bit (ob 0x5400 7) n && (compareOutput n s).isSome) then abRange else 0
  busy := fun s => if s.fldLink[(0 : Fin 2)] then 0 else abHardware
  eff := fun s => s.wr (ob 0x5400 7) v

/-- The rule of 5505h (R377): an assigned output is written only by the module. -/
def aoCodeRule (n : Fin 16) (v : Int) : Rule P1 where
  mode := fun _ => 0
  check := fun s => if aoAssigned n s then abRange else 0
  busy := fun s => if s.fldLink[(1 : Fin 2)] then 0 else abHardware
  eff := fun s => { s.wr (ob 0x5505 (n.val + 1)) v with ao := s.ao.set n v }

/-- A confirmed frame answers the writes that it carried (R364). -/
def frameConfirm (d : FieldDie) (s : P1) : P1 :=
  let mine (a : FieldAck) : Bool := a.die = (fieldIdx d).val && a.carried
  (s.acks.filter mine).foldl (fun t a => answer a.sess a.key 0 t) { s with acks := s.acks.filter fun a => !mine a }

/-- A link that fails before the confirmation (R364): a hardware-error abort, and the output keeps its previous value. -/
def frameLost (d : FieldDie) (s : P1) : P1 :=
  let mine := s.acks.filter fun a => a.die = (fieldIdx d).val
  let undo (t : P1) (a : FieldAck) : P1 :=
    let u := t.wr a.key a.old
    answer a.sess a.key abHardware
      (if h : a.key / 256 = 0x5505 ∧ 1 ≤ a.key % 256 ∧ a.key % 256 ≤ 16 then
        { u with ao := u.ao.set (a.key % 256 - 1) a.old (by omega) } else u)
  mine.reverse.foldl undo { s with acks := s.acks.filter fun a => a.die ≠ (fieldIdx d).val }

/-- The rule of 5400h:0B (R372). -/
def clearLatchedRule : Rule P1 where
  mode := fun _ => 0
  check := fun _ => 0
  busy := fun s => if s.fldLink[(0 : Fin 2)] then 0 else abHardware
  eff := fun s => { s with linkOut := s.linkOut ++ [.clearLatched] }

/-! ### Meanings -/

/-- FIELD_FRAME (R363). -/
def execFieldFrame (d : FieldDie) (s : State) : Out := .next (fieldFrame d s)

/-- DO_COMMAND_WRITE (R364). -/
def execDoCommandWrite (w : Nat) (v : Int) (s : State) : Out :=
  onHeldReq w (ob 0x5400 7) 0 (.num v) (doCommandRule v) s

/-- AO_CODE_WRITE (R377). -/
def execAoCodeWrite (w : Nat) (n : Fin 16) (v : Int) (s : State) : Out :=
  onHeldReq w (ob 0x5505 (n.val + 1)) 1 (.num v) (aoCodeRule n v) s

/-- FIELD_FRAME_CONFIRM (R364). -/
def execFieldFrameConfirm (d : FieldDie) (s : State) : Out := onP1 (frameConfirm d) s

/-- FIELD_SILENCE (R365). -/
def execFieldSilence (d : FieldDie) (s : State) : Out := .next (onP3 d (fieldSilence d) id s)

/-- FLD_MEASUREMENT (R366). -/
def execFldMeasurement (tenMillivolts : Nat) (s : State) : Out :=
  .next (onP3 .f0 (fldMeasure tenMillivolts) (recordFld s.p3 (fldMeasure tenMillivolts s.p3)) s)

/-- DO_READBACK (R372). -/
def execDoReadback (terminals loaded : Nat) (s : State) : Out := .next (onDos (doReadback terminals loaded) s)

/-- DO_SHORT (R372). -/
def execDoShort (n : Fin 16) (s : State) : Out := .next (onDos (doShort n) s)

/-- SHORT_RETRY (R372): only where 5400h:0A asks for it. -/
def execShortRetry (n : Fin 16) (s : State) : Out :=
  if s.p1.rd (ob 0x5400 0x0A) = 1 then .next (onDos (shortRetry n) s) else .next s

/-- DO_THERMAL (R372). -/
def execDoThermal (n : Fin 16) (hot : Bool) (s : State) : Out :=
  .next (onDos (setDo n fun x => { x with thermal := hot }) s)

/-- GROUP_LIMIT (R372). -/
def execGroupLimit (g : Fin 2) (milliamps : List Nat) (s : State) : Out := .next (onDos (groupLimit g milliamps) s)

/-- AO_READBACK (R378). -/
def execAoReadback (n : Fin 16) (code : Int) (limiting : Bool) (s : State) : Out :=
  let f := aoRead n code limiting
  .next (onP3 .f1 f (fun t => recordAo n s.p3.aos[n] (f s.p3).aos[n] (t.wr (ob 0x5507 (n.val + 1)) (ofBits 16 (toBits 16 code)))) s)

end Sys2Proof.Machine
end

