-- ==== Sys2Proof/Machine/Guard.lean ====
section
/-! DEFINITION. The safety channel (chapter "Safety channel", R384–R419): package P2, its evaluation, and what the core
sees of it. -/

namespace Sys2Proof.Machine

/-! ### The block in force and its check value (R411–R413) -/

/-- A value of the block in force. -/
def P2.blk (p : P2) (k : Nat) : Int := odGet p.block k

/-- Bit g of a group mask of the block. -/
def P2.groupBit (p : P2) (k : Nat) (g : Nat) : Bool := bitOf (p.blk k) g

/-- A key of the safety parameter block. -/
def inBlock (k : Nat) : Bool := 0x6800 ≤ k / 256 && k / 256 < 0x6880

/-- The type of an object. -/
def tyOf (k : Nat) : Ty := match rowOf k with
  | some r => r.ty
  | none => .u32

/-- The image of a block (R412). -/
def blockImage (b : Od) : List Byte :=
  (allKeys.filter inBlock).flatMap fun k => imageEntry k (tyOf k) (.num (odGet b k))

/-- The check value of a block (R412). -/
def checkOf (b : Od) : Nat := crc32c (blockImage b)

/-- The bit map of groups that a list of group numbers names. -/
def groupsUsed (p : P2) : Int := p.blk (ob 0x6800 1)

/-- Sector axes with a thruster. -/
def boundAxes (p : P2) : List (Fin 8) := (List.finRange 8).filter fun (a : Fin 8) => p.blk (ob (0x6820 + a) 1) ≠ 0xFF

/-- The gaps between consecutive boundaries of a sector axis, clockwise; they add up to one revolution where the
boundaries run strictly clockwise without overlap. -/
def gaps (l : List Int) (cpr : Int) : List Int :=
  match l with
  | [] => []
  | x :: r => List.zipWith (fun p q => (q - p) % cpr) (x :: r) (r ++ [x])

/-- The conditions of R413 for one sector axis; `cprAxis` is 5200h+a:04. -/
def sectorOk (p : P2) (cprAxis : Int) (a : Fin 8) : Bool :=
  let n := p.blk (ob (0x6820 + a) 2)
  let cpr := p.blk (ob (0x6820 + a) 0x0C)
  let l := boundaries p.blk a
  let g := gaps l cpr
  1 ≤ n && n ≤ 4 && cpr = cprAxis && l.all (fun x => x < cpr) && g.foldl (· + ·) 0 = cpr
    && g.all fun x => 2 * p.blk (ob (0x6820 + a) 0x0B) + 1 ≤ x

/-- A group named by the block is in use: FFh names none. -/
def groupNamed (p : P2) (g : Int) : Bool := g = 0xFF || bitOf (groupsUsed p) g.toNat

/-- R413; `cprAxis` gives 5200h+a:04. -/
def blockOk (p : P2) (cprAxis : Fin 8 → Int) : Bool :=
  ((List.range 8).all fun n => p.blk (ob 0x6801 (n + 1)) ≠ 1 || p.blk (ob 0x6802 (n + 1)) ≠ 0)
    && ((List.range 16).all fun i => groupNamed p (p.blk (ob 0x6810 (i + 1))))
    && ((List.range 8).all fun n => Nat.land (p.blk (ob 0x6802 (n + 1))).toNat (groupsUsed p).toNat = (p.blk (ob 0x6802 (n + 1))).toNat)
    && ((boundAxes p).all fun (a : Fin 8) => sectorOk p (cprAxis a) a
        && p.blk (ob 0x6810 ((p.blk (ob (0x6820 + a) 1)).toNat + 1)) ≠ 0xFF)
    && decide ((boundAxes p).map fun (a : Fin 8) => p.blk (ob (0x6820 + a) 1)).Nodup

/-! ### Channels -/

/-- A channel of P2. -/
def P2.chan (p : P2) : Chan → GuardChan
  | .saf => p.saf
  | .winter => p.win

/-- P2 with a channel changed. -/
def P2.setChan (p : P2) (c : Chan) (f : GuardChan → GuardChan) : P2 :=
  match c with
  | .saf => { p with saf := f p.saf }
  | .winter => { p with win := f p.win }

/-- The other channel. -/
def otherChan : Chan → Chan
  | .saf => .winter
  | .winter => .saf

/-- The encoding of a safety channel (R492). -/
def chanCode : Chan → Nat
  | .saf => 0
  | .winter => 1

/-- The channel works: P2 has supply, and the channel is not stopped. -/
def P2.works (p : P2) (c : Chan) : Bool := p.powered && (p.chan c).st ≠ .stopped

/-- Line a of an input demands (R390). -/
def demandsA (x : SafetyInput) : Bool := !x.a

/-- Line b of input n demands: it differs from its healthy reading (R390). -/
def demandsB (p : P2) (n : Nat) (x : SafetyInput) : Bool := if p.blk (ob 0x6803 (n + 1)) = 1 then x.b else !x.b

/-- Both lines of an input are healthy. -/
def inputHealthy (p : P2) (n : Nat) (x : SafetyInput) : Bool := !demandsA x && !demandsB p n x

/-- An E-stop input is in demand in a channel (R390). -/
def inDemand (p : P2) (c : GuardChan) (n : Fin 8) : Bool :=
  p.blk (ob 0x6801 (n.val + 1)) = 1 && (demandsA c.inputs[n] || demandsB p n c.inputs[n] || (c.inputs[n]).discrep)

/-- A sector axis inhibits its thruster in a channel (R399, R400): its region is even, not loaded (assumption 29), or the
channels disagree. -/
def axisInhibits (p : P2) (c : GuardChan) (a : Fin 8) : Bool :=
  p.blk (ob (0x6820 + a) 1) ≠ 0xFF
    && (p.disagree[a] || match c.region[a] with
      | some r => r % 2 = 0
      | none => true)

/-- The group of the thruster of a sector axis. -/
def axisGroup (p : P2) (a : Fin 8) : Int := p.blk (ob 0x6810 ((p.blk (ob (0x6820 + a) 1)).toNat + 1))

/-- Condition 1 of R393. -/
def cond1 (p : P2) (g : Fin 4) : Bool := bitOf (groupsUsed p) g
/-- Condition 2 of R393. -/
def cond2 (p : P2) : Bool := p.confirmed && p.startDone
/-- Condition 3 of R393. -/
def cond3 (p : P2) (c : GuardChan) (g : Fin 4) : Bool :=
  (List.finRange 8).all fun (n : Fin 8) => !(p.groupBit (ob 0x6802 (n.val + 1)) g && inDemand p c n)
/-- Condition 4 of R393. -/
def cond4 (p : P2) (c : GuardChan) (g : Fin 4) : Bool :=
  (List.finRange 8).all fun (a : Fin 8) => !(axisInhibits p c a && axisGroup p a = g.val)
/-- Condition 5 of R393. -/
def cond5 (p : P2) (c : GuardChan) (g : Fin 4) : Bool := !(p.groupBit (ob 0x6800 2) g && c.silent)
/-- Condition 6 of R393. -/
def cond6 (p : P2) (g : Fin 4) : Bool :=
  !p.swFault[(⟨2 * g.val, by omega⟩ : Fin 8)] && !p.swFault[(⟨2 * g.val + 1, by omega⟩ : Fin 8)]

/-- Conditions 1, 2, 3, 5 and 6 of R393, whose failure sets AWAIT_RESTART. -/
def baseConds (p : P2) (c : GuardChan) (g : Fin 4) : Bool :=
  cond1 p g && cond2 p && cond3 p c g && cond5 p c g && cond6 p g

/-- Conditions 1–6 of R393. -/
def restartConds (p : P2) (c : GuardChan) (g : Fin 4) : Bool := baseConds p c g && cond4 p c g

/-- AWAIT_RESTART of a group after an evaluation (R393): set where a condition other than 4 fails; cleared by automatic
restart where conditions 1–6 hold. -/
def nextAwait (p : P2) (c : GuardChan) (g : Fin 4) : Bool :=
  if !baseConds p c g then true
  else if p.groupBit (ob 0x6800 6) g && cond4 p c g then false
  else c.await[g]

/-- A channel closes its switch of a group only while every condition of R393 holds in its own evaluation, it runs and
P2 has supply (R393, R581). -/
def mayClose (p : P2) (c : GuardChan) (g : Fin 4) : Bool :=
  p.powered && c.st = .running && restartConds p c g && !nextAwait p c g

/-- A channel's own evaluation of every group. -/
def evalChan (p : P2) (c : GuardChan) : GuardChan :=
  { c with await := Vector.ofFn fun g => nextAwait p c g, closed := Vector.ofFn fun g => mayClose p c g }

/-- Both channels evaluate, each for itself. -/
def evaluate (p : P2) : P2 := { p with saf := evalChan p p.saf, win := evalChan p p.win }

/-- A group is closed: both of its switches are (R384). A test pulse does not count (assumption 30). -/
def groupClosed (p : P2) (g : Fin 4) : Bool := (p.saf.closed)[g] && (p.win.closed)[g]

/-- A group is in use and closed, and no switch of it is under a pulse. -/
def switchClosed (p : P2) (c : Chan) (g : Fin 4) : Bool :=
  ((p.chan c).closed)[g] && p.pulse ≠ some ⟨2 * g.val + chanCode c, by cases c <;> simp [chanCode] <;> omega⟩

/-! ### Reports (R405, R419) -/

/-- An event waits for the guard link; while the link is down 64 events wait and further ones are counted. -/
def report (code param : Nat) (p : P2) : P2 :=
  if p.saf.st = .stopped || !p.powered then p
  else if !p.link && 64 ≤ p.reports.length then { p with lostReports := min 0xFFFFFFFF (p.lostReports + 1) }
  else { p with reports := p.reports ++ [⟨code, param⟩] }

/-- Report where a condition has changed. -/
def reportIf (b : Bool) (code param : Nat) (p : P2) : P2 := if b then report code param p else p

/-- The mask of groups of an input. -/
def inputGroups (p : P2) (n : Nat) : Int := p.blk (ob 0x6802 (n + 1))

/-- SF-1 demands that SAF now sees and did not before. -/
def reportDemands (old p : P2) : P2 :=
  (List.finRange 8).foldl (fun q (n : Fin 8) =>
    reportIf (inDemand p p.saf n && !inDemand old old.saf n) 0x0C00 (packDetails [(8, n.val), (16, inputGroups p n)]) q) p

/-- A sector axis inhibits in either channel. -/
def eitherInhibits (p : P2) (a : Fin 8) : Bool := axisInhibits p p.saf a || axisInhibits p p.win a

/-- SF-2 inhibits set and cleared (R399). -/
def reportInhibits (old p : P2) : P2 :=
  (List.finRange 8).foldl (fun q (a : Fin 8) =>
    reportIf (eitherInhibits p a ≠ eitherInhibits old a) 0x0C02
      (packDetails [(8, if eitherInhibits p a then 1 else 0), (8, p.blk (ob (0x6820 + a) 1))]) q) p

/-- Groups that have closed. -/
def reportClosed (old p : P2) : P2 :=
  (List.finRange 4).foldl (fun q (g : Fin 4) =>
    reportIf (groupClosed p g && !groupClosed old g) 0x0C01 (packDetails [(8, g.val)]) q) p

/-! ### Tests (R406–R408) -/

/-- The group of an item of the rotation. -/
def itemGroup (i : Fin 8) : Fin 4 := ⟨i.val / 2, by omega⟩

/-- The channel that owns the switch of an item. -/
def itemChan (i : Fin 8) : Chan := if i.val % 2 = 0 then .saf else .winter

/-- Every condition of R393 for a group, in both channels. -/
def groupConds (p : P2) (g : Fin 4) : List Bool :=
  [cond1 p g, cond2 p, cond3 p p.saf g, cond3 p p.win g, cond4 p p.saf g, cond4 p p.win g, cond5 p p.saf g,
    cond5 p p.win g, cond6 p g, (p.saf.await)[g], (p.win.await)[g]]

/-- A demand prevails over a test (R408): a change of a condition of the group abandons the slot; the rotation stays. -/
def abandonTest (old p : P2) : P2 :=
  match old.slot with
  | none => p
  | some i =>
    if p.slot = some i && groupConds p (itemGroup i) ≠ groupConds old (itemGroup i) then
      report 0x0C04 (packDetails [(8, i.val)])
        { p with slot := none, pulse := none, passed := false, skipped := min 0xFFFFFFFF (p.skipped + 1) }
    else p

/-- The two regions of a sector axis differ. -/
def regionsDiffer (p : P2) (a : Fin 8) : Bool := p.saf.region[a] ≠ p.win.region[a]

/-- SAF compares the regions (R400): since when they differ, and disagreements that end when they agree again. A line that a stopped SAF
has left active stays active. -/
def compareRegions (p : P2) : P2 :=
  { p with
    differ := Vector.ofFn fun (a : Fin 8) => if regionsDiffer p a then some ((p.differ[a]).getD p.clock) else none
    disagree := Vector.ofFn fun (a : Fin 8) => p.disagree[a] && (regionsDiffer p a || !p.works .saf) }

/-- P2 after an event: both channels evaluate, a test gives way, and what changed is reported. -/
def settle (old new : P2) : P2 :=
  let p := evaluate (compareRegions new)
  abandonTest old (reportClosed old (reportInhibits old (reportDemands old p)))

/-! ### Inputs, restart, silence -/

/-- A sample accepted by a channel (R390, R391). -/
def inputChange (c : Chan) (n : Fin 8) (a b : Bool) (p : P2) : P2 :=
  if !p.works c then p
  else
    let x : SafetyInput := (p.chan c).inputs[n]
    let w : SafetyInput := { x with a := a, b := b }
    let released := demandsA w && demandsB p n w
    let y : SafetyInput := { w with
      alone := if demandsA w ≠ demandsB p n w then some (x.alone.getD p.clock) else none
      pressAt := if inputHealthy p n w then (if inputHealthy p n x then x.pressAt else some p.clock)
        else if released then none else x.pressAt
      press := if released then (match x.pressAt with
        | some t => some (p.clock - t)
        | none => x.press) else x.press }
    let bothNow := x.discrep && (x.both || released)
    let z : SafetyInput := if x.discrep && x.both && inputHealthy p n y then { y with discrep := false, both := false }
      else { y with both := bothNow }
    p.setChan c fun t => { t with inputs := t.inputs.set n z }

/-- The discrepancy time has passed (R391): one line has demanded alone for all of it. -/
def discrepancy (c : Chan) (n : Fin 8) (p : P2) : P2 :=
  let x := ((p.chan c).inputs)[n]
  let long : Bool := x.alone.any fun t => (p.blk (ob 0x6800 5)).toNat * 1000 ≤ p.clock - t
  if p.works c && !x.discrep && demandsA x ≠ demandsB p n x && long then
    report 0x0C07 (packDetails [(8, n.val)])
      (p.setChan c fun t => { t with inputs := t.inputs.set n { x with discrep := true, both := false } })
  else p

/-- A restart of groups in a channel (R393–R395): only a group that meets conditions 1–6. -/
def restartGroups (c : Chan) (mask : Nat) (p : P2) : P2 :=
  if p.works c then
    p.setChan c fun t => { t with await := Vector.ofFn fun (g : Fin 4) =>
      t.await[g] && !(mask.testBit g && restartConds p t g) }
  else p

/-- A span of P2's µs count as a channel's own clock shows it, which deviates from the count by `drift` over the span (R394, R402;
assumption 127). -/
def ownSpan (span : Nat) (drift : Int) : Nat := (span + drift).toNat

/-- The release of a press acts (R394), with the duration that the channel has timed. -/
def restartPress (c : Chan) (n : Fin 8) (drift : Int) (p : P2) : P2 :=
  let x := ((p.chan c).inputs)[n]
  let q := p.setChan c fun t => { t with inputs := t.inputs.set n { x with press := none } }
  match x.press with
  | none => p
  | some span =>
    let micros := ownSpan span drift
    if p.works c && p.blk (ob 0x6801 (n.val + 1)) = 2 && !x.discrep then
      if 100000 ≤ micros && micros < 3000000 then restartGroups c 0xF q
      else report 0x0C0D (min 0xFFFFFFFF (micros / 1000)) q
    else p

/-- A channel finds the other one silent, or no longer (R402). -/
def setSilent (observer : Chan) (b : Bool) (p : P2) : P2 :=
  let t := p.setChan observer fun t => { t with silent := b, good := 0 }
  reportIf ((p.chan observer).silent ≠ b) 0x0C03
    (packDetails [(8, if b then 1 else 0), (8, chanCode (otherChan observer))]) t

/-- An interval of the other channel's heartbeat has reached 2.0 ms (R402). -/
def channelSilence (observer : Chan) (p : P2) : P2 :=
  if p.works observer && 2000 ≤ p.clock - (p.chan observer).edgeAt then setSilent observer true p else p

/-- An edge of the other channel's heartbeat ends an interval (R402). A stopped channel sends none. -/
def heartbeatEdge (observer : Chan) (drift : Int) (p : P2) : P2 :=
  if !p.works observer || !p.works (otherChan observer) then p
  else
    let micros := ownSpan (p.clock - (p.chan observer).edgeAt) drift
    let q := p.setChan observer fun t => { t with edgeAt := p.clock }
    if micros < 500 || 2000 ≤ micros then setSilent observer true q
    else if (p.chan observer).silent && 1000 ≤ (p.chan observer).good + 1 then setSilent observer false q
    else q.setChan observer fun t => { t with good := t.good + 1 }

/-- A fault, a halt or its clock stops a channel: every switch of it opens at once (R403, R581). -/
def stopChannel (c : Chan) (p : P2) : P2 := p.setChan c fun t => { t with st := .stopped }

/-! ### Sectors (R396–R401) -/

/-- N of a sector axis: the number of its boundaries. -/
def boundaryCount (p : P2) (a : Fin 8) : Nat := (boundaries p.blk a).length

/-- A pulse on a line moves Winter logic's counter (R397). -/
def sectorPulse (a : Fin 8) (up : Bool) (p : P2) : P2 :=
  let n := boundaryCount p a
  if !p.works .winter || n = 0 then p
  else match p.win.region[a] with
    | none => p
    | some r => p.setChan .winter fun t => { t with region := t.region.set a (some ((r + (if up then 1 else n - 1)) % n)) }

/-- The region that a position lies in (R396). -/
def regionOf (p : P2) (a : Fin 8) (pos : Int) : Option Nat :=
  let l := boundaries p.blk a
  let cpr := p.blk (ob (0x6820 + a) 0x0C)
  let g := gaps l cpr
  (List.range l.length).find? fun j => (pos - l.getD j 0) % cpr < g.getD j 0

/-- SAF's region after a motion by `d` from `pos` (R398), over at most `fuel` boundaries. -/
def moveRegion (l : List Int) (cpr h : Int) : Nat → Nat → Int → Int → Nat
  | 0, r, _, _ => r
  | f + 1, r, pos, d =>
    let n := l.length
    if 0 < d then
      let t := (l.getD ((r + 1) % n) 0 + h - pos) % cpr
      if t ≤ d then moveRegion l cpr h f ((r + 1) % n) (pos + t) (d - t) else r
    else if d < 0 then
      let t := (pos - (l.getD r 0 - h)) % cpr
      if t ≤ -d then moveRegion l cpr h f ((r + n - 1) % n) (pos - t) (d + t) else r
    else r

/-- The shorter way between two positions of a sector axis. -/
def shortWay (cpr p q : Int) : Int :=
  let m := (q - p) % cpr
  if cpr < 2 * m then m - cpr else m

/-- A position frame (R397, R398): the first one after a sector load gives both channels the start region; `loads` and
`loaded` are the axis's. While its sectors are not loaded the axis stays in hold, with the regions kept (R401). -/
def positionFrame (a : Fin 8) (pos : Int) (loads : Nat) (loaded : Bool) (p : P2) : P2 :=
  if !p.works .saf || !p.link || boundaryCount p a = 0 then p
  else if !loaded then { p with frameAt := p.frameAt.set a p.clock }
  else
    let q := reportIf p.hold[a] 0x0C0C (packDetails [(8, 0), (8, a.val)]) { p with hold := p.hold.set a false, frameAt := p.frameAt.set a p.clock }
    let keep (t : GuardChan) : GuardChan := { t with position := t.position.set a (some pos) }
    if loads ≠ p.seenLoads[a] then
      let r := regionOf p a pos
      let start (t : GuardChan) : GuardChan := { t with region := t.region.set a r }
      { ((q.setChan .saf fun t => keep (start t)).setChan .winter start) with seenLoads := q.seenLoads.set a loads }
    else match p.saf.region[a], p.saf.position[a] with
      | some r, some old =>
        let cpr := p.blk (ob (0x6820 + a) 0x0C)
        let r' := moveRegion (boundaries p.blk a) cpr (p.blk (ob (0x6820 + a) 0x0B)) 16 r old (shortWay cpr old pos)
        q.setChan .saf fun t => keep { t with region := t.region.set a (some r') }
      | _, _ => q.setChan .saf keep

/-- The regions have differed for 100 ms (R400). -/
def sectorDisagree (a : Fin 8) (p : P2) : P2 :=
  if p.works .saf && !p.disagree[a] && (p.differ[a].any fun t => 100000 ≤ p.clock - t) then
    let wait (t : GuardChan) : GuardChan :=
      { t with await := Vector.ofFn fun (g : Fin 4) => t.await[g] || axisGroup p a = g.val }
    report 0x0C0B (packDetails [(8, a.val)])
      ((({ p with disagree := p.disagree.set a true }).setChan .saf wait).setChan .winter wait)
  else p

/-- A sector axis enters hold (R401): it has stopped, its frames have been missing for 3 servo ticks, or the guard link has failed. -/
def sectorHold (a : Fin 8) (loaded : Bool) (p : P2) : P2 :=
  let lost := !loaded || !p.link || decide (750 ≤ p.clock - p.frameAt[a])
  if p.powered && !p.hold[a] && p.blk (ob (0x6820 + a) 1) ≠ 0xFF && lost then
    report 0x0C0C (packDetails [(8, 1), (8, a.val)]) { p with hold := p.hold.set a true }
  else p

/-! ### Test slots (R406–R409) -/

/-- The next item of the rotation whose group is in use. -/
def nextItem (p : P2) : Option (Fin 8) :=
  ((List.range 8).map fun i => (⟨(p.rotation.val + i) % 8, by omega⟩ : Fin 8)).find? fun i => cond1 p (itemGroup i)

/-- The item after one. -/
def after (i : Fin 8) : Fin 8 := ⟨(i.val + 1) % 8, by omega⟩

/-- An item passes its test (R409). -/
def itemPasses (i : Fin 8) (p : P2) : P2 :=
  { p with lastPass := p.lastPass.set i p.clock, overdue := p.overdue.set i false, rotation := after i, slot := none,
           pulse := none, passed := false }

/-- A switch fault of an item (R407). -/
def setSwitchFault (i : Fin 8) (p : P2) : P2 :=
  if p.swFault[i] then p else report 0x0C05 (packDetails [(8, i.val)]) { p with swFault := p.swFault.set i true }

/-- w, the width of an off-pulse in µs. -/
def pulseWidth (p : P2) : Nat := (p.blk (ob 0x6800 4)).toNat

/-- A test slot starts (R406), every test period. Its verdict stands once its window has passed (R408). -/
def testSlot (p : P2) : P2 :=
  if !p.works .winter || p.clock < p.slotAt + (p.blk (ob 0x6800 3)).toNat * 1000 then p
  else match nextItem p with
    | none => p
    | some i =>
      if groupClosed p (itemGroup i) then { p with slot := some i, pulse := some i, passed := false, slotAt := p.clock }
      else if switchClosed p (itemChan i) (itemGroup i) then { p with rotation := after i, slotAt := p.clock }
      else { p with slot := some i, pulse := none, passed := true, slotAt := p.clock }

/-- The end of the off-pulse (R406, R407). -/
def testPulseEnd (readsOpen : Bool) (p : P2) : P2 :=
  match p.pulse with
  | none => p
  | some i =>
    if p.clock < p.slotAt + pulseWidth p then p
    else if readsOpen then { p with pulse := none, passed := true }
    else setSwitchFault i { p with
      slot := none, pulse := none, passed := false, rotation := after i, failed := min 0xFFFFFFFF (p.failed + 1) }

/-- The end of a slot window (R406): an item that has passed is passed. -/
def closeSlot (p : P2) : P2 :=
  match p.slot with
  | none => p
  | some i => if p.passed && p.slotAt + pulseWidth p + 100 ≤ p.clock then itemPasses i p else p

/-- The item of a test (R406): HS0, LS0 … LS3. -/
def itemIndex (t : TestItem) : Fin 8 := ⟨2 * t.group.val + (if t.high then 0 else 1), by split <;> omega⟩

/-- An item has had no pass for 24 h (R409). -/
def testOverdue (i : Fin 8) (p : P2) : P2 :=
  if p.overdue[i] || !p.powered || p.clock < p.lastPass[i] + 86400000000 then p
  else report 0x0C06 (packDetails [(8, i.val)]) { p with overdue := p.overdue.set i true }

/-! ### Start checks, block and confirmation (R410–R414) -/

/-- The result of a start check reported (R410). -/
def reportCheck (ok : Bool) (step : Nat) (p : P2) : P2 := report 0x0C0E (packDetails [(8, if ok then 1 else 0), (8, step)]) p

/-- START_DONE (R410): steps 1 and 2 passed in both channels, and the block has arrived. -/
def judgeStart (p : P2) : P2 :=
  { p with startDone := p.startDone || (p.saf.st = .running && p.win.st = .running && p.haveBlock) }

/-- A channel places its check value over the block in force (R411). -/
def placeValue (c : Chan) (p : P2) : P2 :=
  if p.works c && p.haveBlock then p.setChan c fun t => { t with check := checkOf p.block, fresh := true } else p

/-- The block arrives at start (R410): step 3 decides CONFIRMED. -/
def blockArrives (b : Od) (p : P2) : P2 :=
  if p.haveBlock || !p.powered then p
  else
    let q := placeValue .winter (placeValue .saf { p with block := b, haveBlock := true })
    let ok := q.saf.st ≠ .failed && q.win.st ≠ .failed && q.works .saf && q.works .winter
      && q.confirmedValue = some (checkOf b)
    judgeStart (reportCheck ok 3 { q with confirmed := ok })

/-- The switches of a channel are sound again: SWITCH_FAULT clears when the start checks pass (R407). -/
def clearSwitchFaults (c : Chan) (p : P2) : P2 :=
  { p with swFault := Vector.ofFn fun (i : Fin 8) => p.swFault[i] && itemChan i ≠ c }

/-- A channel that has passed its checks runs; every group waits for a restart (R393). -/
def runChannel (c : Chan) (p : P2) : P2 :=
  clearSwitchFaults c (p.setChan c fun t => { t with st := .running, await := Vector.replicate 4 true })

/-- The start checks of a channel are done (R410, R582). A restarted channel makes step 3 over the block in force; one
that fails is stopped. -/
def checksDone (c : Chan) (s1 s2 : Bool) (p : P2) : P2 :=
  if (p.chan c).st ≠ .checking || !p.powered then p
  else
    let q := reportCheck s2 2 (reportCheck s1 1 p)
    if p.startDone then
      let s3 := p.confirmed && p.confirmedValue = some (checkOf p.block)
      let r := reportCheck s3 3 q
      if s1 && s2 && s3 then placeValue c (runChannel c r) else stopChannel c r
    else if s1 && s2 then judgeStart (runChannel c q)
    else q.setChan c fun t => { t with st := .failed }

/-- A restart of a stopped channel begins (R582): its switches stay open. -/
def restartChannel (c : Chan) (p : P2) : P2 :=
  if (p.chan c).st = .stopped && p.powered && !p.halted[(match c with | .saf => 0 | .winter => 1 : Fin 2)] then
    p.setChan c fun t => { t with st := .checking }
  else p

/-- A subindex of the block is written (R411): CONFIRMED clears. -/
def writeBlock (k : Nat) (v : Int) (p : P2) : P2 :=
  let stale (t : GuardChan) : GuardChan := { t with fresh := false }
  report 0x0C0A 0 ((({ p with block := odPut p.block k v, confirmed := false }).setChan .saf stale).setChan .winter stale)

/-- A confirmation is accepted (R414). -/
def acceptConfirm (sess : Nat) (p : P2) : P2 :=
  let none4 (t : GuardChan) : GuardChan := { t with region := Vector.replicate 8 none }
  report 0x0C08 (packDetails [(8, sess), (24, p.saf.check)])
    ((({ p with confirmed := true, confirmedValue := some p.saf.check }).setChan .saf none4).setChan .winter none4)

/-- W_CHECK_MATCH (R417). -/
def checkMatch (p : P2) : Bool := p.saf.check = p.win.check && p.saf.fresh && p.win.fresh

/-- A message of the guard link acts on P2 (R405). -/
def guardMessage (m : LinkMsg) (p : P2) : P2 :=
  match m with
  | .block k v => writeBlock k v p
  | .confirm w => acceptConfirm w p
  | .restart mask => if p.works .saf then restartGroups .winter mask (restartGroups .saf mask p) else p
  | .channels b =>
    let one (c : Chan) (a : Nat) (q : P2) : P2 := if blockHolds b a then restartChannel c q else q
    one .winter winterAddr (one .saf safAddr p)
  | .key b => { p with key := b }
  | .clearLatched | .resume _ | .halt _ => p

/-! ### What the core sees (R405, R416–R418) -/

/-- 1 or 0. -/
def b01 (b : Bool) : Int := if b then 1 else 0

/-- A bit map of an indexed test. -/
def mapBits (n : Nat) (f : Nat → Bool) : Int := (List.range n).foldl (fun m i => if f i then m + 2 ^ i else m) 0

/-- A vector's flag by number. -/
def flagAt {n : Nat} (v : Vector Bool n) (i : Nat) : Bool := v.toList.getD i false

/-- 6883h:01 (R417), CORE_LINK being up. -/
def safetyStatus (p : P2) : Int :=
  b01 p.confirmed + 2 * b01 p.startDone + 4 * b01 p.win.silent + 8 * b01 p.saf.silent + 16 * b01 (checkMatch p)
    + 32 * b01 (p.overdue.toList.any id) + 64 * b01 (p.disagree.toList.any id) + 128 * b01 (p.hold.toList.any id) + 256
    + 65536 * (List.finRange 4).foldl (fun m (g : Fin 4) => m + 2 ^ g.val * b01 (groupClosed p g)) 0
    + 1048576 * (List.finRange 4).foldl (fun m (g : Fin 4) => m + 2 ^ g.val * b01 (!cond6 p g)) 0

/-- 6884h:g+1 (R418). -/
def groupState (p : P2) (g : Fin 4) : Int :=
  b01 (switchClosed p .saf g) + 2 * b01 (switchClosed p .winter g)
    + 4 * b01 (!cond3 p p.saf g || !cond3 p p.win g) + 8 * b01 (!cond4 p p.saf g || !cond4 p p.win g)
    + 16 * b01 (!cond5 p p.saf g || !cond5 p p.win g) + 32 * b01 (!cond2 p) + 64 * b01 (!cond6 p g)
    + 128 * b01 ((p.saf.await)[g] || (p.win.await)[g])

/-- 6885h:n+1, as SAF sees it (R416). -/
def inputState (p : P2) (n : Fin 8) : Int :=
  let x := (p.saf.inputs)[n]
  b01 (!demandsA x) + 2 * b01 (!demandsB p n x) + 4 * b01 (inDemand p p.saf n) + 8 * b01 x.discrep

/-- A region as 6887h shows it. -/
def regionByte : Option Nat → Int
  | some r => r
  | none => 0xFF

/-- The status objects of the chapter, from P2. -/
def guardCells (p : P2) : List (Nat × Int) :=
  [(ob 0x6880 1, (p.saf.check : Int)), (ob 0x6880 2, (p.win.check : Int)),
    (ob 0x6880 3, if p.confirmed then ((p.confirmedValue.getD 0 : Nat) : Int) else 0), (ob 0x6883 1, safetyStatus p),
    (ob 0x6886 9, (p.skipped : Int)), (ob 0x6886 0x0A, (p.failed : Int)), (ob 0x6889 1, (p.lostReports : Int))]
    ++ ((List.finRange 4).map fun (g : Fin 4) => (ob 0x6884 (g.val + 1), groupState p g))
    ++ ((List.finRange 8).map fun (n : Fin 8) => (ob 0x6885 (n.val + 1), inputState p n))
    ++ ((List.finRange 8).map fun (i : Fin 8) =>
      (ob 0x6886 (i.val + 1), ((min 0xFFFFFFFF ((p.clock - p.lastPass[i]) / 1000000) : Nat) : Int)))
    ++ (List.finRange 8).map fun (a : Fin 8) => (ob 0x6887 (a.val + 1), regionByte p.saf.region[a] + 256 * regionByte p.win.region[a])

/-- SF-1 holds a thruster's group stopped (R388). -/
def groupStops (p : P2) (i : Fin 16) : Bool :=
  let g := p.blk (ob 0x6810 (i.val + 1))
  if h : 0 ≤ g ∧ g < 4 then !groupClosed p ⟨g.toNat, by omega⟩ else false

/-- A test ends when SF-1 stops its thruster (R281). -/
def stopTest (s : P1) : P1 :=
  if h : testIndex s < 16 then (if sf1Stopped ⟨testIndex s, h⟩ s then endTest s else s) else s

/-- SF1_STOPPED of every thruster (R388). -/
def showStopped (p : P2) (s : P1) : P1 :=
  stopTest ((List.finRange 16).foldl (fun t (i : Fin 16) => t.setBit (thrKey i 0x25) 5 (groupStops p i)) s)

/-- The condition of a class 0 alarm holds in P2. -/
def safetyHolds (p : P2) (code param : Nat) : Bool :=
  if code = 0x0C00 then (List.finRange 8).any fun (n : Fin 8) => n.val = param % 256 && inDemand p p.saf n
  else if code = 0x0C05 then flagAt p.swFault (param % 256)
  else if code = 0x0C06 then flagAt p.overdue (param % 256)
  else if code = 0x0C0B then flagAt p.disagree (param % 256)
  else if code = 0x0C0A then !p.confirmed
  else if code = 0x0C0E then (if param / 256 % 256 = 3 then !p.confirmed else !p.startDone)
  else true

/-- Alarms of the safety channel whose conditions have ended (R554). -/
def lowerSafety (p : P2) (s : P1) : P1 :=
  ((s.alarms ++ s.unlisted).filter fun x => x.cls = 0 && x.active && !safetyHolds p x.code x.param).foldl
    (fun t x => lower x.code x.param t) s

/-- The core's view of P2 (R405), while it runs and the guard link is up. -/
def syncGuard (s : State) : State :=
  if s.p1.phase = .run && s.p2.link then
    { s with p1 := lowerSafety s.p2 (showStopped s.p2 (s.p1.wrs (guardCells s.p2))) }
  else s

/-- An event of P2: its effect, both channels' evaluation, and the core's view. -/
def onP2 (f : P2 → P2) (s : State) : State := syncGuard { s with p2 := settle s.p2 (f s.p2) }

/-- The core's writes reach P2 over the guard link; a confirmation loads the sector entries of referenced axes (R341). -/
def flushGuard (s : State) : State :=
  if s.p1.linkOut = [] then s
  else
    let t := onP2 (fun p => s.p1.linkOut.foldl (fun q m => guardMessage m q) p) { s with p1 := { s.p1 with linkOut := [] } }
    if s.p1.linkOut.any (fun m => match m with | .confirm _ => true | _ => false) then
      { t with p1 := (List.finRange 8).foldl (fun u (a : Fin 8) =>
          if u.bit (axKey a 0x1A) 16 then loadSectors t.p2.blk a u else u) t.p1 }
    else t

/-- The blocks of P3 that a write restarts (R58). -/
def resumed (l : List LinkMsg) : List Nat :=
  l.filterMap fun m => match m with
    | .resume b => some b
    | _ => none

/-- The blocks of P3 that a failed self-test stops (R58). -/
def haltedBlocks (l : List LinkMsg) : List Nat :=
  l.filterMap fun m => match m with
    | .halt b => some b
    | _ => none

/-- The core's writes reach P2 and P3 over their links. -/
def flushLinks (s : State) : State :=
  if s.p1.linkOut = [] then s
  else
    let t := if s.p1.linkOut.contains .clearLatched then onDos clearLatched (flushGuard s) else flushGuard s
    let l := resumed s.p1.linkOut
    { t with p3 := { t.p3 with down := (t.p3.down.filter fun b => !l.any fun r => blockHolds r b) ++ haltedBlocks s.p1.linkOut } }

/-- A command of P1 whose effect reaches P2 or P3 over a barrier link. -/
def onLinks (f : P1 → P1) (s : State) : Out :=
  if s.p1.up then .next (flushLinks { s with p1 := f s.p1 }) else .next s

/-- A write whose effect reaches P2 or P3, as a command. -/
def onLinkReq (w k : Nat) (x : Val) (r : Rule P1) (s : State) : Out :=
  if s.p1.serves then .next (flushLinks { s with p1 := request w k x r s.p1 })
  else .next { s with p1 := discardWrite w k x s.p1 }

/-! ### Rules of the chapter's objects -/

/-- A message is handed to the guard link. -/
def sendGuard (m : LinkMsg) (s : P1) : P1 := { s with linkOut := s.linkOut ++ [m] }

/-- A write of the block (R411); with the guard link down it cannot be acknowledged (assumption 31). -/
def blockRule (p : P2) (k : Nat) (v : Int) : Rule P1 where
  mode := fun _ => 0
  check := fun _ => 0
  busy := fun _ => if p.link then 0 else abHardware
  eff := fun s => sendGuard (.block k v) (s.wr k v)

/-- The rule of 6881h:01 (R414). -/
def entryRule (w : Nat) (v : Int) : Rule P1 := effRule fun s => { s with entrySess := w }.wr (ob 0x6881 1) v

/-- 6881h:01 reads 0 after a confirmation, accepted or refused (R414). -/
def clearEntry (s : P1) : P1 := { s with entrySess := 0 }.wr (ob 0x6881 1) 0

/-- Every condition of R414. -/
def confirmOk (p : P2) (w : Nat) (s : P1) : Bool :=
  s.mode = 1 && s.entrySess = w && w ≠ 0 && s.rd (ob 0x6881 1) = p.saf.check && checkMatch p && p.link
    && !p.saf.silent && !p.win.silent && p.works .saf && p.works .winter && blockOk p fun a => s.rd (axKey a 4)

/-- The rule of 6882h:01 (R414). -/
def confirmRule (p : P2) (w : Nat) : Rule P1 where
  mode := fun _ => 0
  check := fun s => if confirmOk p w s then 0 else abRange
  busy := fun _ => 0
  eff := fun s => sendGuard (.confirm w) (clearEntry s)
  refused := fun a s => if a = abRange then record 0x0C09 0 (clearEntry s) else s

/-- The rule of 6888h:01 (R394); with the guard link down it cannot reach P2. -/
def restartRule (p : P2) (v : Int) : Rule P1 where
  mode := fun _ => 0
  check := fun _ => 0
  busy := fun _ => if p.link then 0 else abHardware
  eff := sendGuard (.restart v.toNat)

/-! ### Meanings -/

/-- CLEAR_LATCHED_FAULTS (R372). -/
def execClearLatchedFaults (w : Nat) (v : Int) (s : State) : Out :=
  onLinkReq w (ob 0x5400 0x0B) (.num v) clearLatchedRule s

/-- SAFETY_INPUT_CHANGE (R390). -/
def execSafetyInputChange (c : Chan) (n : Fin 8) (a b : Bool) (s : State) : Out := .next (onP2 (inputChange c n a b) s)

/-- DISCREPANCY (R391). -/
def execDiscrepancy (c : Chan) (n : Fin 8) (s : State) : Out := .next (onP2 (discrepancy c n) s)

/-- RESTART_PRESS (R394). -/
def execRestartPress (c : Chan) (n : Fin 8) (drift : Int) (s : State) : Out := .next (onP2 (restartPress c n drift) s)

/-- RESTART_WRITE (R394). -/
def execRestartWrite (w : Nat) (v : Int) (s : State) : Out :=
  onLinkReq w (ob 0x6888 1) (.num v) (restartRule s.p2 v) s

/-- SECTOR_PULSE (R397): the pulse leaves its line's queue and moves the counter. -/
def execSectorPulse (a : Fin 8) (up : Bool) (s : State) : Out :=
  let take (x : AxisState) : AxisState := if up then { x with up := x.up - 1 } else { x with down := x.down - 1 }
  .next (onP2 (sectorPulse a up) { s with p1 := setAxis a take s.p1 })

/-- POSITION_FRAME (R398). A core that does not run sends none. -/
def execPositionFrame (a : Fin 8) (position : Int) (s : State) : Out :=
  if s.p1.up then .next (onP2 (positionFrame a position (s.p1.axes[a]).loads (s.p1.bit (axKey a 0x1A) 21)) s) else .next s

/-- SECTOR_DISAGREE (R400). -/
def execSectorDisagree (a : Fin 8) (s : State) : Out := .next (onP2 (sectorDisagree a) s)

/-- SECTOR_HOLD (R401). -/
def execSectorHold (a : Fin 8) (s : State) : Out := .next (onP2 (sectorHold a (s.p1.bit (axKey a 0x1A) 21)) s)

/-- CHANNEL_SILENCE (R402). -/
def execChannelSilence (observer : Chan) (s : State) : Out := .next (onP2 (channelSilence observer) s)

/-- HEARTBEAT_EDGE (R402). -/
def execHeartbeatEdge (observer : Chan) (drift : Int) (s : State) : Out := .next (onP2 (heartbeatEdge observer drift) s)

/-- TEST_SLOT (R406). -/
def execTestSlot (s : State) : Out := .next (onP2 testSlot s)

/-- TEST_PULSE_END (R406). -/
def execTestPulseEnd (readsOpen : Bool) (s : State) : Out := .next (onP2 (testPulseEnd readsOpen) s)

/-- SWITCH_FAULT (R407). -/
def execSwitchFault (item : TestItem) (s : State) : Out := .next (onP2 (fun p => if p.powered then setSwitchFault (itemIndex item) p else p) s)

/-- TEST_OVERDUE (R409). -/
def execTestOverdue (item : TestItem) (s : State) : Out := .next (onP2 (testOverdue (itemIndex item)) s)

/-- CHECK_VALUE_PLACED (R411). -/
def execCheckValuePlaced (c : Chan) (s : State) : Out := .next (onP2 (placeValue c) s)

/-- SAFETY_BLOCK_WRITE (R411). -/
def execSafetyBlockWrite (w : Nat) (index sub : Nat) (v : Int) (s : State) : Out :=
  if inBlock (ob index sub) && sub < 256 then
    onLinkReq w (ob index sub) (.num v) (blockRule s.p2 (ob index sub) v) s
  else .next s

/-- CHECK_VALUE_ENTRY (R414). -/
def execCheckValueEntry (w : Nat) (v : Int) (s : State) : Out := onReq w (ob 0x6881 1) (.num v) (entryRule w v) s

/-- CONFIRM (R414). -/
def execConfirm (w : Nat) (v : Int) (s : State) : Out :=
  onLinkReq w (ob 0x6882 1) (.num v) (confirmRule s.p2 w) s

/-- The block that P1 sends at start (R410): from the selected bank, or the defaults where none is valid; a P1 that runs
sends its own. -/
def startBlock (s : P1) : Od :=
  match s.phase with
  | .run => s.od.filter fun e => inBlock e.1
  | _ =>
    match selectBank s with
    | none => []
    | some b => match s.bank b with
      | none => []
      | some x => (x.body.foldl (fun t e => if inBlock e.1 then loadEntry t e else t) { s with od := [] }).od.filter fun e => inBlock e.1

/-- SAFETY_BLOCK_TRANSFER (R410). P1 without supply sends nothing. -/
def execSafetyBlockTransfer (s : State) : Out :=
  if s.p1.phase = .off || !s.p2.link then .next s else .next (onP2 (blockArrives (startBlock s.p1)) s)

/-- The age of a report taken from module time (R405). -/
def attributed (micros : Nat) (f : P1 → P1) (s : P1) : P1 :=
  { f { s with ns := s.ns - micros * 1000 } with ns := s.ns }

/-- The good state of a code that reports both (R553). -/
def goodReport (e : SafetyEvent) : Bool := e.code = 0x0C0E && e.param % 256 = 1

/-- The codes of the chapter that raise an alarm (R553). -/
def safetyAlarm (code : Nat) : Bool :=
  code = 0x0C00 || code = 0x0C05 || code = 0x0C06 || code = 0x0C0A || code = 0x0C0B || code = 0x0C0E

/-- A report reaches the core (R405): recorded at its own grain, with its alarm where its condition still holds. -/
def takeReport (e : SafetyEvent) (micros : Nat) (p : P2) (s : P1) : P1 :=
  let t := attributed micros (record e.code e.param) s
  if safetyAlarm e.code && !goodReport e && safetyHolds p e.code e.param then attributed micros (raise e.code e.param) t else t

/-- SAFETY_REPORT (R405). -/
def execSafetyReport (ev : SafetyEvent) (ageMicros : Nat) (s : State) : Out :=
  if s.p1.up && s.p2.link && s.p2.reports.contains ev then
    .next (syncGuard { s with p1 := takeReport ev ageMicros s.p2 s.p1, p2 := { s.p2 with reports := s.p2.reports.erase ev } })
  else .next s

end Sys2Proof.Machine
end

