-- ==== Sys2Proof/Machine/Fusion.lean ====
section
/-! DEFINITION. Estimation, fusion and grades (chapter "Estimation, fusion and degradation grades", R133–R171). What the spec
names with its operands and gives no formula for is the engines' (assumption 98); the gates, the votes, the disputes and the grade
are exact. -/

namespace Sys2Proof.Machine

/-- The two kinds of reference that the decision level tests (R151, R155). -/
inductive RefKind
  | pos
  | hdg
deriving DecidableEq, Repr

/-- A change of the estimator's state. -/
def setFus (f : Fusion → Fusion) (s : P1) : P1 := { s with fus := f s.fus }

/-- The tests of a kind. -/
def vote (k : RefKind) (s : P1) : Vote := match k with
  | .pos => s.fus.pos
  | .hdg => s.fus.hdg

/-- The state with the tests of a kind changed. -/
def setVote (k : RefKind) (f : Vote → Vote) (s : P1) : P1 := match k with
  | .pos => setFus (fun x => { x with pos := f x.pos }) s
  | .hdg => setFus (fun x => { x with hdg := f x.hdg }) s

/-- A station cycle starts in a grain whose index is a whole multiple of the cycle length (R16). -/
def atCycle (s : P1) : Bool := s.grainIndex % s.cycleLen = 0

/-- The decision level has its engine: it runs on EST3 (R55, R146). -/
def decides (s : P1) : Bool := !s.stopped (estAddr 3)

/-! ### Slots as the decision level sees them (R148, R150) -/

/-- The fusion state of a slot: 0 off, 1 qualifying, 2 accepted, 3 rejected, 4 in dispute, 5 monitored (R150). -/
def fuState (i : Fin 64) (s : P1) : Nat := slotFusion i s

/-- A fusion state written. -/
def setFuState (i : Fin 64) (st : Nat) (s : P1) : P1 := s.setField (slKey i 0x14) 16 3 st

/-- SUSPECT of a slot. -/
def suspect (i : Fin 64) (s : P1) : Bool := s.bit (slKey i 0x14) 19

/-- The class of a slot. -/
def slotClass (i : Fin 64) (s : P1) : Nat := s.rdN (slKey i 7)

/-- The slot delivers (R99). -/
def slotOn (i : Fin 64) (s : P1) : Bool := s.rd (slKey i 1) = 1 && configOk i s

/-- The slot takes part in the decision level: enabled, or disabled since the last one, with what that latches (R100, R148). -/
def live (i : Fin 64) (s : P1) : Bool := fuState i s ≠ 0

/-- The frame kind of the resident model or table of a slot (R126, R127): 0 fixed on Earth. -/
def frameKind (i : Fin 64) (s : P1) : Nat :=
  if slotClass i s = 3 then leAt (s.octets (ob 0x3400 1)) 3 1 else leAt (s.octets (ob 0x3500 1)) 3 1

/-- A pose slot that is relative to a structure: a target reference (R142, R146). -/
def isTarget (i : Fin 64) (s : P1) : Bool := (slotClass i s = 3 || slotClass i s = 4) && frameKind i s ≠ 0

/-- An internal antenna's slot (R141). -/
def isInternal (i : Fin 64) (s : P1) : Bool := s.rd (slKey i 2) = 5

/-- The slot that stands for the internal antennas: the lowest that delivers (R141). -/
def internalSlot (s : P1) : Option (Fin 64) := (List.finRange 64).find? fun (i : Fin 64) => isInternal i s && slotOn i s

/-- A baseline between two internal antennas is fixed (R316). -/
def baselineFixed (s : P1) : Bool := s.field (ob 0x5100 1) 3 3 ≠ 0

/-- The slot counts as a reference of a kind (R142). -/
def isRef (k : RefKind) (i : Fin 64) (s : P1) : Bool :=
  let c := slotClass i s
  let pose := (c = 3 || c = 4) && !isTarget i s
  match k with
  | .pos => c = 1 || c = 2 || c = 5 || pose
  | .hdg => c = 6 || pose || (c = 1 && isInternal i s)

/-- An absolute reference (R149). -/
def absoluteRef (k : RefKind) (i : Fin 64) (s : P1) : Bool :=
  match k with
  | .pos => isRef .pos i s && slotClass i s ≠ 2 && slotClass i s ≠ 5
  | .hdg => isRef .hdg i s

/-- A local reference, with an origin of its own (R143). -/
def isLocal (i : Fin 64) (s : P1) : Bool := slotClass i s = 2 || slotClass i s = 5

/-- The last judged fix of a kind. -/
def judgedOf (k : RefKind) (i : Fin 64) (s : P1) : Option Judged := match k with
  | .pos => s.slots[i].pos
  | .hdg => s.slots[i].hdg

/-- The gate g of a slot. -/
def gate (i : Fin 64) (s : P1) : Rat := (f32 (s.rd (slKey i 0x0F))).q

/-- The factor f of R147. -/
def gateFactor (s : P1) : Rat := (s.rd (ob 0x3000 0x0A) : Rat) / 1000

/-- A squared normalised distance lies within a gate. -/
def within (q : Option Rat) (g : Rat) : Bool := match q with
  | some x => x ≤ g * g
  | none => false

/-- A fix passes its gate (R147). -/
def passes (i : Fin 64) (j : Judged) (s : P1) : Bool := within j.q (gate i s)

/-- A fix requalifies (R147). -/
def requalifies (i : Fin 64) (j : Judged) (s : P1) : Bool := within j.q (gateFactor s * gate i s)

/-- N_q. -/
def nQual (s : P1) : Nat := s.rdN (ob 0x3000 8)
/-- N_r. -/
def nRej (s : P1) : Nat := s.rdN (ob 0x3000 9)

/-- A time in ns is within a slot's age limit at this latch (R121). -/
def fresh (i : Fin 64) (tm : Int) (s : P1) : Bool := (s.ns : Int) - tm ≤ s.rd (slKey i 0x0C) * 1000

/-- PASS_COUNT and LAST_OUTSIDE follow the counts (R150). -/
def showCounts (i : Fin 64) (outside : Bool) (s : P1) : P1 :=
  (s.setField (slKey i 0x14) 24 4 (min 15 s.slots[i].passes)).setBit (slKey i 0x14) 23 outside

/-! ### Entry to and leaving of accepted (R139, R143, R148) -/

/-- Consecutive fixes of a slot that failed as a reference of a kind. -/
def failsOf (k : RefKind) (i : Fin 64) (s : P1) : Nat := match k with
  | .pos => s.slots[i].fails
  | .hdg => s.slots[i].failsH

/-- See `failsOf`. -/
def setFails (k : RefKind) (i : Fin 64) (n : Nat) (s : P1) : P1 := match k with
  | .pos => setSlot i (fun x => { x with fails := n }) s
  | .hdg => setSlot i (fun x => { x with failsH := n }) s

/-- A slot becomes accepted: its trend starts from the bias last found (R157). -/
def acceptSlot (i : Fin 64) (s : P1) : P1 :=
  if fuState i s = 2 then setSlot i (fun x => { x with fails := 0, failsH := 0 }) s
  else
    let b := (s.slots[i].trend.biases.head?.map (·.2)).getD ⟨0, 0, 0⟩
    record 0x0311 i.val (setFuState i 2 (setSlot i (fun x =>
      { x with fails := 0, failsH := 0, entered := true, trend := { x.trend with b0 := b } }) s))

/-- A slot leaves accepted or a dispute: its new state and the reason (R148, R150). -/
def leaveSlot (i : Fin 64) (st reason : Nat) (s : P1) : P1 :=
  let t := setSlot i (fun x => { x with passes := 0, fails := 0, failsH := 0 })
    ((setFuState i st s).setField (slKey i 0x14) 28 4 reason)
  let u := t.setField (slKey i 0x14) 24 4 0
  if st = 3 then record 0x0312 (packDetails [(8, i.val), (8, reason)]) u else u

/-- LAST_OUTSIDE of a slot whose fixes a test decides: the last one failed as some reference that the slot is. -/
def showOutside (i : Fin 64) (s : P1) : P1 := showCounts i (failsOf .pos i s ≠ 0 || failsOf .hdg i s ≠ 0) s

/-- A fix passes its test (R148). -/
def passSlot (k : RefKind) (i : Fin 64) (s : P1) : P1 := showOutside i (setFails k i 0 s)

/-- A fix of an accepted slot fails its test; N_r in a row reject it (R148). -/
def failSlot (k : RefKind) (i : Fin 64) (reason : Nat) (s : P1) : P1 :=
  let n := failsOf k i s + 1
  let t := showOutside i (setFails k i n s)
  if fuState i s = 2 && nRej s ≤ n then leaveSlot i 3 reason t else t

/-- Pool elements that a slot needs (R139): two as a position reference, one as a heading source. -/
def biasNeed (i : Fin 64) (s : P1) : Nat := (if isRef .pos i s then 2 else 0) + (if isRef .hdg i s then 1 else 0)

/-- The free elements of the pool. -/
def freePool (s : P1) : List Nat :=
  let used := s.slots.toList.flatMap (·.pool)
  (List.range 60).filter fun e => !used.contains e

/-- Bias elements of the slots that became accepted in this cycle, in ascending slot number (R139). -/
def allotBias (s : P1) : P1 :=
  eachSlot (fun i t =>
    if !t.slots[i].entered then t
    else
      let u := setSlot i (fun x => { x with entered := false }) t
      let n := biasNeed i u
      if n = 0 || t.slots[i].pool ≠ [] then u
      else
        let l := (freePool u).take n
        if l.length < n then u.setBit (ob 0x3000 1) 3 true
        else ((setSlot i (fun x => { x with pool := l }) u).setBit (slKey i 0x14) 21 true).setBit (ob 0x3000 1) 3 false) s

/-- The inertial blocks (R136): ranked sources other than S03 first, then others as they become accepted. -/
def allotBlocks (s : P1) : P1 :=
  let used (t : P1) : List Nat := t.slots.toList.filterMap (·.block)
  let give (i : Fin 64) (t : P1) : P1 :=
    if slotClass i t = 7 && s.rd (slKey i 2) ≠ 6 && slotOn i t && t.slots[i].block.isNone then
      match (List.range 4).find? fun b => !(used t).contains b with
      | some b => setSlot i (fun x => { x with block := some b }) t
      | none => t
    else t
  let ranked := ([2, 3, 4] : List Nat).foldl (fun t k =>
    let r := t.rdN (ob 0x3000 k)
    if h : r < 64 then give ⟨r, h⟩ t else t) s
  eachSlot (fun i t => if fuState i t = 2 then give i t else t) ranked

/-- The bias of a slot (R139): its pool elements in the order north, east, heading; a slot without any holds the value that ALIGN
found last. -/
def biasOf (i : Fin 64) (s : P1) : Bias :=
  let el (n : Nat) : Rat := match s.slots[i].pool[n]? with
    | some e => if h : 57 + e < 120 then (s.fus.x[57 + e]'h).getD 0 else 0
    | none => 0
  if s.slots[i].pool = [] then (s.slots[i].trend.biases.head?.map (·.2)).getD ⟨0, 0, 0⟩
  else if isRef .pos i s then ⟨el 0, el 1, el 2⟩ else ⟨0, 0, el 0⟩

/-! ### Relations (R123, R142) -/

/-- A vector in a slot's axes carried into vessel axes (R123). -/
def slotVessel (i : Fin 64) (v : Vec) (s : P1) : Vec := byMount (s.rdN (slKey i 0x0D)) v s

/-- The horizontal part of a vessel-axes vector by the attitude estimate R_nb. -/
def toNed (v : Vec) (s : P1) : Rat × Rat :=
  let r := rotate (attitude s) v
  (r.1, r.2.1)

/-- The unit wire vector of the two angles (R142): its slopes are their tangents. -/
def wireVector (fore athwart : Rat) : Vec :=
  let a := Config.sin fore / Config.cos fore
  let b := Config.sin athwart / Config.cos athwart
  let n := Config.sqrt (1 + a * a + b * b)
  (a / n, b / n, 1 / n)

/-- What a local reference measures in sensor axes (R142). -/
def localVector : Meas → Option Vec
  | .rangeBearing rho beta => some (rho * Config.cos beta, rho * Config.sin beta, 0)
  | .tautWire l fa at_ =>
    let w := wireVector fa at_
    some (l * w.1, l * w.2.1, l * w.2.2)
  | _ => none

/-- The geodetic frame of a pose in the north-east frame: the pose's north, east and heading (R126, R142). -/
def poseEarth (p : Pose6) (fr : StructFrame) (s : P1) : Rat × Rat × Rat :=
  let o := frameOrigin s
  let a := Config.northEast o.1 o.2 fr.lat fr.lon
  (a.1 + p.x * Config.cos fr.yaw - p.y * Config.sin fr.yaw, a.2 + p.x * Config.sin fr.yaw + p.y * Config.cos fr.yaw,
    wrapPi (p.psi + fr.yaw))

/-- A measurement in the north-east frame (R142): position, or none; heading, or none. A local reference without an origin
measures the estimate itself (R143; assumption 34). What GNSS-LS and the baseline give for an epoch is free (assumption 3). -/
def relate (i : Fin 64) (m : Meas) (s : P1) : Option (Rat × Rat) × Option Rat :=
  let o := frameOrigin s
  match m with
  | .position la lo _ _ =>
    let a := Config.northEast o.1 o.2 la lo
    let r := toNed (mountArm (s.rdN (slKey i 0x0D)) s) s
    (some (a.1 - r.1, a.2 - r.2), none)
  | .rangeBearing _ _ | .tautWire _ _ _ =>
    match s.slots[i].origin, localVector m with
    | some q, some v =>
      let r := toNed (slotVessel i v s) s
      (some (q.1 - r.1, q.2 - r.2), none)
    | _, _ => (some ((s.fus.x[0]).getD 0, (s.fus.x[1]).getD 0), none)
  | .pose p fr =>
    let e := poseEarth p fr s
    (some (e.1, e.2.1), some e.2.2)
  | .heading psi => (none, some (wrapPi (psi - mountVal (s.rdN (slKey i 0x0D)) 5 s - (biasOf i s).psi)))
  | .raw _ => (some (Config.freeRat s.free, Config.freeRat (s.free + 1)),
      if baselineFixed s then some (wrapPi (Config.freeRat (s.free + 2))) else none)
  | _ => (none, none)

/-- σ_eff (R144). -/
def sigmaEff (f : Fix) (s : P1) : Rat :=
  match f.sigma with
  | some v => v
  | none => (f32 (s.rd (slKey f.slot 0x0E))).q * ((f.factor : Nat) : Rat) / 100

/-- The measurement variance of the correction: σ_eff² · 1000 / w (R144). -/
def fixVariance (f : Fix) (s : P1) : Rat := sigmaEff f s * sigmaEff f s * 1000 / (s.rd (slKey f.slot 0x10) : Rat)

/-- The covariance of two elements of the state. -/
def covOf (r c : Nat) (s : P1) : Option Rat :=
  let p := if r < c then (c, r) else (r, c)
  if h : r = c ∧ r < 120 then s.fus.cov[r]
  else if s.fus.cross = [] then some 0 else s.fus.cross.getD (p.1 * (p.1 - 1) / 2 + p.2) none

/-- The square of the normalised distance of a position fix (R147), predicted to the instant of the fix. A local reference without
an origin has none to miss. -/
def posDistance (i : Fin 64) (p : Rat × Rat) (sigma : Rat) (tm : Int) (s : P1) : Option Rat :=
  let dt : Rat := (((s.ns : Int) - tm : Int) : Rat) / 1000000000
  match s.fus.x[0], s.fus.x[1], s.fus.x[3], s.fus.x[4], s.fus.cov[0], s.fus.cov[1], covOf 1 0 s with
  | some n, some e, some vn, some ve, some pn, some pe, some pc =>
    let a := p.1 - (n - vn * dt)
    let b := p.2 - (e - ve * dt)
    let d := (pn + sigma * sigma) * (pe + sigma * sigma) - pc * pc
    if isLocal i s && s.slots[i].origin.isNone then some 0
    else if d = 0 then none
    else some (Config.fp64 s.free ((a * a * (pe + sigma * sigma) - 2 * a * b * pc + b * b * (pn + sigma * sigma)) / d))
  | _, _, _, _, _, _, _ => none

/-- See `posDistance`, for a heading. -/
def hdgDistance (psi sigma : Rat) (tm : Int) (s : P1) : Option Rat :=
  let dt : Rat := (((s.ns : Int) - tm : Int) : Rat) / 1000000000
  match s.fus.x[8], s.fus.x[11], s.fus.cov[8] with
  | some h, some r, some p =>
    let a := wrapPi (psi - (h - r * dt))
    some (Config.fp64 s.free (a * a / (p + sigma * sigma)))
  | _, _, _ => none

/-- The velocity of the vessel reference point that a speed measurement gives (R123, R142). -/
def vesselSpeed (i : Fin 64) (u v : Rat) (s : P1) : Rat × Rat :=
  let e := s.rdN (slKey i 0x0D)
  let a := rotate (mountTurn e s) (u, v, 0)
  let l := mountArm e s
  let r := (s.fus.x[11]).getD 0
  (a.1 + r * l.2.1, a.2.1 - r * l.1)

/-- The distance of a measurement that is neither position nor heading (R136, R142); one that no element of the state predicts
has none to miss. -/
def otherDistance (i : Fin 64) (m : Meas) (sigma : Rat) (s : P1) : Option Rat :=
  let d (x : Option Rat) (z : Rat) (p : Option Rat) : Option Rat :=
    match x, p with
    | some a, some c => some ((z - a) * (z - a) / (c + sigma * sigma))
    | _, _ => none
  match m with
  | .speed u v _ =>
    let w := vesselSpeed i u v s
    (oadd (d s.fus.x[9] w.1 s.fus.cov[9]) (d s.fus.x[10] w.2 s.fus.cov[10])).map (Config.fp64 s.free)
  | .rate r => (d s.fus.x[11] r s.fus.cov[11]).map (Config.fp64 s.free)
  | .inertial [a, b, c] =>
    (oadd (oadd (d s.fus.x[6] a s.fus.cov[6]) (d s.fus.x[7] b s.fus.cov[7])) (d s.fus.x[11] c s.fus.cov[11])).map
      (Config.fp64 s.free)
  | _ => some 0

/-! ### Intake of a cycle (R20, R21, R116, R121) -/

/-- The engineering value of an analog input that a station cycle uses, with its grain (R116, R353, R375). -/
def aiBefore (n : Nat) (s : P1) : Option (Rat × Nat) :=
  if h : n < 32 then
    match (s.filt[n]'h).settled.find? fun e => e.1 < s.elapsed with
    | some e =>
      some (Config.fp64 s.free ((f64 (s.rd (ob 0x5502 (n + 1)))).q + (f64 (s.rd (ob 0x5501 (n + 1)))).q * aiNormal n e.2 s), e.1)
    | none => none
  else none

/-- The measurement of a slot that reads the module's own inputs at the latch with its grain (R116, R119): axes as they stood at the
end of the grain before (R20). -/
def ownSample (i : Fin 64) (s : P1) : Option (Meas × Nat) :=
  let a := s.rdN (slKey i 3)
  match s.rdN (slKey i 2) with
  | 6 => some (.inertial [Config.freeRat s.free, Config.freeRat (s.free + 1), Config.freeRat (s.free + 2)], s.elapsed - 1)
  | 7 =>
    match aiBefore a s with
    | some v => some (if slotClass i s = 8 then .wind v.1 0 else .draught v.1, v.2)
    | none => none
  | 8 =>
    let x := s.before.axes[a % 8]'(by omega)
    match aiBefore (a / 256 % 256) s, aiBefore (a / 65536 % 256) s with
    | some f, some t => some (.tautWire (f64 x.value).q f.1 t.1, max x.grain (max f.2 t.2))
    | _, _ => none
  | _ => none

/-- The slots that read the module's own inputs deliver at the latch (R116): an analog input carries no tag. -/
def sampleOwn (s : P1) : P1 :=
  eachSlot (fun i t =>
    if slotTakes i false t then
      match ownSample i t with
      | some (m, g) =>
        let ta : Int := (t.ns : Int) - ((t.elapsed - g : Nat) : Int) * 1000
        let r := arriveAt i ta ta m 100 none t
        let u := setSlot i (fun x => { x with lastSeen := some g, sample := match m with
          | .inertial l => some (g, l)
          | _ => x.sample }) r.2
        let v := (u.setBit (slKey i 0x14) bUntagged (s.rd (slKey i 2) ≠ 6)).drawN 3
        { v with fus := { v.fus with fixes := v.fus.fixes ++ [{ r.1 with grain := g }] } }
      | none => t
    else t) s

/-- Insert a fix by its arrival stamp, after those of the same stamp. -/
def insertFix (f : Fix) : List Fix → List Fix
  | [] => [f]
  | g :: r => if f.ta < g.ta then f :: g :: r else g :: insertFix f r

/-- A slot of a fix. -/
def fixSlot (f : Fix) : Fin 64 := ⟨f.slot % 64, by omega⟩

/-- The measurements that a cycle uses (R20, R21, R121): too old ones are rejected and counted, at most 256 are taken, the
rest are carried and counted. -/
def latchFixes (s : P1) : List Fix × P1 :=
  let due := s.fus.fixes.filter fun f => f.grain < s.elapsed
  let later := s.fus.fixes.filter fun f => !(f.grain < s.elapsed)
  let old := due.filter fun f => !fresh (fixSlot f) f.tm s
  let good := (due.filter fun f => fresh (fixSlot f) f.tm s).foldl (fun l f => insertFix f l) []
  let t := old.foldl (fun u f => lastError (fixSlot f) 7 (u.inc (slKey f.slot 0x17))) s
  (good.take 256, (setFus (fun x => { x with fixes := good.drop 256 ++ later }) t).add (ob 0x2001 4)
    ((good.drop 256).length : Nat))

/-! ### The raw level (R140) -/

/-- Sum of squares. -/
def sumSquares (l : List (Nat × Rat)) : Rat := l.foldl (fun a e => a + e.2 * e.2) 0

/-- The measurements without those of the satellite with the largest normalised residual. -/
def dropWorst (l : List (Nat × Rat)) : List (Nat × Rat) :=
  match l.foldl (fun (b : Option (Nat × Rat)) e => match b with
    | some x => if ratAbs x.2 < ratAbs e.2 then some e else b
    | none => some e) none with
  | some w => l.filter fun e => e.1 ≠ w.1
  | none => []

/-- The chi-square test with up to n exclusions: what remains, and that it passes. -/
def chiTest : Nat → List (Nat × Rat) → List (Nat × Rat) × Bool
  | n, l =>
    if sumSquares l ≤ Config.chiSquare l.length then (l, true)
    else match n with
      | 0 => (l, false)
      | m + 1 => chiTest m (dropWorst l)

/-- The integrity tests of an epoch (R140): the satellites used, and that it gives a correction. -/
def rawTest (l : List (Nat × Rat)) (s : P1) : Nat × Bool :=
  let g := (f32 (s.rd (ob 0x3000 6))).q
  let r := chiTest 3 (l.filter fun e => ratAbs e.2 ≤ g)
  let n := (r.1.map (·.1)).eraseDups.length
  (n, r.2 && s.rdN (ob 0x3000 7) ≤ n)

/-! ### One fix (R142–R148) -/

/-- The counts of a slot after a fix with its squared distances, which a test of R151 may decide otherwise (R147, R148, R150). -/
def countFix (i : Fin 64) (q : List (Option Rat)) (s : P1) : P1 :=
  let f := gateFactor s
  let ok := q.all fun x => within x (f * gate i s)
  showCounts i (q.any fun x => !within x (gate i s)) (setSlot i (fun x => { x with passes := if ok then x.passes + 1 else 0 }) s)

/-- The residual of a gated fix is sampled (R491, R147): q itself. -/
def sampleResidual (i : Fin 64) (q : Option Rat) (s : P1) : P1 :=
  match q with
  | some x => sampleQuantity (0x40 + i.val) (Config.sqrt x) s
  | none => s

/-- The fix of a slot is kept for the tests between references of a kind. -/
def keepJudged (k : RefKind) (i : Fin 64) (j : Option Judged) (s : P1) : P1 := match k with
  | .pos => setSlot i (fun x => { x with pos := j }) s
  | .hdg => setSlot i (fun x => { x with hdg := j }) s

/-- A fix of a reference is judged (R142–R148): position, heading or both; it counts once the estimator has initialised. -/
def judgeRef (i : Fin 64) (p : Option (Rat × Rat)) (h : Option Rat) (sg : Rat) (tm : Int) (s : P1) : P1 :=
  let qp : List (Option Rat) := (p.map fun v => posDistance i v sg tm s).toList
  let qh : List (Option Rat) := (h.map fun v => hdgDistance v sg tm s).toList
  let t := match p with
    | some v => keepJudged .pos i (some ⟨v.1, v.2, sg, qp.headD none, tm, true⟩) s
    | none => s
  let u := match h with
    | some v => keepJudged .hdg i (some ⟨v, 0, sg, qh.headD none, tm, true⟩) t
    | none => t
  let l := (if s.fus.pos.init then qp else []) ++ (if s.fus.hdg.init then qh else [])
  if l = [] then u.draw else countFix i l (sampleResidual i (l.headD none) u.draw)

/-- A fix of a slot that is no reference is judged alone (R148). -/
def judgeAlone (i : Fin 64) (q : Option Rat) (s : P1) : P1 :=
  let t := countFix i [q] (sampleResidual i q s.draw)
  if fuState i t = 2 then (if within q (gate i t) then passSlot .pos i t else failSlot .pos i 1 t) else t

/-- An internal epoch (R140, R141): one that gives no correction counts as a failure. -/
def judgeRaw (i : Fin 64) (l : List (Nat × Rat)) (sg : Rat) (tm : Int) (s : P1) : P1 :=
  let x := rawTest l s
  let r := relate i (.raw l) s
  let t := ((s.setField (ob 0x3000 1) 8 8 (min 255 x.1)).setBit (ob 0x3000 1) 2 (!x.2)).drawN 4
  let u := if baselineFixed s then t else keepJudged .hdg i none t
  if x.2 then judgeRef i r.1 r.2 sg tm u
  else
    let v := countFix i [none] u
    if fuState i v = 2 then failSlot .pos i 6 v else v

/-- The target's pose in the north-east frame that a relative pose gives. -/
def targetPose (p : Pose6) (s : P1) : Rat × Rat × Rat :=
  let h := wrapPi ((s.fus.x[8]).getD 0 - p.psi)
  ((s.fus.x[0]).getD 0 - (p.x * Config.cos h - p.y * Config.sin h), (s.fus.x[1]).getD 0 - (p.x * Config.sin h + p.y * Config.cos h), h)

/-- The relative position predicted under the constant-velocity model (R146). -/
def targetRelative (g : Target) (tm : Int) (s : P1) : Rat × Rat :=
  let q := targetAt g tm
  let p := rotateBack ⟨0, 0, q.2.2⟩ ((s.fus.x[0]).getD 0 - q.1, (s.fus.x[1]).getD 0 - q.2.1, 0)
  (p.1, p.2.1)

/-- The model takes a new pose of the target; how it forms the rates is not stated (assumption 98). -/
def moveTarget (p : Pose6) (tm : Int) (s : P1) : P1 :=
  let z := targetPose p s
  let rate (k : Nat) : Rat := match s.fus.target with
    | some g => (Config.engine .target s.free k ([g.pose.1, g.pose.2.1, g.pose.2.2, g.rate.1, g.rate.2.1, g.rate.2.2, (g.tm : Rat), z.1,
        z.2.1, z.2.2, (tm : Rat)].map some)).getD 0
    | none => 0
  setFus (fun x => { x with target := some ⟨z, (rate 1, rate 2, rate 3), tm⟩ }) s.draw

/-- A fix of a target reference (R146): gated against the prediction; the model follows the fixes that pass, and any while no target
slot is accepted. -/
def judgeTargetFix (i : Fin 64) (p : Pose6) (sg : Rat) (tm : Int) (s : P1) : P1 :=
  let q : Option Rat := match s.fus.target with
    | none => some 0
    | some g =>
      let z := targetRelative g tm s
      let v := (Config.engine .target s.free 0 [some ((tm - g.tm : Int) : Rat)]).map fun c =>
        Config.fp64 s.free (((p.x - z.1) * (p.x - z.1) + (p.y - z.2) * (p.y - z.2)) / (c + sg * sg))
      v
  let anew := !(List.finRange 64).any fun (j : Fin 64) => isTarget j s && fuState j s = 2
  let t := if within q (gate i s) || anew then moveTarget p tm s else s.draw
  judgeAlone i q t

/-- One fix of the cycle is judged (R142–R147). The primary inertial source is no measurement (R136). -/
def judgeFix (f : Fix) (s : P1) : P1 :=
  let i := fixSlot f
  let sg := sigmaEff f s
  if !live i s then s
  else match f.meas with
  | .wind v a =>
    let w := rotate (mountTurn (s.rdN (slKey i 0x0D)) s) (Config.cos a, Config.sin a, 0)
    countFix i [some 0] (setSlot i (fun x => { x with wind := some (v, Config.atan2 w.2.1 w.1) }) s)
  | .raw l => judgeRaw i l sg f.tm s
  | .draught d =>
    let t := countFix i [some 0] s
    if fuState i t = 2 then setFus (fun x => { x with draught := some d }) t else t
  | .inertial l => if s.rdN (ob 0x3000 5) = i.val then countFix i [some 0] s else judgeAlone i (otherDistance i (.inertial l) sg s) s
  | .pose p fr =>
    if fr.kind ≠ 0 then judgeTargetFix i p sg f.tm s
    else
      let e := poseEarth p fr s
      judgeRef i (some (e.1, e.2.1)) (some e.2.2) sg f.tm s
  | m =>
    let r := relate i m s
    if r.1.isNone && r.2.isNone then judgeAlone i (otherDistance i m sg s) s else judgeRef i r.1 r.2 sg f.tm s

/-! ### Groups (R145) -/

/-- Two slots share source type and source address. -/
def sameAddress (i j : Fin 64) (s : P1) : Bool := s.rd (slKey i 2) = s.rd (slKey j 2) && s.rd (slKey i 3) = s.rd (slKey j 3)

/-- Two slots count as one reference (R145). -/
def linked (i j : Fin 64) (s : P1) : Bool :=
  i = j || (s.rd (ob 0x3020 (i.val + 1)) ≠ 0 && s.rd (ob 0x3020 (i.val + 1)) = s.rd (ob 0x3020 (j.val + 1)))
    || sameAddress i j s || (isInternal i s && isInternal j s)

/-- The least slot that a slot is linked to, over at most `n` links, among the members. -/
def groupRoot (l : List (Fin 64)) (s : P1) : Nat → Fin 64 → Nat
  | 0, i => i.val
  | n + 1, i => (l.filter fun j => linked i j s).foldl (fun m j => min m (groupRoot l s n j)) i.val

/-- The slots that take part as references of a kind. -/
def members (k : RefKind) (s : P1) : List (Fin 64) := (List.finRange 64).filter fun (i : Fin 64) => isRef k i s && live i s

/-- A reference at the decision level: its slot, its position or heading predicted to G+0, σ_eff. -/
structure Ref where
  slot : Fin 64
  n : Rat
  e : Rat
  sigma : Rat
  q : Option Rat
  fresh : Bool
deriving DecidableEq, Repr

/-- A judged fix predicted to G+0 with the estimated velocity (R151). -/
def predicted (k : RefKind) (i : Fin 64) (j : Judged) (s : P1) : Ref :=
  let dt : Rat := (((s.ns : Int) - j.tm : Int) : Rat) / 1000000000
  match k with
  | .pos => ⟨i, j.n + (s.fus.x[3]).getD 0 * dt, j.e + (s.fus.x[4]).getD 0 * dt, j.sigma, j.q, j.fresh⟩
  | .hdg => ⟨i, wrapPi (j.n + (s.fus.x[11]).getD 0 * dt), 0, j.sigma, j.q, j.fresh⟩

/-- The slots of a list as references, those with a fix of acceptable age. -/
def candidates (k : RefKind) (l : List (Fin 64)) (s : P1) : List Ref :=
  l.filterMap fun i => match judgedOf k i s with
    | some j => if fresh i j.tm s then some (predicted k i j s) else none
    | none => none

/-- One reference of each group: that with the smallest σ_eff (R145). -/
def representatives (k : RefKind) (l : List (Fin 64)) (s : P1) : List Ref :=
  (candidates k l s).foldl (fun acc r =>
    let g := groupRoot l s 3 r.slot
    if acc.any (fun x => groupRoot l s 3 x.slot = g) then
      acc.map fun x => if groupRoot l s 3 x.slot = g && r.sigma < x.sigma then r else x
    else acc ++ [r]) []

/-- The set refs of R151. -/
def refs (k : RefKind) (s : P1) : List Ref :=
  representatives k ((members k s).filter fun i =>
    (fuState i s = 2 || fuState i s = 4) && !suspect i s && s.rd (slKey i 0x10) ≠ 0) s

/-! ### Tests (R151–R155) -/

/-- The median of numbers; the mean of the middle two for an even count. -/
def median (l : List Rat) : Rat :=
  let ins (x : Rat) (m : List Rat) : List Rat := m.takeWhile (fun y => y < x) ++ x :: m.dropWhile (fun y => y < x)
  let o := l.foldl (fun m x => ins x m) []
  let n := o.length
  if n % 2 = 1 then o.getD (n / 2) 0 else (o.getD (n / 2 - 1) 0 + o.getD (n / 2) 0) / 2

/-- The difference of two references: north and east, or heading wrapped. -/
def apart (k : RefKind) (a b : Rat × Rat) : Rat :=
  match k with
  | .pos => (a.1 - b.1) * (a.1 - b.1) + (a.2 - b.2) * (a.2 - b.2)
  | .hdg => wrapPi (a.1 - b.1) * wrapPi (a.1 - b.1)

/-- The members of the consensus of references (R151). -/
def consensus (k : RefKind) (l : List Ref) (s : P1) : List Ref :=
  let base := (l.head?.map (·.n)).getD 0
  let m : Rat × Rat := match k with
    | .pos => (median (l.map (·.n)), median (l.map (·.e)))
    | .hdg => (base + median (l.map fun r => wrapPi (r.n - base)), 0)
  l.filter fun r => apart k (r.n, r.e) m ≤ gate r.slot s * gate r.slot s * r.sigma * r.sigma

/-- The squared distance d² of a pair (R151) lies within f times the smaller gate. -/
def pairWithin (k : RefKind) (f : Rat) (a b : Ref) (s : P1) : Bool :=
  let g := f * (if gate a.slot s < gate b.slot s then gate a.slot s else gate b.slot s)
  apart k (a.n, a.e) (b.n, b.e) ≤ g * g * (a.sigma * a.sigma + b.sigma * b.sigma)

/-- Pass or fail of a reference that has a new fix. -/
def outcome (k : RefKind) (r : Ref) (ok : Bool) (reason : Nat) (s : P1) : P1 :=
  if r.fresh then (if ok then passSlot k r.slot s else failSlot k r.slot reason s) else s

/-- A reference is inside its gate. -/
def inGate (r : Ref) (s : P1) : Bool := within r.q (gate r.slot s)

/-- Slots of a pair as an event carries them. -/
def pairParam (d : Dispute) : Nat := packDetails [(8, d.a), (8, d.b)]

/-- The slot number as a slot. -/
def slotNo (n : Nat) : Fin 64 := ⟨n % 64, by omega⟩

/-- A dispute starts (R152, R155). -/
def startDispute (k : RefKind) (a b : Fin 64) (s : P1) : P1 :=
  let d : Dispute := ⟨a.val, b.val, s.elapsed⟩
  let t := setVote k (fun v => { v with dispute := some d, fails := 0, agrees := 0 }) (setFuState b 4 (setFuState a 4 s))
  let u := recordAlarm true 0x0315 (pairParam d) (pairParam d) t
  match k with
  | .pos =>
    let w := (u.setBit (ob 0x3300 3) 0 true).wr (ob 0x3300 0x14) (pairParam d)
    if w.fus.hold.isSome then w else setFus (fun x => { x with hold := some s.elapsed, limitReached := false }) w
  | .hdg => u.setBit (ob 0x3300 3) 1 true

/-- A dispute ends (R153), with the code of its record where it has one. -/
def endDispute (k : RefKind) (code : Option Nat) (s : P1) : P1 :=
  match (vote k s).dispute with
  | none => s
  | some d =>
    let t := lower 0x0315 (pairParam d) (setVote k (fun v => { v with dispute := none, fails := 0, agrees := 0 }) s)
    let u := match k with
      | .pos => ((t.setBit (ob 0x3300 3) 0 false).wr (ob 0x3300 0x14) 0xFFFF).wr (ob 0x3300 0x0E) 0
      | .hdg => t.setBit (ob 0x3300 3) 1 false
    match code with
    | some c => record c 0 u
    | none => u

/-- The members of a dispute that are still in it. -/
def disputed (d : Dispute) (s : P1) : List (Fin 64) := [slotNo d.a, slotNo d.b].filter fun i => fuState i s = 4

/-- The dispute limit in grains: 3300h:06 or :07. -/
def disputeSpan (k : RefKind) (s : P1) : Nat := (match k with
  | .pos => s.rdN (ob 0x3300 6)
  | .hdg => s.rdN (ob 0x3300 7)) * 1000000

/-- A selection of one of the pair waits (R154). -/
def selectionPending (d : Dispute) (s : P1) : Bool := s.fus.selection = some d.a || s.fus.selection = some d.b

/-- The dispute timer has reached its limit (R153): both are rejected. A selection that waits prevails (R154). -/
def limitDispute (k : RefKind) (s : P1) : P1 :=
  match (vote k s).dispute with
  | none => s
  | some d =>
    if s.elapsed - d.start < disputeSpan k s || selectionPending d s then s
    else endDispute k (some 0x0318) ((disputed d s).foldl (fun t i => leaveSlot i 3 4 t) s)

/-- The estimate set to a fix (R149, R153): its covariance is σ_eff². -/
def setEstimate (k : RefKind) (r : Ref) (s : P1) : P1 :=
  match k with
  | .pos => setFus (fun f => { f with
      x := (f.x.set 0 (some r.n)).set 1 (some r.e)
      cov := (f.cov.set 0 (some (r.sigma * r.sigma))).set 1 (some (r.sigma * r.sigma)) }) s
  | .hdg => setFus (fun f => { f with x := f.x.set 8 (some r.n), cov := f.cov.set 8 (some (r.sigma * r.sigma)) }) s

/-- A pending selection takes effect (R153, R154). -/
def takeSelection (k : RefKind) (s : P1) : P1 :=
  match s.fus.selection, (vote k s).dispute with
  | some n, some d =>
    if n = d.a || n = d.b then
      let t := setFus (fun x => { x with selection := none }) s
      let i := slotNo n
      if fuState i s = 4 && !suspect i s then
        let other := slotNo (if n = d.a then d.b else d.a)
        let u := match (candidates k [i] t).head? with
          | some r => setEstimate k r t
          | none => t
        let v := acceptSlot i u
        let w := if fuState other v = 4 then leaveSlot other 3 7 v else v
        setFus (fun x => { x with selected := x.selected || k = .pos, selectedH := x.selectedH || k = .hdg })
          (endDispute k (some 0x0317) w)
      else t.inc (ob 0x3300 0x15)
    else s
  | _, _ => s

/-- Three or more references (R151). -/
def manyRefs (k : RefKind) (l : List Ref) (s : P1) : P1 :=
  let c := consensus k l s
  if 2 ≤ c.length then
    let t := l.foldl (fun u r => outcome k r (c.any fun x => x.slot = r.slot) 2 u) s
    match (vote k t).dispute with
    | none => t
    | some d =>
      endDispute k (some 0x0316) ((disputed d t).foldl (fun u i =>
        if c.any fun x => x.slot = i then acceptSlot i u else leaveSlot i 3 2 u) t)
  else l.foldl (fun u r => outcome k r (inGate r u) 1 u) s

/-- Two references without a dispute (R151, R152). -/
def pairRefs (k : RefKind) (a b : Ref) (s : P1) : P1 :=
  if !a.fresh && !b.fresh then s
  else
    let ia := inGate a s
    let ib := inGate b s
    let clear (t : P1) : P1 := setVote k (fun v => { v with fails := 0 }) t
    if ia && ib && pairWithin k 1 a b s then clear (outcome k b true 0 (outcome k a true 0 s))
    else if ia && !ib then clear (outcome k b false 1 (outcome k a true 0 s))
    else if ib && !ia then clear (outcome k a false 1 (outcome k b true 0 s))
    else
      let n := (vote k s).fails + 1
      if nRej s ≤ n then startDispute k a.slot b.slot s else setVote k (fun v => { v with fails := n }) s

/-- Two disputed references (R153): N_q agreements in a row end the dispute. -/
def disputeStep (k : RefKind) (a b : Ref) (s : P1) : P1 :=
  if (!a.fresh && !b.fresh) || fuState a.slot s ≠ 4 || fuState b.slot s ≠ 4 then s
  else
    let f := gateFactor s
    let ok := within a.q (f * gate a.slot s) && within b.q (f * gate b.slot s) && pairWithin k f a b s
    let n := if ok then (vote k s).agrees + 1 else 0
    let t := setVote k (fun v => { v with agrees := n }) s
    if nQual s ≤ n then endDispute k (some 0x0316) (acceptSlot b.slot (acceptSlot a.slot t)) else t

/-- The tests of a cycle over the references of a kind (R151). -/
def testRefs (k : RefKind) (s : P1) : P1 :=
  match refs k s with
  | [] => s
  | [a] => if fuState a.slot s = 2 then outcome k a (inGate a s) 1 s else s
  | [a, b] => if (vote k s).dispute.isSome then disputeStep k a b s else pairRefs k a b s
  | l => manyRefs k l s

/-- Members of a group other than its representative, and suspect slots, are gated on their own (R145, R159). -/
def testOthers (k : RefKind) (s : P1) : P1 :=
  let reps := (refs k s).map (·.slot)
  ((candidates k ((members k s).filter fun i => fuState i s = 2 && !reps.contains i && s.rd (slKey i 0x10) ≠ 0) s)).foldl
    (fun t r => outcome k r (inGate r t) 1 t) s

/-- Qualifying and rejected slots become accepted (R148). -/
def requalify (k : RefKind) (s : P1) : P1 :=
  (members k s).foldl (fun t i =>
    if (fuState i t = 1 || fuState i t = 3) && !suspect i t && nQual t ≤ t.slots[i].passes
        && ((k = .pos) = isRef .pos i t) then acceptSlot i t else t) s

/-- A local reference accepted without an origin captures it (R143). -/
def captureOrigins (fixes : List Fix) (s : P1) : P1 :=
  fixes.foldl (fun t f =>
    let i := fixSlot f
    match localVector f.meas with
    | some v =>
      if isLocal i t && fuState i t = 2 && t.slots[i].origin.isNone then
        let r := toNed (slotVessel i v t) t
        let o : Rat × Rat := ((t.fus.x[0]).getD 0 + r.1, (t.fus.x[1]).getD 0 + r.2)
        record 0x031B i.val ((setSlot i (fun x => { x with origin := some o }) t).setBit (slKey i 0x14) 22 true)
      else t
    | none => t) s

/-! ### Initialisation (R149) -/

/-- The geodetic position of a fix of an absolute reference with its height; what a fix leaves open is free (assumption 3). -/
def geodetic (m : Meas) (s : P1) : Option (Rat × Rat × Rat) :=
  match m with
  | .position la lo h _ => some (la, lo, h.getD (Config.freeRat s.free))
  | .pose p fr =>
    let a := Config.latLon fr.lat fr.lon (p.x * Config.cos fr.yaw - p.y * Config.sin fr.yaw) (p.x * Config.sin fr.yaw + p.y * Config.cos fr.yaw)
    some (a.1, a.2, fr.height - p.z)
  | .raw l => if (rawTest l s).2 then some (Config.freeRat s.free, Config.freeRat (s.free + 1), Config.freeRat (s.free + 2)) else none
  | _ => none

/-- The first position fix after a cold start becomes the frame's origin (R133). -/
def fixOrigin (fixes : List Fix) (s : P1) : P1 :=
  if s.fus.origin.isSome then s
  else match fixes.findSome? fun f => if live (fixSlot f) s && absoluteRef .pos (fixSlot f) s then geodetic f.meas s else none with
  | none => s
  | some o => setFus (fun x => { x with origin := some o }) (s.drawN 3)

/-- What several fixes make of the estimate (R149): the spec gives their σ_eff as covariance and no formula for the mean
(assumption 98). -/
def startFrom (k : RefKind) (l : List Ref) (s : P1) : P1 :=
  let ops := (l.flatMap fun r => [r.n, r.e, r.sigma]).map some
  let v (c : Nat) : Option Rat := Config.engine .start s.free c ops
  match k with
  | .pos => setFus (fun f => { f with x := (f.x.set 0 (v 0)).set 1 (v 1), cov := (f.cov.set 0 (v 2)).set 1 (v 3) }) s.draw
  | .hdg => setFus (fun f => { f with x := f.x.set 8 ((v 0).map wrapPi), cov := f.cov.set 8 (v 2) }) s.draw

/-- The estimator initialises from references of a kind (R149). -/
def initialise (k : RefKind) (s : P1) : P1 :=
  let l := representatives k ((members k s).filter fun i => absoluteRef k i s && s.rd (slKey i 0x10) ≠ 0) s
  let t := if l ≠ [] && (vote k s).first.isNone then setVote k (fun v => { v with first := some s.elapsed }) s else s
  let pick : List Ref := match l with
    | [] => []
    | [a] => if 10000000 ≤ t.elapsed - (vote k t).first.getD t.elapsed then [a] else []
    | [a, b] => if pairWithin k 1 a b t then [a, b] else []
    | m => if 2 ≤ (consensus k m t).length then consensus k m t else []
  match pick with
  | [] => t
  | [r] => acceptSlot r.slot (setVote k (fun x => { x with init := true }) (setEstimate k r t))
  | m => m.foldl (fun w x => acceptSlot x.slot w) (setVote k (fun x => { x with init := true }) (startFrom k m t))

/-! ### Inertial sources (R136–R138) -/

/-- The primary inertial source (R136): the highest ranked one whose slot is accepted. -/
def rankedPrimary (s : P1) : Nat :=
  (([2, 3, 4] : List Nat).map fun k => s.rdN (ob 0x3000 k)).find? (fun r => r < 64 && s.rdN (slKey r 7) = 7
    && slotFusion r s = 2) |>.getD 0xFF

/-- The vessel model is unset (R138). -/
def modelUnset (s : P1) : Bool := (f64 (s.rd (ob 0x3030 1))).q = 0

/-- The primary inertial source, MODEL_ONLY and NO_MODEL (R136, R138). -/
def judgePrimary (s : P1) : P1 :=
  let p := rankedPrimary s
  let t := s.setBits (ob 0x3300 3) [(3, p = 0xFF), (7, p = 0xFF && modelUnset s)]
  if s.rd (ob 0x3000 5) = p then t else record 0x0319 p (t.wr (ob 0x3000 5) p)

/-- A squared σ is within the bound of an F32 object. -/
def sigmaWithin (c : Option Rat) (k : Nat) (s : P1) : Bool :=
  within c (f32 (s.rd k)).q

/-- A slot is a high-class inertial reference (R137). -/
def highClass (i : Fin 64) (s : P1) : Bool :=
  slotClass i s = 7 && fuState i s = 2 && !suspect i s
    && (if s.rd (slKey i 2) = 6 then
          (List.range 3).all fun k => (if h : 36 + k < 120 then sigmaWithin (s.fus.cov[33 + k]'(by omega)) (ob 0x3000 0x0E) s
            && sigmaWithin (s.fus.cov[36 + k]'h) (ob 0x3000 0x0F) s else false)
        else s.rd (ob 0x3021 (i.val + 1)) = 1 && match s.slots[i].block with
          | none => false
          | some b => if h : 47 + 3 * b < 120 then
              sigmaWithin (s.fus.cov[47 + 3 * b]'h) (ob 0x3000 0x0E) s
                && sigmaWithin (s.fus.cov[45 + 3 * b]'(by omega)) (ob 0x3000 0x0F) s
                && sigmaWithin (s.fus.cov[46 + 3 * b]'(by omega)) (ob 0x3000 0x0F) s
            else false)

/-- HIGH_INERTIAL (R137). -/
def judgeInertial (s : P1) : P1 :=
  s.setBit (ob 0x3300 3) 5 ((List.finRange 64).any fun (i : Fin 64) => highClass i s)

/-! ### Wind (R156, R223) -/

/-- The true wind from a wind slot's apparent one: speed and direction "from", clockwise from north. -/
def trueWind (a : Rat × Rat) (s : P1) : Rat × Rat :=
  let psi := (s.fus.x[8]).getD 0
  let dir := a.2 + psi
  let n := a.1 * Config.cos dir - (s.fus.x[3]).getD 0
  let e := a.1 * Config.sin dir - (s.fus.x[4]).getD 0
  (Config.sqrt (n * n + e * e), Config.atan2 e n)

/-- The true winds of the accepted wind slots. -/
def winds (s : P1) : List (Rat × Rat) :=
  (List.finRange 64).filterMap fun (i : Fin 64) =>
    if slotClass i s = 8 && fuState i s = 2 then (s.slots[i].wind).map fun w => trueWind w s else none

/-- Two winds differ by more than the gates of R156. -/
def windsDiffer (l : List (Rat × Rat)) (s : P1) : Bool :=
  let v := (f32 (s.rd (ob 0x3000 0x10))).q
  let d := (f32 (s.rd (ob 0x3000 0x11))).q
  l.any fun a => l.any fun b => v < ratAbs (a.1 - b.1) || d < ratAbs (wrapPi (a.2 - b.2))

/-- The true wind of a cycle and WIND_DISAGREE (R156). -/
def judgeWind (s : P1) : P1 :=
  let l := winds s
  let bad := windsDiffer l s
  let base := (l.head?.map (·.2)).getD 0
  let w : Option (Rat × Rat) := match l with
    | [] => none
    | [a] => some a
    | _ => some (median (l.map (·.1)), wrapPi (base + median (l.map fun x => wrapPi (x.2 - base))))
  let nb := if bad then min 10 (s.fus.windBad + 1) else 0
  let ng := if bad then 0 else min 10 (s.fus.windGood + 1)
  let was := s.bit (ob 0x3300 3) 6
  let t := setFus (fun f => { f with wind := w, windBad := nb, windGood := ng }) s
  let u := match w with
    | some x => (t.wrs [(ob 0x3002 0x0B, toF32 (Config.fp64 t.free x.1)), (ob 0x3002 0x0C, toF32 (Config.fp64 (t.free + 1) x.2))]).drawN 2
    | none => t
  if nb = 10 && !was then recordAlarm true 0x0011 0 0 (u.setBit (ob 0x3300 3) 6 true)
  else if ng = 10 && was then recordAlarm false 0x0011 0 0 (u.setBit (ob 0x3300 3) 6 false)
  else u

/-- A coefficient of the wind table of a degree of freedom (R223): linear between its 36 points. -/
def windCoeff (d : Fin 3) (gamma : Rat) (s : P1) : Rat :=
  let turn := 2 * Config.pi
  let g := (gamma - turn * ((gamma / turn).floor : Rat)) * 36 / turn
  let k := g.floor.toNat
  let c (j : Nat) : Rat := (f32 (s.rd (ob (0x4010 + d) (j % 36 + 1)))).q
  c k + (g - ((k : Nat) : Rat)) * (c (k + 1) - c k)

/-- The wind force in vessel axes (R223): none while the winds disagree or no wind slot is accepted. -/
def windForce (s : P1) : Option Tri :=
  if s.bit (ob 0x3300 3) 6 then none
  else match s.fus.wind with
  | none => none
  | some (speed, dir) =>
    let p := lowPose s
    match p.psi, p.vn, p.ve with
    | some psi, some vn, some ve =>
      let a := speed * Config.cos dir + vn
      let b := speed * Config.sin dir + ve
      let g := Config.atan2 b a - psi
      let f (d : Fin 3) : Option Rat := some (Config.fp64 (s.free + 16 + d) (windCoeff d g s * (a * a + b * b)))
      some #v[f 0, f 1, f 2]
    | _, _, _ => some #v[none, none, none]

/-! ### Counts and grade (R160–R165) -/

/-- A slot counts (R160). -/
def counts (i : Fin 64) (s : P1) : Bool :=
  slotOn i s && fuState i s = 2 && !suspect i s && s.rd (slKey i 0x10) ≠ 0 && !isSilent i s

/-- The groups of a kind that count, by their roots: the internal antennas as a heading source while a baseline is fixed (R141). -/
def countGroups (k : RefKind) (s : P1) : List Nat :=
  let l := (members k s).filter fun i => counts i s && (k = .pos || !isInternal i s || baselineFixed s)
  (l.map fun i => groupRoot l s 3 i).eraseDups

/-- n_p, k, n_h, COUNTED and the mask (R160). -/
def countRefs (s : P1) : P1 :=
  let l := (members .pos s).filter fun i => counts i s
  let np := (countGroups .pos s).length
  let kk := (l.map fun i => slotClass i s).eraseDups.length
  let nh := if s.fus.hdg.dispute.isSome then 1 else (countGroups .hdg s).length
  let c (i : Fin 64) : Bool := counts i s && (isRef .pos i s || isRef .hdg i s)
  let mask : Int := (List.finRange 64).foldl (fun m (i : Fin 64) => if c i then m + 2 ^ i.val else m) 0
  eachSlot (fun i t => t.setBit (slKey i 0x14) 20 (c i))
    (s.wrs [(ob 0x3300 0x0F, min 255 np), (ob 0x3300 0x10, min 255 kk), (ob 0x3300 0x11, min 255 nh), (ob 0x3300 0x13, mask)])

/-- The hold limit in grains (R163, R138). -/
def holdSpan (s : P1) : Nat :=
  if s.bit (ob 0x3300 3) 7 then 0
  else (if s.bit (ob 0x3300 3) 3 then s.rdN (ob 0x3300 5) else s.rdN (ob 0x3300 4)) * 1000000

/-- The hold timer has reached its limit. -/
def holdReached (s : P1) : Bool :=
  match s.fus.hold with
  | some g => holdSpan s ≤ s.elapsed - g
  | none => holdSpan s = 0

/-- A heading source has a fix (R149). -/
def headingFix (s : P1) : Bool := candidates .hdg (members .hdg s) s ≠ []

/-- The candidate grade (R161, R149). -/
def candidateGrade (s : P1) : Nat :=
  let np := s.rdN (ob 0x3300 0x0F)
  let nh := s.rdN (ob 0x3300 0x11)
  if !s.fus.pos.init then (if headingFix s then 5 else 6)
  else if nh = 0 then 6
  else if 3 ≤ np && 2 ≤ s.rdN (ob 0x3300 0x10) && 2 ≤ nh then 1
  else if 2 ≤ np then 2
  else if np = 1 then 3
  else if holdReached s then 5 else 4

/-- The grades that an upgrade reaches, with the subindex of their time (R162). -/
def upgrades : List (Fin 4 × Nat × Nat) := [(0, 1, 9), (1, 2, 0x0A), (2, 3, 0x0B), (3, 5, 0x0C)]

/-- The upgrade timers after a candidate (R162). -/
def upTimers (c : Nat) (s : P1) : P1 :=
  setFus (fun f => { f with upSince := upgrades.foldl (fun v u =>
    v.set u.1 (if c ≤ u.2.1 then some ((v[u.1]).getD s.elapsed) else none)) f.upSince }) s

/-- The highest grade that qualifies for an upgrade (R162). -/
def dueUpgrade (s : P1) : Option Nat :=
  if s.elapsed - s.fus.gradeSince < s.rdN (ob 0x3300 8) * 1000 then none
  else (upgrades.find? fun u => u.2.1 < s.grade && match s.fus.upSince[u.1] with
    | some g => s.rdN (ob 0x3300 u.2.2) * 1000 ≤ s.elapsed - g
    | none => false).map (·.2.1)

/-- The grade alarm and the heading alarm follow the grade (R165): one alarm, identified by the change that raised it. -/
def gradeAlarm (param new : Nat) (s : P1) : P1 :=
  let t := match s.fus.gradeParam with
    | some p => lower 0x0310 p s
    | none => s
  if 3 ≤ new then raise 0x0310 param (setFus (fun f => { f with gradeParam := some param }) t)
  else setFus (fun f => { f with gradeParam := none }) t

/-- A change of the grade (R162): recorded with the stamp of the cycle. -/
def changeGrade (new : Nat) (s : P1) : P1 :=
  if s.grade = new then s
  else
    let p := packDetails [(8, s.grade), (8, new)]
    gradeAlarm p new (setFus (fun f => { f with gradeSince := s.elapsed })
      (record 0x0310 p (s.wrs [(kGrade, new), (ob 0x3300 0x12, s.stamp)])))

/-- The hold timer after a grade (R163). -/
def holdTimer (s : P1) : P1 :=
  let t : P1 := if s.grade = 4 && s.fus.hold.isNone then setFus (fun f => { f with hold := some s.elapsed, limitReached := false }) s
    else if 1 ≤ s.grade && s.grade ≤ 3 then setFus (fun f => { f with hold := none, limitReached := false }) s else s
  let ms : Nat := match t.fus.hold with
    | some g => (t.elapsed - g) / 1000
    | none => 0
  (t.setBit (ob 0x3300 3) 2 t.fus.hold.isSome).wr (ob 0x3300 0x0D) (min 0xFFFFFFFF ms)

/-- The hold limit is reached: 031Ah (R163). -/
def reachHold (s : P1) : P1 :=
  if s.fus.hold.isSome && holdReached s && !s.fus.limitReached then
    record 0x031A 0 (setFus (fun f => { f with limitReached := true }) s)
  else s

/-- The move of the grade towards a candidate (R162). From "not evaluated", and until the estimator has initialised, the
grade is the candidate (assumption 35). -/
def moveGrade (c : Nat) (s : P1) : P1 :=
  if s.grade = 0 || !s.fus.pos.init || s.grade < c then changeGrade c s
  else if s.fus.selected && c ≤ 3 && 3 < s.grade then changeGrade 3 s
  else match dueUpgrade s with
    | some x => changeGrade x s
    | none => s

/-- UPGRADE_PENDING (R162). -/
def showPendingUpgrade (s : P1) : P1 :=
  s.setBit (ob 0x3300 3) 4 (upgrades.any fun u => u.2.1 < s.grade && (s.fus.upSince[u.1]).isSome)

/-- The grade of a cycle (R160–R165). In Dormant it is not evaluated (R164). -/
def evaluateGrade (s : P1) : P1 :=
  if s.mode = 0 then
    let t := match s.fus.gradeParam with
      | some p => lower 0x0310 p s
      | none => s
    (setFus (fun f => { f with gradeParam := none, upSince := Vector.replicate 4 none, hold := none, limitReached := false }) t).wrs
      [(kGrade, 0), (ob 0x3300 2, 0)]
  else
    let t := countRefs s
    let c := candidateGrade t
    let u := upTimers c (t.wr (ob 0x3300 2) c)
    judgeGrade (showPendingUpgrade (holdTimer (reachHold (moveGrade c u))))

/-! ### The estimator of a cycle -/

/-- The height of the vessel reference point: the origin's less the down element. -/
def heightNow (s : P1) : Option Rat := osub (s.fus.origin.map (·.2.2)) s.fus.x[2]

/-- The objects of 3002h follow the estimate (R166). -/
def showEstimate (s : P1) : P1 :=
  let o := frameOrigin s
  let p := lowPose s
  let ll := Config.latLon o.1 o.2 ((s.fus.x[0]).getD 0) ((s.fus.x[1]).getD 0)
  let f (n : Nat) (x : Option Rat) : Int := match x with
    | some q => toF32 (Config.fp64 (s.free + n) q)
    | none => 0x7FC00000
  let big : Option Rat := match s.fus.cov[0], s.fus.cov[1] with
    | some a, some b => some (Config.sqrt (if a < b then b else a))
    | _, _ => none
  let t := s.wrs ([(ob 0x3002 4, match p.psi with
      | some h => nearFree s.free (h * 1000000)
      | none => 0), (ob 0x3002 5, f 1 s.fus.x[9]), (ob 0x3002 6, f 2 s.fus.x[10]), (ob 0x3002 7, f 3 s.fus.x[11]),
    (ob 0x3002 8, f 4 big), (ob 0x3002 9, f 5 ((s.fus.cov[8]).map Config.sqrt)), (ob 0x3002 0x0A, s.stamp),
    (ob 0x3002 0x0D, f 6 s.fus.x[30]), (ob 0x3002 0x0E, f 7 s.fus.x[31]), (ob 0x3002 0x0F, f 8 s.fus.x[32])]
    ++ (if s.fus.pos.init then [(ob 0x3002 1, toF64 (Config.fp64 (s.free + 9) ll.1)), (ob 0x3002 2, toF64 (Config.fp64 (s.free + 10) ll.2)),
      (ob 0x3002 3, (fpBits (s.free + 11) ((heightNow s).map (Config.fp64 (s.free + 11))) : Nat))] else []))
  let dom (k : Nat) (v : Vector (Option Rat) 120) (u : P1) : P1 :=
    { u with dom := domInsert k ⟨v.toList.flatMap fun x => le 8 (fpBits s.free x), (domGet u.dom k).gen⟩ u.dom }
  (dom (ob 0x3002 0x11) s.fus.cov (dom (ob 0x3002 0x10) s.fus.x t)).drawN 12

/-- CONVERGED (R149). -/
def judgeConverged (s : P1) : P1 :=
  if s.fus.pos.init && s.fus.hdg.init && within s.fus.cov[0] 1 && within s.fus.cov[1] 1 && within s.fus.cov[8] (5 / 1000) then
    s.setBit (ob 0x3000 1) 0 true else s

/-- Fixes that correct the estimate (R136, R142, R146, R148): of accepted slots that are neither suspect nor monitored, whose last fix
passed; no wind, no draught, no target, and not the primary inertial source. -/
def corrections (l : List Fix) (s : P1) : List Fix :=
  l.filter fun f =>
    let i := fixSlot f
    fuState i s = 2 && !suspect i s && s.rd (slKey i 0x10) ≠ 0 && !s.bit (slKey i 0x14) 23 && match f.meas with
      | .wind _ _ | .draught _ => false
      | .pose _ fr => fr.kind = 0
      | .inertial _ => s.rdN (ob 0x3000 5) ≠ f.slot
      | _ => true

/-- A slot goes off: it gives up its elements, its block and its origin (R136, R139, R143, R148). -/
def turnOff (i : Fin 64) (s : P1) : P1 :=
  if fuState i s = 0 then s
  else
    setSlot i (fun x => { SlotState.reset with since := x.since, lastSeen := x.lastSeen, tm := x.tm, date := x.date })
      ((leaveSlot i 0 0 s).setBits (slKey i 0x14) [(19, false), (20, false), (21, false), (22, false), (23, false)])

/-- States that follow a slot's enable, weight and silence before the tests (R148). -/
def slotEdges (i : Fin 64) (s : P1) : P1 :=
  let t := refreshSlot i s
  let st := fuState i t
  if t.rd (slKey i 1) = 0 then t
  else if !slotOn i t then turnOff i t
  else if st = 0 then setFuState i 1 t
  else if t.rd (slKey i 0x10) = 0 then (if st = 5 then t else setFuState i 5 t)
  else if st = 5 then setFuState i 1 t
  else if st = 2 && isSilent i t then leaveSlot i 1 8 t
  else t

/-- Slots disabled since the last decision level go off (R148). -/
def endDisabled (s : P1) : P1 := eachSlot (fun i t => if t.rd (slKey i 1) = 0 then turnOff i t else t) s

/-- Suspect flags that fall due at this G+0 (R158). -/
def setSuspects (s : P1) : P1 :=
  eachSlot (fun i t =>
    if t.slots[i].trend.due then
      recordAlarm true 0x0313 i.val i.val ((setSlot i (fun x => { x with trend := { x.trend with due := false, clean := none } }) t).setBit
        (slKey i 0x14) 19 true)
    else t) s

/-- SUSPECT of a slot clears (R159). -/
def clearSuspect (i : Fin 64) (s : P1) : P1 :=
  if suspect i s then
    record 0x0314 i.val (lower 0x0313 i.val (leaveSlot i 1 5 ((setSlot i (fun x =>
      { x with trend := { x.trend with failed := 0, clean := none, due := false } }) s).setBit (slKey i 0x14) 19 false)))
  else s

/-- Every test has passed for 3010h:09 (R159). -/
def suspectTime (i : Fin 64) (s : P1) : P1 :=
  match s.slots[i].trend.clean with
  | some g => if s.rdN (ob 0x3010 9) * 1000000 ≤ s.elapsed - g then clearSuspect i s else s
  | none => s

/-- Every judged fix is no longer new. -/
def ageFixes (s : P1) : P1 :=
  { s with slots := s.slots.map fun x => { x with
      pos := x.pos.map fun j => { j with fresh := false }, hdg := x.hdg.map fun j => { j with fresh := false } } }

/-- Internal antennas share the state of the slot that stands for them (R141). -/
def shareInternal (s : P1) : P1 :=
  match internalSlot s with
  | none => s
  | some i =>
    let v := s.field (slKey i 0x14) 16 16
    eachSlot (fun j t => if j ≠ i && isInternal j t && slotOn j t then t.setField (slKey j 0x14) 16 16 v else t) s

/-- A dispute whose members have all left it otherwise ends without a record. -/
def dropDispute (k : RefKind) (s : P1) : P1 :=
  match (vote k s).dispute with
  | some d => if disputed d s = [] then endDispute k none s else s
  | none => s

/-- The decision level over references of a kind. -/
def decideKind (k : RefKind) (s : P1) : P1 :=
  if (vote k s).init then
    limitDispute k (testOthers k (testRefs k (requalify k (takeSelection k (dropDispute k s)))))
  else initialise k s

/-- Slots that are neither position nor heading references become accepted (R148), once the estimator has initialised (R149). -/
def requalifyOthers (s : P1) : P1 :=
  if !s.fus.pos.init then s
  else eachSlot (fun i t =>
    if slotOn i t && (fuState i t = 1 || fuState i t = 3) && !isRef .pos i t && !isRef .hdg i t && !suspect i t
        && nQual t ≤ t.slots[i].passes then acceptSlot i t else t) s

/-! ### Propagation (R28, R134, R135, R138) -/

/-- F64 values of 3030h. -/
def vesselParam (k : Nat) (s : P1) : Rat := (f64 (s.rd (ob 0x3030 k))).q

/-- The vessel model (R142): masses and inertias at the draught accepted last, dampings. How they vary with the draught is not stated
(assumption 98). -/
def vesselModel (s : P1) : List (Option Rat) :=
  let at0 := (f32 (s.rd (ob 0x3030 0x0B))).q
  ((List.range 5).map fun k => match s.fus.draught with
    | none => some (vesselParam (k + 1) s)
    | some d => if d = at0 then some (vesselParam (k + 1) s)
      else Config.engine .draught s.free k [some d, some at0, some (vesselParam (k + 1) s)])
    ++ (List.range 3).map fun k => some (vesselParam (k + 6) s)

/-- What drives the vessel model (R134): the achieved force, the wind force and the model; environment and efficiency stand in the
state. -/
def drivers (s : P1) : List (Option Rat) :=
  [s.fus.force.x, s.fus.force.y, s.fus.force.n].map (fun v => some (v : Rat))
    ++ (match windForce s with
      | some w => w.toList
      | none => [some 0, some 0, some 0])
    ++ vesselModel s

/-- The sample of the primary inertial source from the preceding 1,000 grains, with its bias states and its mount (R28, R134). -/
def primarySample (s : P1) : List (Option Rat) :=
  let p := s.rdN (ob 0x3000 5)
  if h : p < 64 then
    let x := s.slots[p]'h
    let l : List (Option Rat) := if s.rd (slKey p 2) = 6 then (List.range 6).map fun k => some (Config.freeRat (s.free + k))
      else match x.sample with
        | some (g, v) => if s.elapsed - g ≤ 1000 then v.map some else []
        | none => []
    let b : List (Option Rat) := match x.block with
      | some n => (List.range 3).map fun k => s.fus.x.toList.getD (45 + 3 * n + k) none
      | none => if s.rd (slKey p 2) = 6 then (List.range 6).map fun k => s.fus.x.toList.getD (33 + k) none else []
    l ++ b ++ (List.range 6).map fun k => some (mountVal (s.rdN (slKey p 0x0D)) k s)
  else []

/-- Frequency and damping of the nine oscillators (R133, R238): one that no fit has set has the defaults. -/
def oscParams (s : P1) : List (Option Rat) :=
  s.fus.osc.toList.flatMap fun o => match o with
    | some e => [some e.1, some e.2]
    | none => [some (2 * Config.pi / (f32 (s.rd (ob 0x3030 9))).q), some (f32 (s.rd (ob 0x3030 0x0A))).q]

/-- At constant velocity (R138). -/
def coast (dt : Rat) (n : Nat) (x : Vector (Option Rat) 120) : Vector (Option Rat) 120 :=
  let mv (j : Nat) (a v : Option Rat) : Option Rat := (oadd a (v.map fun y => y * dt)).map (Config.fp64 (n + j))
  (((x.set 0 (mv 0 x[0] x[3])).set 1 (mv 1 x[1] x[4])).set 2 (mv 2 x[2] x[5])).set 8 (mv 3 x[8] x[11])

/-- The state after a propagation over `dt` seconds: kinematics from the primary source, or from the vessel model alone, or at constant
velocity; the low-frequency block, the oscillators; biases and efficiencies are held (R134, R138). -/
def advance (dt : Rat) (s : P1) : Vector (Option Rat) 120 :=
  let ops := some dt :: s.fus.x.toList
  let bare := s.bit (ob 0x3300 3) 7
  let still := coast dt (s.free + 8) s.fus.x
  Vector.ofFn fun (k : Fin 120) =>
    if k.val < 9 then (if bare then still[k] else Config.engine .kinematics s.free k.val (ops ++ drivers s ++ primarySample s))
    else if k.val < 12 then (if bare then still[k] else Config.engine .vessel s.free k.val (ops ++ drivers s))
    else if k.val < 30 then Config.engine .waves s.free k.val (ops ++ oscParams s)
    else s.fus.x[k]

/-- A propagation to this grain, where the last one was before it (R20, R28). -/
def propagateTo (s : P1) : P1 :=
  if s.elapsed ≤ s.fus.propagated || (List.range 4).all fun e => s.stopped (estAddr e) then s
  else
    let t := judgePrimary s
    let dt : Rat := ((t.elapsed - t.fus.propagated : Nat) : Rat) / 1000000
    if !t.fus.pos.init && !t.fus.hdg.init then setFus (fun f => { f with propagated := t.elapsed }) t
    else setFus (fun f => { f with x := advance dt t, propagated := t.elapsed }) (t.drawN 12)

/-- INERTIAL_PROPAGATION (R28): on grains whose module-time index is a multiple of 1,000. -/
def propagate (s : P1) : P1 := if s.grainIndex % 1000 = 0 then propagateTo s else s

/-- The process noise of 3031h: a hundred times as large while neither an inertial source nor a model is there (R138). -/
def processNoise (s : P1) : List (Option Rat) :=
  (List.range 6).map fun k => some ((f32 (s.rd (ob 0x3031 (k + 1)))).q * (if s.bit (ob 0x3300 3) 7 then 100 else 1))

/-- The covariance propagated to the cycle's G+0 (R134). -/
def propagateCov (s : P1) : P1 :=
  if !s.fus.pos.init && !s.fus.hdg.init then s
  else
    let ops := some ((s.cycleLen : Rat) / 1000000) :: processNoise s ++ s.fus.x.toList ++ s.fus.cov.toList ++ s.fus.cross ++ vesselModel s
      ++ oscParams s
    let v (k : Nat) : Option Rat := Config.engine .covariance s.free k ops
    setFus (fun f => { f with cov := Vector.ofFn fun (k : Fin 120) => v k.val, cross := (List.range 7140).map fun k => v (120 + k) }) s.draw

/-! ### The correction (R22, R134, R144) -/

/-- Elements that a correction leaves as they are: the biases of a suspect slot (R159), and what a selection has just set (R153). -/
def keptElements (s : P1) : List Nat :=
  ((List.finRange 64).flatMap fun (i : Fin 64) => if suspect i s then s.slots[i].pool.map (57 + ·) else [])
    ++ (if s.fus.selected then [0, 1] else []) ++ (if s.fus.selectedH then [8] else [])

/-- What the correction takes of a fix: its slot, time, values, variance, mount, bias and origin. -/
def fixOperands (f : Fix) (s : P1) : List (Option Rat) :=
  let i := fixSlot f
  let b := biasOf i s
  let o := (s.slots[i].origin).getD (0, 0)
  ([(f.slot : Rat), (f.tm : Rat), fixVariance f s, b.n, b.e, b.psi, o.1, o.2] ++ f.meas.numbers
    ++ (List.range 6).map fun k => mountVal (s.rdN (slKey i 0x0D)) k s).map some

/-- The correction of the estimate by the fixes of a cycle (R134). -/
def correct (l : List Fix) (s : P1) : P1 :=
  if l = [] then s
  else
    let ops := s.fus.x.toList ++ s.fus.cov.toList ++ s.fus.cross ++ l.flatMap fun f => fixOperands f s
    let v (k : Nat) : Option Rat := Config.engine .correction s.free k ops
    let keep := keptElements s
    setFus (fun f => { f with
      x := Vector.ofFn fun (k : Fin 120) => if keep.contains k.val then f.x[k] else v k.val
      cov := Vector.ofFn fun (k : Fin 120) => if keep.contains k.val then f.cov[k] else v (120 + k.val)
      cross := (List.range 7140).map fun k => v (240 + k) }) s.draw

/-- The window of the next ALIGN run (R157, R199): the fixes of accepted and suspect slots, and the estimate at each G+0. -/
def keepWindow (l : List Fix) (s : P1) : P1 :=
  let span : Int := (s.rdN (ob 0x3010 2) : Int) * 1000000000
  let l := l.filter fun f => fuState (fixSlot f) s = 2 || suspect (fixSlot f) s
  setFus (fun f => { f with
    window := (l.reverse ++ f.window).filter fun g => (s.ns : Int) - g.tm ≤ span
    knots := ((s.ns, [f.x[0], f.x[1], f.x[8]]) :: f.knots).filter fun e => (s.ns : Int) - e.1 ≤ span }) s

/-- The tests of the decision level (R148–R159). -/
def decideRefs (l : List Fix) (s : P1) : P1 :=
  let c := requalifyOthers (decideKind .hdg (decideKind .pos s))
  let d := if c.fus.selection.isSome then (setFus (fun f => { f with selection := none }) c).inc (ob 0x3300 0x15) else c
  eachSlot suspectTime (allotBlocks (allotBias (captureOrigins l d)))

/-- What the decision level judges after the correction (R137, R138, R141, R149, R156, R160–R165). -/
def judgeLevel (s : P1) : P1 :=
  let ms : Nat := match s.fus.pos.dispute with
    | some x => (s.elapsed - x.start) / 1000
    | none => 0
  shareInternal (evaluateGrade (judgeWind (judgeInertial (judgePrimary (judgeConverged
    (endDisabled (s.wr (ob 0x3300 0x0E) (min 0xFFFFFFFF ms))))))))

/-- The estimator correction with its decision level (R20, R22, R134–R165). -/
def correctEstimate (s : P1) : P1 :=
  let a := sampleOwn (propagateCov (propagateTo s))
  let b := setFus (fun f => { f with selected := false, selectedH := false }) (ageFixes a)
  let c := if decides b then setSuspects (eachSlot slotEdges b) else b
  let l := latchFixes c
  let d := l.1.foldl (fun t f => judgeFix f t) (fixOrigin l.1 l.2)
  let e := if decides d then decideRefs l.1 d else d
  let used := corrections l.1 e
  let f := keepWindow l.1 (showEstimate (correct used (e.setField (ob 0x3000 1) 16 8 (min 255 used.length))))
  if decides f then judgeLevel f else f

/-! ### ALIGN (R157–R159, R200) -/

/-- The slots that an ALIGN run covers (R157): accepted or suspect references. -/
def alignSlots (s : P1) : List (Fin 64) :=
  (List.finRange 64).filter fun (i : Fin 64) => live i s && (fuState i s = 2 || suspect i s) && (isRef .pos i s || isRef .hdg i s)

/-- Unknowns of a slot in an ALIGN run (R199). -/
def alignUnknowns (i : Fin 64) (s : P1) : Nat := 6 + biasNeed i s

/-- Knots of an ALIGN run at a window in s and a spacing in ms (R199). -/
def alignKnots (window spacing : Nat) : Nat := 1000 * window / max 1 spacing + 1

/-- Unknowns of an ALIGN run (R199): its slots, then north, east and heading at each knot. -/
def alignSize (l : List (Fin 64)) (window spacing : Nat) (s : P1) : Nat :=
  l.foldl (fun n i => n + alignUnknowns i s) (3 * alignKnots window spacing)

/-- The slots that structure 6 was built for. -/
def alignCovered (s : P1) : List (Fin 64) := ((s.solver.res[6]).key.drop 3).map slotNo

/-- The slots of a run with the place of their first unknown: slots ascend, knots follow (assumption 109). -/
def alignPlaces (s : P1) : List (Fin 64 × Nat) :=
  ((alignCovered s).foldl (fun (a : List (Fin 64 × Nat) × Nat) i => (a.1 ++ [(i, a.2)], a.2 + alignUnknowns i s)) ([], 0)).1

/-- Least-squares slope of values against times, with the square of its standard error (R158). -/
def slopeOf (l : List (Rat × Rat)) : Rat × Rat :=
  let n : Rat := ((l.length : Nat) : Rat)
  let mx := (l.foldl (fun a e => a + e.1) 0) / n
  let my := (l.foldl (fun a e => a + e.2) 0) / n
  let sxx := l.foldl (fun a e => a + (e.1 - mx) * (e.1 - mx)) 0
  let sl := if sxx = 0 then 0 else (l.foldl (fun a e => a + (e.1 - mx) * (e.2 - my)) 0) / sxx
  let ss := l.foldl (fun a e => a + (e.2 - my - sl * (e.1 - mx)) * (e.2 - my - sl * (e.1 - mx))) 0
  (sl, if sxx = 0 || n ≤ 2 then 0 else ss / (n - 2) / sxx)

/-- The rate and bias limits of 3010h applied to a bias of one or two components (R158): `off` is 0 for position, 2 for heading. -/
def biasFails (off : Nat) (b0 : Rat × Rat) (l : List (Nat × Rat × Rat)) (s : P1) : Bool :=
  let full := l.length = s.rdN (ob 0x3010 0x0A)
  let rate := (f32 (s.rd (ob 0x3010 (3 + off)))).q
  let lim := (f32 (s.rd (ob 0x3010 (4 + off)))).q
  let mins (g : Nat) : Rat := ((g : Nat) : Rat) / 60000000
  let a := slopeOf (l.map fun e => (mins e.1, e.2.1))
  let b := slopeOf (l.map fun e => (mins e.1, e.2.2))
  let s2 := a.1 * a.1 + b.1 * b.1
  let d := l.headD (0, 0, 0)
  let db := (d.2.1 - b0.1) * (d.2.1 - b0.1) + (d.2.2 - b0.2) * (d.2.2 - b0.2)
  (full && rate ≠ 0 && rate * rate < s2 && 9 * (a.2 + b.2) < s2) || (full && lim ≠ 0 && lim * lim < db)

/-- A slot's tests after a run (R158), with its refined mount; `true` where one fails. -/
def trendFails (i : Fin 64) (refined : List Int) (s : P1) : Bool :=
  let tr := s.slots[i].trend
  let l := tr.biases.take (s.rdN (ob 0x3010 0x0A))
  let e := s.rdN (slKey i 0x0D)
  let moved (k : Nat) (sub : Nat) : Bool :=
    s.rd (ob 0x3010 sub) ≠ 0 && s.rdN (ob 0x3010 sub) < (refined.getD k 0 - s.rd (mtKey e (1 + k))).natAbs
  (isRef .pos i s && biasFails 0 (tr.b0.n, tr.b0.e) (l.map fun x => (x.1, x.2.n, x.2.e)) s)
    || (isRef .hdg i s && biasFails 2 (tr.b0.psi, 0) (l.map fun x => (x.1, x.2.psi, 0)) s)
    || (List.range 3).any (fun k => moved k 7) || (List.range 3).any fun k => moved (3 + k) 8

/-- The unknowns of some slot of a mount entry include a flagged pivot (R200). -/
def entryFlagged (e : Nat) (flagged : List Nat) (places : List (Fin 64 × Nat)) (s : P1) : Bool :=
  places.any fun p => s.rdN (slKey p.1 0x0D) = e && flagged.any fun k => p.2 ≤ k && k < p.2 + alignUnknowns p.1 s

/-- What a run finds for a slot whose unknowns begin at `o` (R157, R199, R200): the refined mount is the commissioned one with its
corrections. -/
def alignSlot (x : JobFound) (places : List (Fin 64 × Nat)) (i : Fin 64) (o : Nat) (s : P1) : P1 :=
  let e := s.rdN (slKey i 0x0D)
  let unit (k : Nat) : Rat := if k < 3 then 10000 else 1000000
  let v (k : Nat) : Rat := x.solution.getD (o + k) 0
  let refined := (List.range 6).map fun k => sat32 (nearFree (s.free + k) ((s.rd (mtKey e (1 + k)) : Rat) + v k * unit k))
  let sg (k : Nat) : Int := nearFree (s.free + 6 + k) (Config.sqrt (x.cov.getD (o + k) 0) * unit k)
  let top (k : Nat) : Nat := min 0xFFFFFFFF (max (sg k) (max (sg (k + 1)) (sg (k + 2)))).toNat
  let sl := top 0
  let sr := top 3
  let bias : Bias := if isRef .pos i s then ⟨v 6, v 7, if isRef .hdg i s then v 8 else 0⟩ else ⟨0, 0, v 6⟩
  let max1 := s.rdN (ob 0x4400 0x0E)
  let max2 := s.rdN (ob 0x4400 0x0F)
  let valid : List (Nat × Int) := if entryFlagged e x.flagged places s then [(mtKey e 0x0D, 0)]
    else if sl ≤ max1 && sr ≤ max2 then [(mtKey e 0x0D, 1)]
    else if 2 * max1 < sl || 2 * max2 < sr then [(mtKey e 0x0D, 0)] else []
  let t := setSlot i (fun y => { y with trend := { y.trend with biases := ((s.elapsed, bias) :: y.trend.biases).take 64 } }) s
  let fails := trendFails i refined t
  let tr := t.slots[i].trend
  let n := if fails then tr.failed + 1 else 0
  let due := !suspect i t && t.rdN (ob 0x3010 0x0B) ≤ n
  let u := setSlot i (fun y => { y with trend := { y.trend with
    failed := n, due := y.trend.due || due
    clean := if fails then none else if y.trend.clean.isSome then y.trend.clean else some s.elapsed } }) t
  let cells : List (Nat × Int) := (List.range 6).map fun (k : Nat) => (mtKey e (7 + k), refined.getD k 0)
  let errs : List (Nat × Int) := [(mtKey e 0x0E, (sl : Int)), (mtKey e 0x0F, (sr : Int))]
  (setFus (fun f => { f with aligned := f.aligned ++ cells ++ errs ++ valid }) u).drawN 12

/-- An ALIGN run that is not STALE (R157, R200). -/
def alignResult (x : JobFound) (s : P1) : P1 :=
  let places := alignPlaces s
  places.foldl (fun t p => alignSlot x places p.1 p.2 t) s

/-- The results of a run take effect at a G+0 (R157). -/
def adoptAlign (s : P1) : P1 := setFus (fun f => { f with aligned := [] }) (s.wrs s.fus.aligned)

/-! ### Written objects -/

/-- The slot is one of a pair in dispute. -/
def inDispute (n : Nat) (s : P1) : Bool :=
  [s.fus.pos.dispute, s.fus.hdg.dispute].any fun d => match d with
    | some x => x.a = n || x.b = n
    | none => false

/-- The rule of 3000h:0C (R154). -/
def selectionRule (v : Int) : Rule P1 :=
  checkRule (fun s => if inDispute v.toNat s then 0 else abRange) (setFus fun f => { f with selection := some v.toNat })

/-- The rule of 3000h:0D (R143): the origin moves so that the slot's last fix equals the estimate. -/
def recaptureRule (v : Int) : Rule P1 :=
  checkRule (fun s =>
    let i := slotNo v.toNat
    if fuState i s = 4 || (countGroups .pos s = [groupRoot ((members .pos s).filter fun j => counts j s) s 3 i] && counts i s) then abRange
    else 0) fun s =>
    let i := slotNo v.toNat
    match s.slots[i].origin, s.slots[i].pos with
    | some o, some j =>
      let q : Rat × Rat := (o.1 + (s.fus.x[0]).getD 0 - j.n, o.2 + (s.fus.x[1]).getD 0 - j.e)
      record 0x031B i.val (setSlot i (fun x => { x with origin := some q }) s)
    | _, _ => s

/-- The rule of 3010h:0C (R159). -/
def clearSuspectRule (v : Int) : Rule P1 := effRule fun s => clearSuspect (slotNo v.toNat) s

/-- The rule of 3000h:02–04 (R136): a slot of class MRU/inertial, or none. -/
def rankRule (k : Nat) (v : Int) : Rule P1 :=
  checkRule (fun s => if v = 0xFF || s.rdN (slKey v.toNat 7) = 7 then 0 else abRange) fun s => s.wr k v

/-- A change of the decision level by itself: in the grain of a station cycle that has one, of a module that is not in Dormant (R148,
R163, R164). -/
def atDecision (f : P1 → P1) (s : P1) : P1 := if atCycle s && decides s && s.mode ≠ 0 then f s else s

/-! ### Meanings -/

/-- DISPUTE_LIMIT (R153). -/
def execDisputeLimit (s : State) : Out := onP1 (atDecision (limitDispute .pos)) s

/-- HEADING_DISPUTE_LIMIT (R155). -/
def execHeadingDisputeLimit (s : State) : Out := onP1 (atDecision (limitDispute .hdg)) s

/-- DISPUTE_SELECTION (R154). -/
def execDisputeSelection (w : Nat) (v : Int) (s : State) : Out :=
  onReq w (ob 0x3000 0x0C) (.num v) (selectionRule v) s

/-- RECAPTURE_ORIGIN (R143). -/
def execRecaptureOrigin (w : Nat) (v : Int) (s : State) : Out :=
  onReq w (ob 0x3000 0x0D) (.num v) (recaptureRule v) s

/-- UPGRADE_TIME (R162): an upgrade whose time has passed. -/
def execUpgradeTime (s : State) : Out :=
  onP1 (atDecision fun p => match dueUpgrade p with
    | some x => judgeGrade (showPendingUpgrade (holdTimer (changeGrade x p)))
    | none => p) s

/-- HOLD_LIMIT (R163): G4 falls to G5. -/
def execHoldLimit (s : State) : Out :=
  onP1 (atDecision fun p => if p.fus.hold.isSome && holdReached p then
    let t := reachHold p
    judgeGrade (showPendingUpgrade (holdTimer (if t.grade = 4 then changeGrade 5 (t.wr (ob 0x3300 2) 5) else t))) else p) s

/-- SUSPECT_CLEAR_TIME (R159). -/
def execSuspectClearTime (i : Fin 64) (s : State) : Out := onP1 (atDecision (suspectTime i)) s

/-- CLEAR_SUSPECT (R159). -/
def execClearSuspect (w : Nat) (v : Int) (s : State) : Out :=
  onReq w (ob 0x3010 0x0C) (.num v) (clearSuspectRule v) s

/-- INERTIAL_PROPAGATION (R28, R134). -/
def execInertialPropagation (s : State) : Out := onP1 propagate s

end Sys2Proof.Machine
end

