-- ==== Sys2Proof/Machine/Sets.lean ====
section
/-! DEFINITION. Redundant sets (chapter "Redundant sets and switch-over", R459–R486): membership, health, ranking, set
messages as they are sent and taken, replay, relinquish classes, taking the lead. The events stand in Redundancy. -/

namespace Sys2Proof.Machine

/-- The state with its redundancy part changed. -/
def setRed (f : Redundancy → Redundancy) (s : P1) : P1 := { s with red := f s.red }

/-- The module is in a set of 2 or 3 (R460). -/
def inSet (s : P1) : Bool := s.setSize ≠ 1

/-! ### Membership and rank (R461, R462) -/

/-- The module is a member (R461). A partner not heard in the last 3 cycles is not judged (assumption 36). -/
def isMember (s : P1) : Bool :=
  2 ≤ s.mode && !s.red.moduleFault && s.red.partners.all fun p => 3 < p.age || (10 ≤ p.checkRun && 10 ≤ p.seqRun)

/-- Another module's LEAD frame counts (R461). -/
def canLeadSeen (s : P1) : Bool := s.red.canLead.toList.any (0 < ·)

/-- The member is eligible to take the lead (R461). -/
def isEligible (s : P1) : Bool :=
  isMember s && s.rd (ob 0x6400 4) ≤ s.rd (ob 0x6400 5) && !s.bit kRed 2 && !canLeadSeen s

/-- The Lead in force: this module or the partner that was Lead in the previous cycle; 0 none. -/
def leadId (s : P1) : Nat :=
  if s.role = 2 then s.rdN kModuleId
  else match (recent s).find? fun p => p.msg.role = .lead with
  | some p => p.id
  | none => 0

/-- 6400h:01 and 6401h follow the set (R484, R485). -/
def showSet (s : P1) : P1 :=
  let heard (n : Nat) : Bool := s.red.partners.any fun p => p.id = n && p.age ≤ 3
  let t := s.setBits kRed [(0, isEligible s), (1, isMember s), (4, s.red.partners.any fun p => p.checkRun = 0),
    (5, canLeadSeen s), (7, 0 < s.red.lawFailAge || 0 < s.red.allocFailAge), (9, heard 1), (10, heard 2), (11, heard 3),
    (18, s.red.partners.any fun p => p.seqRun = 0)]
  let u := t.setField kRed 16 2 (leadId s)
  [1, 2, 3].foldl (fun v n => match s.red.partners.find? fun p => p.id = n && p.age ≤ 3 with
    | some p => v.wr (ob 0x6401 n)
        (((match p.msg.role with | .isolated => 0 | .shadow => 1 | .lead => 2) + 256 * p.msg.mode + 65536 * p.msg.health : Nat))
    | none => v.wr (ob 0x6401 n) 0xFFFFFFFF) u

/-- This module ranks before every eligible partner in its own view (R462), by its published health. -/
def ranksFirst (s : P1) : Bool :=
  match bestPartner s with
  | none => true
  | some p => ranksBefore (s.rdN (ob 0x6400 5)) (s.role = 1) (s.rdN kModuleId) p.msg.health (p.msg.role = .shadow) p.id

/-! ### Health (R473) -/

/-- Channel c carries commands (R473): an enabled thruster with the command path CAN is on it. -/
def commandChannel (c : Fin 4) (s : P1) : Bool :=
  (List.finRange 16).any fun (i : Fin 16) => thrType i s ≠ 0 && s.rd (thrKey i 3) = 0 && s.rdN (thrKey i 4) = c.val

/-- A command channel in bus-off or ALONE. -/
def channelLost (c : Fin 4) (s : P1) : Bool := commandChannel c s && (s.can[c].errState = 2 || s.can[c].alone)

/-- Grade steps by which the own grade is worse than the Lead's (Shadow only). -/
def gradeSteps (s : P1) : Nat :=
  match s.red.partners.find? fun p => p.age ≤ 1 && p.msg.role = .lead with
  | some p => if s.role = 1 && p.msg.grade ≠ 0 then s.grade - p.msg.grade else 0
  | none => 0

/-- How often each condition of R473 holds, in the order of 6420h. -/
def penaltyCounts (s : P1) : List Nat :=
  let one (b : Bool) : Nat := if b then 1 else 0
  [ ((List.range 4).filter fun e => !engineRuns e s).length,
    ((List.range 4).filter fun e => s.stopped (estAddr e)).length,
    one (0 < s.red.lawFailAge), one (0 < s.red.allocFailAge), one (s.bit kRed 8), gradeSteps s,
    ((List.range 2).filter fun p => !s.bit kNet p || s.bit kNet (2 + p)).length,
    ((List.finRange 4).filter fun (c : Fin 4) => channelLost c s).length,
    ((s.alarms ++ s.unlisted).filter fun a => a.code = 0x0015 && a.active).length,
    ((List.finRange 16).filter fun (i : Fin 16) => thrType i s ≠ 0 && !feedbackValid i s).length ]

/-- The health of a module. -/
def healthOf (s : P1) : Nat :=
  if s.red.moduleFault then 0
  else 65535 - ((penaltyCounts s).zipIdx.foldl (fun n e => n + e.1 * s.rdN (ob 0x6420 (e.2 + 1))) 0)

/-! ### Role changes (R474, R475, R477–R479, R481) -/

/-- A Lead that sees another Lead of lower ID on a second consecutive cycle yields (R481). -/
def noteLead (id : Nat) (s : P1) : P1 :=
  if s.role = 2 && id < s.rdN kModuleId && s.red.leadBefore.contains id then
    relinquishAs 0x0E05 id 0xFF (nomineeOf s) 0 s
  else setRed (fun r => { r with leadNow := if r.leadNow.contains id then r.leadNow else r.leadNow ++ [id] }) s

/-- The relinquish class other than 0 that holds first, of those selected (R477). -/
def classNow (s : P1) : Option Nat :=
  let sel (k : Nat) : Bool := bitOf (s.rd (ob 0x6400 3)) k
  let shadows := (recent s).filter fun p => ableInView p s && p.msg.role = .shadow
  let holds (k : Nat) : Bool :=
    match k with
    | 1 => s.red.overrun
    | 2 => s.field (ob 0x4200 1) 0 2 = 3
    | 3 => (List.range 4).any fun e => s.stopped (slvAddr e)
    | 4 => !s.bit kNet 0 && !s.bit kNet 1
    | 5 => (List.finRange 4).any fun (c : Fin 4) => channelLost c s
    | 6 => 10 ≤ s.red.marginRun
    | 7 => 4 ≤ s.grade && shadows.any fun p => 1 ≤ p.msg.grade && p.msg.grade ≤ 2
    | _ => false
  [1, 2, 3, 4, 5, 6, 7].find? fun k => sel k && holds k

/-- A Lead relinquishes for a class while some partner is eligible in its view; else it withholds (R477). -/
def judgeRelinquish (s : P1) : P1 :=
  if s.role ≠ 2 || !inSet s then s
  else
    let t := setRed (fun r => { r with overrun := false }) s
    match classNow s with
    | none => t.setBit kRed 6 false
    | some k =>
      if (bestPartner s).isSome then relinquish k (nomineeOf s) 1 (t.setBit kRed 6 false)
      else if s.bit kRed 6 then t else record 0x0E04 k (t.setBit kRed 6 true)

/-- The run of class 6: own health below the best eligible Shadow's by more than 6400h:09 (R477). -/
def countMargin (s : P1) : P1 :=
  let below := (recent s).any fun p =>
    ableInView p s && p.msg.role = .shadow && s.rdN (ob 0x6400 5) + s.rdN (ob 0x6400 9) < p.msg.health
  setRed (fun r => { r with marginRun := if below then min 10 (r.marginRun + 1) else 0 }) s

/-- The released forces of a mirror's cycle, from its thrust and angle codes (R255, R258, R466, R478). -/
def mirrorReleased (m : Mirror) (s : P1) : Vector (Rat × Rat) 16 :=
  let c (i : Fin 16) : Int × Int := m.alloc.codes.getD i.val (0, 0)
  Vector.ofFn fun (i : Fin 16) => if thrType i s = 0 then (0, 0) else forceAt i (c i).1 (toBits 16 (c i).2) s

/-- The arcs, branches and transits of the mirrored cycle, with its angle codes (R263, R478). -/
def takeArcs (m : Mirror) (s : P1) : P1 :=
  (List.finRange 16).foldl (fun t (i : Fin 16) => match m.alloc.thrusters[i.val]? with
    | some x =>
      let q : List (Nat × Bool) := [(6, x.status.toNat.testBit 6), (7, x.status.toNat.testBit 7)]
      let u := ((t.setField (thrKey i 0x25) 16 4 (x.status.toNat / 65536)).setBits (thrKey i 0x25) q).wr (thrKey i 0x27) x.angle
      setThr i (fun y => { y with transit := x.transit.map fun q => ⟨q.1, q.2.1, q.2.2⟩ }) u
    | none => t) s

/-- A module takes the lead (R474, R478), by a relinquish with its mirror or by a vacancy. A Shadow's first cycle is a
hand-over; a mirror's f_prev and achieved force, or those of the feedback. The warm state is that of the last replayed
cycle (R467). -/
def takeLead (mir : Option Mirror) (code param : Nat) (s : P1) : P1 :=
  let t := setRole 2 (setRed (fun r => { r with takeover := none, relinquish := none, mirror := none, replay := none }) s)
  let u := record code param ((t.inc (ob 0x6400 0x0E)).setField kRed 12 4 0)
  if s.role ≠ 1 then u
  else
    let fb := feedbackForces s
    let f : Vector (Rat × Rat) 16 := match mir with
      | some m => mirrorReleased m s
      | none => fb
    let u : P1 := match mir, s.red.mirror with
      | some m, _ => takeArcs m u
      | none, some m => takeArcs m u
      | none, none => u
    let thr : Vector Thruster 16 := Vector.ofFn fun i => { u.alc.thr[i] with fPrev := f[i] }
    let v : P1 := { u with
      alc := { u.alc with thr := thr, first := false }
      ctl := { u.ctl with first := true, handFrom := if mir.isSome then 1 else 2 } }
    match mir with
    | some m => v.wrs ((List.range 3).map fun d => (ob 0x4201 (7 + d), m.alloc.achieved.getD d 0))
    | none => v

/-- A vacancy exists (R479). -/
def vacant (s : P1) : Bool :=
  3 ≤ s.field kRed 12 4 || match s.red.relinquish with
    | some q => 2 ≤ q.age && !(recent s).any fun p => p.id = q.nominee && p.msg.role = .lead
    | none => false

/-- A vacancy at a G+0 (R479): the eligible module ranked first takes the lead. -/
def takeVacancy (s : P1) : P1 :=
  if inSet s && s.role ≠ 2 && vacant s && isEligible s && ranksFirst s then takeLead none 0x0E01 (s.field kRed 12 4) s else s

/-- A Shadow that is no longer a member becomes Isolated (R474). -/
def dropShadow (s : P1) : P1 :=
  if s.role = 1 && !isMember s then
    record 0x0E00 (packDetails [(8, 1), (8, 0)]) (setRole 0 (setRed (fun r => { r with mirror := none, replay := none }) s))
  else s

/-! ### The mirror on a Shadow (R467) -/

/-- The dwell that the Lead has left, as this module's own (R229, R466 section 2). -/
def followDwell (m : Mirror) (s : P1) : P1 :=
  let since := if m.dwell = 0 then none else some (s.elapsed - (dwellSpan s - m.dwell))
  { s with ctl := { s.ctl with track := { s.ctl.track with dwellFrom := since } } }

/-- Mode, target, set-points, dwell and generators follow the Lead (R71, R467). -/
def followMirror (m : Mirror) (s : P1) : P1 :=
  let t := if m.mode = s.mode then s else s.wrs [(kMode, m.mode), (ob 0x2100 8, s.stamp)]
  let t := if m.mode = 10 && s.mode ≠ 10 then enterCloseHold t else t
  let u := ((t.wr (ob 0x2100 3) m.previousMode).setField kModeStatus 16 8 m.target).setBit kModeStatus 0 m.pending
  let g (i : Fin 3) : Gen := match m.gens[i.val]? with
    | some x => ⟨x.p, x.v, x.a, x.target, s.ctl.gens[i].scale⟩
    | none => s.ctl.gens[i]
  let v := followDwell m (u.wrs (setPointKeys.zip m.setPoints))
  { v with lawMode := if m.pending then m.previousMode else m.mode, ctl := { v.ctl with gens := #v[g 0, g 1, g 2] } }

/-- The fusion state and the counters of a slot from section 5 (R467). -/
def seedSlot (i : Fin 64) (m : Mirror) (s : P1) : P1 :=
  match m.estimate.slots[i.val]? with
  | some q =>
    { s.setField (slKey i 0x14) 16 16 q.1 with
      slots := s.slots.set i { s.slots[i] with passes := q.2.1, fails := q.2.2.1, failsH := q.2.2.2 } }
  | none => s

/-- The estimator is seeded from section 5 (R467): state, covariance, and the slots; it has a position and a heading where the
section gives them a covariance (R149). -/
def seedEstimator (m : Mirror) (s : P1) : P1 :=
  let e := m.estimate
  let x : Vector (Option Rat) 120 := Vector.ofFn fun (k : Fin 120) => e.x.getD k none
  let cov : Vector (Option Rat) 120 := Vector.ofFn fun (k : Fin 120) => e.diagonal.getD k none
  eachSlot (fun i t => seedSlot i m t) { s with
    fus := { s.fus with
      x := x, cov := cov, cross := e.below
      pos := { s.fus.pos with init := cov[0].isSome }, hdg := { s.fus.hdg with init := cov[8].isSome } } }

/-- Close Hold continues from section 6 at the joining (R466, R474; assumption 104). -/
def joinWave (m : Mirror) (s : P1) : P1 :=
  ((s.setOctets (ob 0x4304 5) m.close.coefficients).wrs [(ob 0x4304 1, m.close.skill), (ob 0x4304 4, m.close.windowEnd)]).setBit
    (ob 0x4304 2) 0 m.close.ready

/-- A member that has held a Lead's mirror on 10 consecutive cycles becomes Shadow (R474). -/
def becomeShadow (s : P1) : P1 :=
  if s.role ≠ 0 || !inSet s || !isMember s then s
  else match s.red.partners.find? fun p => p.age ≤ 1 && 10 ≤ p.mirrorRun with
  | none => s
  | some p =>
    match p.msg.mirror with
    | none => s
    | some m =>
      record 0x0E00 (packDetails [(8, 0), (8, 1)])
        (setRole 1 (followMirror m (joinWave m (seedEstimator m (setRed (fun r => { r with mirror := some m }) s)))))

/-- Parts of a staged write arrive (R468). -/
def takePart (f : ForwardedWrite) (total : Nat) (s : P1) : P1 :=
  let k := ob f.index f.sub
  setRed (fun r =>
    let old := (r.staged.find? fun g => g.key = k).getD ⟨k, [], total, 0⟩
    let d := old.data ++ f.value
    { r with staged := r.staged.filter (fun g => g.key ≠ k) ++ [⟨k, d, total, d.length⟩] }) s

/-! ### Set messages taken (R461, R464, R465) -/

/-- The set check of a partner differs, or agrees again (R461): 0E06h. -/
def noteCheck (id : Nat) (was now : Bool) (s : P1) : P1 :=
  let bad := packDetails [(8, 1), (8, id)]
  if now && !was then recordAlarm true 0x0E06 bad bad s
  else if was && !now then recordAlarm false 0x0E06 (packDetails [(8, 0), (8, id)]) bad s else s

/-- A complete cycle message of a partner (R464): what it shows of the partner. One message a cycle counts. -/
def takeMessage (m : SetMessage) (s : P1) : P1 :=
  let old := s.red.partners.find? fun p => p.id = m.source
  let again : Bool := match old with
    | some p => p.age = 0
    | none => false
  let check : Bool := m.setCheck = setCheckOf s
  let seq : Bool := m.seq = frameSequence s
  let mir : Bool := m.role = .lead && m.mirror.isSome
  let o : Partner := old.getD ⟨m.source, 255, m, 1, 1, 0⟩
  let run (ok : Bool) (n : Nat) : Nat := if !ok then 0 else if again then n else min 255 (n + 1)
  let first (n : Nat) : Nat := if old.isSome then n else 0
  let p : Partner := ⟨m.source, 0, m, run check (first o.checkRun), run seq (first o.seqRun),
    if !mir then 0 else if again then o.mirrorRun else if o.age = 1 then min 255 (o.mirrorRun + 1) else 1⟩
  let t := setRed (fun r => { r with partners := r.partners.filter (fun x => x.id ≠ m.source) ++ [p] }) s
  let u := noteCheck m.source (old.isSome && o.checkRun = 0) (!check) t
  if m.role = .lead then noteLead m.source u else u

/-- A LEAD thruster command frame of this set from another module (R461, R481). -/
def takeLeadFrame (id : Nat) (s : P1) : P1 :=
  if h : id < 4 then
    if inSet s && id ≠ 0 && id ≠ s.rdN kModuleId then
      noteLead id (setRed (fun r => { r with canLead := r.canLead.set id 3 }) s)
    else s
  else s

/-- A relinquish is processed (R474, R479): its sender's frames no longer count. -/
def takeRelinquish (m : SetMessage) (s : P1) : P1 :=
  let t := setRed (fun r => { r with
    canLead := if h : m.source < 4 then r.canLead.set m.source 0 else r.canLead
    leadNow := r.leadNow.filter (· ≠ m.source) }) s
  if m.nominee = t.rdN kModuleId then
    if t.role = 1 && isEligible t then setRed (fun r => { r with takeover := some (m.source, m.mirror) }) t else t
  else if 1 ≤ m.nominee && m.nominee ≤ 3 then
    setRed (fun r => { r with relinquish := some ⟨m.source, m.nominee, 0, m.mirror⟩ }) t
  else t

/-! ### Set messages sent (R464, R466, R468) -/

/-- Parts of the staged writes that find room in section 7 (R468). -/
def fillParts : List Staged → Nat → List Staged × List ForwardedWrite
  | [], _ => ([], [])
  | g :: r, room =>
    let n := min (room - 16) (g.total - g.sent)
    if n = 0 then
      let x := fillParts r room
      (g :: x.1, x.2)
    else
      let x := fillParts r (room - 16 - n)
      ({ g with sent := g.sent + n } :: x.1,
        ⟨g.key / 256, g.key % 256, (g.data.drop g.sent).take n, some (g.total, g.sent)⟩ :: x.2)

/-- The cycle message is sent once a cycle, after the module's last release (R464); DMA channel 2 assembles the mirror (R510). -/
def sendCycleMessage (s : P1) : P1 :=
  if !inSet s || s.red.sent then s
  else
    let lead : Bool := s.role = 2
    let room := 16384 - (s.red.sending.foldl (fun n f => n + writeUse f) 0)
    let x := if lead then fillParts s.red.staged room else (s.red.staged, [])
    let t := showSet (setRed (fun r => { r with staged := x.1, sending := r.sending ++ x.2, sent := true, leadHeld := lead }) s)
    let m : Option Mirror := if lead && !s.stopped (dmaAddr 2) then some (buildMirror t) else none
    let u := setRed (fun r => { r with sending := [], mirrorSent := m }) t
    if canSend u then netSend 7 (.setMessage (buildMessage 0 0xFF m t) false) (if lead then u.drawN 3 else u) else u

/-! ### Replay (R472) -/

/-- A replay differs from the mirror: 0 law, 1 allocation. -/
def replayMiss (which : Nat) (s : P1) : P1 :=
  record 0x0E07 which ((setRed (fun r => if which = 0 then { r with lawFailAge := 100 } else { r with allocFailAge := 100 })
    s).inc (ob 0x6400 0x10))

/-- The law replay of a mirror: the demands to the bit. -/
def replayLaw (m : Mirror) (s : P1) : P1 :=
  let k : Mirror := if m.pending then { m with mode := m.previousMode } else m
  if (List.finRange 3).all fun (d : Fin 3) => dofReplay d k s = m.lawOutput.getD d.val 0 then s else replayMiss 0 s

/-- The allocation replay of a mirror: an ALLOC job in the background queue of the engine that is assigned ALLOC. -/
def replayAlloc (m : Mirror) (s : P1) : P1 :=
  if !allocating m.mode then s
  else match typeEngine 7 s with
  | none => s
  | some e =>
    let t := prepareMatrix (mirrorAlloc m.alloc s)
    let d := allocDelta t
    let j : Job := ⟨ownDesc 7 true d s, s.elapsed, s.stamp, .mirror m, d, none⟩
    let u : P1 := { s with solver := { s.solver with nextId := (s.solver.nextId + 1) % 2 ^ 32 } }
    if 16 ≤ (s.solver.engines[e]).bg.length then
      (reportJob j none (stStale + stRefused) 0 none u).1
    else (setEng e (fun x => { x with bg := x.bg ++ [j] }) u).inc (jtKey 7 3)

/-- The projected forces that stand after a job: those that it delivered, else those held (R472). -/
def heldForces (x : Ended) (s : P1) : Vector (Rat × Rat) 16 :=
  match x.found.bind (·.iter) with
  | some it => it.z
  | none => Vector.ofFn fun i => s.alc.thr[i].z

/-- The end of a replay job, compared as delivered (R472); a delivered one leaves its warm state (R467). -/
def replayEnd (m : Mirror) (x : Ended) (s : P1) : P1 :=
  let same := mirrorAgrees m.alloc (heldForces x s) s
  let t := match x.found.bind (·.iter) with
    | some it => keepWarm it s
    | none => s
  if same then t else replayMiss 1 t

/-- The own estimate agrees with the mirrored one within a share of the tolerances. -/
def estimateWithin (half : Bool) (m : Mirror) (p : Pose) (s : P1) : Bool :=
  let k : Rat := if half then 1 / 2 else 1
  let tp := k * (f32 (s.rd (ob 0x6400 0x0B))).q
  let th := k * (f32 (s.rd (ob 0x6400 0x0C))).q
  let u (v : Int) : Rat := (v : Rat) / 4294967296
  match p.n, p.e, p.psi with
  | some n, some e, some psi =>
    let dn := n - u m.estNorth
    let de := e - u m.estEast
    dn * dn + de * de ≤ tp * tp && ratAbs (wrapPi (psi - u m.estHeading)) ≤ th
  | _, _, _ => false

/-- The estimate check (R472): ESTIMATE_DIVERGE after 10 failures, cleared after 10 cycles within half the tolerances. -/
def judgeEstimate (m : Mirror) (s : P1) : P1 :=
  match s.red.ownPose with
  | none => s
  | some p =>
    let bad := if estimateWithin false m p s then 0 else s.red.estBad + 1
    let good := if estimateWithin true m p s then s.red.estGood + 1 else 0
    let t := setRed (fun r => { r with estBad := min 10 bad, estGood := min 10 good }) s
    if !t.bit kRed 8 && 10 ≤ bad then recordAlarm true 0x0E08 1 1 (t.setBit kRed 8 true)
    else if t.bit kRed 8 && 10 ≤ good then recordAlarm false 0x0E08 0 1 (t.setBit kRed 8 false) else t

/-- The replays of the mirror of the previous cycle, on a Shadow; a missing mirror is skipped. -/
def replayMirror (s : P1) : P1 :=
  match s.red.replay with
  | none => s
  | some m =>
    let t := setRed (fun r => { r with replay := none }) s
    if s.role = 1 then replayAlloc m (replayLaw m (judgeEstimate m t)) else t

/-! ### The set at a G+0 -/

/-- MISSED at a G+0 (R465): a module that was itself Lead holds its own message (assumption 37). -/
def countMissed (s : P1) : P1 :=
  let held := s.role = 2 || s.red.leadHeld || s.red.partners.any fun p => p.age = 1 && p.msg.role = .lead
  let n := s.field kRed 12 4
  let t := s.setBit kRed 3 (!held)
  if held then t.setField kRed 12 4 0
  else
    let u := (t.setField kRed 12 4 (min 15 (n + 1))).inc (ob 0x6400 0x11)
    if n = 0 then record 0x0E09 0 u else u

/-- A takeover that a relinquish named takes place (R474, R478). -/
def takeNominated (s : P1) : P1 :=
  match s.red.takeover with
  | none => s
  | some q =>
    let mir := match q.2 with
      | some m => some m
      | none => s.red.mirror
    if s.role = 1 then takeLead mir 0x0E02 q.1 s else setRed (fun r => { r with takeover := none }) s

/-- One cycle more for what the set counts in cycles. -/
def ageSet (s : P1) : P1 :=
  setRed (fun r => { r with
    partners := r.partners.map fun p => { p with age := min 255 (p.age + 1) }
    canLead := r.canLead.map fun n => n - 1
    leadBefore := r.leadNow, leadNow := []
    relinquish := r.relinquish.map fun q => { q with age := q.age + 1 }
    lawFailAge := r.lawFailAge - 1, allocFailAge := r.allocFailAge - 1
    sending := r.forward, forward := [], sent := false }) s

/-- The set at a G+0 before the cycle's work (R460, R465, R473, R474, R478). -/
def beginSet (s : P1) : P1 :=
  if !inSet s then s.wr (ob 0x6400 5) (healthOf s)
  else
    let t := becomeShadow (dropShadow (takeNominated (replayMirror (countMissed (ageSet s)))))
    let u := countMargin (t.wr (ob 0x6400 5) (healthOf t))
    showSet (setRed (fun r => { r with leadHeld := false }) (judgeRelinquish u))

/-- The reference messages of a Lead at G+0 (R309, R447): Cycle_Count. The time mark and the field places are those of ISO
11898-4, inserted by the controller; the frame carries the count in its first octet (assumption 38). -/
def sendReferences (s : P1) : P1 :=
  if s.role ≠ 2 then s
  else (List.finRange 4).foldl (fun t (c : Fin 4) =>
    if t.bit (ob 0x5030 1) c.val then
      canQueue c 0 (txFrame .reference (t.rdN (ob (0x5600 + c) 9) + t.rdN kModuleId - 1)
        (le 1 (t.grainIndex / t.cycleLen % 64))) t
    else t) s

end Sys2Proof.Machine
end

