-- ==== Sys2Proof/Machine/SolverRun.lean ====
section
/-! DEFINITION. What the issuers of solver jobs do with a result (R157, R201, R202, R238, R269, R472), and the events of the
solver cluster, of Close Hold and of the track that follow from one (chapters "Solver engines", "Station control law and
Close Hold"). -/

namespace Sys2Proof.Machine

/-! ### Results for their issuers -/

/-- A status has a bit of R196. -/
def hasStatus (x : Ended) (b : Nat) : Bool := x.status / b % 2 = 1

/-- After a cycle's commands have been released the cycle message is sent (R464), and relinquish classes are judged (R477). -/
def afterRelease (s : P1) : P1 := judgeRelinquish (sendCycleMessage s)

/-- A cycle whose commands have been released ends a run of overruns and its alarm (R25, R554). -/
def cycleReleased (s : P1) : P1 :=
  let t := { s with overrunRun := 0 }
  afterRelease (if 0 < s.overrunRun then lower 0x0012 0 t else t)

/-- The force on the vessel of the cycle that has been released (R135): the achieved one of an allocating mode (R268), else that
of the feedback (R255). -/
def achievedDof (s : P1) : Dof :=
  if allocating s.lawMode then ⟨s.rd (ob 0x4201 7), s.rd (ob 0x4201 8), s.rd (ob 0x4201 9)⟩ else feedbackDof s

/-- The last command of the cycle has been released (R22): its delay is shown and sampled, and the cycle ends. -/
def finishRelease (s : P1) : P1 :=
  if s.alc.opened && !s.alc.due && s.alc.queue = [] then
    let u := showDelay { s with alc := { s.alc with opened := false } }
    let t : P1 := { u with fus := { u.fus with force := achievedDof u } }
    cycleReleased (if t.red.moduleFault then t else sampleRelease t)
  else s

/-- The commands whose time has come are released (R22, R480). -/
def advanceReleases (s : P1) : P1 := finishRelease (releaseReady s)

/-- How a job ended for its cycle (R269). -/
def allocEnd (x : Ended) : AllocEnd :=
  match x.found.bind (·.iter) with
  | some it => .delivered it (hasStatus x stTruncated)
  | none => .stale

/-- The end of a cycle's ALLOC job (R269), or of a replay (R472). A job of an earlier cycle decides nothing. -/
def allocEnded (x : Ended) (s : P1) : P1 :=
  match x.job.input with
  | .mirror m => replayEnd m x s
  | _ =>
    if s.alc.due && s.elapsed - x.job.grain ≤ (s.ns - s.alc.latch) / 1000 then advanceReleases (takeAlloc (allocEnd x) s) else s

/-- A WAVE result that is not STALE waits for the next G+0 (R238). -/
def waveEnded (x : Ended) (s : P1) : P1 :=
  match x.found with
  | none => s
  | some r => { s with ctl := { s.ctl with wave := { s.ctl.wave with result := some (s.ctl.wave.lastIssue, f64Octets r.solution) } } }

/-- A FIT or POSE result (R201, R202): no fix when STALE, with a regularised pivot, or with too few inliers, primitives or
detections in its last assembly; else a fix with the pose found. -/
def poseEnded (x : Ended) (s : P1) : P1 :=
  match x.job.fix with
  | none => s
  | some f =>
    if h : f.slot < 64 then
      match x.found, f.meas with
      | some r, .pose _ fr =>
        if hasStatus x stPivot || !r.enough then incomplete ⟨f.slot, h⟩ s
        else
          let g (k : Nat) : Rat := r.solution.getD k 0
          deliver { f with meas := .pose ⟨g 0, g 1, g 2, g 3, g 4, g 5⟩ fr } s
      | _, _ => incomplete ⟨f.slot, h⟩ s
    else s

/-- A job's end reaches its issuer (R172). -/
def jobEnded (x : Ended) (s : P1) : P1 :=
  match x.job.desc.ty with
  | 3 =>
    match x.found with
    | some r => alignResult r s
    | none => s
  | 4 | 5 => poseEnded x s
  | 6 => waveEnded x s
  | 7 => allocEnded x s
  | _ => s

/-- The state after an operation of the cluster whose job may have ended. -/
def withEnded (r : P1 × Option Ended) : P1 :=
  match r.2 with
  | some x => jobEnded x r.1
  | none => r.1

/-- The state after several jobs have ended, in order. -/
def withAllEnded (r : P1 × List Ended) : P1 := r.2.foldl (fun t x => jobEnded x t) r.1

/-! ### The module's own structures (R180–R182, R184, R207) -/

/-- What structure k of the module is built from: of ALLOC the variables, of WAVE the order, of ALIGN the window, the knot
spacing in force since the last issue and the slots (R199, R203, R207, R259). -/
def ownKey (k : Nat) (s : P1) : List Nat :=
  match k with
  | 2 => 2 :: (forceVars s).map fun v => 2 * v.1.val + (if v.2 then 1 else 0)
  | 5 => [5, s.rdN (ob 0x4400 0x10)]
  | 6 => 6 :: s.rdN (ob 0x3010 2) :: (s.solver.res[6]).key.getD 2 (s.rdN (ob 0x4400 0x0A)) :: (alignSlots s).map (·.val)
  | _ => [k]

/-- Unknowns of structure k of the module (R133, R140, R199, R201–R203, R259). -/
def ownUnknowns (k : Nat) (key : List Nat) (s : P1) : Nat :=
  match k with
  | 0 => 120
  | 1 => 11
  | 2 => (forceVars s).length + 6
  | 5 => 3 * key.getD 1 0
  | 6 => alignSize ((key.drop 3).map slotNo) (key.getD 1 0) (key.getD 2 0) s
  | _ => 6

/-- The elimination order that SUP finds (R181): free, a permutation (assumption 110). -/
def ownOrder (n : Nat) (key : List Nat) : List Nat :=
  let p := Config.ordering key
  if p.length = n ∧ p.all (fun i => i < n) ∧ p.Nodup then p else List.range n

/-- The sparsity pattern that SUP finds for ALIGN (R181): free, in the layout's order and closed under elimination
(assumption 110). -/
def ownPattern (n : Nat) (key : List Nat) : List (Nat × Nat) :=
  let p := Config.sparsity key
  if columnsOk n p && p.all (fun e => e.2 < n && p.countP (· = e) = 1) && closedPattern p then p
  else (List.range n).map fun i => (i, i)

/-- The values with which a structure of the module is built: of ALLOC those of K (R259); the others' are formed by the next
assembly, and free until then (assumption 110). -/
def ownValues (k : Nat) (x : Spelled) (s : P1) : List Nat :=
  if k = 2 then
    let a := matrixK s
    x.pattern.map fun e =>
      let i := x.perm.getD e.1 0
      let j := x.perm.getD e.2 0
      elementK a (max i j) (min i j)
  else (List.range x.nnz).map fun m => (toF64 (Config.freeRat (s.free + m))).toNat

/-- A structure of the module as SUP builds it (R181). -/
def ownStructure (k : Nat) (key : List Nat) (s : P1) : Spelled :=
  let n := ownUnknowns k key s
  let sparse := k = 6
  let pattern := if sparse then ownPattern n key else densePattern n
  let x : Spelled :=
    { sparse := sparse, n := n, nnz := pattern.length, p := patternLength n pattern.length (k = 2) sparse, quasi := k = 2
      perm := ownOrder n key
      signs := (ownOrder n key).map fun i => if k = 2 && n ≤ i + 3 then -1 else 1
      pattern := pattern, values := [] }
  { x with values := ownValues k x s }

/-- A rebuild that waits for a running job replaces the resident structure at the first G+0 without one (R184). -/
def swapOwn (k : Fin 16) (s : P1) : P1 :=
  match (s.solver.res[k]).swap with
  | some b => if structureBusy k s then s else installStructure k b s
  | none => s

/-- Structure k of the module is built anew where what it is built from has changed (R180, R184); one that exceeds the limits or
the free space leaves the resident one (R180). -/
def buildFrom (k : Fin 16) (key : List Nat) (s : P1) : P1 :=
  if (s.solver.res[k]).key = key then swapOwn k s
  else
    let x := ownStructure k key s
    let t := { s with solver := { s.solver with res := upd s.solver.res k fun r => { r with swap := none } } }
    let own := if isResident k t then areaOf (t.rdN (stKey k 3)) (t.rdN (stKey k 4)) else 0
    if structureSize x.sparse x.n x.nnz && areaOf x.n x.nnz ≤ freeArea t + (if structureBusy k t then 0 else own) then
      let b := layStructure x (toBits 64 (s.rd (stKey k 5))) (toBits 64 (s.rd (stKey k 6)))
      swapOwn k ((offerStructure k b (setRes k (fun r => { r with key := key }) t)).drawN x.nnz)
    else s

/-- The structures of the module at a G+0 (R184). -/
def buildStructures (s : P1) : P1 :=
  showArea ((List.range 7).foldl (fun t k => buildFrom (stNo k) (ownKey k t) t) s)

/-- At an ALIGN issue the knot spacing of 4400h:0A takes effect (R207). -/
def takeSpacing (s : P1) : P1 := buildFrom 6 ((ownKey 6 s).set 2 (s.rdN (ob 0x4400 0x0A))) s

/-! ### Issues of the module -/

/-- An ALIGN run is issued every run interval (R157, R199). -/
def alignIssue (s : P1) : P1 :=
  let due : Bool := match s.fus.alignAt with
    | some g => g + 1000 * s.rdN (ob 0x3010 1) ≤ s.elapsed
    | none => true
  if due then
    withEnded (issueOwn 3 false .estimate none (takeSpacing { s with fus := { s.fus with alignAt := some s.elapsed } }))
  else s

/-- A WAVE refit is issued every refit interval, over a full window (R238). -/
def waveRefit (s : P1) : P1 :=
  match s.ctl.wave.samples with
  | [] => s
  | x :: _ =>
    if s.ctl.wave.samples.length < fitCount s || s.ns < s.ctl.wave.lastIssue + s.rdN (ob 0x4300 2) * 1000000000 then s
    else withEnded (issueOwn 6 false (ownInput 6 s) none
      { s with ctl := { s.ctl with wave := { s.ctl.wave with lastIssue := x.ns } } })

/-- The fit is older than 4300h:06 (R240). -/
def waveAge (s : P1) : P1 := if fitFresh s then s else judgeCloseHold (clearReady 1 s)

/-- The exit time of the skill has passed (R240). -/
def waveExit (s : P1) : P1 :=
  match s.ctl.wave.exitSince with
  | some g => if g + 1000 * s.rdN (ob 0x4300 0x0B) ≤ s.elapsed then judgeCloseHold (clearReady 3 s) else s
  | none => s

/-- A waypoint's dwell ends (R229): the next waypoint, or the end of the track while Auto Track is in force (R74). A
Shadow follows the Lead. -/
def waypointDwell (s : P1) : P1 :=
  let ended : Bool := match s.ctl.track.dwellFrom with
    | some g => g + dwellSpan s ≤ s.elapsed
    | none => false
  if s.lawMode = 7 && ended && s.role ≠ 1 then
    let r := dwellEnd s
    if r.2 && r.1.mode = 7 then trackEnd r.1 else r.1
  else s

/-! ### Meanings -/

/-- ALIGN_ISSUE (R157). -/
def execAlignIssue (s : State) : Out := onP1 alignIssue s

/-- JOB_ISSUE (R179): a descriptor of the module's own issuers. -/
def execJobIssue (d : JobDesc) (s : State) : Out := onP1 (fun p => withEnded (issueDesc d p)) s

/-- JOB_START (R187). -/
def execJobStart (e : Fin 4) (s : State) : Out := onP1 (fun p => withEnded (jobStart e p)) s

/-- JOB_COMPLETE (R195). -/
def execJobComplete (e : Fin 4) (s : State) : Out := onP1 (fun p => withEnded (jobComplete e p)) s

/-- JOB_DEADLINE (R194). -/
def execJobDeadline (e : Fin 4) (point : DeadlinePoint) (s : State) : Out :=
  onP1 (fun p => withEnded (jobDeadline e point p)) s

/-- ENGINE_CHECK_JOB (R177). -/
def execEngineCheckJob (e : Fin 4) (agrees : Bool) (s : State) : Out :=
  onP1 (fun p => judgeRelinquish (withAllEnded (engineCheck e agrees p))) s

/-- STRUCTURE_LOAD (R181, R183). -/
def execStructureLoad (w : Nat) (k : Fin 16) (bytes : List Byte) (s : State) : Out :=
  onReq w (stKey k 1) (.bytes bytes) (structureRule k bytes) s

/-- STRUCTURE_SWAP (R184). -/
def execStructureSwap (k : Fin 16) (s : State) : Out := onP1 (structureSwap k) s

/-- TEST_JOB_DESCRIPTOR (R178, R211). -/
def execTestJobDescriptor (w : Nat) (bytes : List Byte) (s : State) : Out :=
  onReq w (ob 0x4430 1) (.bytes bytes) (testJobRule bytes) s

/-- SOLVER_CLEAR_STATISTICS (R210). -/
def execSolverClearStatistics (w : Nat) (t : Fin 8) (v : Int) (s : State) : Out :=
  onReq w (jtKey (t + 1) 0x0D) (.num v) (solverClearRule (t + 1)) s

/-- WAYPOINT_DWELL_END (R229). -/
def execWaypointDwellEnd (s : State) : Out := onP1 waypointDwell s

/-- WAVE_SAMPLE (R237, R239). -/
def execWaveSample (s : State) : Out := onP1 (fun p => judgeCloseHold (waveSample p)) s

/-- WAVE_REFIT_ISSUE (R238). -/
def execWaveRefitIssue (s : State) : Out := onP1 waveRefit s

/-- WAVE_FIT_AGE_EXPIRY (R240). -/
def execWaveFitAgeExpiry (s : State) : Out := onP1 waveAge s

/-- WAVE_EXIT_TIME (R240). -/
def execWaveExitTime (s : State) : Out := onP1 waveExit s

end Sys2Proof.Machine
end

