-- ==== Sys2Proof/Machine/Faults.lean ====
section
/-! DEFINITION. Faults as events (chapter "Build hierarchy: units to module", R51–R65, R580–R583; R12, R403, R568): what
stops with a block, links between dies, temperatures, supplies, and the restart of a block. -/

namespace Sys2Proof.Machine

/-! ### What stops with a block (R55, R56) -/

/-- Fold over the numbers of a kind of unit that a block holds. -/
def eachIn {n : Nat} (b : Nat) (addr : Nat → Nat) (f : Fin n → P1 → P1) (s : P1) : P1 :=
  (List.finRange n).foldl (fun t (i : Fin n) => if blockHolds b (addr i.val) then f i t else t) s

/-- Pending records of a recorder that stops are counted (R503). -/
def recorderStops (s : P1) : P1 :=
  let r := s.recorder
  let n := r.pending + (if r.commit.isSome then 1 else 0)
  let t := ((({ s with recorder := { r with commit := none, clears := [], sessions := [], counts := [], summaries := [] } }).add
    (ob 0x6000 3) n).setBit kRec 3 false).setBit kRec 4 true
  recordAlarm true 0x0013 0 0 (showPending t)

/-- A stopped CAN unit: its frames are reported failed, received ones are lost (R56, R441). -/
def canStops (c : Fin 4) (s : P1) : P1 := canDropAll c 7 (setCan c (fun x => { x with rx0 := [], rx1 := [], fast := [] }) s)

/-- Both ports of the DP pair are stopped, or the queues of region PKT are. -/
def dpStopped (s : P1) : Bool := dpDown s || s.stopped (unitAddr 1 2 1 63 255)

/-- Sensor port p is stopped, or its queues are. -/
def sensorStopped (p : Nat) (s : P1) : Bool := s.stopped (unitAddr 1 2 0 1 p) || s.stopped (unitAddr 1 2 1 63 255)

/-- Service port p is stopped, or its queues are. -/
def serviceStopped (p : Nat) (s : P1) : Bool := s.stopped (unitAddr 1 2 0 2 p) || s.stopped (unitAddr 1 2 1 63 255)

/-- Stopped MACs and queues of die N lose what waits in their queues (R55, R56). -/
def networkStops (s : P1) : P1 :=
  let n := s.net
  let dp := dpStopped s
  { s with net := { n with
      tx := if dp then Vector.replicate 8 [] else n.tx
      rx := if dp then Vector.replicate 8 0 else n.rx
      sensorTx := Vector.ofFn fun (p : Fin 4) => if sensorStopped p s then [] else n.sensorTx[p]
      sensorRx := Vector.ofFn fun (q : Fin 12) => if sensorStopped (q.val / 3) s then 0 else n.sensorRx[q]
      serviceTx := Vector.ofFn fun (p : Fin 2) => if serviceStopped p s then [] else n.serviceTx[p]
      serviceRx := Vector.ofFn fun (p : Fin 2) => if serviceStopped p s then 0 else n.serviceRx[p] } }

/-! ### Items of stopped blocks (R56) -/

/-- Numbered items of a queue. -/
def numbered (queue n : Nat) : List (Nat × List Byte) := (List.range n).map fun i => (queue, le 2 i)

/-- The items in the queues of die N that a stop loses, by queue number (R49) and place. -/
def netItems (s : P1) : List (Nat × List Byte) :=
  let n := s.net
  (if dpStopped s then (List.finRange 8).flatMap fun (c : Fin 8) => numbered c.val n.tx[c].length ++ numbered (8 + c.val) n.rx[c] else [])
    ++ ((List.finRange 4).flatMap fun (p : Fin 4) =>
      if sensorStopped p s then
        numbered (16 + 4 * p.val) n.sensorTx[p].length ++ (List.finRange 3).flatMap fun (q : Fin 3) =>
          numbered (17 + 4 * p.val + q.val) n.sensorRx[sensorQ p q]
      else [])
    ++ (List.finRange 2).flatMap fun (p : Fin 2) =>
      if serviceStopped p s then numbered (32 + 2 * p.val) n.serviceTx[p].length ++ numbered (33 + 2 * p.val) n.serviceRx[p] else []

/-- The items in flight in a unit or in its queues, as their owners name them: jobs and descriptors by identifier, CAN frames by
CAN identifier, fast packets by source and PGN, records by kind, channels by satellite and signal, reads by grain. -/
def unitItems (u : UnitId) (s : P1) : List (List Byte) :=
  match u with
  | .slv e =>
    let x := s.solver.engines[e]
    (x.run.toList.map (·.job) ++ x.fg ++ x.bg).map fun j => le 4 j.desc.id
  | .dma d =>
    let x := s.dma[d]
    (x.run.toList.map (·.desc) ++ x.ring).map fun r => le 4 r.id
  | .recorder =>
    let r := s.recorder
    (r.commit.toList.map (·.record) ++ r.clears ++ r.sessions ++ r.counts ++ r.summaries).map fun q => le 1 q.kind ++ le 8 q.start
  | .can c =>
    let x := s.can[c]
    ((x.q0 ++ x.q1 ++ x.q2 ++ x.q3).map fun f => le 4 f.ident) ++ ((x.rx0 ++ x.rx1).map fun f => le 4 f.ident)
      ++ x.fast.map fun f => le 1 f.source ++ le 4 f.pgn
  | .serial k => if (s.serial[k]).lastChar.isSome && !(s.serial[k]).spoilt then [le 1 k.val] else []
  | .axis a => ((s.axes[a]).reading.toList.map fun g => le 8 g) ++ (s.axes[a]).events
  | .probe k => (s.probes[k]).latched.map (fun x => le 8 x.ns) ++ (s.probes[k]).records
  | .gnss a c => ((gnssChan a c s).asg.toList).map fun g => le 1 g.2.1 ++ le 1 g.2.2
  | .ctl e => if e = 2 then (List.finRange 8).flatMap fun (m : Fin 8) => (List.range s.mailboxes[m]).map fun i => le 1 (88 + m.val) ++ le 2 i else []
  | _ => []

/-- Every item of a block that stops is reported failed with the fault address (R56). -/
def reportItems (addr : Nat) (s : P1) : P1 :=
  let b := blockOf addr
  let units := (coreUnits.filter fun u => blockHolds b u.addr).flatMap fun u => (unitItems u s).map fun x => (u.addr, x)
  { s with reports := s.reports ++ (units ++ netItems s).map fun e => ⟨addr, e.1, e.2⟩ }

/-- Every channel of an antenna that a block holds loses its assignment. -/
def channelsStop (b : Nat) (s : P1) : P1 :=
  let idle (k : Fin 192) : GnssChan :=
    if blockHolds b (unitAddr 1 1 0 (k.val / 64) (k.val % 64)) then ⟨none, false, false, false, false, false, 0⟩ else s.time.chans[k]
  { s with time := { s.time with chans := Vector.ofFn idle } }

/-- What the module itself moves through a stopped DMA channel (R510): a commit on channel 0 waits again, a save on channel 1 fails. -/
def dmaUsersStop (b : Nat) (s : P1) : P1 :=
  let t := if blockHolds b (dmaAddr 0) then showPending ({ s with recorder := uncommit s.recorder }.setBit kRec 3 false) else s
  match t.save with
  | some v => if blockHolds b (dmaAddr 1) then saveFails v 7 t else t
  | none => t

/-- The work of every unit of P1 that the block of a fault address holds ends, item by item (R56, R206, R521). Region TIME in fault breaks the continuity of
the grain counter (R584). -/
def stopUnits (addr : Nat) (s : P1) : P1 :=
  let b := blockOf addr
  let s0 := reportItems addr s
  let s1 := eachIn b slvAddr (fun (e : Fin 4) t => withAllEnded (engineStop e t)) s0
  let s2 := eachIn b axisAddr (fun (a : Fin 8) t => axisStop a t) s1
  let s3 := eachIn b canAddr (fun (c : Fin 4) t => canStops c t) s2
  let s4 := dmaUsersStop b (eachIn b dmaAddr (fun (d : Fin 16) t => dmaEndAll d 7 t) s3)
  let s5 := if blockHolds b recorderAddr then recorderStops s4 else s4
  let s6 := eachIn b serialAddr
    (fun (k : Fin 8) t => { t with serial := upd t.serial k fun x => { x with spoilt := true } }) (channelsStop b s5)
  let s7 := networkStops (eachIn b (fun k => unitAddr 1 1 2 0 (10 + k)) (fun (k : Fin 2) t => setProbe k (fun x => { x with latched := [], records := [] }) t) s6)
  let s8 := if blockHolds b (ctlAddr 2) then { s7 with mailboxes := Vector.replicate 8 0 } else s7
  if blockHolds b (unitAddr 1 1 1 63 255) then { s8 with time := { s8.time with broken := true } } else s8

/-- A fault of P1 is reported, its block stops, and relinquish classes are judged (R55, R477). -/
def coreFault (addr : Nat) (s : P1) : P1 :=
  let t := addFault addr s
  if stopsAnew addr s then judgeRelinquish (if levelOf (blockOf addr) = 5 then t else stopUnits addr t) else t

/-- The core's report of a fault of another package, while P1 has supply. -/
def reportFault (addr : Nat) (s : State) : State :=
  if s.p1.phase = .off then s else { s with p1 := addFault addr s.p1 }

/-! ### Die temperature (R59, R64, R583) -/

/-- The temperature of a die (R59): the alarm at 110.0 °C, its end at 105.0 °C. A halted or unreachable die shows none. -/
def dieTemperature (d : Die) (tenths : Int) (s : P1) : P1 :=
  let p := (dieIdx d).val
  if 2 ≤ dieState d s then s
  else
    let t := s.wr (ob 0x2201 (dieSub d)) (clamp (-32767) 32767 tenths)
    let hot : Bool := dieState d s = 1
    showDies (if !hot && 1100 ≤ tenths then recordAlarm true 0x0015 p p t
      else if hot && tenths ≤ 1050 then lower 0x0015 p t else t)

/-! ### Faults of every package -/

/-- A channel of P2 stops where a block at unit, region or die level holds it, and a die goes to its halt state; a fault of the
package takes its supply (R55, R581). -/
def guardFault (b : Nat) (p : P2) : P2 :=
  if levelOf b = 4 then { p with powered := false, link := false }
  else
    let die : Bool := levelOf b = 3
    let stop (c : Chan) (i : Fin 2) (a : Nat) (q : P2) : P2 :=
      if blockHolds b a then stopChannel c (if die then { q with halted := q.halted.set i true } else q) else q
    stop .winter 1 winterAddr (stop .saf 0 safAddr p)

/-- A block of P3 stops; a fault of the package takes its supply and turns every output off (R63). -/
def fieldFault (b : Nat) (f : P3) : P3 :=
  if levelOf b = 4 then { f with powered := false } else { f with down := if f.down.contains b then f.down else f.down ++ [b] }

/-- CORE_LINK reads 0 while P2 does not answer (R417). -/
def coreLinkDown (s : State) : State :=
  if s.p2.link || s.p1.phase = .off then s else { s with p1 := s.p1.setBit (ob 0x6883 1) 8 false }

/-- The guard link has failed (R60, R61): the core reports it at package level, and no switch changes. -/
def guardLinkFail (s : State) : State :=
  let t : State := { s with p2 := { s.p2 with link := false } }
  coreLinkDown (if t.p1.phase = .off then t else { t with p1 := addFault 0xBFFFFC06 t.p1 })

/-- The link to a die of P3 has failed (R60, R61): no output changes but by the silence timeout. -/
def fieldLinkFail (k : FieldDie) (s : State) : State :=
  let i := fieldIdx k
  let t : State := { s with p3 := { s.p3 with link := s.p3.link.set i false } }
  if t.p1.phase = .off then t
  else { t with p1 := frameLost k (addFault 0xFFFFFC06 { t.p1 with fldLink := t.p1.fldLink.set i false }) }

/-- A fault at an address (R55): of P1 and the system, of P2, or of P3. A fault of P2 or P3 with cause 006h at die or package level
is the core's report of a failed link (R61). -/
def faultAt (addr : Nat) (s : State) : State :=
  let b := blockOf addr
  let cut : Bool := causeOf addr = 6 && 3 ≤ levelOf b
  match addr / 2 ^ 30 % 4 with
  | 2 =>
    if cut then guardLinkFail s
    else
      let t := onP2 (guardFault b) s
      coreLinkDown (if t.p1.phase = .off then t else { t with p1 := addFault addr t.p1 })
  | 3 =>
    if cut then
      let f0 := if blockHolds b (dieBlock .f0) then fieldLinkFail .f0 s else s
      if blockHolds b (dieBlock .f1) then fieldLinkFail .f1 f0 else f0
    else
      let t := syncField { s with p3 := fieldFault b s.p3 }
      if t.p1.phase = .off then t else { t with p1 := addFault addr t.p1 }
  | _ =>
    if s.p1.phase = .run then { s with p1 := coreFault addr s.p1 } else s

/-- A write response that did not return (R53, R195, R503, R517). -/
def wrespLost (x : WriteItem) (s : State) : State :=
  match x with
  | .recorderCommit =>
    if s.p1.phase = .run then
      let r := commitLost s.p1
      { s with p1 := if r.2 then addFault (recorderAddr + 0x100) r.1 else r.1 }
    else s
  | .dmaDescriptor d =>
    if s.p1.phase = .run then
      let r := dmaLost d s.p1
      { s with p1 := if r.2 then dmaEndAll d 7 (addFault (dmaAddr d + 5) r.1) else r.1 }
    else s
  | .solverResult e =>
    if s.p1.phase = .run then { s with p1 := judgeRelinquish (withAllEnded (engineFault e 0x102 s.p1)) } else s
  | .block a => faultAt (blockOf a.toNat + 5) s

/-! ### Links (R60, R61, R405) -/

/-- The declared failure of a link: a die of P1 at die level, P2 and P3 at package level. -/
def linkFail (d : Die) (s : State) : State :=
  match d with
  | .c | .t | .n => faultAt (dieBlock d + 6) s
  | .g | .w => guardLinkFail s
  | .f0 => fieldLinkFail .f0 s
  | .f1 => fieldLinkFail .f1 s

/-- A frame on the link to a die fails its check (R60): retransmitted up to 3 times; the fourth failure of one frame declares
the link failed. A failure in the same or the next grain is one of the same frame (assumption 41). -/
def linkCheckFail (d : Die) (s : State) : State :=
  if s.p1.phase ≠ .run then s
  else
    let e := s.p1.linkTries[dieIdx d]
    let n := if s.p1.elapsed ≤ e.2 + 1 then e.1 + 1 else 1
    let put (x : Nat × Nat) : State := { s with p1 := { s.p1 with linkTries := s.p1.linkTries.set (dieIdx d) x } }
    if 4 ≤ n then linkFail d (put (0, 0)) else put (n, s.p1.elapsed)

/-- The faults inside a block end (R58). -/
def endFaultsIn (b : Nat) (s : P1) : P1 :=
  ((s.faults ++ s.unreported).filter fun f => blockHolds b f.addr).foldl (fun t f => endFault (blockOf f.addr) t) s

/-- The link failure of a package ends when every link to it is up. -/
def endLinkFault (addr : Nat) (s : P1) : P1 :=
  if (s.faults ++ s.unreported).any (fun f => f.addr = addr) then endFault (blockOf addr) s else s

/-- A cross-barrier link comes back (R405): what the far side shows reaches the core again. -/
def linkReturn (d : Die) (s : State) : State :=
  match d with
  | .g | .w =>
    if !s.p2.powered then s
    else
      let t := { s with p2 := { s.p2 with link := true } }
      syncGuard { t with p1 := endLinkFault 0xBFFFFC06 t.p1 }
  | .f0 | .f1 =>
    let k : FieldDie := if d = .f0 then .f0 else .f1
    let i := fieldIdx k
    let t := { s with p3 := { s.p3 with link := s.p3.link.set i true }, p1 := { s.p1 with fldLink := s.p1.fldLink.set i true } }
    let up := t.p1.fldLink[(0 : Fin 2)] && t.p1.fldLink[(1 : Fin 2)]
    linkBack k { t with p1 := if up then endLinkFault 0xFFFFFC06 t.p1 else t.p1 }
  | _ => s

/-! ### Halts and supplies (R59, R63, R568) -/

/-- A die enters its halt state (R59). The loss of die T's power-good breaks the grain counter (R584). -/
def dieHalt (d : Die) (c : HaltCause) (s : State) : State :=
  let n : Nat := match c with
    | .overtemp => 8
    | .powerGoodLost => 7
  let t := faultAt (dieBlock d + n) s
  if d = .t && c = .powerGoodLost then { t with p1 := { t.p1 with time := { t.p1.time with broken := true } } } else t

/-- The core browns out (R568): a module-level fault, and P1 stops. -/
def coreBrownout (s : P1) : P1 :=
  if s.phase = .off then s
  else { (if s.phase = .run then coreFault 0x7FFFFC09 s else s) with phase := .off, supply := Vector.replicate 2 false }

/-- The number of a supply input (R492). -/
def supplyIdx : SupplyInput → Fin 2
  | .pwrA => 0
  | .pwrB => 1

/-- A supply input is lost or returns (R568): recorded under 0017h while the module runs, a loss while the other input feeds it. -/
def supplyChange (i : SupplyInput) (present : Bool) (s : P1) : P1 :=
  if s.supply[supplyIdx i] = present then s
  else if !present && !s.supply[1 - supplyIdx i] then { s with supply := s.supply.set (supplyIdx i) false }
  else record 0x0017 (packDetails [(8, (supplyIdx i).val), (8, if present then 0 else 1)])
    { s with supply := s.supply.set (supplyIdx i) present }

/-! ### The PLL (R12) -/

/-- The 2 GHz PLL loses lock: a module-level fault, counted in 2000h:03; the next warm reset is a cold start (R584). -/
def pllUnlock (s : P1) : P1 :=
  let n := min 0xFFFF (s.field kClock 16 16 + 1)
  coreFault 0x3FFFFC0B { ((s.setField kClock 16 16 n).setBits kClock [(0, false), (1, false)]) with pllLost := true }

/-- Lock has been held for 100 ms (R12): PLL_LOCK sets. That the divided clocks pass their phase check follows the lock: DIV_OK
sets with it and clears with its loss (assumption 91). -/
def pllLockHeld (s : P1) : P1 := s.setBits kClock [(0, true), (1, true)]

/-- What the clocks do to P1 while it has supply, its starts included. -/
def onClocks (f : P1 → P1) (s : State) : Out := if s.p1.phase = .off then .next s else .next { s with p1 := f s.p1 }

/-! ### Restart (R58, R582) -/

/-- A block holds an engine of die C. -/
def holdsEngine (b : Nat) : Bool :=
  (List.range 4).any (fun e => blockHolds b (estAddr e) || blockHolds b (slvAddr e))
    || (List.range 3).any fun e => blockHolds b (ctlAddr e)

/-- An address names a unit, a cluster or a region of the module, with cause 000h. -/
def restartable (addr : Nat) : Bool :=
  addr % 1024 = 0 && levelOf addr ≤ 2 && (coreUnits ++ farUnits).any fun u => blockHolds addr u.addr

/-- A sequencer of the recorder that runs again (R503). -/
def recorderResumes (s : P1) : P1 :=
  let t := s.setBit kRec 4 false
  if t.bit kRec 0 then t else lower 0x0013 0 t

/-- The units of a restarted block start anew; one inside another block still in fault stays stopped. -/
def resumeUnits (b : Nat) (s : P1) : P1 :=
  let free {n : Nat} (addr : Nat → Nat) (f : Fin n → P1 → P1) (i : Fin n) (t : P1) : P1 := if t.stopped (addr i.val) then t else f i t
  let s1 := eachIn b axisAddr (free axisAddr fun (a : Fin 8) t => restartAxis a t) s
  let s2 := eachIn b canAddr (free canAddr fun (c : Fin 4) t => setErrCounts c 0 0 t) s1
  let s3 := eachIn b dmaAddr (free dmaAddr fun (d : Fin 16) t => setDma d (fun x => { x with lostRun := 0 }) t) s2
  let s4 := if blockHolds b recorderAddr && !s3.stopped recorderAddr then recorderResumes s3 else s3
  if blockHolds b filterAddr && !s4.stopped filterAddr then (List.finRange 32).foldl (fun t (c : Fin 32) => startRun c t) s4 else s4

/-- The result of a restarted block's self-test (R58): its faults end and its units start anew, or it is in fault with cause
00Ah, and stops where it ran. -/
def restartEnds (b : Nat) (ok : Bool) (s : P1) : P1 :=
  if ok then resumeUnits b (endFaultsIn b s)
  else if b / 2 ^ 30 = 1 then coreFault (b + 0x00A) (endFaultsIn b s)
  else addFault (b + 0x00A) (endFaultsIn b s)

/-- The rule of 2200h:05 (R58): a block of P2 starts its checks there; a block of P3 runs again where its self-test passes. -/
def restartBlockRule (p : P2) (addr : Nat) (ok : Bool) : Rule P1 where
  mode := fun s => if holdsEngine addr && !(s.mode = 1 || s.mode = 2 || s.mode = 11) then abMode else 0
  check := fun _ => if restartable addr then 0 else abRange
  busy := fun s =>
    match addr / 2 ^ 30 % 4 with
    | 2 => if p.link then 0 else abHardware
    | 3 => if s.fldLink[(if blockHolds 0xC7FFFC00 addr then 0 else 1 : Fin 2)] then 0 else abHardware
    | _ => 0
  eff := fun s =>
    match addr / 2 ^ 30 % 4 with
    | 2 => sendGuard (.channels addr) s
    | 3 => let t := restartEnds addr ok s
      { t with linkOut := t.linkOut ++ [if ok then .resume addr else .halt addr] }
    | _ => restartEnds addr ok s

/-- The region of a safety channel. -/
def chanRegion : Chan → Nat
  | .saf => unitAddr 2 0 0 63 255
  | .winter => unitAddr 2 1 0 63 255

/-- The unit of a safety channel (R580). -/
def chanAddr : Chan → Nat
  | .saf => safAddr
  | .winter => winterAddr

/-- The start checks of a channel are done (R410); those of a restarted one end its fault or leave it with cause 00Ah
(R582). -/
def startChecks (c : Chan) (s1 s2 : Bool) (s : State) : State :=
  let again := (s.p2.chan c).st = .checking && s.p2.startDone && s.p2.powered
  let t := onP2 (checksDone c s1 s2) s
  if !again || t.p1.phase = .off then t
  else if (t.p2.chan c).st = .running then { t with p1 := endFaultsIn (chanRegion c) t.p1 }
  else { t with p1 := addFault (chanAddr c + 0x00A) (endFaultsIn (chanRegion c) t.p1) }

/-- The rule of 2200h:07 (R65). -/
def statusSelectRule (addr : Nat) : Rule P1 :=
  checkRule (fun _ => if (unitOf addr).isSome then 0 else abRange) fun s => s.wr (ob 0x2200 7) addr

/-! ### Meanings -/

/-- BLOCK_FAULT (R55). -/
def execBlockFault (addr : Word32) (s : State) : Out := .next (faultAt addr.toNat s)

/-- WRESP_LOST (R53). -/
def execWrespLost (item : WriteItem) (s : State) : Out := .next (wrespLost item s)

/-- LINK_CHECK_FAIL (R60). -/
def execLinkCheckFail (far : FarEnd) (s : State) : Out := .next (linkCheckFail far s)

/-- DIE_TEMPERATURE_ALARM (R59). -/
def execDieTemperatureAlarm (die : Die) (tenths : Int) (s : State) : Out := onP1 (dieTemperature die tenths) s

/-- DIE_HALT (R59). -/
def execDieHalt (die : Die) (cause : HaltCause) (s : State) : Out := .next (dieHalt die cause s)

/-- FIELD_LOGIC_POWER_FAIL (R63). -/
def execFieldLogicPowerFail (pkg : FieldPackage) (s : State) : Out :=
  .next (faultAt (match pkg with
    | .p2 => 0xBFFFFC09
    | .p3 => 0xFFFFFC09) s)

/-- CORE_BROWNOUT (R568). -/
def execCoreBrownout (s : State) : Out := .next { s with p1 := coreBrownout s.p1 }

/-- SUPPLY_INPUT_CHANGE (R568). -/
def execSupplyInputChange (input : SupplyInput) (present : Bool) (s : State) : Out := onP1 (supplyChange input present) s

/-- RESTART_BLOCK (R58). -/
def execRestartBlock (w : Nat) (addr : Word32) (selfTest : Bool) (s : State) : Out :=
  onLinkReq w (ob 0x2200 5) (.num addr.toNat) (restartBlockRule s.p2 addr.toNat selfTest) s

/-- READ_STATUS_WORD_SELECT (R65). -/
def execReadStatusWordSelect (w : Nat) (addr : Word32) (s : State) : Out :=
  onReq w (ob 0x2200 7) (.num addr.toNat) (statusSelectRule addr.toNat) s

/-- PLL_UNLOCK (R12). -/
def execPllUnlock (s : State) : Out := onClocks pllUnlock s

/-- PLL_LOCK_HELD (R12). -/
def execPllLockHeld (s : State) : Out := onClocks pllLockHeld s

/-- SAF_CLOCK_FAIL (R403). -/
def execSafClockFail (s : State) : Out := .next (faultAt (safAddr + 3) s)

/-- START_CHECKS_DONE (R410). -/
def execStartChecksDone (chan : Chan) (step1 step2 : Bool) (s : State) : Out := .next (startChecks chan step1 step2 s)

/-- CROSS_BARRIER_LINK_RETURN (R405). -/
def execCrossBarrierLinkReturn (die : Die) (s : State) : Out :=
  if s.p1.phase = .off then .next s else .next (linkReturn die s)

end Sys2Proof.Machine
end

