-- ==== Sys2Proof/Machine/Time.lean ====
section
/-! DEFINITION. Module time, pulses and events, PTP and the GNSS baseband (chapter "GNSS baseband and module time",
R287–R327). -/

namespace Sys2Proof.Machine

/-- 5000h:01, the time status of R321. -/
@[reducible] def kTime : Nat := ob 0x5000 1

/-- 5100h:01, the GNSS status of R325. -/
@[reducible] def kGnss : Nat := ob 0x5100 1

/-- The state with its time part changed. -/
def setTime (f : TimeState → TimeState) (s : P1) : P1 := { s with time := f s.time }

/-- The time state (R293): 0 unqualified, 1 locked, 2 holdover, 3 converging. -/
def timeState (s : P1) : Nat := s.field kTime 0 3

/-! ### Error and uncertainty (R293, R298) -/

/-- The time error e and its σ of the source in use, in ns. -/
def timeError (s : P1) : Int × Nat := match s.time.source with
  | 1 => s.time.gnss
  | 2 => s.time.ptp
  | _ => (0, 0)

/-- Seconds since holdover began. -/
def holdSeconds (s : P1) : Rat := ((s.elapsed - s.time.holdFrom : Nat) : Rat) / 1000000

/-- u(t) of R298 in ns. -/
def holdUncertainty (s : P1) : Rat :=
  let k : Rat := if s.bit kTime 8 then 1 else 10
  let t := holdSeconds s
  s.time.u0 + (s.rd (ob 0x5000 7) * k * t + s.rd (ob 0x5000 8) * k * t * t / 2) / 1000

/-- The uncertainty reported (R293), in ns. -/
def uncertainty (s : P1) : Nat :=
  if !s.bit kTime 5 then 0xFFFFFFFF
  else min 0xFFFFFFFF (match timeState s with
    | 1 => 3 * (timeError s).2
    | 3 => (timeError s).1.natAbs + 3 * (timeError s).2
    | _ => ((holdUncertainty s) + 1 / 2).floor.toNat)

/-- An output is suppressed (R299). -/
def suppressing (n : Nat) (s : P1) : Bool :=
  s.rd (ob (0x5020 + n) 1) ≠ 0 && s.rd (ob (0x5020 + n) 7) = 1 && timeState s = 0

/-- The objects that follow the time state. -/
def showTime (s : P1) : P1 :=
  let src := s.time.source
  let held := timeState s = 2 || (timeState s = 0 && s.bit kTime 5)
  ((s.wrs [(ob 0x5000 9, uncertainty s), (ob 0x5000 0x0A, sat32 (timeError s).1),
    (ob 0x5000 0x12, if held then ((min 0xFFFFFFFF (holdSeconds s).floor.toNat : Nat) : Int) else 0)]).setBit kTime 10
      (suppressing 0 s || suppressing 1 s)).setField kTime 3 2 src |>.setField kClock 2 2 src

/-- The time state changes, with its record; the alarm 0903h ends when the state leaves unqualified. -/
def setTimeState (st code param : Nat) (s : P1) : P1 :=
  let t := record code param (s.setField kTime 0 3 st)
  showTime (if st = 0 then t else lower 0x0903 0 t)

/-- Converging starts, with e (R293). -/
def converge (s : P1) : P1 := setTimeState 3 0x0904 (packDetails [(32, (timeError s).1)]) s

/-! ### Sources (R292, R293) -/

/-- The sources that the module may use, in their order. In Dormant time is in holdover but for the wakes (R319, assumption 111). -/
def sources (s : P1) : List Nat :=
  let l : List Nat := match s.rdN (ob 0x5000 2) with
    | 0 => [1, 2] | 1 => [2, 1] | 2 => [1] | 3 => [2] | _ => []
  if s.mode ≠ 0 then l else if s.bit kGnss 0 then [] else l.filter (· = 1)

/-- A source is qualified. -/
def isQualified (src : Nat) (s : P1) : Bool := if src = 1 then s.time.gnssOk else s.time.ptpOk

/-- The source in use follows the qualified ones (R292, R293). At the first qualification of an epoch the step waits for the
next G+0 (R294). -/
def judgeSource (s : P1) : P1 :=
  let cur := s.time.source
  match (sources s).find? fun x => isQualified x s with
  | none =>
    if cur = 0 then showTime s
    else
      let st := timeState s
      let t := setTime (fun x => { x with source := 0, holdFrom := s.elapsed, u0 := uncertainty s }) s
      if st = 1 || st = 3 then setTimeState 2 0x0902 0 t else showTime t
  | some b =>
    if b = cur then showTime s
    else
      let t := setTime (fun x => { x with source := b }) s
      if !s.bit kTime 5 then showTime (record 0x0900 b (setTime (fun x => { x with stepDue := true }) (t.setBit kTime 5 true)))
      else if cur = 0 then (if s.time.stepDue && !s.bit kTime 7 then showTime t else converge t)
      else
        let u := record 0x0906 (packDetails [(8, cur), (8, b)]) t
        if timeState s = 1 then converge u else showTime u

/-- A source is no longer qualified. -/
def loseSource (src : Nat) (s : P1) : P1 :=
  judgeSource (setTime (fun x =>
    if src = 1 then { x with gnssOk := false, gnssRun := 0 } else { x with ptpOk := false, ptpRun := 0 }) s)

/-! ### The step and the slew (R294–R297) -/

/-- A module of the set is Lead in a mode from 4 to 10 (R294). -/
def stepHeld (s : P1) : Bool :=
  (s.role = 2 && allocating s.mode)
    || (s.setSize ≠ 1 && s.red.partners.any fun p => p.age ≤ 1 && p.msg.role = .lead && allocating p.msg.mode)

/-- Every slot's time model starts afresh (R296). -/
def freshModels (s : P1) : P1 :=
  (List.finRange 64).foldl (fun t (i : Fin 64) => if slotOn i t && t.rd (slKey i 9) = 4 then showModel i t else t)
    { s with slots := s.slots.map fun x => { x with tm := ⟨[], none, 0, 0, 0, false, 0, 0⟩ } }

/-- The step is made, by an amount in ns (R294). -/
def makeStep (amount : Int) (s : P1) : P1 :=
  let t := setTime (fun x => { x with stepDue := false, ppsFirst := Vector.replicate 2 true, gnss := (0, x.gnss.2), ptp := (0, x.ptp.2) })
    (freshModels { s with ns := ((s.ns : Int) + amount).toNat % 2 ^ 64, recorder := { s.recorder with stepped := true } })
  let u := (((t.setBits kTime [(6, true), (7, false)]).setBit kClock 4 true).wr (ob 0x5000 0x11)
    (toF64 ((amount : Rat) / 1000000000)))
  setTimeState 1 0x0905 0 (record 0x0901 (packDetails [(32, amount)]) u)

/-- The step at a G+0 (R294): made, or deferred. The second component says that it was made: then the cycle does not start
(R295). -/
def timeStep (s : P1) : P1 × Bool :=
  if !s.time.stepDue || s.time.source = 0 then (s, false)
  else if stepHeld s then
    (if s.bit kTime 7 then s else converge (record 0x0909 0 (s.setBit kTime 7 true)), false)
  else (makeStep (-(timeError s).1) s, true)

/-- A deferred step is taken as made where the slew has brought |e| to 100 ns (R294). -/
def slewedStep (s : P1) : P1 :=
  if s.bit kTime 7 && s.time.source ≠ 0 && (timeError s).1.natAbs ≤ 100 then
    record 0x0901 0 (((setTime (fun x => { x with stepDue := false }) s).setBits kTime [(6, true), (7, false)]).setBit kClock 4
      true |>.wr (ob 0x5000 0x11) 0)
  else s

/-- Locked and converging follow e at a whole second (R293). -/
def judgeLock (s : P1) : P1 :=
  let e := (timeError s).1.natAbs
  if s.time.source = 0 then showTime s
  else if timeState s = 3 && e ≤ 100 then setTimeState 1 0x0905 0 s
  else if timeState s = 1 && 1000 < e then converge s
  else showTime s

/-- The frequency correction of R297 in 10⁻¹²: y_f is an estimate that the spec leaves to the module (assumption 3). In
holdover it stays at y_f. -/
def updateCorrection (s : P1) : P1 :=
  let lim : Int := s.rd (ob 0x5000 3) * 1000000
  if s.time.source = 0 || timeState s = 0 then s.wr (ob 0x5000 0x0B) (clamp (-lim) lim s.time.yf)
  else
    let yf := Config.freeInt s.free
    let tau : Rat := if timeState s = 3 then 1 else s.rd (ob 0x5000 (if s.time.source = 1 then 5 else 6))
    let y := (((yf : Rat) - ((timeError s).1 : Rat) * 1000 / tau) + 1 / 2).floor
    (setTime (fun x => { x with yf := clamp (-2147483648) 2147483647 yf }) s).draw.wr (ob 0x5000 0x0B) (clamp (-lim) lim y)

/-- A solution qualifies GNSS time (R292). -/
def gnssQualifies (g : GnssTime) (s : P1) : Bool :=
  s.rdN (ob 0x3000 7) ≤ g.sats && g.integrity && g.sigma ≤ 50

/-- The baseband runs: its region is powered and not in fault (R47). -/
def basebandOn (s : P1) : Bool := !s.bit kGnss 0 && !s.stopped (unitAddr 1 1 0 63 255)

/-- The work of a whole second (R292, R293, R297). -/
def secondWork (g : Option GnssTime) (s : P1) : P1 :=
  let ok : Bool := match g with
    | some x => gnssQualifies x s
    | none => false
  let run := if ok then min 10 (s.time.gnssRun + 1) else 0
  let t := setTime (fun x => { x with
    gnssRun := run, gnssOk := x.gnssOk || 10 ≤ run, gnssLast := if ok then s.elapsed else x.gnssLast, secondAt := some s.elapsed }) s
  let u := match g with
    | some x => setTime (fun y => { y with gnss := (x.error, x.sigma) }) t
    | none => t
  updateCorrection (judgeLock (slewedStep (judgeSource u)))

/-- TIME_SECOND: the grain holds a whole second of module time and has not worked it yet. -/
def timeSecond (g : Option GnssTime) (s : P1) : P1 :=
  if s.grainIndex % 1000000 ≠ 0 || s.time.secondAt = some s.elapsed then s
  else secondWork (if basebandOn s then g else none) s

/-- The holdover limit is reached (R299). -/
def holdoverLimit (s : P1) : P1 :=
  if timeState s = 2 && decide (s.rd (ob 0x5000 4) ≤ holdSeconds s) then raise 0x0903 0 (setTimeState 0 0x0903 0 s) else s

/-! ### TAI − UTC (R288) -/

/-- The offset in use: of the navigation messages, else of PTP, else the commissioned value. -/
def judgeUtc (s : P1) : P1 :=
  let port := s.rdN (ob 0x5010 0x0D)
  let ptp : Option Int := match s.time.masters.toList.getD port none with
    | some a => if a.utcValid then some a.utcOffset else none
    | none => none
  match s.time.navUtc, ptp with
  | some v, _ => (s.wr (ob 0x5000 0x0C) v).setBit kTime 9 true
  | none, some v => (s.wr (ob 0x5000 0x0C) (ofBits 16 (toBits 16 v))).setBit kTime 9 true
  | none, none => (s.wr (ob 0x5000 0x0C) (s.rd (ob 0x5000 0x0D))).setBit kTime 9 false

/-- What a navigation message decoded at an epoch says of UTC: the command does not carry it, so whether it holds UTC
parameters, their offset and an announced leap second with its UTC day are free (assumption 3); the leap takes effect at the end of
that day. -/
def readNavigation (s : P1) : P1 :=
  let n := s.free
  let t := s.drawN 4
  if Config.freeNat n % 2 = 0 then t
  else
    let v := ofBits 16 (toBits 16 (Config.freeInt (n + 1)))
    let leap : Int := (Config.freeNat (n + 2) % 3 : Nat) - 1
    judgeUtc ((setTime (fun x => { x with navUtc := some v }) t).wrs
      [(ob 0x5000 0x0E, leap), (ob 0x5000 0x0F, if leap = 0 then 0 else
        (((Config.freeNat (n + 3) % 213000 + 1) * 86400 : Nat) + v) * 1000000000)])

/-- An announced leap second takes effect once its time has come (R288). -/
def leapSecond (s : P1) : P1 :=
  let leap := s.rd (ob 0x5000 0x0E)
  let at0 := s.rd (ob 0x5000 0x0F)
  if leap = 0 || at0 ≤ 0 || (s.ns : Int) < at0 then s
  else
    let v := ofBits 16 (toBits 16 (s.rd (ob 0x5000 0x0C) + leap))
    record 0x0907 (packDetails [(16, v)])
      ((setTime (fun x => { x with navUtc := x.navUtc.map fun _ => v }) s).wrs
        [(ob 0x5000 0x0C, v), (ob 0x5000 0x0E, 0), (ob 0x5000 0x0F, 0)])

/-! ### PTP (R292, R306–R308) -/

/-- The module may be slave (role 1 or 2) or master (role 1 or 3). -/
def ptpSlaveRole (s : P1) : Bool := s.rd (ob 0x5010 1) = 1 || s.rd (ob 0x5010 1) = 2
/-- See `ptpSlaveRole`. -/
def ptpMasterRole (s : P1) : Bool := s.rd (ob 0x5010 1) = 1 || s.rd (ob 0x5010 1) = 3

/-- The port whose master ranks higher, or port A when the two rank equal (R308); FFh none. -/
def slavePort (s : P1) : Nat :=
  let m (p : Fin 2) : Option Announce := match s.time.masters[p] with
    | some a => if a.slave && ptpSlaveRole s then some a else none
    | none => none
  match m 0, m 1 with
  | some a, some b => if b.rank < a.rank then 1 else 0
  | some _, none => 0
  | none, some _ => 1
  | none, none => 0xFF

/-- The master of the slave port. -/
def slaveMaster (s : P1) : Option Announce := s.time.masters.toList.getD (s.rdN (ob 0x5010 0x0D)) none

/-- Port state and slave port follow what the masters announce: IEEE 1588 codes 3 disabled, 4 listening, 6 master, 9 slave.
A change of port makes the state converging (R308). A clockClass above 7 loses PTP (R292). -/
def judgePort (s : P1) : P1 :=
  let old := s.rdN (ob 0x5010 0x0D)
  let new := slavePort s
  let st : Nat := if s.rd (ob 0x5010 1) = 0 then 3 else if new ≠ 0xFF then 9 else if ptpMasterRole s then 6 else 4
  let t := setTime (fun x => { x with ptpLast := if old ≠ new then s.elapsed else x.ptpLast }) (s.wrs [(ob 0x5010 9, st), (ob 0x5010 0x0D, new)])
  let gm : Int := match slaveMaster t with
    | some a => ((a.grandmaster % 2 ^ 64 : Nat) : Int)
    | none => 0
  let u := judgeUtc (t.wr (ob 0x5010 0x0A) gm)
  let v := if old ≠ new && u.time.source = 2 && timeState u = 1 && new ≠ 0xFF then converge u else u
  let lost : Bool := match slaveMaster v with
    | some a => 7 < a.clockClass
    | none => true
  if lost && (v.time.ptpOk || v.time.ptpRun ≠ 0) then loseSource 2 v else v

/-- The index of a port that an Announce or a Sync arrives on. -/
def ptpIdx (p : DpPort) : Fin 2 := match p with
  | .a => 0
  | .b => 1

/-- PTP is received on a port: a role is set, and the port and region PKT work. -/
def ptpHears (p : DpPort) (s : P1) : Bool := s.rd (ob 0x5010 1) ≠ 0 && dpOn (dpIdx p) s && pktOn s

/-- An Announce (R308). -/
def ptpAnnounce (p : DpPort) (a : Announce) (s : P1) : P1 :=
  if !ptpHears p s then s
  else judgePort (setTime (fun x => { x with masters := x.masters.set (ptpIdx p) (some a) }) s)

/-- A Sync on the slave port (R292). The σ of the error estimate is one that the spec does not state (assumption 3). -/
def ptpSync (p : DpPort) (offset : Int) (delay : Nat) (s : P1) : P1 :=
  if !ptpHears p s || s.rdN (ob 0x5010 0x0D) ≠ (ptpIdx p).val || s.rd (ob 0x5010 9) ≠ 9 then s
  else
    let cls : Bool := match slaveMaster s with
      | some a => a.clockClass = 6 || a.clockClass = 7
      | none => false
    let run := if cls && offset.natAbs ≤ 1000 then min 16 (s.time.ptpRun + 1) else 0
    let t := judgeSource (setTime (fun x => { x with
      ptpRun := run, ptpOk := x.ptpOk || 16 ≤ run, ptpLast := s.elapsed, ptp := (offset, Config.freeNat s.free) })
        (s.draw.wrs [(ob 0x5010 0x0B, sat32 offset), (ob 0x5010 0x0C, ((min 0xFFFFFFFF delay : Nat) : Int))]))
    if t.time.source = 2 && timeState t = 1 && 1000 < (timeError t).1.natAbs then converge t else t

/-- The grains of a PTP interval of 2ⁿ s (R322). -/
def ptpGrains (n : Int) : Nat := if 0 ≤ n then 1000000 * 2 ^ n.toNat else 1000000 / 2 ^ (-n).toNat

/-- No Sync has arrived on the slave port for 3 announce intervals (R292). -/
def syncGone (s : P1) : Bool := 3 * ptpGrains (s.rd (ob 0x5010 8)) ≤ s.elapsed - s.time.ptpLast

/-- PTP_ANNOUNCE_TIMEOUT: the master of the slave port is gone (R292). -/
def ptpTimeout (s : P1) : P1 :=
  let port := s.rdN (ob 0x5010 0x0D)
  if h : port < 2 then
    if syncGone s then judgePort (loseSource 2 (setTime (fun x => { x with masters := x.masters.set port none }) s)) else s
  else s

/-- SOURCE_LOST: a qualified source that has given nothing that qualifies for its time is lost (R292). -/
def sourceLost (src : TimeSource) (s : P1) : P1 := match src with
  | .gnss => if s.time.gnssOk && 3000000 ≤ s.elapsed - s.time.gnssLast then loseSource 1 s else s
  | .ptp => if s.time.ptpOk && syncGone s then loseSource 2 s else s

/-- What the module advertises as master (R307). A master has no slave port, so a locked one is locked to GNSS. -/
def ownQuality (s : P1) : PtpQuality :=
  let q (c a t : Nat) : PtpQuality := ⟨c, a, t, s.rd (ob 0x5000 0x0C), s.bit kTime 9⟩
  match timeState s with
  | 1 => q 6 0x21 0x20
  | 2 | 3 => q 7 0xFE 0x20
  | _ => q 248 0xFE 0xA0

/-- An interval has passed since an earlier grain. -/
def intervalDone (n : Int) (since : Option Nat) (s : P1) : Bool := since.all fun g => ptpGrains n ≤ s.elapsed - g

/-- The module sends Sync as master, and Announce with it, each at its log interval (R306, R307, R322). -/
def ptpMaster (announce : Bool) (s : P1) : P1 :=
  if !ptpMasterRole s || s.rd (ob 0x5010 0x0D) ≠ 0xFF then s
  else
    let t := s.wr (ob 0x5010 9) 6
    let u := if intervalDone (t.rd (ob 0x5010 7)) t.time.syncAt t then
      netSend 6 .ptpSync (setTime (fun x => { x with syncAt := some t.elapsed }) t) else t
    if announce && intervalDone (u.rd (ob 0x5010 8)) u.time.announceAt u then
      netSend 6 (.ptpAnnounce (ownQuality u)) (setTime (fun x => { x with announceAt := some u.elapsed }) u) else u

/-! ### Pulses and events (R300–R304) -/

/-- Key of PPS output n. -/
def ppsKey (n : Fin 2) (sub : Nat) : Nat := ob (0x5020 + n) sub

/-- Period and phase of PPS output n in the grain in progress: a write acts from its acknowledgement on (R300). -/
def ppsGrid (n : Fin 2) (s : P1) : Int × Int :=
  let now := (s.rd (ppsKey n 2), s.rd (ppsKey n 3))
  match s.time.ppsOld[n] with
  | some (g, p) => if g = s.elapsed then p else now
  | none => now

/-- The instant of PPS output n in the grain in progress (R300). -/
def ppsInstant (n : Fin 2) (s : P1) : Option Nat :=
  match s.rdN (ppsKey n 1) with
  | 1 =>
    let t := s.rdN (ppsKey n 4)
    if t ≠ 0 && t / 1000 = s.ns / 1000 then some t else none
  | 2 =>
    let g : Int := s.ns / 1000
    if (g - (ppsGrid n s).2) % (ppsGrid n s).1 = 0 && s.time.ppsAt[n] ≠ some s.elapsed then some (s.ns / 1000 * 1000) else none
  | _ => none

/-- The pulse report of R302. -/
def pulseReport (n : Fin 2) (t : Nat) (qErr : Int) (supp : Bool) (s : P1) : List Byte :=
  let st := timeState s
  let e : Int := if st = 1 || st = 3 then sat32 (timeError s).1 else 0
  le 1 n.val ++ le 1 st ++ le 1 s.time.source ++ le 1 (flagBit supp 0 + flagBit s.time.ppsFirst[n] 1)
    ++ le 4 s.time.ppsSeq[n] ++ le 8 t ++ le 2 (toBits 16 (clamp (-2000) 2000 qErr)) ++ zeros 2 ++ le 4 (toBits 32 e)
    ++ le 4 (uncertainty s) ++ zeros 4

/-- A pulse instant (R300–R302): a once time is spent; a suppressed pulse is reported and counted. -/
def ppsPulse (n : Fin 2) (qErr : Int) (s : P1) : P1 :=
  match ppsInstant n s with
  | none => s
  | some t =>
    let supp := suppressing n s
    let u := s.setOctets (ob (0x5022 + n) 1) (pulseReport n t qErr supp s)
    let v := if supp then u.inc (ob (0x5022 + n) 2) else u.incWrap (ppsKey n 8)
    let w := if s.rd (ppsKey n 1) = 1 then v.wr (ppsKey n 4) 0 else v
    setTime (fun x => { x with
      ppsSeq := x.ppsSeq.set n ((x.ppsSeq[n] + 1) % 2 ^ 32), ppsFirst := x.ppsFirst.set n false, ppsAt := x.ppsAt.set n (some s.elapsed)
      ppsEnd := if supp then x.ppsEnd else x.ppsEnd.set n (s.elapsed + s.rdN (ppsKey n 5)) }) w

/-- The level of PPS output n: driven for its width, in its polarity (R301, R323). -/
def ppsLevel (n : Fin 2) (s : P1) : Bool := decide (s.elapsed < s.time.ppsEnd[n]) != (s.rd (ppsKey n 6) = 1)

/-- The next pulse is the first after a configuration change (R302). -/
def ppsChanged (n : Fin 2) (s : P1) : P1 := showTime (setTime (fun x => { x with ppsFirst := x.ppsFirst.set n true }) s)

/-- The rule of 5020h+n:04 (R300). -/
def ppsOnceRule (n : Fin 2) (v : Int) : Rule P1 :=
  checkRule (fun s => if v ≠ 0 && v < s.ns then abRange else 0) fun s => ppsChanged n (s.wr (ppsKey n 4) v)

/-- The rule of 5020h+n:02 and 03 (R300, R323). -/
def ppsGridRule (n : Fin 2) (phase : Bool) (v : Int) : Rule P1 :=
  checkRule (fun s => if phase && s.rd (ppsKey n 2) ≤ v then abRange else 0)
    fun s =>
      let old : Option (Nat × Int × Int) := some (s.elapsed, ppsGrid n s)
      ppsChanged n (setTime (fun x => { x with ppsOld := x.ppsOld.set n old }) (s.wr (ppsKey n (if phase then 3 else 2)) v))

/-- The rule of 5020h+n:01 and 05–07 (R300, R323). -/
def ppsRule (n : Fin 2) (sub : Nat) (v : Int) : Rule P1 :=
  checkRule (fun s => if sub = 5 && (v < 1 || s.rd (ppsKey n 2) ≤ v) then abRange else 0)
    fun s => ppsChanged n (s.wr (ppsKey n sub) v)

/-- Key of EVT input n. -/
def evtKey (n : Fin 2) (sub : Nat) : Nat := ob (0x5024 + n) sub

/-- A selected edge on an EVT input (R304): queued, or counted as lost. -/
def evtEdge (n : Fin 2) (falling : Bool) (ns : Nat) (s : P1) : P1 :=
  let sel := s.rd (evtKey n 2)
  if s.rd (evtKey n 1) = 0 || !(sel = 2 || (sel = 1 && falling) || (sel = 0 && !falling)) then s
  else
    let close : Bool := match s.time.evtLast[n] with
      | some t => ns < t + 16
      | none => false
    let t := setTime (fun x => { x with evtLast := x.evtLast.set n (some ns) }) s
    if close || 64 ≤ (s.time.evt[n]).length then t.inc (evtKey n 5)
    else
      let b := le 8 (ns - s.rdN (evtKey n 6)) ++ le 1 (if falling then 1 else 0) ++ zeros 7
      let u := setTime (fun x => { x with evt := x.evt.set n (x.evt[n] ++ [b]) }) t
      u.wr (evtKey n 3) (u.time.evt[n]).length

/-- The oldest event of an EVT input. -/
def nextEvt (n : Fin 2) (s : P1) : List Byte := ((s.time.evt[n]).head?).getD []

/-- The oldest event is removed by its read (R304). -/
def popEvt (n : Fin 2) (s : P1) : P1 :=
  let u := setTime (fun x => { x with evt := x.evt.set n ((x.evt[n]).drop 1) }) s
  u.wr (evtKey n 3) (u.time.evt[n]).length

/-! ### GNSS channels (R310–R312) -/

/-- The index of a channel among the 192. -/
def chanNo (a : Fin 3) (c : Fin 64) : Fin 192 := ⟨64 * a.val + c.val, by omega⟩

/-- A channel that tracks nothing. -/
def idleChan : GnssChan := ⟨none, false, false, false, false, false, 0⟩

/-- The state with a channel changed. -/
def setChan (a : Fin 3) (c : Fin 64) (f : GnssChan → GnssChan) (s : P1) : P1 :=
  setTime (fun x => { x with chans := upd x.chans (chanNo a c) f }) s

/-- The signals of a constellation (R310). -/
def signalsOf : Constellation → List Nat
  | .gps => [1, 2, 3]
  | .galileo => [4, 5, 6]
  | .beidou => [7, 8, 9]
  | .glonass => [10, 11]
  | .qzss => [12, 13]
  | .sbas => [14]

/-- The serving order of the constellations (R311). -/
def serving : List Constellation := [.gps, .galileo, .beidou, .qzss, .glonass, .sbas]

/-- A satellite placed in descending elevation. -/
def placeSat (x : SatView) : List SatView → List SatView
  | [] => [x]
  | y :: r => if y.elevation < x.elevation then x :: y :: r else y :: placeSat x r

/-- The plan of a cluster (R311): at most 64 pairs of a satellite and a signal. -/
def channelPlan (view : List SatView) (s : P1) : List (Constellation × Nat × Nat) :=
  let up := (view.filter fun v => s.rd (ob 0x5100 4) < v.elevation).foldl (fun l v => placeSat v l) []
  (serving.flatMap fun k => (up.filter fun v => v.system = k).flatMap fun v =>
    ((signalsOf k).filter fun g => bitOf (s.rd (ob 0x5100 3)) (g - 1)).map fun g => (k, v.prn, g)).take 64

/-- The channels of an antenna. -/
def antennaChans (a : Fin 3) (s : P1) : List (Fin 64 × GnssChan) :=
  (List.finRange 64).map fun (c : Fin 64) => (c, s.time.chans[chanNo a c])

/-- A new pair takes the first channel without an assignment; a stopped channel is not served (R44). -/
def assignPair (a : Fin 3) (g : Constellation × Nat × Nat) (s : P1) : P1 :=
  match (antennaChans a s).find? fun e => e.2.asg.isNone && !s.stopped (unitAddr 1 1 0 a e.1.val) with
  | some e => setChan a e.1 (fun _ => { idleChan with asg := some g }) s
  | none => s

/-- The antennas of a baseline, in the order of R325. -/
def baselinePair (k : Fin 3) : Fin 3 × Fin 3 := if k = 0 then (0, 1) else if k = 1 then (0, 2) else (1, 2)

/-- A baseline is fixed or lost (R316): recorded under 0908h. -/
def setBaseline (k : Fin 3) (on : Bool) (s : P1) : P1 :=
  let p := baselinePair k
  record 0x0908 (packDetails [(8, if on then 1 else 0), (8, p.1), (8, p.2)]) (s.setBit kGnss (3 + k) on)

/-- The satellites in carrier lock on an antenna. -/
def carrierSats (a : Fin 3) (s : P1) : List (Constellation × Nat) :=
  ((antennaChans a s).filterMap fun e => if e.2.carrier then e.2.asg.map fun g => (g.1, g.2.1) else none).eraseDups

/-- Satellites in carrier lock on both antennas of a baseline. -/
def commonSats (k : Fin 3) (s : P1) : Nat :=
  let l := carrierSats (baselinePair k).2 s
  ((carrierSats (baselinePair k).1 s).filter fun x => l.contains x).length

/-- A fixed baseline with fewer than 4 common satellites is lost (R316). -/
def dropBaselines (s : P1) : P1 :=
  (List.finRange 3).foldl (fun t (k : Fin 3) => if t.bit kGnss (3 + k) && commonSats k t < 4 then setBaseline k false t else t) s

/-- Satellites tracked by all antennas, and channels in track of each (R324, R325). -/
def showTrack (s0 : P1) : P1 :=
  let s := dropBaselines s0
  let track := s.time.chans.toList.filter (·.code)
  let sats := (track.map fun c => (c.asg.map fun g => (g.1, g.2.1))).eraseDups.length
  (List.finRange 3).foldl (fun t (a : Fin 3) => t.wr (ob (0x5101 + a) 4) ((antennaChans a t).filter (·.2.code)).length)
    (s.setField kGnss 8 8 (min 255 sats))

/-- Every channel stops tracking. -/
def clearChans (s : P1) : P1 :=
  showTrack (setTime (fun x => { x with chans := Vector.replicate 192 idleChan, baseRun := Vector.replicate 3 0 }) s)

/-- Once per second the channels of an antenna are assigned again (R311): a channel keeps a pair that is in the plan. -/
def channelAssign (a : Fin 3) (view : List SatView) (s0 : P1) : P1 :=
  let s := setTime (fun x => { x with assignAt := x.assignAt.set a (some s0.elapsed) }) s0
  if !basebandOn s0 || s0.time.assignAt[a].any fun g => s0.elapsed - g < 1000000 then s0
  else
    let plan := channelPlan view s
    let keep (c : GnssChan) : GnssChan := match c.asg with
      | some g => if plan.contains g then c else idleChan
      | none => c
    let t := (List.finRange 64).foldl (fun t (c : Fin 64) => setChan a c keep t) s
    let have1 := (antennaChans a t).filterMap fun e => e.2.asg
    showTrack ((plan.filter fun g => !have1.contains g).foldl (fun u g => assignPair a g u) t)

/-- A channel gains locks (R312). Carrier gained restarts the lock time; FLL_ONLY stands until the PLL locks. -/
def channelLock (a : Fin 3) (c : Fin 64) (code carrier pll : Bool) (s : P1) : P1 :=
  let f (x : GnssChan) : GnssChan :=
    if x.asg.isNone then x
    else { x with code := x.code || code, carrier := x.carrier || carrier, fll := if carrier || x.carrier then !pll else x.fll
                  since := if carrier && !x.carrier then s.elapsed else x.since }
  if basebandOn s && !s.stopped (unitAddr 1 1 0 a c) then showTrack (setChan a c f s) else s

/-- A channel loses locks (R312). -/
def channelLoss (a : Fin 3) (c : Fin 64) (code carrier : Bool) (s : P1) : P1 :=
  let f (x : GnssChan) : GnssChan :=
    let y := if code then { x with code := false } else x
    if carrier then { y with carrier := false, fll := false, half := false, slip := x.slip || x.carrier } else y
  showTrack (setChan a c f s)

/-! ### Epochs (R313–R316) -/

/-- A word read only under a lock (R315). -/
def underLock (b : Bool) (v : Nat) : Nat := if b then v else 0

/-- The entry of a channel in track (R314). -/
def epochEntry (a : Fin 3) (o : ChannelObs) (s : P1) : List Byte :=
  let c := s.time.chans[chanNo a o.channel]
  let g := c.asg.getD (.gps, 0, 0)
  le 1 o.channel.val ++ le 1 g.2.2 ++ le 1 g.2.1
    ++ le 1 (flagBit c.code 0 + flagBit c.carrier 1 + flagBit (c.carrier && o.halfCycle) 2 + flagBit (c.slip && c.carrier) 3
      + flagBit c.fll 4 + flagBit o.navData 5)
    ++ le 2 o.cn0 ++ le 1 (if g.1 = .glonass then toBits 8 o.glonassFreq else 0) ++ zeros 1
    ++ le 8 (underLock c.code o.pseudorange) ++ le 8 (underLock c.carrier o.carrierPhase)
    ++ le 4 (underLock c.carrier o.doppler) ++ le 4 (underLock c.carrier ((s.elapsed - c.since) / 1000))
    ++ le 4 (underLock c.code o.sigma) ++ zeros 4

/-- What a channel in track latches. Where the command carries nothing of it, the measured values are free (assumption 3). -/
def latchedObs (a : Fin 3) (c : Fin 64) (obs : List (Fin 3 × ChannelObs)) (s : P1) : ChannelObs :=
  match obs.find? fun o => o.1 = a && o.2.channel = c with
  | some o => o.2
  | none =>
    let n := s.free + 8 * (64 * a.val + c.val)
    ⟨c, Config.freeNat n % 2 = 1, Config.freeNat (n + 1) % 2 = 1, Config.freeNat (n + 2) % 65536, Config.freeNat (n + 3) % 14 - 7,
      Config.freeNat (n + 4) % 2 ^ 64, Config.freeNat (n + 5) % 2 ^ 64, Config.freeNat (n + 6) % 2 ^ 32, Config.freeNat (n + 7) % 2 ^ 32⟩

/-- The epoch of an antenna, 5110h:a+1 (R314): the channels in track. -/
def epochContent (a : Fin 3) (obs : List (Fin 3 × ChannelObs)) (s : P1) : List Byte :=
  let l := (antennaChans a s).filterMap fun e => if e.2.code then some (latchedObs a e.1 obs s) else none
  le 2 0x474D ++ le 1 1 ++ le 1 a.val ++ le 2 l.length ++ le 1 (s.rdN (ob 0x5100 2)) ++ le 1 (flagBit (timeState s = 1) 0)
    ++ le 4 s.stamp ++ le 4 (toBits 32 (s.rd (ob 0x5000 0x0B))) ++ le 8 s.ns ++ zeros 8 ++ l.flatMap fun o => epochEntry a o s

/-- What an epoch shows of a baseline (R316). -/
def judgeBaseline (k : Fin 3) (o : BaselineObs) (s : P1) : P1 :=
  let common := commonSats k s
  let good := 6 ≤ common && 3000 ≤ o.ratioMilli && o.lengthError ≤ 100
  let run := if good then min 5 (s.time.baseRun[k] + 1) else 0
  let t := setTime (fun x => { x with baseRun := x.baseRun.set k run }) s
  let on := s.bit kGnss (3 + k)
  if on && (common < 4 || 200 < o.lengthError) then setBaseline k false t
  else if !on && 5 ≤ run then setBaseline k true t
  else t

/-- The first fix ends a GNSS start (R318). -/
def startEnds (s : P1) : P1 :=
  match s.time.startFrom with
  | none => s
  | some g => (setTime (fun x => { x with startFrom := none, almanac := true }) (s.setBit kGnss 1 false)).wr (ob 0x5100 0x0C)
      ((min 65535 ((s.elapsed - g) / 1000) : Nat) : Int)

/-- An observation decodes a navigation message that carries UTC parameters (R288). -/
def decodesUtc (o : Fin 3 × ChannelObs) (s : P1) : Bool :=
  o.2.navData && match (s.time.chans[chanNo o.1 o.2.channel]).asg with
    | some g => g.1 = .gps || g.1 = .galileo || g.1 = .beidou
    | none => false

/-- The measurements of an epoch that the solution uses: GLONASS only while LEAP_KNOWN is 1 (R288), SBAS not at all (R310). A
satellite is told apart by its place in the serving order and its number. -/
def epochResiduals (f : EpochFix) (s : P1) : List (Nat × Rat) :=
  (f.residuals.filter fun e => e.1 ≠ .sbas && (e.1 ≠ .glonass || s.bit kTime 9)).map fun e => (256 * serving.idxOf e.1 + e.2.1, e.2.2)

/-- The fix of an epoch reaches the internal slot (R140), at the epoch's own grain (R102, R119); the other internal slots that take
items share it (R141). -/
def deliverEpoch (f : EpochFix) (s : P1) : P1 :=
  let l := (List.finRange 64).filter fun (i : Fin 64) => isInternal i s && slotTakes i false s
  match l with
  | [] => s
  | i :: rest =>
    let r := arriveAt i s.ns s.grainStart (.raw (epochResiduals f s)) 100 none s
    deliver r.1 (rest.foldl (fun t j => setSlot j (fun x => { x with lastSeen := some s.elapsed }) t) r.2)

/-- The epoch period in grains at each rate of 5100h:02 (R313). -/
def epochPeriod (s : P1) : Nat := [1000000, 500000, 200000, 100000, 50000, 20000].getD (s.rdN (ob 0x5100 2)) 1000000

/-- The grain in progress is an epoch that has not been latched (R313). -/
def epochDue (s : P1) : Bool := s.grainIndex % epochPeriod s = 0 && s.time.epochAt ≠ some s.elapsed

/-- A measurement epoch (R313). -/
def gnssEpoch (fix : Option EpochFix) (obs : List (Fin 3 × ChannelObs)) (base : List BaselineObs) (s : P1) : P1 :=
  if !basebandOn s || !epochDue s then s
  else
    let s1 := (List.finRange 3).foldl (fun t (a : Fin 3) => t.setOctets (ob 0x5110 (a + 1)) (epochContent a obs s)) s
    let note (t : P1) (o : Fin 3 × ChannelObs) : P1 :=
      setChan o.1 o.2.channel (fun c => { c with half := c.carrier && o.2.halfCycle }) t
    let s2 := setTime (fun x => { x with chans := x.chans.map fun c => { c with slip := false }, epochAt := some s.elapsed }) (obs.foldl note (s1.drawN 1536))
    let s3 := (List.finRange 3).foldl (fun t (k : Fin 3) => match base[k.val]? with
      | some o => judgeBaseline k o t
      | none => t) s2
    let s4 := s3.setBit kGnss 2 fix.isSome
    let s5 := if obs.any fun o => decodesUtc o s then readNavigation s4 else s4
    match fix with
    | some f => deliverEpoch f (startEnds s5)
    | none => s5

/-! ### Antennas, sleep (R317–R319) -/

/-- The state of an antenna, 5101h+a:02, at a current in mA (R317, R324): 0 normal, 1 open below 5 mA, 2 short at the limit of 150 mA
or while the limiter holds it, 3 off. -/
def antennaCode (a : Fin 3) (limited : Bool) (current : Nat) (s : P1) : Nat :=
  if s.rd (ob (0x5101 + a) 1) = 0 then 3 else if limited || 150 ≤ current then 2 else if current < 5 then 1 else 0

/-- The current of an antenna connector is read (R317): open and short raise the antenna alarm. -/
def antennaState (a : Fin 3) (limited : Bool) (current : Nat) (s : P1) : P1 :=
  let old := s.rdN (ob (0x5101 + a) 2)
  let n := antennaCode a limited current s
  let p (k : Nat) : Nat := packDetails [(8, a.val), (8, k)]
  let t := s.wrs [(ob (0x5101 + a) 2, n), (ob (0x5101 + a) 3, ((min 65535 current : Nat) : Int))]
  if old = n then t
  else
    let u := record 0x090A (p n) (lower 0x090A (p old) t)
    if n = 1 || n = 2 then raise 0x090A (p n) u else u

/-- The rule of 5101h+a:01: an antenna without supply is off; one that gets it stays off until its current is read (assumption 112). -/
def antennaRule (a : Fin 3) (v : Int) : Rule P1 :=
  effRule fun s =>
    let t := s.wr (ob (0x5101 + a) 1) v
    if v = 0 then antennaState a false 0 t else t

/-- A GNSS start of a kind (R318): 0 hot, 1 warm, 2 cold. -/
def gnssStart (kind : Nat) (s : P1) : P1 :=
  setTime (fun x => { x with startFrom := some s.elapsed })
    (clearChans ((s.setBits kGnss [(0, false), (1, true), (2, false)]).setField kGnss 6 2 kind))

/-- The baseband sleeps (R319): GNSS no longer qualifies. -/
def gnssSleep (s : P1) : P1 :=
  loseSource 1 (setTime (fun x => { x with startFrom := none, wakeFrom := none })
    (clearChans (s.setBits kGnss [(0, true), (1, false), (2, false)])))

/-- A wake in Dormant, every 5100h:0A (R319). -/
def gnssWake (s : P1) : P1 :=
  if s.mode = 0 && s.bit kGnss 0 && s.rdN (ob 0x5100 0x0A) * 1000000 ≤ s.elapsed - s.time.wakeLast then
    setTime (fun x => { x with wakeFrom := some s.elapsed, wakeLast := s.elapsed }) (gnssStart 0 s)
  else s

/-- The end of a wake (R319): its refresh is complete, which this command says, or 5100h:0B has elapsed, at which the sender has to give it
(assumption 13). -/
def gnssWakeEnd (s : P1) : P1 := if s.mode = 0 && s.time.wakeFrom.isSome then gnssSleep s else s

/-- Module time is saved to MRAM (R291). -/
def saveTime (s : P1) : P1 := setTime (fun x => { x with saved := some s.ns, savedAt := s.elapsed }) s

/-- TIME_SAVE: every 60 s (R291). -/
def timeSave (s : P1) : P1 := if 60000000 ≤ s.elapsed - s.time.savedAt then saveTime s else s

/-- Entry to Dormant (R47, R164, R291, R319): the engines of region SLV end their jobs (assumption 42), the grade is 0, time is
saved, the baseband sleeps. -/
def enterDormant (s : P1) : P1 :=
  gnssSleep <| setTime (fun x => { x with wakeLast := s.elapsed }) <| saveTime <| changeGrade 0 ((List.finRange 4).foldl (fun t (e : Fin 4) => withAllEnded (engineStop e t)) s)

/-- The power that a mode change switches (R47, R319). -/
def switchPower (old : Nat) (s : P1) : P1 :=
  if old ≠ 0 && s.mode = 0 then enterDormant s
  else if old = 0 && s.mode ≠ 0 then gnssStart 0 s
  else s

/-! ### Reads of the time (R290) -/

/-- The nanoseconds within the second. -/
def nanosNow (s : P1) : Nat := s.ns % 1000000000

/-- A read of 5001h:02 latches 5001h:03 for its session (R290). -/
def secondsRead (w : Nat) (s : P1) : P1 :=
  let latch (x : Session) : Session := if x.no = w then { x with nanos := some (nanosNow s) } else x
  answerData w (ob 0x5001 2) (le 8 (s.ns / 1000000000)) { s with sessions := s.sessions.map latch }

/-- The rule of 5000h:02: the sources in use follow it. -/
def priorityRule (v : Int) : Rule P1 := effRule fun s => judgeSource (s.wr (ob 0x5000 2) v)

/-- The rule of 5000h:0D. -/
def utcRule (v : Int) : Rule P1 := effRule fun s => judgeUtc (s.wr (ob 0x5000 0x0D) v)

/-- The rule of 5010h:01: the port follows the role. -/
def ptpRoleRule (v : Int) : Rule P1 := effRule fun s => judgePort (s.wr (ob 0x5010 1) v)

/-! ### Meanings -/

/-- TIME_SECOND (R297). -/
def execTimeSecond (gnss : Option GnssTime) (s : State) : Out := onP1 (timeSecond gnss) s

/-- SOURCE_LOST (R292). -/
def execSourceLost (src : TimeSource) (s : State) : Out :=
  onP1 (sourceLost src) s

/-- HOLDOVER_LIMIT (R299). -/
def execHoldoverLimit (s : State) : Out := onP1 holdoverLimit s

/-- LEAP_SECOND (R288). -/
def execLeapSecond (s : State) : Out := onP1 leapSecond s

/-- TIME_SAVE (R291). -/
def execTimeSave (s : State) : Out := onP1 timeSave s

/-- PTP_SYNC (R292). -/
def execPtpSync (port : DpPort) (offset : Int) (pathDelay : Nat) (s : State) : Out := onP1 (ptpSync port offset pathDelay) s

/-- PTP_ANNOUNCE_TIMEOUT (R292). -/
def execPtpAnnounceTimeout (s : State) : Out := onP1 ptpTimeout s

/-- PTP_ANNOUNCE (R308). -/
def execPtpAnnounce (port : DpPort) (a : Announce) (s : State) : Out := onP1 (ptpAnnounce port a) s

/-- PTP_MASTER_SYNC (R306). -/
def execPtpMasterSync (announce : Bool) (s : State) : Out := onP1 (ptpMaster announce) s

/-- SECONDS_READ (R290). -/
def execSecondsRead (w : Nat) (s : State) : Out := onSup (secondsRead w) s

/-- PPS_PULSE (R300). -/
def execPpsPulse (n : Fin 2) (qErr : Int) (s : State) : Out := onP1 (ppsPulse n qErr) s

/-- PPS_ONCE_WRITE (R300). -/
def execPpsOnceWrite (w : Nat) (n : Fin 2) (v : Int) (s : State) : Out := onReq w (ppsKey n 4) (.num v) (ppsOnceRule n v) s

/-- PPS_GRID_WRITE (R300). -/
def execPpsGridWrite (w : Nat) (n : Fin 2) (phase : Bool) (v : Int) (s : State) : Out :=
  onReq w (ppsKey n (if phase then 3 else 2)) (.num v) (ppsGridRule n phase v) s

/-- EVT_EDGE (R304). -/
def execEvtEdge (n : Fin 2) (falling : Bool) (ns : Nat) (s : State) : Out := onP1 (evtEdge n falling ns) s

/-- EVT_EVENT_READ (R304). -/
def execEvtEventRead (w : Nat) (n : Fin 2) (s : State) : Out :=
  onSup (fun t => answerData w (evtKey n 4) (nextEvt n t) (popEvt n t)) s

/-- CHANNEL_ASSIGNMENT (R311). -/
def execChannelAssignment (antenna : Fin 3) (view : List SatView) (s : State) : Out := onP1 (channelAssign antenna view) s

/-- CHANNEL_LOCK_LOSS (R312). -/
def execChannelLockLoss (antenna : Fin 3) (ch : Fin 64) (code carrier : Bool) (s : State) : Out :=
  onP1 (channelLoss antenna ch code carrier) s

/-- CHANNEL_LOCK (R312). -/
def execChannelLock (antenna : Fin 3) (ch : Fin 64) (code carrier pll : Bool) (s : State) : Out :=
  onP1 (channelLock antenna ch code carrier pll) s

/-- GNSS_EPOCH (R313). -/
def execGnssEpoch (fix : Option EpochFix) (obs : List (Fin 3 × ChannelObs)) (baselines : List BaselineObs) (s : State) : Out :=
  onP1 (gnssEpoch fix obs baselines) s

/-- ANTENNA_STATE_CHANGE (R317). -/
def execAntennaStateChange (antenna : Fin 3) (limited : Bool) (current : Nat) (s : State) : Out :=
  onP1 (antennaState antenna limited current) s

/-- GNSS_WAKE (R319). -/
def execGnssWake (s : State) : Out := onP1 gnssWake s

/-- GNSS_WAKE_END (R319). -/
def execGnssWakeEnd (s : State) : Out := onP1 gnssWakeEnd s

/-- REF_WARM (R573). -/
def execRefWarm (s : State) : Out := onP1 (fun p => showTime (p.setBit kTime 8 true)) s

end Sys2Proof.Machine
end

