-- ==== Sys2Proof/Machine/Modes.lean ====
section
/-! DEFINITION. Mode commands, panel inputs and the Spring sequence (chapter "Operating modes, hand-over, reset and
start-up", R67–R84) as commands of the block. -/

namespace Sys2Proof.Machine

/-! ### Mode commands (R67–R74) -/

/-- A change of P1 with the power that a mode change switches (R47). -/
def withPower (f : P1 → P1) (s : P1) : P1 := switchPower s.mode (f s)

/-- A mode command as a command of the block. -/
def onMode (target : Nat) (src : CmdSource) (s : State) : Out :=
  .next { s with p1 := withPower (modeCommand target src) s.p1 }

/-- The rule of 2100h:01, with the power that the change switches. -/
def modeObjectRule (w : Nat) (target : Nat) : Rule P1 :=
  { modeRule w target with eff := withPower (acceptMode target) }

/-! ### Panel inputs (R73) -/

/-- The rule of 2101h:sub: an input serves one mode, and none serves Commissioning. -/
def panelRule (sub : Nat) (v : Int) : Rule P1 :=
  checkRule (fun s =>
    if sub = 2 then abRange
    else if v ≠ 0xFF && (List.range 12).any (fun m => m + 1 ≠ sub && s.rd (ob 0x2101 (m + 1)) = v) then abRange
    else 0) fun s => s.wr (ob 0x2101 sub) v

/-! ### The Spring sequence (R83, R84) -/

/-- A step has failed: the module stays in Winter. -/
def springFail (step : Nat) (s : P1) : P1 :=
  record 0x0242 0 (((endSpring s).setBit kModeStatus 3 true).setField kModeStatus 8 8 step)

/-- Every enabled thruster reports valid feedback. -/
def feedbackHealthy (s : P1) : Bool := (List.finRange 16).all fun (i : Fin 16) => s.rd (thrKey i 1) ≠ 1 || feedbackValid i s

/-- Steps 6 and 7: slots qualify afresh, the law is cleared, Standby is entered. -/
def springPass (s : P1) : P1 := transition false 2 0x0202 (record 0x0241 0 (endSpring (clearLaw (requalifyAll s))))

/-- The condition of a step that the event completes: checks 2 and 3 are its operand. -/
def springHolds (step : Nat) (checkOk : Bool) (s : P1) : Bool :=
  match step with
  | 4 => s.bit kClock 0 && s.bit kClock 1
  | 5 => feedbackHealthy s
  | _ => checkOk

/-- A step of the Spring sequence is complete (R83). -/
def springStepComplete (checkOk : Bool) (s : P1) : P1 :=
  let n := s.springStep
  if !springing s || n = 0 then s
  else if !springHolds n checkOk s then springFail n s
  else if n < 5 then { s with springStep := n + 1 }
  else springPass s

/-! ### Meanings -/

/-- DI_EDGE (R369), with a mode command of the panel (R67). -/
def execDiEdge (n : Fin 32) (level : Bool) (s : State) : Out :=
  let t := diEdge n level s
  .next { t with p1 := switchPower s.p1.mode t.p1 }

/-- PANEL_INPUT_ASSIGN (R73). -/
def execPanelInputAssign (w : Nat) (mode : Fin 12) (v : Int) (s : State) : Out :=
  onReq w (ob 0x2101 (mode + 1)) (.num v) (panelRule (mode + 1) v) s

/-- SPRING_STEP_COMPLETE (R83). -/
def execSpringStepComplete (checkOk : Bool) (s : State) : Out := onP1 (springStepComplete checkOk) s

/-- MODE_COMMAND_DORMANT (R74). -/
def execModeCommandDormant (src : CmdSource) (s : State) : Out := onMode 0 src s

/-- MODE_COMMAND_COMMISSIONING (R74). -/
def execModeCommandCommissioning (src : CmdSource) (s : State) : Out := onMode 1 src s

/-- MODE_COMMAND_STANDBY (R74). -/
def execModeCommandStandby (src : CmdSource) (s : State) : Out := onMode 2 src s

/-- MODE_COMMAND_MANUAL_LEVER (R74). -/
def execModeCommandManualLever (src : CmdSource) (s : State) : Out := onMode 3 src s

/-- MODE_COMMAND_JOYSTICK (R74). -/
def execModeCommandJoystick (src : CmdSource) (s : State) : Out := onMode 4 src s

/-- MODE_COMMAND_JOYSTICK_AUTO_HEADING (R74). -/
def execModeCommandJoystickAutoHeading (src : CmdSource) (s : State) : Out := onMode 5 src s

/-- MODE_COMMAND_AUTO_POSITION (R74). -/
def execModeCommandAutoPosition (src : CmdSource) (s : State) : Out := onMode 6 src s

/-- MODE_COMMAND_AUTO_TRACK (R74). -/
def execModeCommandAutoTrack (src : CmdSource) (s : State) : Out := onMode 7 src s

/-- MODE_COMMAND_FOLLOW_TARGET (R74). -/
def execModeCommandFollowTarget (src : CmdSource) (s : State) : Out := onMode 8 src s

/-- MODE_COMMAND_WEATHERVANE (R74). -/
def execModeCommandWeathervane (src : CmdSource) (s : State) : Out := onMode 9 src s

/-- MODE_COMMAND_CLOSE_HOLD (R74). -/
def execModeCommandCloseHold (src : CmdSource) (s : State) : Out := onMode 10 src s

/-- MODE_COMMAND_WINTER (R74). -/
def execModeCommandWinter (src : CmdSource) (s : State) : Out := onMode 11 src s

end Sys2Proof.Machine
end

