-- ==== Sys2Proof/Machine/Snap.lean ====
section
/-! DEFINITION. Snapshots and the writable clock objects (chapter "Clocks, grain and the station cycle", R19,
R30–R39). -/

namespace Sys2Proof.Machine

/-- Bit 5 of 2000h:03, CYCLE_CHANGE_PENDING (R39). -/
def bCyclePending : Nat := 5

/-- The station cycle length of a code of 2000h:01, in grains. -/
def cycleGrains (code : Nat) : Nat :=
  if code = 0 then 2500 else if code = 1 then 5000 else if code = 2 then 10000 else 20000

/-- The rule of 2000h:01 (R19): the change waits for its boundary. -/
def stationCycleRule (v : Int) : Rule P1 :=
  effRule fun s =>
    ({ s with cyclePending := some (v.toNat, s.elapsed) }.wr (ob 0x2000 1) v).setBit kClock bCyclePending true

/-- A pending change of the station cycle takes effect at the first grain after its write whose index is a multiple of 20,000
(R19). -/
def cycleChangeEffect (s : P1) : P1 :=
  match s.cyclePending with
  | some (c, g) =>
    if s.grainIndex % 20000 = 0 && g < s.elapsed then
      ({ s with cyclePending := none }.wr (ob 0x2000 2) (cycleGrains c)).setBit kClock bCyclePending false
    else s
  | none => s

/-- The rule of 2300h:01 (R35): a refused trigger is counted and answered busy. -/
def snapTriggerRule : Rule P1 where
  mode := fun _ => 0
  check := fun _ => 0
  busy := fun s => if snapRefused s then abBusy else 0
  eff := snapTrigger 0
  refused := fun a s => if a = abBusy then s.inc (ob 0x2300 6) else s

/-- The programmed time has arrived (R32): it lies in the grain in progress, or has been passed over by a time step. The
trigger fires once and the time clears. -/
def snapProgrammedTime (s : P1) : P1 :=
  if s.rd (ob 0x2300 0x0A) ≠ 0 && s.rdN (ob 0x2300 0x0A) < s.grainStart + 1000 then
    snapTrigger 3 (s.wr (ob 0x2300 0x0A) 0)
  else s

/-- A time lies inside the grain in progress (R13, R32). -/
def inGrain (v : Int) (s : P1) : Bool := v.toNat / 1000 = s.ns / 1000

/-- Precedence 8 of a grain (R17, R31): the triggers that fired by events of the grain are processed, that of a programmed
time once. -/
def snapFlush (s : P1) : P1 :=
  s.snapDue.foldl (fun t src => if src = 3 then snapProgrammedTime t else snapTrigger src t) { s with snapDue := [] }

/-- The rule of 2300h:0A (R32): a time before the grain in progress is refused; one inside it fires at
precedence 8 of the grain, after the write. -/
def snapTimeRule (v : Int) : Rule P1 :=
  checkRule (fun s => if v ≠ 0 && v < (s.grainStart : Int) then abRange else 0) fun s =>
    let t := s.wr (ob 0x2300 0x0A) v
    if v ≠ 0 && inGrain v s then snapLater 3 t else t

/-- The rule of 2300h:02 (R35). -/
def snapLockRule (v : Int) : Rule P1 := plainRule (ob 0x2300 2) (.num v)

/-- The rule of 2300h:0D (R36). -/
def clearRefusedRule : Rule P1 := effRule fun s => s.wr (ob 0x2300 6) 0

/-- The rule of 2001h:05 (R38). -/
def clearCycleRule : Rule P1 := effRule fun s => (s.clearSubs 0x2001 1 4).wr (ob 0x2001 6) 0

/-! ### Meanings -/

/-- STATION_CYCLE_WRITE (R19). -/
def execStationCycleWrite (w : Nat) (v : Int) (s : State) : Out :=
  onReq w (ob 0x2000 1) (.num v) (stationCycleRule v) s

/-- CYCLE_CHANGE_EFFECT (R19). -/
def execCycleChangeEffect (s : State) : Out := onP1 cycleChangeEffect s

/-- SNAP_TRIGGER_WRITE (R35). -/
def execSnapTriggerWrite (w : Nat) (v : Int) (s : State) : Out := 
  onReq w (ob 0x2300 1) (.num v) snapTriggerRule s

/-- SNAP_PROGRAMMED_TIME (R32). -/
def execSnapProgrammedTime (s : State) : Out := onP1 snapProgrammedTime s

/-- SNAP_TIME_WRITE (R32). -/
def execSnapTimeWrite (w : Nat) (v : Int) (s : State) : Out :=
  onReq w (ob 0x2300 0x0A) (.num v) (snapTimeRule v) s

/-- SNAP_LOCK_WRITE (R35). -/
def execSnapLockWrite (w : Nat) (v : Int) (s : State) : Out :=
  onReq w (ob 0x2300 2) (.num v) (snapLockRule v) s

/-- CLEAR_REFUSED_COUNT (R36). -/
def execClearRefusedCount (w : Nat) (v : Int) (s : State) : Out :=
  onReq w (ob 0x2300 0x0D) (.num v) clearRefusedRule s

/-- CLEAR_CYCLE_STATISTICS (R38). -/
def execClearCycleStatistics (w : Nat) (v : Int) (s : State) : Out :=
  onReq w (ob 0x2001 5) (.num v) clearCycleRule s

end Sys2Proof.Machine
end

