-- ==== Sys2Proof/Machine/Starts.lean ====
section
/-! DEFINITION. Resets and starts (chapter "Operating modes, hand-over, reset and start-up", R85–R95, R584, R590), with what
other chapters say of a start: R91, R410, R504, R529, R536, R545, R554, R585, R589. -/

namespace Sys2Proof.Machine

/-! ### What follows the content of an object -/

/-- The trailer of an octet string: its CRC-32C. -/
def trailer (b : List Byte) : Nat := leAt b (b.length - 4) 4

/-- The cells that follow a resident octet string: models, tables, templates, waypoints (R129, R132, R230, R271, R451). -/
def showResident (k : Nat) (s : P1) : P1 :=
  let b := s.octets k
  if k = ob 0x3400 1 || k = ob 0x3500 1 then s.wrs [(k + 1, leAt b 4 2), (k + 2, trailer b)]
  else if 0x5780 ≤ k / 256 && k / 256 < 0x5790 then s.wrs [(k + 1, trailer b), (k + 2, 1)]
  else if k = ob 0x4033 1 then s.wr (k + 1) (trackCount b)
  else if k = ob 0x4210 1 then showTable s
  else s

/-- The octet strings that R128 replaces at a G+0. -/
def residentKeys : List Nat :=
  [ob 0x3400 1, ob 0x3500 1, ob 0x4033 1, ob 0x4210 1] ++ (List.range 16).map fun t => ob (0x5780 + t) 1

/-- A user structure is resident at a start (R183). -/
def showStructure (k : Fin 16) (s : P1) : P1 :=
  let b := s.octets (stKey k 1)
  if b = [] || k.val < 12 then s
  else s.wrs [(stKey k 2, tagOf b), (stKey k 3, leAt b 4 2), (stKey k 4, leAt b 8 4), (stKey k 8, 1)]

/-- A slot that the bank enables is configured and qualifying (R100, R148). -/
def startSlot (i : Fin 64) (s : P1) : P1 :=
  if s.rd (slKey i 1) = 1 then
    refreshSlot i ((setSlot i (fun x => { x with since := s.elapsed }) (s.setField (slKey i 0x14) 16 16 1)).setBit (slKey i 0x14)
      bModelPending (s.rd (slKey i 9) = 4))
  else s

/-- An axis takes its stored compare list (R339, R358). -/
def startAxis (a : Fin 8) (s : P1) : P1 :=
  let b := s.octets (axKey a 0x21)
  let t := if s.rd (axKey a 1) = 1 then restartAxis a s else s
  if b = [] then t else setAxis a (fun x => { x with entries := (listEntries b).map fun e => writtenEntry a e t, staged := [], restage := false }) t

/-- An emulated output that the bank enables (R347). -/
def startEmu (o : Fin 2) (s : P1) : P1 :=
  if s.rd (ob (0x5210 + o) 1) = 1 then (emulationRule o 1).eff s else s

/-- A filter channel starts an unsettled run (R352). -/
def startFilter (c : Fin 32) (s : P1) : P1 := if filtOn c s then startRun c s else s

/-- The multicast groups of the DP pair that the bank enables (R428). -/
def startGroups (s : P1) : P1 :=
  { s with net := { s.net with joined :=
      ((List.finRange 16).filter fun (k : Fin 16) => s.rd (ob (0x5910 + k) 1) = 1).map fun k => s.rdN (ob (0x5910 + k) 2) } }

/-- The first period takes the period length that the bank gives (R489). -/
def startPeriod (s : P1) : P1 := { s with recorder := { s.recorder with periodLen := s.rdN (ob 0x6000 5) } }

/-- What follows the loaded values. -/
def adoptConfig (s : P1) : P1 :=
  let s1 := s.wr (ob 0x2000 2) (cycleGrains (s.rdN (ob 0x2000 1)))
  let s2 := residentKeys.foldl (fun t k => if t.octets k = [] then t else showResident k t) s1
  let s3 := showArea ((List.finRange 16).foldl (fun t k => showStructure k t) s2)
  let s4 := (List.finRange 64).foldl (fun t i => startSlot i t) s3
  let s5 := (List.finRange 8).foldl (fun t a => startAxis a t) s4
  let s6 := (List.finRange 2).foldl (fun t o => startEmu o t) s5
  startPeriod <| startGroups ((List.finRange 32).foldl (fun t c => startFilter c t) s6)

/-! ### The store at a start (R91, R92, R529) -/

/-- The objects take the values of the selected bank, or their defaults. -/
def loadBank (s : P1) : P1 :=
  match selectBank s with
  | none => (s.wrs [(ob 0x6500 3, 0xFF), (ob 0x6500 4, 0)]).setBit (ob 0x6500 2) 3 true
  | some b => match s.bank b with
    | none => s
    | some x => x.body.foldl loadEntry (s.wrs [(ob 0x6500 3, b), (ob 0x6500 4, x.sequence)])

/-- 2100h:0B (R96): origin 0 power-up, 1 warm reset, 2 full reset. -/
def startByte (o : Nat) (spring : Bool) (s : P1) : Nat :=
  o + flagBit spring 2 + match selectBank s with
    | none => 8
    | some b => 128 * b

/-! ### The recorder at a start (R504, R585, R589) -/

/-- A commit under way leaves its position without the valid mark. -/
def tornNow (r : Recorder) : Bool := match r.commit with
  | some c => !c.stale
  | none => false

/-- The start of the recorder in a new P1. `keep` says that the retention RAM is good. -/
def startRecorder (keep : Bool) (detail : Nat) (old : P1) (s : P1) : P1 :=
  let r := old.recorder
  let off := s.ns % 60000000000 / 1000 ≠ 0
  let ev : SessEvent := ⟨10, 0, detail, s.ns, []⟩
  let counts (t : P1) (l : List Int) : P1 := t.wrs ((List.zip [4, 6, 7, 8, 9] l).map fun e => (ob 0x6000 e.1, e.2))
  let m (i : Nat) : Int := ((r.mgmt.getD i 0 : Nat) : Int)
  let t : P1 :=
    if keep then
      counts { s with recorder := { uncommit r with
        events := r.events ++ [ev], partialSpan := off, begun := !off, stopped := false, buckets := [], freeze := none, cursorLog := 0,
        periodGrain := s.elapsed } }
        ([4, 6, 7, 8].map (fun k => old.rd (ob 0x6000 k)) ++ [satAdd 0xFFFFFFFF (old.rd (ob 0x6000 9)) (if tornNow r then 1 else 0)])
    else if r.log = [] then
      counts { s with recorder := { Recorder.reset with
        clears := [clearRecord 0 (r.mgmt.getD 0 0) 0 0 false [] 8 s.ns], events := [ev], partialSpan := off, begun := !off, periodStart := s.ns
        periodGrain := s.elapsed, mgmt := r.mgmt } } [(m 0 + 1) % 2 ^ 32, 0, 0, 0, 0]
    else
      counts { s with recorder := { Recorder.reset with
        log := r.log, clears := [], events := [ev], partialSpan := off, begun := !off, periodStart := s.ns, periodGrain := s.elapsed
        restart := [1, 2, 3, 4], mgmt := r.mgmt } }
        [m 0, m 1, m 2, m 3, satAdd 0xFFFFFFFF (m 4) (if tornNow r then 1 else 0)]
  let n := r.log.length
  showPending ((t.wr (ob 0x6000 2) n).setBits kRec [(0, decide (logSize ≤ n)), (1, decide (32000 ≤ n))])

/-! ### What a warm reset keeps (R94, R584, R545) -/

/-- Time is kept (R94, R584). -/
def timeKept (k : KeptChecks) (s : P1) : Bool :=
  k.timeCrc && !s.pllLost && !s.time.broken && !(s.faults ++ s.unreported).any fun f => blockOf f.addr = unitAddr 1 1 1 63 255

/-- The cells that show the time epoch. -/
def timeCells : List Nat :=
  [1, 9, 0x0A, 0x0B, 0x0C, 0x0E, 0x0F, 0x11, 0x12].map (ob 0x5000) ++ [ob 0x5020 8, ob 0x5021 8, ob 0x5022 2, ob 0x5023 2]
    ++ [ob 0x5024 3, ob 0x5024 5, ob 0x5025 3, ob 0x5025 5]

/-- Cells copied from the P1 before the reset. -/
def copyCells (l : List Nat) (old s : P1) : P1 := s.wrs (l.map fun k => (k, old.rd k))

/-- Region TIME runs on through a warm reset (R584): sources qualify afresh, so that a locked clock enters holdover. -/
def carryTime (k : KeptChecks) (old s : P1) : P1 :=
  let x := old.time
  let t : P1 := { copyCells timeCells old s with time := { TimeState.reset with
    source := x.source, yf := x.yf, holdFrom := x.holdFrom, u0 := x.u0, stepDue := x.stepDue, navUtc := x.navUtc, gnss := x.gnss
    ptp := x.ptp, evt := x.evt, evtLast := x.evtLast, ppsSeq := x.ppsSeq, ppsFirst := x.ppsFirst, saved := x.saved
    secondAt := x.secondAt, savedAt := x.savedAt, ppsAt := x.ppsAt, ppsEnd := x.ppsEnd
    almanac := x.almanac && k.almanacCrc } }
  judgeSource (((t.setOctets (ob 0x5022 1) (old.octets (ob 0x5022 1))).setOctets (ob 0x5023 1) (old.octets (ob 0x5023 1))))

/-- The clock status after a warm reset (R12, R39, R584): lock and its count stay, a pending cycle change does not. A lock that has
not come back still counts as lost. -/
def carryClock (spring : Bool) (old s : P1) : P1 :=
  { (s.setBits kClock [(0, old.bit kClock 0), (1, old.bit kClock 1), (4, spring && old.bit kClock 4)]).setField kClock 16 16
      (old.field kClock 16 16) with pllLost := old.pllLost && !old.bit kClock 0 }

/-- The keys of the refined values of the mount entries. -/
def refinedKeys : List Nat := (List.range 80).flatMap fun e => (List.range 9).map fun k => mtKey e (7 + k)

/-- Refined mount values (R94): kept, or started from the commissioned ones. -/
def startMounts (keep : Bool) (old s : P1) : P1 :=
  let t := (List.range 80).foldl (fun t e => refineAnew e t) s
  if keep then copyCells refinedKeys old t else t

/-- The estimate kept as the prior (R94, R95, R149); the frame's origin lasts until a cold start (R133). -/
def startEstimate (spring keep : Bool) (old s : P1) : P1 :=
  let x := old.fus
  let f : Fusion := { Fusion.reset with origin := if spring then x.origin else none }
  if spring && keep then
    { s.setBit (ob 0x3000 1) 1 (x.pos.init || x.hdg.init) with
      fus := { f with
        x := x.x, cov := x.cov, cross := x.cross
        pos := { f.pos with init := x.pos.init }, hdg := { f.hdg with init := x.hdg.init } } }
  else { s with fus := f }

/-- A session after a warm reset (R545): its authorisation and sequence state. -/
def keepSession (x : Session) : Session := { x with challenge := none, code := none, nanos := none }

/-- The faults of the packages that are not reset, with the last causes of their units and the state of their dies: a temperature
alarm that stood is raised anew. -/
def carryFaults (keep2 keep3 : Bool) (old s : P1) : P1 :=
  let l := (old.unreported.foldl (fun l f => insertFault f l) old.faults).filter fun f => (keep2 && f.addr / 2 ^ 30 = 2) || (keep3 && f.addr / 2 ^ 30 = 3)
  let subs := (if keep2 then [4, 5] else []) ++ (if keep3 then [6, 7] else [])
  showFaults { copyCells (subs.map (ob 0x2202)) old s with
    faults := l
    lastCauses := old.lastCauses.filter fun e => (keep2 && e.1 / 2 ^ 30 = 2) || (keep3 && e.1 / 2 ^ 30 = 3) }

/-- The requests that a reset interrupts (R364, R550): writes that wait for their frame, SDO transfers. -/
def interrupted (s : P1) : List (Nat × Nat) :=
  s.acks.map (fun a => (a.sess, a.key))
    ++ (List.finRange 4).filterMap fun (c : Fin 4) => (s.sdo[c]).bind fun x => if x.upload then none else some (17 + c.val, x.key)

/-- The reset abort that an interrupted request is owed (R545), or its record (R590). -/
def oweOne (keep : Bool) (e : Nat × Nat) (s : P1) : P1 :=
  match if keep then s.sessions.find? fun x => x.no = e.1 else none with
  | some x => { s with owed := s.owed ++ [⟨e.1, x.seq, 2, e.2 / 256, e.2 % 256, abReset, 0, 0, 0, 0, [], false⟩] }
  | none => record 0x0258 (packDetails [(8, 2), (8, e.1), (16, e.2 / 256)]) s

/-- What P1 was doing is reported before it stops (R56, R441, R521). -/
def endWork (s : P1) : P1 :=
  (List.finRange 16).foldl (fun t (d : Fin 16) => dmaEndAll d 7 t) (eachCan (fun c t => canDropAll c 7 t) s)

/-! ### A new P1 -/

/-- The cells of a P1 that starts. -/
def startOd : Od := [(ob 0x2100 4, 0x20000), (ob 0x4400 1, 15), (ob 0x4400 2, 0x30322311)]

/-- P1 before it has loaded anything: the stores that a reset does not touch. -/
def barePart (o : Nat) (spring : Bool) (old : P1) : P1 :=
  let warm := o = 1
  { P1.reset with
    phase := if spring then .spring else .cold o
    ns := if spring then old.ns else old.time.saved.getD 0
    elapsed := old.elapsed, startGrain := old.elapsed, free := old.free, od := startOd, bankA := old.bankA, bankB := old.bankB
    sessions := if spring then old.sessions.map keepSession else []
    lockout := if warm then old.lockout else ⟨[], none⟩
    stuck := if warm then old.stuck else Vector.replicate 2 false
    time := { TimeState.reset with saved := old.time.saved, savedAt := old.elapsed, almanac := old.time.almanac } }

/-- The kind of the GNSS start of a P1 restart (R94, R318): hot with ephemeris and position, warm with almanac and position, cold
without, or where time is not kept. -/
def startKind (spring : Bool) (k : KeptChecks) (old : P1) : Nat :=
  if spring && k.positionCrc && old.time.almanac then (if k.ephemerisCrc then 0 else if k.almanacCrc then 1 else 2) else 2

/-- P1 restarts (R87–R95): origin, that time is kept, what the checks of R94 find, the block in force of P2 where it keeps
one, the packages that keep their state. -/
def restart (o : Nat) (spring : Bool) (k : KeptChecks) (block : Option Od) (keep2 keep3 : Bool) (before : P1) : P1 :=
  let old := endWork before
  let s1 := startRecorder (spring && k.recorderCrc) (startByte o spring old) old (barePart o spring old)
  let s2 := loadBank s1
  let s3 := match block with
    | some b => { s2 with od := s2.od.filter fun e => !inBlock e.1 }.wrs b
    | none => s2
  let s4 := if o = 1 then carryClock spring old s3 else s3
  let s5 := if spring then carryTime k old s4 else s4
  let s6 := startEstimate spring (k.estimateCrc && k.estimateAge ≤ 60000000) old
    (startMounts (spring && k.mountsCrc) old (adoptConfig (carryFaults keep2 keep3 old s5)))
  let s7 := judgeUtc (judgePort (gnssStart (startKind spring k old)
    (s6.setBit kModeStatus 4 (s6.stuck[(0 : Fin 2)] || s6.stuck[(1 : Fin 2)]))))
  let s8 := s7.wr (ob 0x2100 0x0B) (startByte o spring old)
  let s9 := if o = 0 then s8 else record (if o = 1 then 0x0252 else 0x0253) 0 s8
  (interrupted old).foldl (fun t e => oweOne spring e t) (if o = 0 then { s9 with owed := [] } else s9)

/-! ### The packages at a reset (R87, R88, R90) -/

/-- P2 starts anew; its own non-volatile memory stays (R410, R552). -/
def restartP2 (p : P2) : P2 := { P2.reset with confirmedValue := p.confirmedValue, key := p.key }

/-- The module restarts. -/
def restartModule (o : Nat) (spring : Bool) (k : KeptChecks) (s : State) : State :=
  let new2 := o = 2 || (o = 0 && !s.p2.powered)
  let new3 := o = 2 || (o = 0 && !s.p3.powered)
  let p2 := if new2 then restartP2 s.p2 else if o = 0 then { s.p2 with link := true } else s.p2
  let p3 := if new3 then P3.reset else if o = 0 then { s.p3 with link := Vector.replicate 2 true } else s.p3
  let block := if p2.haveBlock then some p2.block else none
  let p1 := restart o spring k block (!new2) (!new3) s.p1
  { s with p1 := { p1 with fldLink := p3.link }, p2 := p2, p3 := p3 }

/-- Nothing was kept. -/
def keptNothing : KeptChecks := ⟨false, false, false, false, false, 0, false, false⟩

/-! ### Reset inputs (R85, R86) -/

/-- The number of a reset input. -/
def resetIdx : ResetInput → Fin 2
  | .button => 0
  | .resetN => 1

/-- RESET_STUCK follows the two inputs. -/
def showStuck (s : P1) : P1 := s.setBit kModeStatus 4 (s.stuck[(0 : Fin 2)] || s.stuck[(1 : Fin 2)])

/-- An input is declared stuck (R86). A P1 that is starting raises the alarm at the end of its start (R554). -/
def declareStuck (i : ResetInput) (s : P1) : P1 :=
  if s.phase = .off || s.stuck[resetIdx i] then s
  else
    let t := record 0x0254 0 (showStuck { s with stuck := s.stuck.set (resetIdx i) true })
    if s.phase = .run then raise 0x0254 0 t else t

/-- A stuck input has been released for 1,000,000 grains (R86). The one alarm 0254h ends when neither input is stuck any more
(assumption 95). -/
def clearStuck (i : ResetInput) (s : P1) : P1 :=
  if s.phase = .off || !s.stuck[resetIdx i] then s
  else
    let t := record 0x0255 0 (showStuck { s with stuck := s.stuck.set (resetIdx i) false })
    if s.bit kModeStatus 4 && !t.bit kModeStatus 4 then lower 0x0254 0 t else t

/-- A press ends (R85). -/
def resetRelease (i : ResetInput) (grains : Nat) (k : KeptChecks) (s : State) : State :=
  if s.p1.phase = .off || s.p1.stuck[resetIdx i] || grains < 200000 then s
  else if grains < 3000000 then restartModule 1 (timeKept k s.p1) k s
  else if grains < 10000000 then restartModule 2 false keptNothing s
  else { s with p1 := declareStuck i s.p1 }

/-! ### The end of a start (R89, R93, R95, R98, R554) -/

/-- The conditions of P2 that raise an alarm. -/
def raiseSafety (p : P2) (s : P1) : P1 :=
  let s1 := (List.finRange 8).foldl (fun t (n : Fin 8) =>
    if inDemand p p.saf n then raise 0x0C00 (packDetails [(8, n.val), (16, inputGroups p n)]) t else t) s
  let s2 := (List.range 8).foldl (fun t i => if flagAt p.swFault i then raise 0x0C05 (packDetails [(8, i)]) t else t) s1
  let s3 := (List.range 8).foldl (fun t i => if flagAt p.overdue i then raise 0x0C06 (packDetails [(8, i)]) t else t) s2
  let s4 := (List.range 8).foldl (fun t a => if flagAt p.disagree a then raise 0x0C0B (packDetails [(8, a)]) t else t) s3
  if p.startDone && !p.confirmed then raise 0x0C0E (packDetails [(8, 0), (8, 3)]) s4 else s4

/-- The conditions of P3 that raise an alarm, as far as the links carry them. -/
def raiseField (f : P3) (s : P1) : P1 :=
  let s1 := if f.low && f.measured = 10 then raise 0x0B00 (setParam true) s else s
  let s2 := if f.missing && f.measured = 10 then raise 0x0B01 (setParam true) s1 else s1
  let s3 := (List.finRange 16).foldl (fun t (n : Fin 16) =>
    let x := f.dos[n]
    [(1, x.short), (2, x.thermal), (3, x.openLoad), (4, x.external), (5, x.groupOff)].foldl (fun u e =>
      if e.2 then raise 0x0B04 (doParam n e.1) u else u) t) s2
  (List.finRange 16).foldl (fun t (n : Fin 16) =>
    [(1, (f.aos[n]).limiting), (2, (f.aos[n]).deviation)].foldl (fun u e => if e.2 then raise 0x0B06 (doParam n e.1) u else u) t) s3

/-- Alarms whose condition holds after a start are raised anew (R554). -/
def raiseAnew (s : State) : State :=
  let p := s.p1
  let p1 := p.faults.foldl (fun t f => raise 0x0014 f.addr t) p
  let hot := ([(.g, 4), (.w, 5), (.f0, 6), (.f1, 7)] : List (Die × Nat)).foldl (fun t e =>
    if p.rd (ob 0x2202 e.2) = 1 then raise 0x0015 (dieIdx e.1).val t else t) p1
  let p2 := if p.bit kModeStatus 4 then raise 0x0254 0 hot else hot
  let p3 := if timeState p = 0 && p.bit kTime 5 then raise 0x0903 0 p2 else p2
  let p4 := if p.bit kRec 0 then raise 0x0013 0 p3 else p3
  let p5 := if s.p2.link then raiseSafety s.p2 p4 else p4
  syncGuard (syncField { s with p1 := if s.p3.link[(0 : Fin 2)] then raiseField s.p3 p5 else p5 })

/-- A block that fails the self-test is in fault with cause 00Ah (R93): a new fault. -/
def failBlock (s : State) (a : Word32) : State :=
  let b := blockOf a.toNat
  faultAt (b + 0x00A) { s with p1 := { s.p1 with
    faults := s.p1.faults.filter fun f => blockOf f.addr ≠ b
    unreported := s.p1.unreported.filter fun f => blockOf f.addr ≠ b } }

/-- The start mode and the role that goes with it (R89, R91, R98). -/
def enterStartMode (s : P1) : P1 :=
  let none1 : Bool := (selectBank s).isNone
  let m : Nat := if none1 then 1 else s.rdN (ob 0x2100 6)
  let t := (s.wr kMode m).setField kModeStatus 16 8 m
  let u := { t with lawMode := m }
  let v := if none1 then
      record 0x0211 0 (recordAlarm true 0x0257 0 0 (u.wr (ob 0x2100 0x0A) 7))
    else record 0x0256 ((selectBank s).getD 0) u
  let x := if m = 2 && v.setSize = 1 && !v.red.moduleFault then setRole 2 v else leadOutput v
  if m = 0 then enterDormant x else x

/-- The session of a channel's SDO server (R544): unauthorised. -/
def sdoSession (c : Fin 4) (s : P1) : Session :=
  ⟨17 + c, ascii "SDO CAN" ++ ascii (toString c.val) ++ zeros 8, false, 3 + c, 0, 0, 0, 0, 0, 0, 0, s.elapsed, none, none, none, none⟩

/-- The SDO sessions of the enabled servers open (R544, R545). -/
def openSdo (s : P1) : P1 :=
  (List.finRange 4).foldl (fun t (c : Fin 4) =>
    if t.rd (ob (0x6610 + c) 1) = 1 && !t.sessions.any (fun x => x.no = 17 + c.val) then
      sessEvent 1 (17 + c) 0 { t with sessions := t.sessions ++ [sdoSession c t] }
    else t) s

/-- P1 serves again (R89–R95). -/
def serveAgain (failed : List Word32) (s : State) : State :=
  let spring : Bool := s.p1.phase = .spring
  let s1 := failed.foldl failBlock { s with p1 := { s.p1 with phase := .run } }
  let p := enterStartMode s1.p1
  let ms := min 65535 ((p.elapsed - p.startGrain) / 1000)
  let q := openSdo (record (if spring then 0x0251 else 0x0250) 0 (p.wr (ob 0x2100 0x0C) ms))
  raiseAnew { s1 with p1 := { q.owed.foldl (fun t a => answerWith a t) q with owed := [] } }

/-! ### Meanings -/

/-- RESET_INPUT_RELEASE (R85). -/
def execResetInputRelease (input : ResetInput) (grains : Nat) (kept : KeptChecks) (s : State) : Out :=
  .next (resetRelease input grains kept s)

/-- RESET_INPUT_STUCK (R86). -/
def execResetInputStuck (input : ResetInput) (s : State) : Out := .next { s with p1 := declareStuck input s.p1 }

/-- RESET_STUCK_CLEAR (R86). -/
def execResetStuckClear (input : ResetInput) (s : State) : Out := .next { s with p1 := clearStuck input s.p1 }

/-- POWER_APPLIED (R90). -/
def execPowerApplied (s : State) : Out :=
  if s.p1.phase = .off then .next (restartModule 0 false keptNothing s) else .next s

/-- SELF_TEST_COMPLETE (R93). -/
def execSelfTestComplete (failed : List Word32) (s : State) : Out :=
  match s.p1.phase with
  | .cold _ => .next (serveAgain failed s)
  | _ => .next s

/-- SPRING_START_COMPLETE (R95). -/
def execSpringStartComplete (failed : List Word32) (s : State) : Out :=
  if s.p1.phase = .spring then .next (serveAgain failed s) else .next s

end Sys2Proof.Machine
end

