-- ==== Sys2Proof/Machine/Objects.lean ====
section
/-! DEFINITION. Every object of the dictionary as a request finds it (chapter "Object dictionary and sessions", R534–R548): the
rule that a write of it follows, what a read of it returns, and what a read does. -/

namespace Sys2Proof.Machine

/-! ### Sessions -/

/-- The session of a number. -/
def session? (w : Nat) (s : P1) : Option Session := s.sessions.find? fun x => x.no = w

/-- The state with a session changed. -/
def setSession (w : Nat) (f : Session → Session) (s : P1) : P1 :=
  { s with sessions := s.sessions.map fun x => if x.no = w then f x else x }

/-! ### Authorisation (R551, R552) -/

/-- Authorisation is locked out. -/
def lockedOut (s : P1) : Bool :=
  match s.lockout.since with
  | some g => s.elapsed < g + 60000000
  | none => false

/-- The lockout has ended: the count starts afresh. -/
def lockoutEnds (s : P1) : P1 :=
  match s.lockout.since with
  | some g => if g + 60000000 ≤ s.elapsed then { s with lockout := ⟨[], none⟩ } else s
  | none => s

/-- The response that the guard package expects of a session for a challenge. -/
def expected (key challenge : List Byte) (w : Nat) : List Byte := hmac key (challenge ++ le 4 Config.serialNumber ++ le 2 w)

/-- The response of a session is the expected one, within 30 s of its challenge and outside a lockout. -/
def responseGood (p : P2) (w : Nat) (b : List Byte) (s : P1) : Bool :=
  !lockedOut s && match session? w s with
    | some x => match x.challenge with
      | some c => s.elapsed - c.2 < 30000000 && b = expected p.key c.1 w
      | none => false
    | none => false

/-- A refused authorisation: event 3, counted, the challenge consumed; five within 600 s begin a lockout. -/
def refuseAuth (w : Nat) (s : P1) : P1 :=
  let t := sessEvent 3 w abAuth ((setSession w (fun x => { x with challenge := none }) s).inc (ob 0x6600 9))
  if lockedOut s then t
  else
    let l := (lockoutEnds s).lockout.refusals.filter (fun g => s.elapsed - g < 600000000) ++ [s.elapsed]
    { t with lockout := if 5 ≤ l.length then ⟨[], some s.elapsed⟩ else ⟨l, none⟩ }

/-- The rule of 6600h:04. -/
def responseRule (p : P2) (w : Nat) (b : List Byte) : Rule P1 where
  mode := fun _ => 0
  check := fun s => if !p.link then abHardware else if responseGood p w b s then 0 else abAuth
  busy := fun _ => 0
  eff := fun s => sessEvent 2 w 0 (setSession w (fun x => { x with auth := true, challenge := none }) s)
  refused := fun a s => if a = abAuth then refuseAuth w s else s

/-- The rule of 6600h:05. -/
def giveUpRule (w : Nat) : Rule P1 := effRule (setSession w fun x => { x with auth := false })

/-- The rule of 6600h:06: 32 octets, in Commissioning, from an authorised session; the key goes to the guard package. -/
def keyRule (p : P2) (w : Nat) (b : List Byte) : Rule P1 where
  mode := fun s => if s.mode = 1 then 0 else abMode
  check := fun s => if !authorised w s then abAuth else if b.length ≠ 32 then abRange else 0
  busy := fun _ => if p.link then 0 else abHardware
  eff := fun s => sendGuard (.key b) (s.inc (ob 0x6600 7))

/-! ### Alarms and SDO servers (R554, R544) -/

/-- The rule of 6200h:03: the alarms of the classes named are acknowledged; an inactive one leaves the list. -/
def acknowledgeRule (v : Int) : Rule P1 :=
  effRule fun s =>
    let ack (a : Alarm) : Alarm := if bitOf v a.cls then { a with acked := true } else a
    showAlarms { s with alarms := (s.alarms.map ack).filter (fun a => a.active || !a.acked), unlisted := s.unlisted.map ack }

/-- A session closes (R545): its freeze, buffers, code and DMA work end, and event 4 is buffered. -/
def closeSession (w : Nat) (s : P1) : P1 :=
  let t := sessEvent 4 w 0 s
  let u : P1 := if (t.recorder.freeze.map (·.1)) = some w then endFreeze t else t
  let v := dmaEndSession w { u with bufs := u.bufs.filter fun b => b.holder ≠ .session w }
  { v with sessions := v.sessions.filter fun x => x.no ≠ w, sdo := match sdoChannel w with
      | some c => v.sdo.set c none
      | none => v.sdo }

/-- The rule of 6610h+c:01: the session of the server opens and closes with it. -/
def sdoEnableRule (c : Fin 4) (v : Int) : Rule P1 :=
  effRule fun s =>
    let t := s.wr (ob (0x6610 + c) 1) v
    let has := (session? (17 + c) t).isSome
    if v = 1 && !has then sessEvent 1 (17 + c) 0 { t with sessions := t.sessions ++ [sdoSession c t] }
    else if v = 0 && has then closeSession (17 + c) t else t

/-! ### Rules of chapters whose objects need no more than their values -/

/-- The rule of 6400h:0D (R475). -/
def switchOverRule (w : Nat) (v : Int) : Rule P1 where
  mode := fun _ => 0
  check := fun s =>
    if v = 0 then 0
    else if s.role = 2 && inSet s && (recent s).any (fun p => (p.id : Int) = v && ableInView p s) then 0 else abRange
  busy := fun _ => 0
  eff := fun s =>
    if v = 0 then s else relinquish 0xFE v.toNat 1 (record 0x0E0A (packDetails [(8, v), (8, (w : Int))]) s)

/-- The rule of 6400h:15 (R484). -/
def redundancyClearRule : Rule P1 := effRule fun s => s.clearSubs 0x6400 0x0E 0x14

/-- A quantity code of R491, or 0. -/
def quantityOk (v : Int) : Bool :=
  (0 ≤ v && v ≤ 7) || (0x10 ≤ v && v ≤ 0x1F) || (0x40 ≤ v && v ≤ 0x7F)

/-- The rule of 6010h+j (R491, R508): an entry that changes accumulates afresh. -/
def quantityRule (j : Fin 16) (sub : Nat) (v : Int) : Rule P1 :=
  checkRule (fun _ => if sub = 1 && !quantityOk v then abRange else 0) fun s =>
    let t := s.wr (ob (0x6010 + j) sub) v
    if s.rd (ob (0x6010 + j) sub) = v then t
    else { t with recorder := { t.recorder with quants := t.recorder.quants.set j QuantAcc.empty } }

/-- The rule of 4100h+i:08 (R251): the feedback source of a type: an axis, an analog input, a digital input, or none. -/
def feedbackByteOk (v : Int) : Bool :=
  let a := v.toNat % 256
  let b := v.toNat / 256 % 256
  let c := v.toNat / 65536 % 256
  (a < 8 || a = 0xFF) && (b < 16 || b = 0xFF) && (c < 32 || c = 0xFF)

/-- The rule of 5800h+d:03 (R516): 1 stops new reads, 0 lets the reads go on. A write that comes without its number of
octets read finds none read beyond those moved. -/
def dmaPauseFlag (d : Fin 16) (v : Int) (s : P1) : P1 :=
  let t := s.wr (ob (0x5800 + d) 3) v
  if v = 1 then (if (s.dma[d]).paused then t else setDma d (fun c => { c with pausing := true }) t)
  else setDma d (fun c => { c with pausing := false, paused := false }) t

/-- See `dmaPauseFlag`. -/
def dmaPauseRule (d : Fin 16) (v : Int) : Rule P1 := effRule (dmaPauseFlag d v)

/-! ### The rule of an object (R538) -/

/-- The place of an index among `n` objects from `base`. -/
def pick (base n i : Nat) : Option (Fin n) := if h : base ≤ i ∧ i - base < n then some ⟨i - base, h.2⟩ else none

/-- The number written; an octet string counts 0. -/
def Val.int : Val → Int
  | .num v => v
  | .bytes _ => 0

/-- The octets written. -/
def Val.octs : Val → List Byte
  | .bytes b => b
  | .num _ => []

/-- Rules of 2000h–2FFFh. -/
def coreRule (p : P2) (w k : Nat) (x : Val) (s : P1) : Option (Rule P1) :=
  let v := x.int
  if k = ob 0x2000 1 then some (stationCycleRule v)
  else if k = ob 0x2001 5 then some clearCycleRule
  else if k = ob 0x2100 1 then some (modeObjectRule w v.toNat)
  else if k / 256 = 0x2101 then some (panelRule (k % 256) v)
  else if k = ob 0x2200 5 then
    let r := restartBlockRule p v.toNat (Config.freeNat s.free % 2 = 0)
    some { r with eff := fun t => r.eff t.draw }
  else if k = ob 0x2200 7 then some (statusSelectRule v.toNat)
  else if k = ob 0x2300 1 then some snapTriggerRule
  else if k = ob 0x2300 2 then some (snapLockRule v)
  else if k = ob 0x2300 0x0A then some (snapTimeRule v)
  else if k = ob 0x2300 0x0D then some clearRefusedRule
  else if k = ob 0x1F00 1 then some (checkRule (fun _ => if v < 0x1000000 then 0 else abRange) fun t => t.wr k v)
  else none

/-- Rules of 3000h–3FFFh. -/
def intakeRule (k : Nat) (x : Val) : Option (Rule P1) :=
  let v := x.int
  let i := k / 256
  let b := k % 256
  if k = ob 0x3000 2 || k = ob 0x3000 3 || k = ob 0x3000 4 then some (rankRule k v)
  else if k = ob 0x3000 0x0C then some (selectionRule v)
  else if k = ob 0x3000 0x0D then some (recaptureRule v)
  else if k = ob 0x3010 0x0C then some (clearSuspectRule v)
  else if k = ob 0x3400 1 then some (modelRule x.octs)
  else if k = ob 0x3500 1 then some (markerRule x.octs)
  else match pick 0x3100 64 i with
  | some j => if b = 1 then some (slotEnableRule j v) else if b = 9 then some (timeBaseRule j v) else if b = 0x1F then some (slotClearRule j) else none
  | none => match pick 0x3200 80 i with
    | some e => if 1 ≤ b && b ≤ 6 then some (mountRule e b v) else if b = 0x10 then some (acceptRule e) else none
    | none => none

/-- Rules of 4000h–4FFFh. -/
def controlRule (k : Nat) (x : Val) : Option (Rule P1) :=
  let v := x.int
  let i := k / 256
  let b := k % 256
  if k = ob 0x4000 4 then some clearSaturationRule
  else if 0x4060 ≤ i && i < 0x4080 && b = 5 then some (aoAssignRule k v)
  else if k = ob 0x4030 1 || k = ob 0x4030 2 then some (positionRule (b = 2) v)
  else if k = ob 0x4030 3 then some (headingRule v)
  else if k = ob 0x4030 4 || k = ob 0x4030 5 then some (relativeMoveRule (b = 5) v)
  else if k = ob 0x4030 6 then some (relativeTurnRule v)
  else if i = 0x4031 && 2 ≤ b && b ≤ 4 then some (targetOffsetRule (⟨(b - 2) % 3, by omega⟩) v)
  else if k = ob 0x4032 3 || k = ob 0x4032 4 then some (weathervaneRule (b = 4) v)
  else if k = ob 0x4033 1 then some (waypointRule x.octs)
  else if i = 0x4040 && 1 ≤ b && b ≤ 6 then some (profileLimitRule (⟨(b - 1) % 6, by omega⟩) v)
  else if i = 0x4300 && 8 ≤ b && b ≤ 0x0A then some (waveLevelRule b v)
  else if k = ob 0x4200 0x19 then some allocClearRule
  else if k = ob 0x4200 0x1A then some generateRule
  else if k = ob 0x4200 0x1B then some (testRule v)
  else if k = ob 0x4210 1 then some (fallbackRule x.octs)
  else if k = ob 0x4430 1 then some (testJobRule x.octs)
  else match pick 0x4100 16 i with
  | some j =>
    if b = 0x23 || b = 0x24 then some (thrustCurveRule j (b = 0x24) x.octs)
    else if b = 8 then some (checkRule (fun _ => if feedbackByteOk v then 0 else abRange) fun s => s.wr k v)
    else if b = 5 || b = 6 then some (aoAssignRule k v)
    else none
  | none => match pick 0x4410 16 i with
    | some j => if b = 1 then some (structureRule j x.octs) else none
    | none => match pick 0x4421 8 i with
      | some t =>
        if b = 1 || b = 2 then some (jobTypeRule (t + 1) b v)
        else if b = 0x0D then some (solverClearRule (t + 1)) else none
      | none => none

/-- Rules of 5000h–51FFh. -/
def timeRule (k : Nat) (x : Val) : Option (Rule P1) :=
  let v := x.int
  let b := k % 256
  if k = ob 0x5000 2 then some (priorityRule v)
  else if k = ob 0x5000 0x0D then some (utcRule v)
  else if k = ob 0x5010 1 then some (ptpRoleRule v)
  else match pick 0x5020 2 (k / 256) with
  | some n =>
    if b = 4 then some (ppsOnceRule n v)
    else if b = 2 || b = 3 then some (ppsGridRule n (b = 3) v)
    else some (ppsRule n b v)
  | none => match pick 0x5101 3 (k / 256) with
    | some a => if b = 1 then some (antennaRule a v) else none
    | none => none

/-- Rules of 5200h–55FFh. -/
def ioRule (k : Nat) (x : Val) : Option (Rule P1) :=
  let v := x.int
  let i := k / 256
  let b := k % 256
  if k = ob 0x5400 7 then some (doCommandRule v)
  else if k = ob 0x5400 0x0B then some clearLatchedRule
  else if i = 0x5500 && 1 ≤ b && b ≤ 16 then some (aiModeRule (⟨(b - 1) % 16, by omega⟩) v)
  else if i = 0x5505 && 1 ≤ b && b ≤ 16 then some (aoCodeRule (⟨(b - 1) % 16, by omega⟩) v)
  else match pick 0x5200 8 i with
  | some a =>
    if b = 0x1B then some (setPositionRule a v)
    else if b = 0x21 then some (compareListRule a x.octs)
    else if b = 0x22 then some (compareEntryRule a x.octs)
    else if b = 0x2B then some (axisClearRule a)
    else some (axisTrackRule a b v)
  | none => match pick 0x5210 2 i with
    | some o => if b = 1 then some (emulationRule o v) else none
    | none => match pick 0x5310 32 i with
      | some c => some (filterRule c b v)
      | none => none

/-- Rules of 5600h–59FFh, the DMA rings apart. -/
def lineRule (w k : Nat) (x : Val) : Option (Rule P1) :=
  let v := x.int
  let i := k / 256
  let b := k % 256
  if k = ob 0x5900 9 then some (multicastRule k v)
  else if k = ob 0x5900 0x12 then some networkClearRule
  else match pick 0x5600 4 i with
  | some c => some (if b = 0x19 then canClearRule c else canChannelRule c b v)
  | none => match pick 0x5700 8 i with
    | some j => if b = 0x0E then some (serialClearRule j) else none
    | none => match pick 0x5780 16 i with
      | some t => if b = 1 then some (templateRule t x.octs) else none
      | none => match pick 0x5800 16 i with
        | some d =>
          if b = 2 then some (dmaEnableRule w d v)
          else if b = 3 then some (dmaPauseRule d v)
          else if b = 4 then some (dmaResetRule d) else none
        | none => match pick 0x5910 16 i with
          | some j =>
            if b = 1 then some (groupEnableRule j v) else if b = 2 then some (groupAddressRule j v) else none
          | none => match pick 0x5930 4 i with
            | some p => if 6 ≤ b && b ≤ 9 then some (sensorGroupRule p b v) else none
            | none => none

/-- Rules of 6000h–6FFFh. -/
def systemRule (p : P2) (w k : Nat) (x : Val) : Option (Rule P1) :=
  let v := x.int
  let i := k / 256
  let b := k % 256
  if i = 0x6030 then some (defaultLimitRule b v)
  else if i = 0x6031 then some (codeLimitRule b v)
  else if k = ob 0x6100 1 then some (cursorRule v)
  else if k = ob 0x6100 3 then some (advanceRule v)
  else if k = ob 0x6100 5 then some (freezeObjectRule w v)
  else if k = ob 0x6110 1 then some (clearRequestRule w)
  else if k = ob 0x6110 3 then some (confirmClearRule w v)
  else if k = ob 0x6200 3 then some (acknowledgeRule v)
  else if k = ob 0x6400 3 then
    some (checkRule (fun _ => if bitOf v 0 && v < 256 then 0 else abRange) fun s => s.wr k v)
  else if k = ob 0x6400 7 then some (effRule fun s => leadOutput (s.wr k v))
  else if k = ob 0x6400 0x0D then some (switchOverRule w v)
  else if k = ob 0x6400 0x15 then some redundancyClearRule
  else if k = ob 0x6500 1 then some saveRule
  else if k = ob 0x6500 0x0B then some eraseRule
  else if k = ob 0x6600 4 then some (responseRule p w x.octs)
  else if k = ob 0x6600 5 then some (giveUpRule w)
  else if k = ob 0x6600 6 then some (keyRule p w x.octs)
  else if k = ob 0x6881 1 then some (entryRule w v)
  else if k = ob 0x6882 1 then some (confirmRule p w)
  else if k = ob 0x6888 1 then some (restartRule p v)
  else if inBlock k then some (blockRule p k v)
  else match pick 0x6010 16 i with
  | some j => some (quantityRule j b v)
  | none => match pick 0x6610 4 i with
    | some c => if b = 1 then some (sdoEnableRule c v) else none
    | none => none

/-- The rule of a write of an object, the descriptor rings apart; an object without a rule of its own takes its value. -/
def ownRule (p : P2) (w k : Nat) (x : Val) (s : P1) : Rule P1 :=
  let r : Option (Rule P1) :=
    if k < ob 0x3000 0 then coreRule p w k x s
    else if k < ob 0x4000 0 then intakeRule k x
    else if k < ob 0x5000 0 then controlRule k x
    else if k < ob 0x5200 0 then timeRule k x
    else if k < ob 0x5600 0 then ioRule k x
    else if k < ob 0x6000 0 then lineRule w k x
    else systemRule p w k x
  r.getD (plainRule k x)

/-! ### What a read returns (R541) -/

/-- The run of a channel, as 5800h+d:07 shows its ring. -/
def dmaQueued (d : Fin 16) (s : P1) : Int := ((s.dma[d]).ring.length : Int)

/-- The channel whose server a session is; CAN0's over AOA (R557 1014h). -/
def emcyChannel (w : Nat) : Fin 4 := (sdoChannel w).getD 0

/-- Seconds of a lockout that remain, a part of one counting whole. -/
def lockoutLeft (s : P1) : Int :=
  match s.lockout.since with
  | some g => (((g + 60000000 - s.elapsed) + 999999) / 1000000 : Nat)
  | none => 0

/-- The status word of the unit selected in 2200h:07. -/
def selectedStatus (s : P1) : Int :=
  match unitOf (s.rdN (ob 0x2200 7)) with
  | some u => (statusWord u s : Nat)
  | none => 0

/-- What a numeric object of an index below 5000h shows where its cell is not kept up to date. -/
def showLow (w k : Nat) (s : P1) : Option Int :=
  if k = ob 0x2000 4 then some (s.grainIndex : Int)
  else if k = ob 0x2000 5 then some ((s.elapsed - s.startGrain : Nat) : Int)
  else if k = ob 0x2200 8 then some (selectedStatus s)
  else if k = ob 0x1014 0 then some (0x80 + s.rd (ob (0x6610 + emcyChannel w) 2))
  else if k = ob 0x1018 2 then some (if Config.buildAX then 0x9601 else 0x9600)
  else if k = ob 0x1018 3 then some ((Config.romRevision.toNat * 65536 + Config.boardRevision.toNat : Nat) : Int)
  else if k = ob 0x1018 4 then some (Config.serialNumber : Int)
  else if k = ob 0x1F00 2 then
    let g := s.rdN (ob 0x1F00 1)
    some (s.gen (ob (g % 65536) (g / 65536)))
  else match pick 0x3100 64 (k / 256) with
  | some i => if k % 256 = 0x14 then some ((refreshSlot i s).rd k) else none
  | none => none

/-- As `showLow`, for 5000h–5FFFh. -/
def showMid (w k : Nat) (s : P1) : Option Int :=
  let i := k / 256
  let b := k % 256
  if i = 0x5000 then some ((showTime s).rd k)
  else if k = ob 0x5001 1 then some (s.ns : Int)
  else if k = ob 0x5001 2 then some ((s.ns / 1000000000 : Nat) : Int)
  else if k = ob 0x5001 3 then
    some ((((session? w s).bind (·.nanos)).getD (s.ns % 1000000000) : Nat) : Int)
  else if k = ob 0x5300 1 then some (statusWord .filter s : Nat)
  else if k = ob 0x5300 2 then some (settledMask s)
  else if k = ob 0x5900 2 then some (Config.macDp.toNat : Int)
  else match pick 0x5200 8 i with
  | some a => if b = 0x1A then some (statusWord (.axis a) s : Nat) else none
  | none => match pick 0x5600 4 i with
    | some c => if b = 0x0E then some (statusWord (.can c) s : Nat) else if b = 0x0F then some ((s.can[c]).rxErr : Int) else none
    | none => match pick 0x5800 16 i with
      | some d => if b = 1 then some (statusWord (.dma d) s : Nat) else if b = 7 then some (dmaQueued d s) else none
      | none => match pick 0x5920 2 i with
        | some q => if b = 4 then some ((Config.macService q).toNat : Int) else none
        | none =>
          if i = 0x5508 && 1 ≤ b && b ≤ 16 then
            let a := aoAssigned (b - 1) s
            some ((s.setBits k [(0, a), (3, s.bit (ob 0x5400 1) 3 || (a && s.bit k 3))]).rd k)
          else if i = 0x5403 && 1 ≤ b && b ≤ 16 then
            some ((s.setBits k [(5, s.bit (ob 0x5400 1) 2), (6, (compareOutput (b - 1) s).isSome)]).rd k)
          else none

/-- As `showLow`, from 6000h. -/
def showHigh (w : Nat) (p : P2) (k : Nat) (s : P1) : Option Int :=
  if k = ob 0x6100 4 then some (windowStatus s)
  else if k = ob 0x6100 6 then some (freezeRemaining s : Int)
  else if k = ob 0x6120 1 then some (s.recorder.periodStart : Int)
  else if k = ob 0x6400 0x0A then some (setCheckOf s : Int)
  else if k = ob 0x6600 2 then some (w : Int)
  else if k = ob 0x6600 0x0A then some (lockoutLeft s)
  else if k / 256 = 0x6886 && p.link then some (((guardCells p).find? fun e => e.1 = k).elim (s.rd k) (·.2))
  else none

/-- What a read of a numeric object by session `w` returns (R541). -/
def showNum (w : Nat) (p : P2) (k : Nat) (s : P1) : Int :=
  (if k < ob 0x5000 0 then showLow w k s else if k < ob 0x6000 0 then showMid w k s else showHigh w p k s).getD (s.rd k)

/-- One entry of the session table (R560). -/
def sessionEntry (x : Session) (s : P1) : List Byte :=
  let frozen : Bool := (s.recorder.freeze.map (·.1)) = some x.no
  le 2 x.no ++ le 1 x.iface ++ le 1 ((if x.auth then 1 else 0) + (if frozen then 2 else 0)) ++ le 4 x.ip ++ le 2 x.port
    ++ zeros 2 ++ le 4 ((s.elapsed - x.lastGrain) / 1000) ++ padTo 16 x.identity

/-- Four hexadecimal digits. -/
def hex4 (n : Nat) : List Byte :=
  let digit (d : Nat) : Byte := BitVec.ofNat 8 (if d < 10 then 48 + d else 55 + d)
  [digit (n / 4096 % 16), digit (n / 256 % 16), digit (n / 16 % 16), digit (n % 16)]

/-- The live code counts, 6120h:02: the head of R497, then every entry. -/
def liveCounts (s : P1) : List Byte :=
  codeHead s.recorder.codes.length s.recorder.unplaced ++ s.recorder.codes.flatMap CodeCount.bytes

/-- A fresh challenge (R551): a free value (assumption 3). -/
def freshChallenge (s : P1) : List Byte := padTo 16 (Config.freeBytes s.free)

/-- What a read of an octet-string object returns. -/
def showOctets (k : Nat) (s : P1) : List Byte :=
  let i := k / 256
  let b := k % 256
  if k = ob 0x1008 0 then (if Config.buildAX then ascii "PL9600-AX" else ascii "PL9600-AC")
  else if k = ob 0x1009 0 then hex4 Config.boardRevision.toNat
  else if k = ob 0x100A 0 then hex4 Config.romRevision.toNat
  else if k = ob 0x6100 2 then windowBytes s
  else if k = ob 0x6120 2 then liveCounts s
  else if k = ob 0x6120 3 then (quantBlocks s).flatten
  else if k = ob 0x6600 1 then
    (List.range 21).flatMap fun n => match session? n s with
      | some x => sessionEntry x s
      | none => []
  else if k = ob 0x6600 3 then freshChallenge s
  else match pick 0x5024 2 i with
  | some n => if b = 4 then nextEvt n s else s.octets k
  | none => match pick 0x5200 8 i with
    | some a => if b = 0x21 then compareList a s else if b = 0x26 then nextCompare a s else s.octets k
    | none => match pick 0x5218 2 i with
      | some q => if b = 7 then nextProbe q s else s.octets k
      | none => match pick 0x5800 16 i with
        | some d => if b = 6 then (((s.dma[d]).done.head?).map Completion.bytes).getD [] else s.octets k
        | none => s.octets k

/-- Remove the oldest completion of a channel (R519). -/
def popCompletion (d : Fin 16) (s : P1) : P1 := setDma d (fun c => { c with done := c.done.drop 1 }) s

/-- A session's challenge is replaced (R551). -/
def takeChallenge (w : Nat) (s : P1) : P1 :=
  setSession w (fun x => { x with challenge := some (freshChallenge s, s.elapsed) }) s.draw

/-- What a read leaves behind: what it removes, latches or binds to its session. -/
def afterRead (w k : Nat) (s : P1) : P1 :=
  let i := k / 256
  let b := k % 256
  if k = ob 0x5001 2 then setSession w (fun x => { x with nanos := some (s.ns % 1000000000) }) s
  else if k = ob 0x5001 3 then setSession w (fun x => { x with nanos := none }) s
  else if k = ob 0x6600 3 then takeChallenge w s
  else match pick 0x5024 2 i with
  | some n => if b = 4 then popEvt n s else s
  | none => match pick 0x5200 8 i with
    | some a => if b = 0x26 then popCompare a s else s
    | none => match pick 0x5218 2 i with
      | some q => if b = 7 then popProbe q s else s
      | none => match pick 0x5800 16 i with
        | some d => if b = 6 then popCompletion d s else s
        | none => s

/-- The tests of R538 for a read. -/
def readVerdict (k : Nat) : Nat :=
  if !indexExists (k / 256) then abNoObject
  else match rowOf k with
  | none => abNoSub
  | some r => if r.acc = .wo then abWriteOnly else 0

/-- An object is a DOMAIN. -/
def isDomain (k : Nat) : Bool :=
  match rowOf k with
  | some r => r.ty = .domain
  | none => false

/-- The octets that a read by session `w` returns. -/
def readOctets (w : Nat) (p : P2) (k : Nat) (s : P1) : List Byte :=
  match rowOf k with
  | some r => if r.ty.octets then showOctets k s else r.ty.toBytes (.num (showNum w p k s))
  | none => []

/-- The value that written octets spell for an object; octets of another size spell no number (R535). -/
def spelled (k : Nat) (b : List Byte) : Val :=
  match rowOf k with
  | some r => (r.ty.ofBytes b).getD (.bytes b)
  | none => .bytes b

end Sys2Proof.Machine
end

