-- ==== Sys2Proof/Machine/Dma.lean ====
section
/-! DEFINITION. User DMA descriptors from their enqueueing to their completion (chapter "DMA engine and parameter store",
R512–R520), and the rule of every object. -/

namespace Sys2Proof.Machine

/-! ### Endpoints (R513) -/

/-- The maximum size of an octet-string object, where none is stated a value of the implementation. -/
def maximumOf (k : Nat) : Nat :=
  match rowOf k with
  | some r => r.rng.maximum.getD (Config.openMaximum k)
  | none => 0

/-- `n` octets of the recorder log at an offset. -/
def logOctets (off n : Nat) (s : P1) : List Byte :=
  let first := off / 4096
  let l := (s.recorder.log.drop first).take ((off + n + 4095) / 4096 - first)
  takeAt (l.zipIdx.flatMap fun e => e.1.bytes (first + e.2) (s.rdN (ob 0x6000 4))) (off - first * 4096) n

/-- `n` octets of a descriptor's source at an offset; a source object is read by the owning session. -/
def sourceOctets (w : Nat) (p : P2) (d : Fin 16) (x : Desc) (s : P1) (off n : Nat) : List Byte :=
  match x.srcKind with
  | 0 => takeAt (s.octets (stagingKey d)) off n
  | 1 => takeAt (readOctets w p x.srcKey s) off n
  | 2 => logOctets off n s
  | _ => takeAt (s.octets (ob 0x2300 0x0C)) off n

/-- The first octets that a descriptor reads of a source object are a read of it. -/
def readSource (w : Nat) (r : DmaRun) (s : P1) : P1 :=
  if r.desc.srcKind = 1 && r.moved = 0 then afterRead w r.desc.srcKey s else s

/-- The test of a descriptor's source. -/
def sourceRefusal (x : Desc) (s : P1) : Nat :=
  let stop := x.srcOff + x.len
  match x.srcKind with
  | 0 => if stop ≤ 1048576 then 0 else abRange
  | 1 =>
    if readVerdict x.srcKey ≠ 0 then readVerdict x.srcKey
    else if !isDomain x.srcKey then abLength
    else if stop ≤ maximumOf x.srcKey then 0 else abRange
  | 2 => if stop ≤ s.rdN (ob 0x6000 2) * 4096 then 0 else abRange
  | 3 => if stop ≤ (s.octets (ob 0x2300 0x0C)).length then 0 else abRange
  | _ => abRange

/-- The test of a descriptor's destination: the abort that the object itself would give the owning session. -/
def destRefusal (w : Nat) (p : P2) (x : Desc) (s : P1) : Nat :=
  let stop := x.dstOff + x.len
  let k := x.dstKey
  match x.dstKind with
  | 0 => if stop ≤ 1048576 then 0 else abRange
  | 1 =>
    if !indexExists (k / 256) then abNoObject
    else match rowOf k with
    | none => abNoSub
    | some r =>
      if r.acc = .ro then abReadOnly
      else if r.ty ≠ .domain then abLength
      else if r.acc = .rwc && s.mode ≠ 1 then abMode
      else if s.setSize ≠ 1 && s.role = 1 && forwarded k r.acc then abMode
      else if (ownRule p w k (.bytes []) s).mode s ≠ 0 then (ownRule p w k (.bytes []) s).mode s
      else if (r.acc = .rwc || r.acc = .rwa) && !authorised w s then abAuth
      else if stop ≤ maximumOf k then 0 else abRange
  | _ => abRange

/-- The rule of 5800h+d:05 (R512, R513). The owning session alone enqueues; a stopped channel takes nothing. -/
def dmaEnqueueRule (p : P2) (w : Nat) (d : Fin 16) (b : List Byte) : Rule P1 where
  mode := fun _ => 0
  check := fun s =>
    let x := readDesc b
    if s.rdN (ob (0x5800 + d) 0x0B) ≠ w || w = 0 then abAuth
    else if b.length ≠ 32 || !descReserved b || x.len = 0 || 1048576 < x.len then abRange
    else if sourceRefusal x s ≠ 0 then sourceRefusal x s
    else destRefusal w p x s
  busy := fun s =>
    if s.stopped (dmaAddr d) then abHardware else if 16 ≤ (s.dma[d]).ring.length then abBusy else 0
  eff := setDma d fun c => { c with ring := c.ring ++ [readDesc b] }

/-- The rule of a write of an object. -/
def ruleOf (p : P2) (w k : Nat) (x : Val) (s : P1) : Rule P1 :=
  match pick 0x5800 16 (k / 256) with
  | some d => if k % 256 = 5 then dmaEnqueueRule p w d x.octs else ownRule p w k x s
  | none => ownRule p w k x s

/-- A write of an object by its number (R538): it is what the object's own command makes of it. An output object waits for
its frame; the other effects reach P2 and P3 over their links. -/
def writeObject (ans : Nat → P1 → P1) (w k : Nat) (x : Val) (s : State) : State :=
  match heldDie k with
  | some d => { s with p1 := requestHeld w k d x (ruleOf s.p2 w k x s.p1) s.p1 }
  | none => flushLinks { s with p1 := requestWith ans w k x (ruleOf s.p2 w k x s.p1) s.p1 }

/-! ### Pause and resume (R516) -/

/-- Move a running descriptor on to a total of `n` octets. -/
def moveOn (p : P2) (d : Fin 16) (r : DmaRun) (n : Nat) (s : P1) : P1 :=
  let w := s.rdN (ob (0x5800 + d) 0x0B)
  dmaStep d r (n - r.moved) (sourceOctets w p d r.desc s) (readSource w r s)

/-- A write of 5800h+d:03 of which `n` is the total of octets read when it is processed. -/
def dmaPause (p : P2) (d : Fin 16) (v : Int) (n : Nat) (s : P1) : P1 :=
  match (s.dma[d]).run with
  | some r => if v = 1 && !(s.dma[d]).paused && r.moved < n then dmaPauseFlag d v (moveOn p d r n s) else dmaPauseFlag d v s
  | none => dmaPauseFlag d v s

/-! ### Completion (R517–R520) -/

/-- The cause that an abort of a commit gives (R519). -/
def commitCause (ab : Nat) : Nat := if ab = abRange || ab = abLength then 4 else if ab = abBusy then 9 else 3

/-- The receive buffer of a channel for an object. -/
def channelBuffer (d k : Nat) (s : P1) : List Byte :=
  ((s.bufs.find? fun b => b.holder = .channel d && b.key = k).map (·.data)).getD []

/-- READBACK of a completed descriptor: which of its writes target a peripheral or MRAM is not stated (assumption 21). -/
def readbackMade (s : P1) : Bool := Config.freeNat s.free % 2 = 1

/-- A commit (R518): one write of the object by the owning session; the channel releases the buffer. -/
def dmaCommit (d : Fin 16) (r : DmaRun) (s : State) : State :=
  let w := s.p1.rdN (ob (0x5800 + d) 0x0B)
  let k := r.desc.dstKey
  let x := Val.bytes (channelBuffer d k s.p1)
  let free := setDma d (fun c => { c with run := none })
    { s.p1 with bufs := s.p1.bufs.filter fun b => !(b.holder = .channel d && b.key = k) }
  let ab := verdict w k x (ruleOf s.p2 w k x free) free
  let t := writeObject (fun _ u => u) w k x { s with p1 := free }
  { t with p1 := if ab = 0 then dmaFinish d r true (readbackMade t.p1) true 0 t.p1.draw
      else dmaFinish d r false false false (commitCause ab) t.p1 }

/-- A descriptor's last write has completed. One that is paused with octets left does not complete. -/
def dmaComplete (d : Fin 16) (readback : Bool) (s : State) : State :=
  let c := s.p1.dma[d]
  match c.run with
  | none => s
  | some r =>
    if s.p1.stopped (dmaAddr d) || ((c.paused || c.pausing) && r.moved < r.desc.len) then s
    else match r.lost with
    | some cause => { s with p1 := dmaFinish d r false false false cause s.p1 }
    | none =>
      let t := if r.moved < r.desc.len then moveOn s.p2 d r r.desc.len s.p1 else s.p1
      let q : DmaRun := { r with moved := r.desc.len }
      if !readback then { s with p1 := dmaFinish d q false true false 6 t }
      else if r.desc.commit && r.desc.dstKind = 1 then dmaCommit d q { s with p1 := t }
      else { s with p1 := dmaFinish d q true (readbackMade t) false 0 t.draw }

/-! ### Meanings -/

/-- DMA_ENQUEUE (R512). -/
def execDmaEnqueue (w : Nat) (d : Fin 16) (b : List Byte) (s : State) : Out :=
  onReq w (ob (0x5800 + d) 5) (.bytes b) (dmaEnqueueRule s.p2 w d b) s

/-- DMA_DESCRIPTOR_COMPLETE (R517). -/
def execDmaDescriptorComplete (d : Fin 16) (readback : Bool) (s : State) : Out :=
  if s.p1.up then .next (dmaComplete d readback s) else .next s

/-- DMA_PAUSE (R516): a write of `v` to 5800h+d:03. -/
def execDmaPause (w : Nat) (d : Fin 16) (v : Int) (bytesRead : Nat) (s : State) : Out :=
  onReq w (ob (0x5800 + d) 3) (.num v) (effRule (dmaPause s.p2 d v bytesRead)) s

/-- DMA_RESUME (R516): a write of `v` to 5800h+d:03. -/
def execDmaResume (w : Nat) (d : Fin 16) (v : Int) (s : State) : Out :=
  onReq w (ob (0x5800 + d) 3) (.num v) (dmaPauseRule d v) s

/-- DMA_COMPLETION_READ (R519). -/
def execDmaCompletionRead (w : Nat) (d : Fin 16) (s : State) : Out :=
  onSup (fun t =>
    let k := ob (0x5800 + d) 6
    if readVerdict k ≠ 0 then answer w k (readVerdict k) t
    else answerData w k (readOctets w s.p2 k t) (afterRead w k t)) s

end Sys2Proof.Machine
end

