-- ==== Sys2Proof/Machine/Sessions.lean ====
section
/-! DEFINITION. Requests of clients (chapter "Object dictionary and sessions", R540–R552, R558; chapter 13, R432–R435, R588):
sessions, AOA operations, DOMAIN segments, CANopen SDO, and the writes that name any object. -/

namespace Sys2Proof.Machine

/-- The key of an index and a subindex; a pair out of their ranges names no object. -/
def keyOf (index sub : Nat) : Nat := if index < 65536 ∧ sub < 256 then ob index sub else 0

/-! ### AOA requests (R433–R435, R588) -/

/-- The code of an interface (R560). -/
def ifaceNo : Iface → Nat
  | .dp => 0
  | .svc0 => 1
  | .svc1 => 2

/-- A response to a request outside an open session. -/
def replyTo (i : Iface) (a : Answer) (s : P1) : P1 := sendResponse (ifaceNo i) a { s with reply := some a }

/-- A request answered "command not valid" and processed no further (R547, R588). -/
def refuseCommand (h : AoaHead) (op index sub : Nat) (s : P1) : P1 :=
  replyTo h.iface ⟨h.session, h.seq, op, index, sub, abCommand, 0, 0, 0, 0, [], false⟩ s

/-- A request of the session has not been answered: its output write waits for its frame (R364). -/
def inProgress (w : Nat) (s : P1) : Bool := s.acks.any fun a => a.sess = w

/-- The session takes a request (R434, R546, R560). -/
def takeRequest (h : AoaHead) (s : P1) : P1 :=
  setSession h.session (fun x => { x with seq := h.seq % 65536, ip := h.ip, port := h.port, iface := ifaceNo h.iface, lastGrain := s.elapsed }) s

/-- The last response is sent again (R434), to where the repeat came from. -/
def repeatLast (h : AoaHead) (a : Answer) (s : P1) : P1 := (replyTo h.iface { a with repeated := true } (takeRequest h s)).inc (ob 0x5900 0x10)

/-- A datagram discarded under R433, R434 or R588 is counted. -/
def countDiscard (s : P1) : P1 := s.inc (ob 0x5900 0x0F)

/-- A request that arrives while P1 resets is lost. A write or mode command in the grain of the reset is owed its abort where its
session survives, else it is recorded (R545, R590); a session that the reset has closed cannot be told from one that was never
open (assumption 97). -/
def aoaInReset (h : AoaHead) (op k : Nat) (x : Val) (s : P1) : P1 :=
  if !(op = 2 || op = 4) || h.session = 0 || 16 < h.session then s
  else match session? h.session s with
  | some y => if h.seq % 65536 = (y.seq + 1) % 65536 then discardWrite h.session k x (takeRequest h s) else s
  | none => discardWrite h.session k x s

/-- A request that its interface receives enters its receive queue: on a service port Q(33 + 2s) (R431); on the DP pair its frame has
been classified to Q11 (R427). None where the queue is full. -/
def admitAoa (i : Iface) (s : P1) : Option P1 :=
  match i with
  | .dp => some s
  | .svc0 => if serviceRoom 0 s then some (serviceTake 0 s) else none
  | .svc1 => if serviceRoom 1 s then some (serviceTake 1 s) else none

/-- A request that SUP takes from its receive queue: accepted, repeated, or discarded (R434). -/
def aoaServed (h : AoaHead) (op index sub : Nat) (f : State → State) (s : State) : State :=
  if h.session = 0 then { s with p1 := refuseCommand h op index sub s.p1 }
  else match (if h.session ≤ 16 then session? h.session s.p1 else none) with
  | none => { s with p1 := countDiscard (refuseCommand h op index sub s.p1) }
  | some x =>
    if h.seq % 65536 = (x.seq + 1) % 65536 && !inProgress x.no s.p1 then f { s with p1 := takeRequest h s.p1 }
    else if h.seq % 65536 = x.seq then
      if inProgress x.no s.p1 then s
      else match x.last with
      | some a => { s with p1 := repeatLast h a s.p1 }
      | none => { s with p1 := countDiscard s.p1 }
    else { s with p1 := countDiscard s.p1 }

/-- A request of a session, with the value that it writes. A full receive queue refuses it and counts (R50, R427). -/
def aoaFrom (h : AoaHead) (op index sub : Nat) (x : Val) (f : State → State) (s : State) : State :=
  if !s.p1.serves then { s with p1 := aoaInReset h op (keyOf index sub) x s.p1 }
  else if !ifaceUp h.iface s.p1 then s
  else match admitAoa h.iface s.p1 with
  | some p => aoaServed h op index sub f { s with p1 := p }
  | none => { s with p1 := s.p1.inc (ob 0x5900 0x11) }

/-- The sequence of the request that a session has in progress. -/
def seqOf (w : Nat) (s : P1) : Nat := ((session? w s).map (·.seq)).getD 0

/-- An answer of a session with an abort alone. -/
def answerOp (w op k abort : Nat) (s : P1) : P1 :=
  answerWith ⟨w, seqOf w s, op, k / 256, k % 256, abort, 0, 0, 0, 0, [], false⟩ s

/-- An answer of a session with data. -/
def answerOctets (w op k offset total generation : Nat) (b : List Byte) (s : P1) : P1 :=
  answerWith ⟨w, seqOf w s, op, k / 256, k % 256, 0, offset, b.length, total, generation, b, false⟩ s

/-! ### Operations 1, 3 and 5 (R547) -/

/-- A read of an object that is no DOMAIN. -/
def readWhole (w k : Nat) (p : P2) (s : P1) : P1 :=
  if readVerdict k ≠ 0 then answerOp w 1 k (readVerdict k) s
  else if isDomain k then answerOp w 1 k abLength s
  else answerOctets w 1 k 0 0 0 (readOctets w p k s) (afterRead w k s)

/-- A read of a segment of a DOMAIN: at or beyond its content it returns nothing. -/
def readSegment (w k offset length : Nat) (p : P2) (s : P1) : P1 :=
  if readVerdict k ≠ 0 then answerOp w 3 k (readVerdict k) s
  else if !isDomain k then answerOp w 3 k abLength s
  else if length = 0 || 1428 < length then answerOp w 3 k abRange s
  else
    let b := readOctets w p k s
    answerOctets w 3 k offset b.length (s.gen k) ((b.drop offset).take length) (afterRead w k s)

/-- The information of an object: type, access, flags, maximum size. -/
def information (k : Nat) : List Byte :=
  match rowOf k with
  | some r => le 1 r.ty.code ++ le 1 r.acc.code ++ le 1 ((if stored k then 1 else 0) + (if r.ty = .q32 then 2 else 0)) ++ zeros 1
      ++ le 4 (if r.ty.octets then maximumOf k else r.ty.size)
  | none => []

/-- An information request: the first two tests of R538 apply. -/
def inform (w k : Nat) (s : P1) : P1 :=
  if !indexExists (k / 256) then answerOp w 5 k abNoObject s
  else if (rowOf k).isNone then answerOp w 5 k abNoSub s
  else answerOctets w 5 k 0 0 0 (information k) s

/-! ### Writes (R538, R547, R548) -/

/-- A value that fails the size test of an object: what a request of the wrong operation writes. -/
def mismatched (k : Nat) : Val :=
  match rowOf k with
  | some r => if r.ty.octets then .num 0 else .bytes []
  | none => .num 0

/-- A write of an object that is no DOMAIN. -/
def writeWhole (w k : Nat) (b : List Byte) (s : State) : State :=
  writeObject (answerOp w 2 k) w k (if isDomain k then mismatched k else spelled k b) s

/-- The content of the receive buffer of a session for an object. -/
def bufferOf (w k : Nat) (s : P1) : Option (List Byte) := (s.bufs.find? fun b => b.holder = .session w && b.key = k).map (·.data)

/-- The receive buffer is discarded. -/
def dropBuffer (w k : Nat) (s : P1) : P1 := { s with bufs := s.bufs.filter fun b => !(b.holder = .session w && b.key = k) }

/-- A segment starts where the one before ended, the first at 0 (R548). -/
def inOrder (w k offset : Nat) (s : P1) : Bool :=
  match bufferOf w k s with
  | some d => offset = d.length || offset = 0 && d = []
  | none => offset = 0

/-- The rule of a segment: the object's own content tests judge the last one alone. -/
def segmentRule (w k offset : Nat) (last : Bool) (r : Rule P1) : Rule P1 :=
  { r with check := fun s => if !inOrder w k offset s then abRange else if last then r.check s else 0 }

/-- A segment of a DOMAIN write (R548). `ans` answers with an abort, or with 0. -/
def writeSegmentWith (ans : Nat → P1 → P1) (w k offset : Nat) (b : List Byte) (last : Bool) (s : State) : State :=
  if !isDomain k then writeObject ans w k (mismatched k) s
  else
    let whole := Val.bytes ((bufferOf w k s.p1).getD [] ++ b)
    let r := segmentRule w k offset last (ruleOf s.p2 w k whole s.p1)
    let ab := verdict w k whole r s.p1
    if ab ≠ 0 then
      { s with p1 := ans ab (r.refused ab (if ab = abRange || ab = abLength then dropBuffer w k s.p1 else s.p1)) }
    else if last then
      flushLinks { s with p1 := requestWith ans w k whole { r with check := fun _ => 0 } (dropBuffer w k s.p1) }
    else { s with p1 := ans 0 { s.p1 with bufs := putBuffer (.session w) k offset b s.p1.elapsed s.p1.bufs } }

/-- The answer to operation 4: the octets accepted, the generation in force. -/
def answerSegment (w k offset n ab : Nat) (s : P1) : P1 :=
  answerWith ⟨w, seqOf w s, 4, k / 256, k % 256, ab, offset, if ab = 0 then n else 0, 0, if ab = 0 then s.gen k else 0, [], false⟩ s

/-! ### Opening and closing (R545) -/

/-- The lowest free AOA session number. -/
def freeSession (s : P1) : Option Nat := ((List.range 16).map (· + 1)).find? fun n => (session? n s).isNone

/-- A session opens: event 1. -/
def newSession (n : Nat) (h : AoaHead) (identity : List Byte) (s : P1) : P1 :=
  sessEvent 1 n 0 { s with sessions := s.sessions ++
    [⟨n, padTo 16 identity, false, ifaceNo h.iface, h.ip, h.port, h.seq % 65536, h.seq % 65536, h.ip, h.port, s.elapsed, s.elapsed, none, none,
      none, none⟩] }

/-- The session that an earlier open of the same sequence from the same address opened within 10 s. -/
def openedBefore (h : AoaHead) (s : P1) : Option Session :=
  s.sessions.find? fun x => x.no ≤ 16 && x.openSeq = h.seq % 65536 && x.openIp = h.ip && x.openPort = h.port
    && s.elapsed - x.openGrain ≤ 10000000

/-- The answer to an open. -/
def answerOpen (h : AoaHead) (abort : Nat) (b : List Byte) (s : P1) : P1 :=
  replyTo h.iface ⟨0, h.seq, 0x10, 0, 0, abort, 0, b.length, 0, 0, b, false⟩ s

/-- An open that SUP takes from its receive queue (R545). -/
def openServed (h : AoaHead) (identity : List Byte) (s : P1) : P1 :=
  if h.session ≠ 0 then
    let t := refuseCommand h 0x10 0 0 s
    if h.session ≤ 16 && (session? h.session s).isSome then t else countDiscard t
  else match openedBefore h s with
  | some x => answerOpen h 0 (le 2 x.no) s
  | none => match freeSession s with
    | some n => answerOpen h 0 (le 2 n) (newSession n h identity s)
    | none => answerOpen h abBusy [] s

/-- An open (R545). -/
def aoaOpen (h : AoaHead) (identity : List Byte) (s : P1) : P1 :=
  if !s.serves || !ifaceUp h.iface s then s
  else match admitAoa h.iface s with
  | some p => openServed h identity p
  | none => s.inc (ob 0x5900 0x11)

/-- An AOA session that has been idle for its time closes. -/
def idleClose (n : Nat) (s : P1) : P1 :=
  match session? n s with
  | some x => if s.rdN (ob 0x6600 8) * 1000000 ≤ s.elapsed - x.lastGrain then closeSession n s else s
  | none => s

/-- A receive buffer that has been idle for 10 s is discarded (R548). -/
def bufferTimeout (w k : Nat) (s : P1) : P1 :=
  if s.bufs.any fun b => b.holder = .session w && b.key = k && 10000000 ≤ s.elapsed - b.lastGrain then dropBuffer w k s else s

/-! ### CANopen SDO (R549, R550) -/

/-- The SDO server of a channel works: enabled, in a mode, not listen-only, its unit not in fault. -/
def sdoWorks (c : Fin 4) (s : P1) : Bool :=
  s.rd (ob (0x6610 + c) 1) = 1 && (session? (17 + c) s).isSome && canOn c s && !listenOnly c s

/-- The transfer of a channel changed; the session's last request is now. -/
def setSdo (c : Fin 4) (x : Option SdoXfer) (s : P1) : P1 :=
  setSession (17 + c) (fun y => { y with lastGrain := s.elapsed }) { s with sdo := s.sdo.set c x }

/-- The octets transferred so far by a transfer that a request goes on with; none where it starts anew. -/
def sdoSoFar (c : Fin 4) (k : Nat) (upload block : Bool) (s : P1) : Option (List Byte) :=
  match s.sdo[c] with
  | some x => if x.key = k && x.upload = upload && x.block = block then some x.data else none
  | none => none

/-- A transfer ends or is replaced: what it has received is discarded. -/
def endSdo (c : Fin 4) (s : P1) : P1 :=
  match s.sdo[c] with
  | some x => dropBuffer (17 + c) x.key (setSdo c none s)
  | none => s

/-- Octets of a download. `op` answers a part, `opEnd` the end; a failed block CRC ends the transfer. -/
def sdoDown (c : Fin 4) (k : Nat) (block : Bool) (b : List Byte) (last crcOk : Bool) (op opEnd : Nat) (s : State) : State :=
  let w := 17 + c.val
  if !sdoWorks c s.p1 then s
  else
    let had := sdoSoFar c k false block s.p1
    let p := if had.isSome then s.p1 else endSdo c s.p1
    let before := had.getD []
    let all := before ++ b
    let t := setSdo c (if last then none else some ⟨k, false, block, all⟩) p
    if last && !crcOk then { s with p1 := answerOp w opEnd k abCrc (dropBuffer w k t) }
    else if isDomain k then
      let ans (ab : Nat) (u : P1) : P1 :=
        answerWith ⟨w, 0, if last then opEnd else op, k / 256, k % 256, ab, before.length, 0, 0, 0, [], false⟩
          (if ab = 0 then u else setSdo c none u)
      writeSegmentWith ans w k before.length b last { s with p1 := t }
    else if last then writeObject (answerOp w opEnd k) w k (spelled k all) { s with p1 := t }
    else { s with p1 := answerWith ⟨w, 0, op, k / 256, k % 256, 0, before.length, 0, 0, 0, [], false⟩ t }

/-- A download whose last octets come while P1 resets: one in the grain of the reset is discarded by it (R590). -/
def sdoInReset (c : Fin 4) (k : Nat) (b : List Byte) (last : Bool) (s : State) : State :=
  if last && s.p1.rd (ob (0x6610 + c) 1) = 1 then { s with p1 := discardWrite (17 + c) k (spelled k b) s.p1 } else s

/-- A request of an upload: the first starts it, each later one takes a segment; a segment reflects its own grain (R543). -/
def sdoUp (c : Fin 4) (k : Nat) (block last : Bool) (op opSeg : Nat) (p : P2) (s : P1) : P1 :=
  let w := 17 + c.val
  if !sdoWorks c s then s
  else if readVerdict k ≠ 0 then answerOp w op k (readVerdict k) (setSdo c none (endSdo c s))
  else
    let b := readOctets w p k s
    match sdoSoFar c k true block s with
    | none =>
      let t := setSdo c (if last then none else some ⟨k, true, block, []⟩) (endSdo c (afterRead w k s))
      if block then answerOctets w op k 0 b.length 0 [] t else answerOctets w op k 0 b.length 0 b t
    | some had =>
      let seg := (b.drop had.length).take 7
      answerOctets w opSeg k had.length b.length 0 seg
        (setSdo c (if last then none else some ⟨k, true, block, had ++ seg⟩) s)

/-- A transfer without a frame from its client for 1 s is aborted. -/
def sdoTimeout (c : Fin 4) (s : P1) : P1 :=
  match s.sdo[c], session? (17 + c) s with
  | some x, some y =>
    if 1000000 ≤ s.elapsed - y.lastGrain then answerOp (17 + c) 2 x.key abTimeout (endSdo c s) else s
  | _, _ => s

/-! ### Heartbeat (R558) -/

/-- The node state: 7Fh in Commissioning, 05h in every other mode. -/
def nodeState (s : P1) : Nat := if s.mode = 1 then 0x7F else 5

/-- The producer heartbeat time has passed since the last heartbeat. -/
def heartbeatDue (s : P1) : Bool :=
  s.rd (ob 0x1017 0) ≠ 0 && match s.heartbeatAt with
    | some g => s.rdN (ob 0x1017 0) * 1000 ≤ s.elapsed - g
    | none => true

/-- A heartbeat on every channel whose server is enabled. -/
def heartbeat (s : P1) : P1 :=
  if !heartbeatDue s then s
  else eachCan (fun c t =>
    if t.rd (ob (0x6610 + c) 1) = 1 then
      canQueue c 1 (txFrame .canopen (0x700 + t.rdN (ob (0x6610 + c) 2)) (le 1 (nodeState t))) t
    else t) { s with heartbeatAt := some s.elapsed }

/-! ### Meanings -/

/-- AOA_READ (R547). -/
def execAoaRead (h : AoaHead) (index sub : Nat) (s : State) : Out :=
  .next (aoaFrom h 1 index sub (.num 0) (fun t => { t with p1 := readWhole h.session (keyOf index sub) t.p2 t.p1 }) s)

/-- AOA_WRITE (R547). -/
def execAoaWrite (h : AoaHead) (index sub : Nat) (data : List Byte) (s : State) : Out :=
  .next (aoaFrom h 2 index sub (spelled (keyOf index sub) data) (writeWhole h.session (keyOf index sub) data) s)

/-- AOA_READ_SEGMENT (R547). -/
def execAoaReadSegment (h : AoaHead) (index sub offset length : Nat) (s : State) : Out :=
  .next (aoaFrom h 3 index sub (.num 0) (fun t => { t with p1 := readSegment h.session (keyOf index sub) offset length t.p2 t.p1 }) s)

/-- AOA_WRITE_SEGMENT (R548). -/
def execAoaWriteSegment (h : AoaHead) (index sub offset : Nat) (data : List Byte) (last : Bool) (s : State) : Out :=
  let k := keyOf index sub
  .next (aoaFrom h 4 index sub (.bytes data) (writeSegmentWith (answerSegment h.session k offset data.length) h.session k offset data last) s)

/-- AOA_INFORMATION (R547). -/
def execAoaInformation (h : AoaHead) (index sub : Nat) (s : State) : Out :=
  .next (aoaFrom h 5 index sub (.num 0) (fun t => { t with p1 := inform h.session (keyOf index sub) t.p1 }) s)

/-- AOA_OPEN (R545). -/
def execAoaOpen (h : AoaHead) (identity : List Byte) (s : State) : Out := .next { s with p1 := aoaOpen h identity s.p1 }

/-- AOA_CLOSE (R545). -/
def execAoaClose (h : AoaHead) (s : State) : Out :=
  .next (aoaFrom h 0x11 0 0 (.num 0) (fun t => { t with p1 := closeSession h.session (answerOp h.session 0x11 0 0 t.p1) }) s)

/-- SESSION_IDLE (R545): session n + 1. -/
def execSessionIdle (n : Fin 16) (s : State) : Out := onSup (idleClose (n + 1)) s

/-- RECEIVE_BUFFER_TIMEOUT (R548). -/
def execReceiveBufferTimeout (w index sub : Nat) (s : State) : Out := onSup (bufferTimeout w (keyOf index sub)) s

/-- PARAMETER_WRITE (R523). -/
def execParameterWrite (w index sub : Nat) (data : List Byte) (s : State) : Out :=
  let k := keyOf index sub
  if s.p1.serves then .next (writeObject (answer w k) w k (spelled k data) s)
  else .next { s with p1 := discardWrite w k (spelled k data) s.p1 }

/-- SDO_DOWNLOAD (R549). -/
def execSdoDownload (c : Fin 4) (index sub : Nat) (data : List Byte) (last : Bool) (s : State) : Out :=
  .next (if s.p1.serves then sdoDown c (keyOf index sub) false data last true 6 2 s else sdoInReset c (keyOf index sub) data last s)

/-- SDO_UPLOAD (R549). -/
def execSdoUpload (c : Fin 4) (index sub : Nat) (last : Bool) (s : State) : Out :=
  onSup (sdoUp c (keyOf index sub) false last 1 10 s.p2) s

/-- SDO_BLOCK_DOWNLOAD (R549). -/
def execSdoBlockDownload (c : Fin 4) (index sub : Nat) (data : List Byte) (last crcOk : Bool) (s : State) : Out :=
  .next (if s.p1.serves then sdoDown c (keyOf index sub) true data last crcOk 7 9 s else sdoInReset c (keyOf index sub) data last s)

/-- SDO_BLOCK_UPLOAD (R549). -/
def execSdoBlockUpload (c : Fin 4) (index sub : Nat) (last : Bool) (s : State) : Out :=
  onSup (sdoUp c (keyOf index sub) true last 8 11 s.p2) s

/-- SDO_ABORT (R549): the client ends the transfer. -/
def execSdoAbort (c : Fin 4) (s : State) : Out := onSup (fun p => if sdoWorks c p then endSdo c p else p) s

/-- SDO_TIMEOUT (R549). -/
def execSdoTimeout (c : Fin 4) (s : State) : Out := onSup (sdoTimeout c) s

/-- SDO_SERVER_ENABLE (R544). -/
def execSdoServerEnable (w : Nat) (c : Fin 4) (v : Int) (s : State) : Out :=
  onReq w (ob (0x6610 + c) 1) (.num v) (sdoEnableRule c v) s

/-- CHALLENGE_READ (R551). -/
def execChallengeRead (w : Nat) (s : State) : Out :=
  onSup (fun p => answerData w (ob 0x6600 3) (freshChallenge p) (takeChallenge w p)) s

/-- AUTHORISATION_RESPONSE (R551). -/
def execAuthorisationResponse (w : Nat) (b : List Byte) (s : State) : Out :=
  onReq w (ob 0x6600 4) (.bytes b) (responseRule s.p2 w b) s

/-- LOCKOUT_END (R551). -/
def execLockoutEnd (s : State) : Out := onSup lockoutEnds s

/-- GIVE_UP_AUTHORISATION (R551). -/
def execGiveUpAuthorisation (w : Nat) (v : Int) (s : State) : Out := onReq w (ob 0x6600 5) (.num v) (giveUpRule w) s

/-- AUTHORISATION_KEY_WRITE (R552). -/
def execAuthorisationKeyWrite (w : Nat) (b : List Byte) (s : State) : Out :=
  onLinkReq w (ob 0x6600 6) (.bytes b) (keyRule s.p2 w b) s

/-- ALARM_ACKNOWLEDGE (R554). -/
def execAlarmAcknowledge (w : Nat) (v : Int) (s : State) : Out := onReq w (ob 0x6200 3) (.num v) (acknowledgeRule v) s

/-- CANOPEN_HEARTBEAT (R558). -/
def execCanopenHeartbeat (s : State) : Out := onSup heartbeat s

end Sys2Proof.Machine
end

