-- ==== Sys2Proof/Machine/Redundancy.lean ====
section
/-! DEFINITION. Events of a redundant set (chapter "Redundant sets and switch-over", R464–R475) and the frames that a CAN
channel receives (R443–R446, R461). -/

namespace Sys2Proof.Machine

/-! ### Messages of partners (R464, R467, R474, R478) -/

/-- The message is a partner's, received on the DP pair. -/
def fromPartner (m : SetMessage) (s : P1) : Bool :=
  dpIp s && inSet s && 1 ≤ m.source && m.source ≤ 3 && m.source ≠ s.rdN kModuleId

/-- A forwarded write takes effect on a Shadow without a session (R468). -/
def applyWrite (f : ForwardedWrite) (s : State) : State :=
  let k := keyOf f.index f.sub
  match f.part with
  | some (total, _) => { s with p1 := takePart f total s.p1 }
  | none => flushLinks { s with p1 := (ruleOf s.p2 0 k (spelled k f.value) s.p1).eff s.p1 }

/-- The writes that waited in Dormant take effect once their units are powered again (R47). -/
def wakeWrites (s : State) : State :=
  if s.p1.asleep = [] || s.p1.mode = 0 || !s.p1.serves then s
  else s.p1.asleep.foldl (fun t e => flushLinks { t with p1 := (ruleOf t.p2 0 e.1 e.2 t.p1).eff t.p1 })
    { s with p1 := { s.p1 with asleep := [] } }

/-- A Shadow acts on the Lead's mirror (R467): mode, targets and generators follow, the writes take effect, the replay
waits for the next cycle. -/
def takeMirror (m : Mirror) (s : State) : State :=
  let t := setRed (fun r => { r with mirror := some m }) s.p1
  if t.role = 1 then
    m.writes.foldl (fun u f => applyWrite f u) { s with p1 := setRed (fun r => { r with replay := some m }) (followMirror m t) }
  else { s with p1 := t }

/-- A cycle message of a partner. -/
def takeCycle (m : SetMessage) (s : State) : State :=
  if !fromPartner m s.p1 then s
  else
    let t := { s with p1 := takeMessage m s.p1 }
    match m.role, m.mirror with
    | .lead, some x => takeMirror x t
    | _, _ => t

/-- A relinquish message of a partner: its mirror is followed, and the nominee prepares to take the lead. -/
def takeHandOver (m : SetMessage) (s : State) : State :=
  if !fromPartner m s.p1 then s
  else
    let t : State := match m.mirror with
      | some x => if s.p1.role = 1 then takeMirror x s else s
      | none => s
    { t with p1 := takeRelinquish m t.p1 }

/-- Rejoin hold has lasted its time (R474). -/
def rejoinEnd (s : P1) : P1 :=
  match s.red.rejoinSince with
  | some g =>
    if s.rdN (ob 0x6400 8) * 1000000 ≤ s.elapsed - g then
      showSet (setRed (fun r => { r with rejoinSince := none }) (s.setBit kRed 2 false))
    else s
  | none => s

/-- A republication of slot `i` (R471): its home is another module. -/
def takeRepublication (i : Fin 64) (x : RepubItem) (arrival : Nat) (s : P1) : P1 :=
  let home := s.rd (ob 0x6410 (i.val + 1))
  if !dpIp s || !inSet s then s
  else
    let t := s.incWrap (ob 0x6400 0x13)
    if home ≠ 0 && home ≠ s.rd kModuleId && slotTakes i true t then slotItem i x arrival t else t

/-! ### Frames received on CAN (R445) -/

/-- The module whose LEAD frame a CAN frame is (R274, R461): none where it is no LEAD frame of this set. -/
def leadFrame (f : CanFrame) (s : P1) : Option Nat :=
  let b := f.data
  let id := leAt b 2 1 % 4
  if !f.extended && b.length = 24 && leAt b 0 1 = 1 && leAt b 1 1 % 2 = 1 && 1 ≤ id
      && f.ident = s.rdN (ob 0x4200 0x10) + 32 * (id - 1) + leAt b 3 1 % 16 && leAt b 6 2 = s.rdN (ob 0x2100 0x12)
      && leAt b 20 4 = crc32c (b.take 20) then some id
  else none

/-- The frame is a thruster's feedback. -/
def feedbackOf (c : Fin 4) (f : CanFrame) (s : P1) : Bool :=
  !f.extended && (List.finRange 16).any fun (i : Fin 16) => isFeedback c f.ident i s

/-- A slot with a template takes the frame. -/
def templateOn (c : Fin 4) (f : CanFrame) (i : Fin 64) (s : P1) : Bool :=
  s.rd (slKey i 1) = 1 && templateMatches i (.can c f.ident f.extended) s

/-- A slot of the PGN set takes the frame. -/
def pgnOn (c : Fin 4) (f : CanFrame) (i : Fin 64) (s : P1) : Bool :=
  f.extended && s.rd (slKey i 1) = 1 && pgnMatches i c f.ident s

/-- The frame is a request to the SDO server of the channel. -/
def sdoRequest (c : Fin 4) (f : CanFrame) (s : P1) : Bool :=
  !f.extended && s.rd (ob (0x6610 + c) 1) = 1 && f.ident = 0x600 + s.rdN (ob (0x6610 + c) 2)

/-- The receive error count after a valid frame (ISO 11898-1): one less; above 127 it takes a value from 119 to 127, which
the standard leaves open (assumption 3). -/
def rxErrAfter (s : P1) (n : Nat) : Nat := if 127 < n then 119 + Config.freeNat s.free % 9 else n - 1

/-- A frame that finds its receive queue full (R50): counted on the channel and in the slots that it was for. -/
def canRxFull (c : Fin 4) (hit : Fin 64 → P1 → Bool) (s : P1) : P1 :=
  eachSlot (fun i t => if hit i t && slotTakes i false t then lastError i 10 t else t) (s.inc (ob (0x5600 + c) 0x16))

/-- A frame of NMEA 2000 reaches its slots: whole, or as a frame of a fast-packet message; its home module republishes it. -/
def pgnFrame (c : Fin 4) (f : CanFrame) (s : P1) : P1 :=
  let t := republishPgn c f.ident f.data s
  if fastPgn (pgnOf f.ident) then fastFrame none t.ns c f.ident f.data t else pgnMessage c f.ident f.data t

/-- A frame taken from its receive queue reaches all that it is for (R101): the feedback of a thruster, and every slot that it
matches. -/
def frameReaches (c : Fin 4) (f : CanFrame) (s : P1) : P1 :=
  let t := if feedbackOf c f s then feedbackFrame c f.ident f.data s else s
  let u := templateFrame (.can c f.ident f.extended) f.data t
  if (List.finRange 64).any fun i => pgnOn c f i s then pgnFrame c f u else u

/-- A frame received on a channel (R443–R446, R461). -/
def canReceived (c : Fin 4) (f : CanFrame) (s : P1) : P1 :=
  if !canOn c s || s.can[c].errState = 2 then s
  else
    let s1 := if listenOnly c s then s else (setErrCounts c s.can[c].tec (rxErrAfter s s.can[c].rxErr) s).draw
    let s2 := breakAlone c (s1.incWrap (ob (0x5600 + c) 0x11))
    let s3 := match leadFrame f s2 with
      | some id => takeLeadFrame id s2
      | none => s2
    let hit (i : Fin 64) (t : P1) : Bool := templateOn c f i t || pgnOn c f i t
    if feedbackOf c f s3 || (List.finRange 64).any fun i => templateOn c f i s3 then
      if 256 ≤ (s3.can[c]).rx0.length then canRxFull c hit s3
      else frameReaches c f (setCan c (fun x => { x with rx0 := x.rx0 ++ [f] }) s3)
    else if sdoRequest c f s3 || (List.finRange 64).any fun i => pgnOn c f i s3 then
      if 256 ≤ (s3.can[c]).rx1.length then canRxFull c hit s3
      else frameReaches c f (setCan c (fun x => { x with rx1 := x.rx1 ++ [f] }) s3)
    else s3

/-! ### Meanings -/

/-- CYCLE_MESSAGE (R467). -/
def execCycleMessage (m : SetMessage) (s : State) : Out :=
  if s.p1.up then .next (takeCycle m s) else .next s

/-- RELINQUISH_MESSAGE (R478). -/
def execRelinquishMessage (m : SetMessage) (s : State) : Out :=
  if s.p1.up then .next (takeHandOver m s) else .next s

/-- SWITCH_OVER_REQUEST (R475). -/
def execSwitchOverRequest (w : Nat) (v : Int) (s : State) : Out :=
  onReq w (ob 0x6400 0x0D) (.num v) (switchOverRule w v) s

/-- REJOIN_HOLD_END (R474). -/
def execRejoinHoldEnd (s : State) : Out := onP1 rejoinEnd s

/-- REPUBLICATION (R471). -/
def execRepublication (slot : Fin 64) (item : RepubItem) (arrival : Nat) (s : State) : Out :=
  onMeasured (fun i _ => i = slot) (takeRepublication slot item arrival) s

/-- REDUNDANCY_CLEAR_COUNTERS (R484). -/
def execRedundancyClearCounters (w : Nat) (v : Int) (s : State) : Out :=
  onReq w (ob 0x6400 0x15) (.num v) redundancyClearRule s

/-- LINK_CHANGE (R425); the loss of the second DP link is a relinquish class (R477). -/
def execLinkChange (p : NetPort) (up : Bool) (rate : Nat) (s : State) : Out :=
  onP1 (fun t => judgeRelinquish (linkChange p up rate t)) s

/-- LAN_FAULT (R425), with the relinquish classes (R477). -/
def execLanFault (p : DpPort) (s : State) : Out := onP1 (fun t => judgeRelinquish (lanFault p t)) s

/-- CAN_ATTEMPT_FAIL (R441); bus-off and ALONE on a command channel are a relinquish class (R477). -/
def execCanAttemptFail (c : Fin 4) (cause : AttemptCause) (s : State) : Out :=
  onP1 (fun t => judgeRelinquish (canAttemptFail c cause t)) s

/-- CAN_FRAME_RECEIVED (R445). -/
def execCanFrameReceived (c : Fin 4) (f : CanFrame) (s : State) : Out := onMeasured (fun i t => templateOn c f i t || pgnOn c f i t) (canReceived c f) s

end Sys2Proof.Machine
end

