-- ==== Sys2Proof/Machine/Cycle.lean ====
section
/-! DEFINITION. The station cycle and the servo tick (chapters "Clocks, grain and the station cycle", "Station control law and
Close Hold"): R20–R27, R223, R235, R236, R468, R479. -/

namespace Sys2Proof.Machine

/-! ### What takes effect at a G+0 -/

/-- An accepted octet string replaces the resident one (R128); its generation was counted at its acceptance (assumption 44). -/
def adoptOne (e : Nat × List Byte) (s : P1) : P1 :=
  let t := showResident e.1 { s with dom := domInsert e.1 ⟨e.2, s.gen e.1⟩ s.dom }
  if e.1 = ob 0x3400 1 then record 0x0302 0 t else if e.1 = ob 0x3500 1 then record 0x0303 0 t else t

/-- Every accepted octet string replaces the resident one, in the order of acceptance. -/
def adoptNext (s : P1) : P1 := s.next.foldl (fun t e => adoptOne e t) { s with next := [] }

/-- A staged write is complete: its last part travelled with the message of the cycle before (R468). -/
def Staged.complete (g : Staged) : Bool := g.sent = g.total && g.data.length = g.total

/-- The staged writes that are complete take effect on this module (R468). -/
def takeStaged (s : State) : State :=
  (s.p1.red.staged.filter Staged.complete).foldl (fun t g => applyWrite ⟨g.key / 256, g.key % 256, g.data, none⟩ t)
    { s with p1 := setRed (fun r => { r with staged := r.staged.filter fun g => !g.complete }) s.p1 }

/-- A target mode accepted before this grain governs from this cycle on (R69). -/
def governDue (s : P1) : P1 :=
  if s.bit kModeStatus 0 && s.rd (ob 0x2100 8) ≠ (s.stamp : Int) then govern s else s

/-- The job types are assigned, and a WAVE fit without an engine ends WAVE_READY (R173, R240). -/
def assignCycle (s : P1) : P1 :=
  let t := buildStructures (assignTypes s)
  if assigned 6 t then t else judgeCloseHold (clearReady 2 t)

/-! ### The estimator (R21, R172) -/

/-- The estimator's jobs of a cycle (R172): EST-LS where a measurement corrects, GNSS-LS for an internal epoch. -/
def issueEstimator (raw : Bool) (s : P1) : P1 :=
  let t := if raw then withEnded (issueOwn 2 false .estimate none s) else s
  if s.field (ob 0x3000 1) 16 8 = 0 then t else withEnded (issueOwn 1 false .estimate none t)

/-- A fix is an internal GNSS epoch that this latch takes. -/
def rawDue (s : P1) : Bool :=
  s.fus.fixes.any fun f => f.grain < s.elapsed && match f.meas with
    | .raw _ => true
    | _ => false

/-- The estimator correction with the decision level, on the engines EST (R22, R164). -/
def estimate (s : P1) : P1 :=
  if (List.range 4).all fun e => s.stopped (estAddr e) then s else issueEstimator (rawDue s) (correctEstimate s)

/-! ### The law's inputs (R222, R223) -/

/-- A joystick demand from the analog input of a degree of freedom (R222, R376); an input without a settled value has no
stated demand: a free value. -/
def joyInput (d : Fin 3) (s : P1) : Int :=
  let n := s.rdN (ob 0x4020 (9 + d))
  if h : n < 16 then
    if aiFaulted n s then 0
    else match settledBefore ⟨n, by omega⟩ s with
      | some v => clamp (-1000) 1000 (1000 * aiNormal n v s + 1 / 2).floor
      | none => clamp (-1000) 1000 (Config.freeInt (s.free + 20 + d))
  else 0

/-- What the law takes at G+0. -/
def lawInputs (s : P1) : LawIn := ⟨poseOf s.lawMode s, windForce s, #v[joyInput 0 s, joyInput 1 s, joyInput 2 s]⟩

/-- F_ach where a cycle begins a hand-over (R79, R478). -/
def handOf (s : P1) : Option Dof :=
  if !s.ctl.first then none
  else if s.ctl.handFrom = 2 || (s.ctl.handFrom = 0 && s.alc.first) then some (feedbackDof s)
  else some ⟨s.rd (ob 0x4201 7), s.rd (ob 0x4201 8), s.rd (ob 0x4201 9)⟩

/-- The errors of a cycle are sampled (R491): position in metres in modes 6–10, heading in radians in modes 5–10. -/
def sampleErrors (e : Tri) (mode : Nat) (s : P1) : P1 :=
  let t := match e[(2 : Fin 3)] with
    | some r => if 5 ≤ mode && mode ≤ 10 then sampleQuantity 4 (r / 1000000) s else s
    | none => s
  match e[(0 : Fin 3)], e[(1 : Fin 3)] with
  | some x, some y =>
    if 6 ≤ mode && mode ≤ 10 then
      sampleQuantity 3 (y / 10000) (sampleQuantity 2 (x / 10000) (sampleQuantity 1 (Config.sqrt (x * x + y * y) / 10000) t))
    else t
  | _, _ => t

/-! ### The work of a cycle (R22) -/

/-- Set-points that a mode forms anew in each cycle (R227, R228). -/
def aimCycle (s : P1) : P1 :=
  if s.lawMode = 8 then aimTarget s else if s.lawMode = 9 then aimWeathervane s else s

/-- In the first cycle of an allocating mode f_prev is the feedback force (R258). -/
def firstForces (s : P1) : P1 :=
  if s.alc.first then
    let f := feedbackForces s
    { s with alc := { s.alc with thr := Vector.ofFn fun i => { s.alc.thr[i] with fPrev := f[i] } } }
  else s

/-- The ALLOC job of a cycle starts cold (R192, R265): in the first cycle of an allocating mode, and where no solution exists. -/
def allocCold (s : P1) : Bool := s.alc.first || (s.solver.res[2]).solution.isNone

/-- The law, the arcs and the ALLOC job of a Lead's cycle in an allocating mode (R219, R263, R264). An ALLOC type that no
engine takes leaves the cycle a stale result (R25). -/
def allocWork (s0 : P1) : P1 :=
  let s := aimCycle (firstForces s0)
  let x := lawInputs s
  let t := (sampleErrors (posError s x.pose) s.lawMode (lawCycle x (handOf s) s)).drawN 8
  let u := prepareMatrix (selectSets t)
  let v := beginMirror (allocCold u) { u with alc := { u.alc with due := true } }
  if (typeEngine 7 v).isNone then advanceReleases (takeAlloc .stale v) else withEnded (issueOwn 7 (!u.alc.first) .estimate none v)

/-- A cycle without allocation (R66, R218, R459): law and allocation rest, the frames of the mode are sent, and the cycle
message follows. A module that takes the lead from here on begins with a hand-over. After a module-level fault no command
is released (R62). -/
def idleWork (s : P1) : P1 :=
  let a := stopAllocating (if s.role = 1 || allocating s.lawMode then s else clearLaw s)
  let b := { a with ctl := { a.ctl with first := true } }
  advanceReleases (if b.red.moduleFault then b else queueIdle (List.finRange 16) b)

/-- The work of a cycle after its estimate. -/
def cycleWork (s0 : P1) : P1 :=
  let s := { s0 with alc := { s0.alc with opened := true } }
  if s.role = 2 && allocating s.lawMode then allocWork s else idleWork s

/-- This module takes a vacancy at this G+0 (R479); its work of the cycle waits for it. -/
def vacancyHere (s : P1) : Bool := inSet s && s.role ≠ 2 && vacant s && isEligible s && ranksFirst s

/-- The estimate of a cycle and what is judged on it (R21, R164, R241, R472). -/
def judgeCycle (s : P1) : P1 :=
  let t := judgeTarget (estimate s)
  let u := if t.stopped (estAddr 2) then t else wavePredict t
  sampleQuantity 7 (u.grade : Rat) (setRed (fun r => { r with ownPose := some (lowPose u) }) u)

/-! ### Servo loops (R235, R236) -/

/-- A cell of servo loop l. -/
def loopKey (l : Fin 32) (sub : Nat) : Nat := ob (0x4060 + l) sub

/-- Every loop takes its Q32 coefficients at a G+0 (R212). -/
def latchGains (s : P1) : P1 :=
  let g (l : Fin 32) : Vector Int 6 := #v[s.rd (loopKey l 6), s.rd (loopKey l 7), s.rd (loopKey l 8), s.rd (loopKey l 9),
    s.rd (loopKey l 0x0F), s.rd (loopKey l 0x10)]
  { s with ctl := { s.ctl with gains := Vector.ofFn g } }

/-- The state with a servo loop changed. -/
def setLoop (l : Fin 32) (x : LoopState) (s : P1) : P1 := { s with ctl := { s.ctl with loops := s.ctl.loops.set l x } }

/-- The thruster of a loop's set-point. -/
def loopThr (l : Fin 32) (s : P1) : Fin 16 := ⟨s.rdN (loopKey l 4) % 16, Nat.mod_lt _ (by decide)⟩

/-- The component of the latest command released before this tick (R27): the thrust command, or the angle in half a turn
either way (R278). -/
def loopCommand (l : Fin 32) (s : P1) : Int :=
  let i := loopThr l s
  let c := if (s.alc.thr[i]).releasedAt < s.grainStart then lastCommand i s else (s.alc.thr[i]).old
  if s.field (loopKey l 4) 4 2 = 0 then (if c.2 ≤ 32768 then c.2 else c.2 - 65536) else c.1

/-- A loop's feedback reports a fault (R236). -/
def loopFaulted (l : Fin 32) (s : P1) : Bool :=
  let n := s.rdN (loopKey l 2)
  if n < 8 then axisFaulted n s else if 16 ≤ n && n < 32 then aiFaulted (n - 16) s else false

/-- A loop's feedback at G+0 (R27, R235, R353, R376): positions as latched. A loop without a source, or before its first settled output, has none: a
free value. -/
def loopFeedback (l : Fin 32) (s : P1) : Int :=
  let n := s.rdN (loopKey l 2)
  let free : Int := sat32 (Config.freeInt (s.free + l))
  if h : n < 8 then if s.rd (loopKey l 3) = 2 then s.rd (ob (0x5200 + n) 0x18) else (s.before.axes[n]'h).pos
  else if h : 16 ≤ n ∧ n < 32 then (settledBefore ⟨n - 16, by omega⟩ s).getD free
  else free

/-- The error of a loop (R235): angle feedback is wrapped to half the axis counts per revolution either way. -/
def loopError (l : Fin 32) (s : P1) : Int :=
  let e := (q32 s.ctl.gains[l][4] s.ctl.gains[l][5].toNat (loopCommand l s)).1 - loopFeedback l s
  let n := s.rdN (loopKey l 2)
  if s.rd (loopKey l 3) = 1 && n < 8 then
    let c := s.rd (ob (0x5200 + n) 4)
    if c ≤ 0 then sat32 e else sat32 (e - c * ((2 * e - c + (2 * c - 1)) / (2 * c)))
  else sat32 e

/-- One tick of a loop's controller (R235): the integrator first, held while the output lay at a limit that the error drives
it against. -/
def loopTick (l : Fin 32) (e : Int) (x : LoopState) (s : P1) : LoopState × Int :=
  let inc := (q32 s.ctl.gains[l][2] s.ctl.gains[l][3].toNat e).1
  let lim := s.rd (loopKey l 0x0A)
  let held : Bool := (x.side = 1 && 0 < inc) || (x.side = -1 && inc < 0)
  let i := if held then x.i else clamp (-lim) lim (x.i + inc)
  let u := (q32 s.ctl.gains[l][0] s.ctl.gains[l][1].toNat e).1 + i
  let lo := s.rd (loopKey l 0x0B)
  let hi := s.rd (loopKey l 0x0C)
  (⟨i, if hi ≤ u then 1 else if u ≤ lo then -1 else 0, false⟩, clamp lo hi u)

/-- The thruster of a loop receives allocated values (R66). -/
def loopFed (l : Fin 32) (s : P1) : Bool := s.role = 2 && allocating s.lawMode && thrType (loopThr l s) s ≠ 0

/-- The code a loop gives, to its output and to 4060h+l:0E. -/
def loopWrite (l : Fin 32) (code : Int) (safe : Bool) (s : P1) : P1 :=
  (aoSet (s.rdN (loopKey l 5)) code safe s).wr (loopKey l 0x0E) code

/-- A servo loop at a tick (R235, R236). -/
def servoLoop (l : Fin 32) (s : P1) : P1 :=
  if s.rd (loopKey l 1) = 0 then setLoop l ⟨0, 0, false⟩ s
  else
    let x := s.ctl.loops[l]
    if !loopFed l s || loopFaulted l s then
      let n := s.rdN (loopKey l 5)
      let t := setLoop l ⟨0, 0, true⟩ (if n < 16 then loopWrite l (aoSafeCode n s) true s else s)
      if x.forced then t else record 0x0405 l.val t
    else
      let e := loopError l s
      let r := loopTick l e x s
      (loopWrite l r.2 false (setLoop l r.1 s)).wr (loopKey l 0x0D) e

/-- CTL1 runs: no fault, powered (R47). -/
def servoRuns (s : P1) : Bool := s.mode ≠ 0 && !s.stopped (ctlAddr 1)

/-- The work of a servo tick (R27): axis speeds, profile generators, servo loops. -/
def servoWork (s : P1) : P1 :=
  let t := (List.finRange 8).foldl (fun u (a : Fin 8) => tickSpeed a u) { s with ctl := { s.ctl with tickAt := some s.elapsed } }
  if servoRuns t then ((List.finRange 32).foldl (fun u (l : Fin 32) => servoLoop l u) (trackTick (gensTick t))).drawN 32
  else t

/-- A servo tick (R27), on a grain whose index is a whole multiple of 250 (R16). The start of a station cycle is one too, so that the
two commands of one grain make one tick. -/
def servoTick (s : P1) : P1 := if s.grainIndex % 250 ≠ 0 || s.ctl.tickAt = some s.elapsed then s else servoWork s

/-! ### The start of a cycle -/

/-- P1 at a G+0 after the staged writes. -/
def cycleStart (s : P1) : P1 :=
  let a := assignCycle (adoptFit (adoptAlign (adoptMounts (adoptNext (suspendCommit s)))))
  let b := governDue (sendReferences (beginSet a))
  let c := judgeCycle (eachThr judgeMismatch (judgeAvailability b))
  if vacancyHere c then c else cycleWork c

/-- Commands not released by G+900 are not released (R25); the third cycle in a row is a module-level fault. -/
def overrunWork (s : P1) : P1 :=
  if !s.alc.opened || s.ns < s.alc.latch + 900000 then s
  else
    let n := s.overrunRun + 1
    let t : P1 := { s with alc := { s.alc with due := false, queue := [], opened := false }, overrunRun := n }
    let u := sampleRelease (recordAlarm true 0x0012 0 0 (t.inc (ob 0x2001 3)))
    let v := setRed (fun r => { r with overrun := true }) u
    afterRelease (if 3 ≤ n then moduleFault v else v)

/-- A station cycle starts (R20), with the servo tick of its grain (R225), on a grain whose index is a whole multiple of the cycle
length (R16); one that would start in the grain of a time step does not (R295). Dormant has none (R47). A cycle whose commands have not
all been released by now has overrun (R25). -/
def stationCycle (s : State) : State :=
  if !s.p1.up || s.p1.mode = 0 || !atCycle s.p1 then s
  else
    let t := timeStep (overrunWork s.p1)
    if t.2 then { s with p1 := t.1 }
    else
      let p : P1 := { t.1 with time := { t.1.time with broken := false }, alc := { t.1.alc with latch := t.1.ns } }
      let u := takeStaged { s with p1 := p }
      { u with p1 := cycleStart (servoTick (latchGains u.p1)) }

/-- The eligible module that ranks first takes a vacancy (R479), and does this cycle's work as Lead. -/
def vacancyWork (s : P1) : P1 := if vacancyHere s then cycleWork (sendReferences (takeVacancy s)) else s

/-! ### Meanings -/

/-- STATION_CYCLE_START (R20). -/
def execStationCycleStart (s : State) : Out := .next (stationCycle s)

/-- RELEASE_OVERRUN (R25). -/
def execReleaseOverrun (s : State) : Out := onP1 overrunWork s

/-- SERVO_TICK (R27). -/
def execServoTick (s : State) : Out := onP1 servoTick s

/-- VACANCY (R479). -/
def execVacancy (s : State) : Out := onP1 vacancyWork s

end Sys2Proof.Machine
end

