-- ==== Sys2Proof/Machine/Dispatch.lean ====
section
/-! DEFINITION. The dispatch of commands: one arm for each constructor of `Instr`, each a direct call of its meaning. -/

namespace Sys2Proof.Machine

/-- The effect of a command on everything but the queue. -/
def exec (i : Instr) (s : State) : Host.Outcome State Fault Refusal :=
  match i with
  | .stationCycleStart => Sys2Proof.Machine.execStationCycleStart s
  | .releaseOverrun => Sys2Proof.Machine.execReleaseOverrun s
  | .servoTick => Sys2Proof.Machine.execServoTick s
  | .inertialPropagation => Sys2Proof.Machine.execInertialPropagation s
  | .pllUnlock => Sys2Proof.Machine.execPllUnlock s
  | .pllLockHeld => Sys2Proof.Machine.execPllLockHeld s
  | .stationCycleWrite w v => Sys2Proof.Machine.execStationCycleWrite w v s
  | .cycleChangeEffect => Sys2Proof.Machine.execCycleChangeEffect s
  | .snapTriggerWrite w v => Sys2Proof.Machine.execSnapTriggerWrite w v s
  | .snapProgrammedTime => Sys2Proof.Machine.execSnapProgrammedTime s
  | .snapTimeWrite w v => Sys2Proof.Machine.execSnapTimeWrite w v s
  | .snapLockWrite w v => Sys2Proof.Machine.execSnapLockWrite w v s
  | .clearRefusedCount w v => Sys2Proof.Machine.execClearRefusedCount w v s
  | .clearCycleStatistics w v => Sys2Proof.Machine.execClearCycleStatistics w v s
  | .blockFault addr => Sys2Proof.Machine.execBlockFault addr s
  | .wrespLost item => Sys2Proof.Machine.execWrespLost item s
  | .linkCheckFail far => Sys2Proof.Machine.execLinkCheckFail far s
  | .dieTemperatureAlarm die tenths => Sys2Proof.Machine.execDieTemperatureAlarm die tenths s
  | .dieHalt die cause => Sys2Proof.Machine.execDieHalt die cause s
  | .fieldLogicPowerFail pkg => Sys2Proof.Machine.execFieldLogicPowerFail pkg s
  | .coreBrownout => Sys2Proof.Machine.execCoreBrownout s
  | .supplyInputChange input present => Sys2Proof.Machine.execSupplyInputChange input present s
  | .restartBlock w addr selfTest => Sys2Proof.Machine.execRestartBlock w addr selfTest s
  | .readStatusWordSelect w addr => Sys2Proof.Machine.execReadStatusWordSelect w addr s
  | .modeCommandDormant src => Sys2Proof.Machine.execModeCommandDormant src s
  | .modeCommandCommissioning src => Sys2Proof.Machine.execModeCommandCommissioning src s
  | .modeCommandStandby src => Sys2Proof.Machine.execModeCommandStandby src s
  | .modeCommandManualLever src => Sys2Proof.Machine.execModeCommandManualLever src s
  | .modeCommandJoystick src => Sys2Proof.Machine.execModeCommandJoystick src s
  | .modeCommandJoystickAutoHeading src => Sys2Proof.Machine.execModeCommandJoystickAutoHeading src s
  | .modeCommandAutoPosition src => Sys2Proof.Machine.execModeCommandAutoPosition src s
  | .modeCommandAutoTrack src => Sys2Proof.Machine.execModeCommandAutoTrack src s
  | .modeCommandFollowTarget src => Sys2Proof.Machine.execModeCommandFollowTarget src s
  | .modeCommandWeathervane src => Sys2Proof.Machine.execModeCommandWeathervane src s
  | .modeCommandCloseHold src => Sys2Proof.Machine.execModeCommandCloseHold src s
  | .modeCommandWinter src => Sys2Proof.Machine.execModeCommandWinter src s
  | .panelInputAssign w mode v => Sys2Proof.Machine.execPanelInputAssign w mode v s
  | .springStepComplete checkOk => Sys2Proof.Machine.execSpringStepComplete checkOk s
  | .resetInputRelease input grains kept => Sys2Proof.Machine.execResetInputRelease input grains kept s
  | .resetInputStuck input => Sys2Proof.Machine.execResetInputStuck input s
  | .resetStuckClear input => Sys2Proof.Machine.execResetStuckClear input s
  | .powerApplied => Sys2Proof.Machine.execPowerApplied s
  | .selfTestComplete failed => Sys2Proof.Machine.execSelfTestComplete failed s
  | .springStartComplete failed => Sys2Proof.Machine.execSpringStartComplete failed s
  | .slotEnable w slot v => Sys2Proof.Machine.execSlotEnable w slot v s
  | .nmeaSentence ch bytes => Sys2Proof.Machine.execNmeaSentence ch bytes s
  | .udpbcDatagram group bytes => Sys2Proof.Machine.execUdpbcDatagram group bytes s
  | .nmea2000Message ch priority pgnSource bytes => Sys2Proof.Machine.execNmea2000Message ch priority pgnSource bytes s
  | .fastPacketTimeout ch pgn source => Sys2Proof.Machine.execFastPacketTimeout ch pgn source s
  | .templateFrame src bytes => Sys2Proof.Machine.execTemplateFrame src bytes s
  | .lidarSegment port udpPort ip bytes => Sys2Proof.Machine.execLidarSegment port udpPort ip bytes s
  | .lidarFrameTimeout slot => Sys2Proof.Machine.execLidarFrameTimeout slot s
  | .landmarkPacket port udpPort ip bytes => Sys2Proof.Machine.execLandmarkPacket port udpPort ip bytes s
  | .timeModelBlockEnd slot => Sys2Proof.Machine.execTimeModelBlockEnd slot s
  | .acceptRefined w entry v => Sys2Proof.Machine.execAcceptRefined w entry v s
  | .mountCommissionedWrite w entry sub v => Sys2Proof.Machine.execMountCommissionedWrite w entry sub v s
  | .structureModelWrite w bytes => Sys2Proof.Machine.execStructureModelWrite w bytes s
  | .markerTableWrite w bytes => Sys2Proof.Machine.execMarkerTableWrite w bytes s
  | .slotClearCounters w slot v => Sys2Proof.Machine.execSlotClearCounters w slot v s
  | .disputeLimit => Sys2Proof.Machine.execDisputeLimit s
  | .headingDisputeLimit => Sys2Proof.Machine.execHeadingDisputeLimit s
  | .disputeSelection w v => Sys2Proof.Machine.execDisputeSelection w v s
  | .recaptureOrigin w v => Sys2Proof.Machine.execRecaptureOrigin w v s
  | .upgradeTime => Sys2Proof.Machine.execUpgradeTime s
  | .holdLimit => Sys2Proof.Machine.execHoldLimit s
  | .alignIssue => Sys2Proof.Machine.execAlignIssue s
  | .suspectClearTime slot => Sys2Proof.Machine.execSuspectClearTime slot s
  | .clearSuspect w v => Sys2Proof.Machine.execClearSuspect w v s
  | .jobIssue d => Sys2Proof.Machine.execJobIssue d s
  | .jobStart e => Sys2Proof.Machine.execJobStart e s
  | .jobComplete e => Sys2Proof.Machine.execJobComplete e s
  | .jobDeadline e point => Sys2Proof.Machine.execJobDeadline e point s
  | .engineCheckJob e agrees => Sys2Proof.Machine.execEngineCheckJob e agrees s
  | .structureLoad w k bytes => Sys2Proof.Machine.execStructureLoad w k bytes s
  | .structureSwap k => Sys2Proof.Machine.execStructureSwap k s
  | .testJobDescriptor w bytes => Sys2Proof.Machine.execTestJobDescriptor w bytes s
  | .solverClearStatistics w t v => Sys2Proof.Machine.execSolverClearStatistics w t v s
  | .positionSetpointWrite w longitude v => Sys2Proof.Machine.execPositionSetpointWrite w longitude v s
  | .headingSetpointWrite w v => Sys2Proof.Machine.execHeadingSetpointWrite w v s
  | .relativeMove w lateral v => Sys2Proof.Machine.execRelativeMove w lateral v s
  | .relativeTurn w v => Sys2Proof.Machine.execRelativeTurn w v s
  | .targetOffsetWrite w axis v => Sys2Proof.Machine.execTargetOffsetWrite w axis v s
  | .weathervaneWrite w factor v => Sys2Proof.Machine.execWeathervaneWrite w factor v s
  | .waypointListWrite w bytes => Sys2Proof.Machine.execWaypointListWrite w bytes s
  | .waypointDwellEnd => Sys2Proof.Machine.execWaypointDwellEnd s
  | .profileLimitWrite w limit v => Sys2Proof.Machine.execProfileLimitWrite w limit v s
  | .waveSample => Sys2Proof.Machine.execWaveSample s
  | .waveRefitIssue => Sys2Proof.Machine.execWaveRefitIssue s
  | .waveFitAgeExpiry => Sys2Proof.Machine.execWaveFitAgeExpiry s
  | .waveExitTime => Sys2Proof.Machine.execWaveExitTime s
  | .clearSaturationFlags w v => Sys2Proof.Machine.execClearSaturationFlags w v s
  | .thrusterFeedbackFrame ch ident bytes => Sys2Proof.Machine.execThrusterFeedbackFrame ch ident bytes s
  | .thrustCurveWrite w thruster astern bytes => Sys2Proof.Machine.execThrustCurveWrite w thruster astern bytes s
  | .fallbackTableWrite w bytes => Sys2Proof.Machine.execFallbackTableWrite w bytes s
  | .generateFallbackTables w v => Sys2Proof.Machine.execGenerateFallbackTables w v s
  | .testThrusterStart w v => Sys2Proof.Machine.execTestThrusterStart w v s
  | .testThrusterEnd w v => Sys2Proof.Machine.execTestThrusterEnd w v s
  | .testDurationExpiry => Sys2Proof.Machine.execTestDurationExpiry s
  | .allocationClearStatistics w v => Sys2Proof.Machine.execAllocationClearStatistics w v s
  | .timeSecond gnss => Sys2Proof.Machine.execTimeSecond gnss s
  | .sourceLost src => Sys2Proof.Machine.execSourceLost src s
  | .holdoverLimit => Sys2Proof.Machine.execHoldoverLimit s
  | .leapSecond => Sys2Proof.Machine.execLeapSecond s
  | .timeSave => Sys2Proof.Machine.execTimeSave s
  | .ptpSync port offset pathDelay => Sys2Proof.Machine.execPtpSync port offset pathDelay s
  | .ptpAnnounceTimeout => Sys2Proof.Machine.execPtpAnnounceTimeout s
  | .secondsRead w => Sys2Proof.Machine.execSecondsRead w s
  | .ppsPulse n qErr => Sys2Proof.Machine.execPpsPulse n qErr s
  | .ppsOnceWrite w n v => Sys2Proof.Machine.execPpsOnceWrite w n v s
  | .ppsGridWrite w n phase v => Sys2Proof.Machine.execPpsGridWrite w n phase v s
  | .evtEdge n falling ns => Sys2Proof.Machine.execEvtEdge n falling ns s
  | .evtEventRead w n => Sys2Proof.Machine.execEvtEventRead w n s
  | .channelAssignment antenna view => Sys2Proof.Machine.execChannelAssignment antenna view s
  | .channelLockLoss antenna ch code carrier => Sys2Proof.Machine.execChannelLockLoss antenna ch code carrier s
  | .gnssEpoch fix obs baselines => Sys2Proof.Machine.execGnssEpoch fix obs baselines s
  | .antennaStateChange antenna limited current => Sys2Proof.Machine.execAntennaStateChange antenna limited current s
  | .gnssWake => Sys2Proof.Machine.execGnssWake s
  | .gnssWakeEnd => Sys2Proof.Machine.execGnssWakeEnd s
  | .refWarm => Sys2Proof.Machine.execRefWarm s
  | .countEdge axis position ns => Sys2Proof.Machine.execCountEdge axis position ns s
  | .comparePulseEnd axis => Sys2Proof.Machine.execComparePulseEnd axis s
  | .axisSignalFault axis cause => Sys2Proof.Machine.execAxisSignalFault axis cause s
  | .absoluteReadStart axis => Sys2Proof.Machine.execAbsoluteReadStart axis s
  | .absoluteReadDone axis r => Sys2Proof.Machine.execAbsoluteReadDone axis r s
  | .speedWindowEnd axis => Sys2Proof.Machine.execSpeedWindowEnd axis s
  | .compareListWrite w axis bytes => Sys2Proof.Machine.execCompareListWrite w axis bytes s
  | .compareEntryWrite w axis bytes => Sys2Proof.Machine.execCompareEntryWrite w axis bytes s
  | .compareEventRead w axis => Sys2Proof.Machine.execCompareEventRead w axis s
  | .probeLatch probe falling ns glitch => Sys2Proof.Machine.execProbeLatch probe falling ns glitch s
  | .probeRecordQueued probe => Sys2Proof.Machine.execProbeRecordQueued probe s
  | .probeRecordRead w probe => Sys2Proof.Machine.execProbeRecordRead w probe s
  | .indexPulse axis count => Sys2Proof.Machine.execIndexPulse axis count s
  | .setPosition w axis v => Sys2Proof.Machine.execSetPosition w axis v s
  | .axisClearCounters w axis v => Sys2Proof.Machine.execAxisClearCounters w axis v s
  | .emulationEnable w o v => Sys2Proof.Machine.execEmulationEnable w o v s
  | .filterOutput ch value overload => Sys2Proof.Machine.execFilterOutput ch value overload s
  | .shuntRetry ai overcurrent => Sys2Proof.Machine.execShuntRetry ai overcurrent s
  | .fieldFrame die => Sys2Proof.Machine.execFieldFrame die s
  | .doCommandWrite w v => Sys2Proof.Machine.execDoCommandWrite w v s
  | .aoCodeWrite w n v => Sys2Proof.Machine.execAoCodeWrite w n v s
  | .fieldFrameConfirm die => Sys2Proof.Machine.execFieldFrameConfirm die s
  | .fieldSilence die => Sys2Proof.Machine.execFieldSilence die s
  | .fldMeasurement tenMillivolts => Sys2Proof.Machine.execFldMeasurement tenMillivolts s
  | .diEdge n level => Sys2Proof.Machine.execDiEdge n level s
  | .doReadback terminals loaded => Sys2Proof.Machine.execDoReadback terminals loaded s
  | .doShort n => Sys2Proof.Machine.execDoShort n s
  | .shortRetry n => Sys2Proof.Machine.execShortRetry n s
  | .doThermal n hot => Sys2Proof.Machine.execDoThermal n hot s
  | .groupLimit g milliamps => Sys2Proof.Machine.execGroupLimit g milliamps s
  | .clearLatchedFaults w v => Sys2Proof.Machine.execClearLatchedFaults w v s
  | .aoReadback n code limiting => Sys2Proof.Machine.execAoReadback n code limiting s
  | .safetyInputChange chan n a b => Sys2Proof.Machine.execSafetyInputChange chan n a b s
  | .discrepancy chan n => Sys2Proof.Machine.execDiscrepancy chan n s
  | .restartPress chan n drift => Sys2Proof.Machine.execRestartPress chan n drift s
  | .restartWrite w v => Sys2Proof.Machine.execRestartWrite w v s
  | .sectorPulse axis up => Sys2Proof.Machine.execSectorPulse axis up s
  | .positionFrame axis position => Sys2Proof.Machine.execPositionFrame axis position s
  | .sectorDisagree axis => Sys2Proof.Machine.execSectorDisagree axis s
  | .sectorHold axis => Sys2Proof.Machine.execSectorHold axis s
  | .channelSilence observer => Sys2Proof.Machine.execChannelSilence observer s
  | .safClockFail => Sys2Proof.Machine.execSafClockFail s
  | .testSlot => Sys2Proof.Machine.execTestSlot s
  | .testPulseEnd readsOpen => Sys2Proof.Machine.execTestPulseEnd readsOpen s
  | .switchFault item => Sys2Proof.Machine.execSwitchFault item s
  | .testOverdue item => Sys2Proof.Machine.execTestOverdue item s
  | .safetyBlockTransfer => Sys2Proof.Machine.execSafetyBlockTransfer s
  | .startChecksDone chan step1 step2 => Sys2Proof.Machine.execStartChecksDone chan step1 step2 s
  | .safetyBlockWrite w index sub v => Sys2Proof.Machine.execSafetyBlockWrite w index sub v s
  | .checkValueEntry w v => Sys2Proof.Machine.execCheckValueEntry w v s
  | .confirm w v => Sys2Proof.Machine.execConfirm w v s
  | .safetyReport ev ageMicros => Sys2Proof.Machine.execSafetyReport ev ageMicros s
  | .prpFrameReceived port f => Sys2Proof.Machine.execPrpFrameReceived port f s
  | .prpSupervision => Sys2Proof.Machine.execPrpSupervision s
  | .lanFault port => Sys2Proof.Machine.execLanFault port s
  | .linkChange port up rate => Sys2Proof.Machine.execLinkChange port up rate s
  | .sfpModuleChange port inserted rate => Sys2Proof.Machine.execSfpModuleChange port inserted rate s
  | .nodeForget source => Sys2Proof.Machine.execNodeForget source s
  | .igmpQuery => Sys2Proof.Machine.execIgmpQuery s
  | .groupEnable w k v => Sys2Proof.Machine.execGroupEnable w k v s
  | .aoaDatagramDiscard iface => Sys2Proof.Machine.execAoaDatagramDiscard iface s
  | .aoaRead h index sub => Sys2Proof.Machine.execAoaRead h index sub s
  | .aoaWrite h index sub data => Sys2Proof.Machine.execAoaWrite h index sub data s
  | .aoaReadSegment h index sub offset length => Sys2Proof.Machine.execAoaReadSegment h index sub offset length s
  | .aoaWriteSegment h index sub offset data last => Sys2Proof.Machine.execAoaWriteSegment h index sub offset data last s
  | .aoaInformation h index sub => Sys2Proof.Machine.execAoaInformation h index sub s
  | .aoaOpen h identity => Sys2Proof.Machine.execAoaOpen h identity s
  | .aoaClose h => Sys2Proof.Machine.execAoaClose h s
  | .sessionIdle n => Sys2Proof.Machine.execSessionIdle n s
  | .receiveBufferTimeout w index sub => Sys2Proof.Machine.execReceiveBufferTimeout w index sub s
  | .setMessageSegmentTimeout => Sys2Proof.Machine.execSetMessageSegmentTimeout s
  | .cycleMessage m => Sys2Proof.Machine.execCycleMessage m s
  | .relinquishMessage m => Sys2Proof.Machine.execRelinquishMessage m s
  | .vacancy => Sys2Proof.Machine.execVacancy s
  | .switchOverRequest w v => Sys2Proof.Machine.execSwitchOverRequest w v s
  | .rejoinHoldEnd => Sys2Proof.Machine.execRejoinHoldEnd s
  | .republication slot item arrival => Sys2Proof.Machine.execRepublication slot item arrival s
  | .redundancyClearCounters w v => Sys2Proof.Machine.execRedundancyClearCounters w v s
  | .canFrameSent ch => Sys2Proof.Machine.execCanFrameSent ch s
  | .canAttemptFail ch cause => Sys2Proof.Machine.execCanAttemptFail ch cause s
  | .canBusOffRecovery ch => Sys2Proof.Machine.execCanBusOffRecovery ch s
  | .canFrameExpiry ch => Sys2Proof.Machine.execCanFrameExpiry ch s
  | .canFrameReceived ch f => Sys2Proof.Machine.execCanFrameReceived ch f s
  | .canChannelWrite w ch sub v => Sys2Proof.Machine.execCanChannelWrite w ch sub v s
  | .canClearCounters w ch v => Sys2Proof.Machine.execCanClearCounters w ch v s
  | .serialBreak ch => Sys2Proof.Machine.execSerialBreak ch s
  | .serialOverrun ch => Sys2Proof.Machine.execSerialOverrun ch s
  | .serialClearCounters w ch v => Sys2Proof.Machine.execSerialClearCounters w ch v s
  | .templateWrite w t bytes => Sys2Proof.Machine.execTemplateWrite w t bytes s
  | .networkClearCounters w v => Sys2Proof.Machine.execNetworkClearCounters w v s
  | .periodBoundary => Sys2Proof.Machine.execPeriodBoundary s
  | .recordCommit => Sys2Proof.Machine.execRecordCommit s
  | .commitComplete => Sys2Proof.Machine.execCommitComplete s
  | .cursorWrite w v => Sys2Proof.Machine.execCursorWrite w v s
  | .cursorAdvance w v => Sys2Proof.Machine.execCursorAdvance w v s
  | .freeze w v => Sys2Proof.Machine.execFreeze w v s
  | .freezeRelease w v => Sys2Proof.Machine.execFreezeRelease w v s
  | .freezeExpiry => Sys2Proof.Machine.execFreezeExpiry s
  | .clearRequest w v => Sys2Proof.Machine.execClearRequest w v s
  | .confirmClear w v => Sys2Proof.Machine.execConfirmClear w v s
  | .codeLimitWrite w sub v => Sys2Proof.Machine.execCodeLimitWrite w sub v s
  | .dmaEnable w d v => Sys2Proof.Machine.execDmaEnable w d v s
  | .dmaEnqueue w d bytes => Sys2Proof.Machine.execDmaEnqueue w d bytes s
  | .dmaDescriptorStart d => Sys2Proof.Machine.execDmaDescriptorStart d s
  | .dmaDescriptorComplete d readback => Sys2Proof.Machine.execDmaDescriptorComplete d readback s
  | .dmaPause w d v bytesRead => Sys2Proof.Machine.execDmaPause w d v bytesRead s
  | .dmaPaused d => Sys2Proof.Machine.execDmaPaused d s
  | .dmaResume w d v => Sys2Proof.Machine.execDmaResume w d v s
  | .dmaReset w d v => Sys2Proof.Machine.execDmaReset w d v s
  | .dmaCompletionRead w d => Sys2Proof.Machine.execDmaCompletionRead w d s
  | .storeSave w v => Sys2Proof.Machine.execStoreSave w v s
  | .saveStepComplete ok => Sys2Proof.Machine.execSaveStepComplete ok s
  | .eraseStore w v => Sys2Proof.Machine.execEraseStore w v s
  | .parameterWrite w index sub data => Sys2Proof.Machine.execParameterWrite w index sub data s
  | .sdoDownload ch index sub data last => Sys2Proof.Machine.execSdoDownload ch index sub data last s
  | .sdoUpload ch index sub last => Sys2Proof.Machine.execSdoUpload ch index sub last s
  | .sdoBlockDownload ch index sub data last crcOk => Sys2Proof.Machine.execSdoBlockDownload ch index sub data last crcOk s
  | .sdoBlockUpload ch index sub last => Sys2Proof.Machine.execSdoBlockUpload ch index sub last s
  | .sdoAbort ch => Sys2Proof.Machine.execSdoAbort ch s
  | .sdoTimeout ch => Sys2Proof.Machine.execSdoTimeout ch s
  | .sdoServerEnable w ch v => Sys2Proof.Machine.execSdoServerEnable w ch v s
  | .challengeRead w => Sys2Proof.Machine.execChallengeRead w s
  | .authorisationResponse w bytes => Sys2Proof.Machine.execAuthorisationResponse w bytes s
  | .lockoutEnd => Sys2Proof.Machine.execLockoutEnd s
  | .giveUpAuthorisation w v => Sys2Proof.Machine.execGiveUpAuthorisation w v s
  | .authorisationKeyWrite w bytes => Sys2Proof.Machine.execAuthorisationKeyWrite w bytes s
  | .alarmAcknowledge w v => Sys2Proof.Machine.execAlarmAcknowledge w v s
  | .canopenHeartbeat => Sys2Proof.Machine.execCanopenHeartbeat s
  | .heartbeatEdge observer drift => Sys2Proof.Machine.execHeartbeatEdge observer drift s
  | .channelLock antenna ch code carrier pll => Sys2Proof.Machine.execChannelLock antenna ch code carrier pll s
  | .canReceiveError ch increment => Sys2Proof.Machine.execCanReceiveError ch increment s
  | .ptpAnnounce port a => Sys2Proof.Machine.execPtpAnnounce port a s
  | .ptpMasterSync announce => Sys2Proof.Machine.execPtpMasterSync announce s
  | .sensorPortDatagram port kind => Sys2Proof.Machine.execSensorPortDatagram port kind s
  | .crossBarrierLinkReturn die => Sys2Proof.Machine.execCrossBarrierLinkReturn die s
  | .checkValuePlaced chan => Sys2Proof.Machine.execCheckValuePlaced chan s
  | .templateFrameGap ch => Sys2Proof.Machine.execTemplateFrameGap ch s
  | .sentenceSyntaxDiscard ch => Sys2Proof.Machine.execSentenceSyntaxDiscard ch s
  | .serialCharacterError ch err => Sys2Proof.Machine.execSerialCharacterError ch err s

end Sys2Proof.Machine
end

