-- ==== Sys2Proof/Machine/Tick.lean ====
section
/-! DEFINITION. One grain passes (assumption 2): what the step does on an empty queue. -/

namespace Sys2Proof.Machine

/-- A DP port that works has a link. -/
def dpLinked (s : P1) : Bool := pktOn s && ((dpOn 0 s && s.bit kNet 0) || (dpOn 1 s && s.bit kNet 1))

/-- The transmit classes after one frame of the highest class that has one has left (R427). -/
def sendHighest (q : Vector (List NetItem) 8) : Vector (List NetItem) 8 :=
  match ((List.finRange 8).reverse.find? fun (k : Fin 8) => q[k] ≠ []) with
  | some k => upd q k fun l => l.drop 1
  | none => q

/-- Each network interface with a link has sent one frame of its transmit queues (R427, R430, R431; assumption 116). -/
def sendFrames (s : P1) : P1 :=
  let tx := if dpLinked s then sendHighest s.net.tx else s.net.tx
  let sensor := Vector.ofFn fun (p : Fin 4) =>
    if sensorOn p s && s.bit kNet (12 + p) then s.net.sensorTx[p].drop 1 else s.net.sensorTx[p]
  let service := Vector.ofFn fun (p : Fin 2) =>
    if serviceOn p s && s.bit kNet (16 + p) then s.net.serviceTx[p].drop 1 else s.net.serviceTx[p]
  { s with net := { s.net with tx := tx, sensorTx := sensor, serviceTx := service } }

/-- The units that take received frames have taken every one that waits (R430, R445). -/
def drainQueues (s : P1) : P1 :=
  { s with
    net := { s.net with rx := Vector.replicate 8 0, sensorRx := Vector.replicate 12 0, serviceRx := Vector.replicate 2 0 }
    can := s.can.map fun x => { x with rx0 := [], rx1 := [] } }

/-- An emulated output that lags catches up (R347). -/
def catchUp (o : Fin 2) (s : P1) : P1 :=
  let a := s.rdN (ob (0x5210 + o) 2)
  if s.bit (ob (0x5210 + o) 5) 1 && a < 8 && !s.stopped (unitAddr 1 1 2 0 (8 + o)) then
    emuFollow o (s.rd (ob (0x5200 + a) 0x16)) s.ns s
  else s

/-- How far the latched position of a sine/cosine axis stands from its last position value (R330): the last interpolated position, advanced by
the current speed to the end of the grain and clipped into the coarse quadrant there. -/
def latchAhead (a : Fin 8) (s : P1) : Int :=
  if s.rd (axKey a 2) ≠ 2 then 0
  else match s.axes[a].outs with
  | e :: _ =>
    let now : Int := s.grainStart + 1000
    let speed : Rat := (s.rd (axKey a 0x18) : Rat) / ((2 ^ s.rdN (axKey a 0x10) : Nat) : Rat)
    let q := quadrantAt a now s
    clamp (q * 1024) (q * 1024 + 1023) (nearCount ((e.2 : Rat) + speed * ((now - e.1 : Int) : Rat) / 1000000000)) - s.axes[a].travel
  | [] => 0

/-- What the next grain takes of an axis (R20, R330, R331): a value of an absolute axis belongs to the grain of its read, that of another
axis to the grain that ends. -/
def latchAxis (a : Fin 8) (s : P1) : LatchedAxis :=
  let d := latchAhead a s
  let p := wrapPos a (s.rd (axKey a 0x16) + d) s
  { pos := p
    value := if d = 0 then s.rd (axKey a 0x17)
      else toF64 (Config.fp64 s.free ((f64 (s.rd (axKey a 0x15))).q + (f64 (s.rd (axKey a 0x14))).q * p))
    grain := match s.axes[a].reads.head? with
      | some r => s.elapsed - (s.ns - r.1) / 1000
      | none => s.elapsed
    travel := s.axes[a].travel + d
    edges := s.axes[a].edges
    falling := s.bit (axKey a 0x1A) 23 }

/-- What a latch in the next grain takes of the inputs (R20). -/
def latchInputs (s : P1) : LatchedInputs where
  axes := Vector.ofFn fun (a : Fin 8) => latchAxis a s
  fb := Vector.ofFn fun (i : Fin 16) => (s.alc.thr[i].fb, s.rd (thrKey i 0x2A), s.rd (thrKey i 0x2B))
  di := s.rd (ob 0x5400 5)

/-- The end of a grain of P1: precedence 8 is done (R17), and the inputs stand as the next grain's latch takes them (R20). -/
def endGrain (s : P1) : P1 :=
  let t := if s.up then sealImage (snapFlush (crossFlush s)) else { s with snapDue := [], crossings := [] }
  { t with before := latchInputs t }

/-- The next grain of P1 begins: module time and elapsed grains advance while its clocks run (R10, R15), to a whole microsecond
(R13), and the commands whose time has come are released (R480). -/
def tickP1 (s : P1) : P1 :=
  if s.phase = .off then s
  else
    let n := (s.ns / 1000 + 1) * 1000 % 2 ^ 64
    let e := endGrain s
    let g := (List.finRange 8).foldl (fun u (a : Fin 8) => adoptEntries a u) { e with ns := n, elapsed := s.elapsed + 1 }
    let t := eachCan adoptCan (catchUp 1 (catchUp 0 (drainQueues (sendFrames g))))
    { (if t.up then advanceReleases t else t) with ns := n, elapsed := s.elapsed + 1 }

/-- One microsecond of P2; a slot window may end (R406). The ages of 6886h follow once a millisecond. -/
def tickGuard (s : State) : State :=
  let t := { s with p2 := closeSlot { s.p2 with clock := s.p2.clock + 1 } }
  if t.p2.clock % 1000 = 0 then syncGuard t else t

/-- One grain of the module. -/
def tick (s : State) : State :=
  let w := wakeWrites s
  tickGuard { w with p1 := tickP1 w.p1, p3 := tickField w.p3 }

end Sys2Proof.Machine
end

