-- ==== Sys2Proof/Machine/Panel.lean ====
section
/-! DEFINITION. What the module shows on its panel and drives on X26: the six LEDs of R574 and the 10 MHz output of R305, as
functions of the state. -/

namespace Sys2Proof.Machine

/-- A colour of an LED. -/
inductive Colour | off | green | yellow | red
deriving DecidableEq, Repr

/-- What an LED shows: its colour, and that it flashes. -/
structure Led where
  colour : Colour
  flashing : Bool
deriving DecidableEq, Repr

/-- A dark LED. -/
def dark : Led := ⟨.off, false⟩

/-- An LED that SUP drives: dark while P1 starts or has no supply (R574). -/
def bySup (p : P1) (x : Led) : Led := if p.serves then x else dark

/-- The PWR LED (R574). -/
def pwrLed (p : P1) : Led :=
  bySup p (if p.supply[0] && p.supply[1] then ⟨.green, false⟩
    else if p.supply[0] || p.supply[1] then ⟨.yellow, false⟩ else dark)

/-- The MODE LED (R574). The Spring sequence shows over the mode in which it runs (assumption 87). -/
def modeLed (p : P1) : Led :=
  bySup p (if springing p then ⟨.yellow, true⟩
    else if p.mode = 0 then dark
    else if p.mode = 1 then ⟨.yellow, false⟩
    else if p.mode = 2 || p.mode = 3 then ⟨.green, true⟩
    else if p.mode = 11 then ⟨.red, false⟩
    else ⟨.green, false⟩)

/-- The ROLE LED (R574). -/
def roleLed (p : P1) : Led :=
  bySup p (if p.role = 2 then ⟨.green, false⟩ else if p.role = 1 then ⟨.yellow, false⟩ else dark)

/-- The ALARM LED (R574). -/
def alarmLed (p : P1) : Led :=
  bySup p (if p.alarms.any (fun a => !a.acked) then ⟨.red, true⟩
    else if p.alarms.any (·.active) then ⟨.red, false⟩ else dark)

/-- The TIME LED (R574). -/
def timeLed (p : P1) : Led :=
  bySup p (if timeState p = 1 then ⟨.green, false⟩ else if timeState p = 0 then ⟨.red, false⟩ else ⟨.yellow, false⟩)

/-- A group in use that SF-1, SF-2, SF-3 or a switch fault holds open in SAF's view. -/
def heldOpen (p : P2) (g : Fin 4) : Bool :=
  cond1 p g && !(cond3 p p.saf g && cond4 p p.saf g && cond5 p p.saf g && cond6 p g)

/-- The SAFETY LED, driven by SAF (R574). Where several rows hold, red shows over yellow and yellow over green
(assumption 87). -/
def safetyLed (p : P2) : Led :=
  if !p.works .saf then dark
  else if !p.confirmed then ⟨.red, true⟩
  else if (List.finRange 4).any (heldOpen p) then ⟨.red, false⟩
  else if (List.finRange 4).any (fun (g : Fin 4) => cond1 p g && (p.saf.await)[g]) then ⟨.yellow, false⟩
  else if (List.finRange 4).all (fun (g : Fin 4) => !cond1 p g || groupClosed p g) then ⟨.green, false⟩
  else dark

/-- The 10 MHz output is driven; else it is held low (R305). -/
def tenMegahertz (p : P1) : Bool := p.rd (ob 0x5000 0x10) = 1 && p.bit kClock 0

end Sys2Proof.Machine
end

