-- ==== Sys2Proof/Safety.lean ====
section
/-! DEFINITION. The terms in which claims speak of a safe run: closed switches, accepted requests, the cells that a
command leaves alone, and the form of stored data. -/

namespace Sys2Proof.Machine

/-- A switch that a channel keeps closed has its grounds (R393, R581): supply, a running channel, conditions 1–6 in that
channel's own evaluation, and no restart awaited. -/
def closedSafely (p : P2) (c : GuardChan) (g : Fin 4) : Prop :=
  c.closed[g] = true → p.powered = true ∧ c.st = .running ∧ restartConds p c g = true ∧ c.await[g] = false

/-- Every closed switch of both channels has its grounds. -/
def switchesSafe (s : State) : Prop := ∀ g : Fin 4, closedSafely s.p2 s.p2.saf g ∧ closedSafely s.p2 s.p2.win g

/-- A write of an object passes the tests of R538 that hold for every object, and takes effect at once: it exists and is
writable, the value has its size and range, mode, role and authorisation allow it, and nothing holds it. What the object's
own chapter asks stands beside it in a claim. In Dormant the effect on an object of an unpowered unit waits (R47). -/
def accepted (w k : Nat) (x : Val) (p : P1) : Prop :=
  verdict w k x (effRule id) p = 0 ∧ stages w k x p = false ∧ (p.mode = 0 && unpoweredObject k) = false

/-- The outcome of an accepted write with effect `f`: the effect, the forwarding to Shadows (R468), then the answer to the
session (R547). -/
def written (w k : Nat) (x : Val) (f : P1 → P1) (s : State) : State :=
  { s with p1 := answer w k 0 (forward w k x (f s.p1)) }

/-- The state with another P1. -/
def State.core (s : State) (p : P1) : State := { s with p1 := p }

/-- The cells that an answer can touch: the counters of a CAN response that finds no room (R441) and of its event (R493). -/
def answerCell (k : Nat) : Bool :=
  k = ob 0x5600 0x12 || k = ob 0x5601 0x12 || k = ob 0x5602 0x12 || k = ob 0x5603 0x12 || k = ob 0x6000 6
    || k = ob 0x6000 7 || k = ob 0x6000 8

/-- Two states of P1 hold the same cells, but for those that a test names. -/
def sameCells (but : Nat → Bool) (a b : P1) : Prop := ∀ k, but k = false → b.rd k = a.rd k

/-- A command acts on P1 alone. -/
def coreOnly (s t : State) : Prop := t.p2 = s.p2 ∧ t.p3 = s.p3 ∧ t.pending = s.pending

/-- Keys of stored contents rise strictly. -/
def domsWf (l : Doms) : Bool := (l.map (·.1)).Pairwise (· < ·)

end Sys2Proof.Machine
end

