-- ==== Sys2Proof/Certificates/Slice0/Obligations.lean ====
section
/-! DEFINITION. The statements for the provers. Each docstring names the rules of spec/ that it formalises. -/

open Sys2Proof Sys2Proof.Machine

/-- The tests of a write in the order of R538, each with the abort it gives. -/
def requestTests (w k : Nat) (x : Val) (r : Rule P1) (p : P1) : List (Bool × Nat) :=
  [(!indexExists (k / 256), abNoObject),
    ((rowOf k).isNone, abNoSub),
    ((rowOf k).any fun row => row.acc = .ro, abReadOnly),
    ((rowOf k).any fun row => !sizeOk row x, abLength),
    ((rowOf k).any fun row => w ≠ 0 && row.acc = .rwc && p.mode ≠ 1, modeAbort k),
    ((rowOf k).any fun row => w ≠ 0 && p.setSize ≠ 1 && p.role = 1 && forwarded k row.acc, abMode),
    (r.mode p ≠ 0, r.mode p),
    ((rowOf k).any fun row => (row.acc = .rwc || row.acc = .rwa) && !authorised w p, abAuth),
    ((rowOf k).any fun row => !row.rng.admits row.ty x, abRange),
    (r.check p ≠ 0, r.check p),
    (heldByOther w k p, abBusy),
    (p.red.staged.any fun g => g.key = k, abBusy),
    ((rowOf k).any fun row => row.ty ≠ .domain && noRoom w k row x p, abBusy),
    (r.busy p ≠ 0, r.busy p)]

/-- The commands whose effect stays in P1: every command but the events and writes of the guard and field packages, faults,
links, supplies and resets. -/
def coreCommand (c : Instr) : Bool :=
  match c with
  | .blockFault _ | .wrespLost _ | .linkCheckFail _ | .dieHalt _ _ | .fieldLogicPowerFail _ | .restartBlock _ _ _
  | .resetInputRelease _ _ _ | .powerApplied | .selfTestComplete _ | .springStartComplete _ | .stationCycleStart
  | .fieldFrame _ | .doCommandWrite _ _ | .aoCodeWrite _ _ _ | .fieldSilence _ | .fldMeasurement _ | .diEdge _ _
  | .doReadback _ _ | .doShort _ | .shortRetry _ | .doThermal _ _ | .groupLimit _ _ | .clearLatchedFaults _ _
  | .aoReadback _ _ _ | .safetyInputChange _ _ _ _ | .discrepancy _ _ | .restartPress _ _ _ | .restartWrite _ _
  | .sectorPulse _ _ | .positionFrame _ _ | .sectorDisagree _ | .sectorHold _ | .channelSilence _ | .safClockFail
  | .testSlot | .testPulseEnd _ | .switchFault _ | .testOverdue _ | .safetyBlockTransfer | .startChecksDone _ _ _
  | .safetyBlockWrite _ _ _ _ | .confirm _ _ | .safetyReport _ _ | .aoaRead _ _ _ | .aoaWrite _ _ _ _
  | .aoaReadSegment _ _ _ _ _ | .aoaWriteSegment _ _ _ _ _ _ | .aoaInformation _ _ _ | .aoaClose _ | .cycleMessage _
  | .relinquishMessage _ | .dmaDescriptorComplete _ _ | .parameterWrite _ _ _ _ | .sdoDownload _ _ _ _ _
  | .sdoBlockDownload _ _ _ _ _ _ | .authorisationKeyWrite _ _ | .heartbeatEdge _ _ | .crossBarrierLinkReturn _
  | .checkValuePlaced _ => false
  | _ => true

/-- The command of each mode, by the mode's number. -/
def modeCmd (n : Fin 12) (src : CmdSource) : Instr :=
  match n with
  | 0 => .modeCommandDormant src | 1 => .modeCommandCommissioning src | 2 => .modeCommandStandby src
  | 3 => .modeCommandManualLever src | 4 => .modeCommandJoystick src | 5 => .modeCommandJoystickAutoHeading src
  | 6 => .modeCommandAutoPosition src | 7 => .modeCommandAutoTrack src | 8 => .modeCommandFollowTarget src
  | 9 => .modeCommandWeathervane src | 10 => .modeCommandCloseHold src | 11 => .modeCommandWinter src

/-- The pairs of the transition table that a command may use (R74), as the table lists them. -/
def commandPairs : List (Nat × List Nat) :=
  [(0, [2]), (1, [2]), (2, [0, 1, 3, 4, 5, 6, 7, 8, 9, 10, 11]), (3, [2, 4, 5, 6, 7, 8, 9, 10]),
    (4, [2, 3, 5, 6, 7, 8, 9, 10]), (5, [2, 3, 4, 6, 7, 8, 9, 10]), (6, [2, 3, 4, 5, 7, 8, 9, 10]), (7, [4, 5, 6]),
    (8, [6]), (9, [6]), (10, [6]), (11, [1, 2, 3, 4, 5, 6, 7, 8, 9, 10])]

/-- A panel command to mode n that the transition table takes (R67, R74, R78): from the input assigned to the mode, with role,
pair and condition met. -/
def panelTakes (n : Fin 12) (di : Fin 32) (p : P1) : Prop :=
  p.serves = true ∧ springing p = false ∧ (p.role = 2 ∨ (p.role = 0 ∧ (n.val ≤ 2 ∨ n.val = 11))) ∧ p.mode ≠ 11
    ∧ (commandPairs.any fun e => e.1 = n.val && e.2.contains p.mode) = true ∧ p.rdN (ob 0x2101 (n + 1)) = di.val ∧ conditionReason p.mode n false p = 0

/-- A command of session w to mode n that the transition table takes; Dormant is not left over a service port (R74). -/
def sessionTakes (n : Fin 12) (w : Nat) (p : P1) : Prop :=
  p.serves = true ∧ springing p = false ∧ (p.role = 2 ∨ (p.role = 0 ∧ (n.val ≤ 2 ∨ n.val = 11))) ∧ p.mode ≠ 11
    ∧ (commandPairs.any fun e => e.1 = n.val && e.2.contains p.mode) = true ∧ accepted w (ob 0x2100 1) (.num n.val) p
    ∧ conditionReason p.mode n (authorised w p && w ≠ 0) p = 0 ∧ (p.mode = 0 → overService w p = false)

/-- The state after an accepted panel command to mode n: the transition, recorded under 0200h + n, and the power it switches. -/
def entered (n : Fin 12) (s : State) : State := s.core (switchPower s.p1.mode (transition false n (0x0200 + n) s.p1))

/-- The state after an accepted command of session w: also forwarded and answered. -/
def enteredFor (n : Fin 12) (w : Nat) (s : State) : State :=
  s.core (switchPower s.p1.mode
    (answer w (ob 0x2100 1) 0 (forward w (ob 0x2100 1) (.num n.val) (transition false n (0x0200 + n) s.p1))))

/-- A datagram of sensor port `p` is offered to each slot that it matches, in ascending slot number (R101, R430). -/
def offered (p : Fin 4) (q : Fin 3) (hits : List (Fin 64)) (b : List Byte) (s : P1) : P1 :=
  hits.foldl (fun t i =>
    let u := republish i (.udpPayload p b) t
    if slotTakes i false u then slotPayload i u.ns b u else u) (sensorTake p q s)

/-- A datagram that finds its receive queue full counts there and in each slot that it is for (R50, R430). -/
def turnedAway (p : Fin 4) (hits : List (Fin 64)) (s : P1) : P1 :=
  hits.foldl (fun t i => if slotTakes i false t then formatError i 10 t else t) (s.inc (ob (0x5930 + p) 0x0C))

/-- The filter channel of an analog input. -/
def chanOf (n : Fin 16) : Fin 32 := ⟨n.val, by omega⟩

/-- A DP port that works and has a link takes frames. -/
def portWorks (p : DpPort) (s : P1) : Bool := dpOn (dpIdx p) s && pktOn s && s.bit kNet (dpIdx p)

/-- A request that is the next one of an open session, on an interface that takes requests and has room for it; `p` is P1 once
the interface has admitted it (R434). -/
def nextRequest (h : AoaHead) (x : Session) (p : P1) (s : State) : Prop :=
  s.p1.serves = true ∧ ifaceUp h.iface s.p1 = true ∧ admitAoa h.iface s.p1 = some p ∧ h.session ≠ 0 ∧ h.session ≤ 16
    ∧ session? h.session p = some x ∧ h.seq % 65536 = (x.seq + 1) % 65536 ∧ inProgress x.no p = false

/-- The recorder may start a commit: its sequencer and DMA channel 0 work, and the last release of the cycle is past (R26, R500). -/
def mayCommit (s : P1) : Bool := !s.stopped recorderAddr && !s.stopped (dmaAddr 0) && !s.alc.opened

/-- A step runs the command at the front of the queue on the state with the queue's rest (the block's interface). -/
def Obligations.StepRunsFrontCommand : Prop :=
  ∀ (s : State) (c : Instr) (r : List Instr), s.pending = c :: r → step s = exec c { s with pending := r }

/-- One grain passes on an empty queue. That time passes here is the model's choice (assumption 2); a grain is 1 µs (R10, R13, R15). -/
def Obligations.EmptyQueuePassesOneGrain : Prop :=
  ∀ s : State, s.pending = [] → s.p1.phase ≠ .off → s.p1.asleep = [] →
    ∃ t, step s = .next t ∧ t.p1.ns = (s.p1.ns / 1000 + 1) * 1000 % 2 ^ 64 ∧ t.p1.elapsed = s.p1.elapsed + 1
      ∧ t.p2 = closeSlot { s.p2 with clock := s.p2.clock + 1 } ∧ t.p3 = tickField s.p3 ∧ t.pending = []

/-- No command stops the block. -/
def Obligations.EveryCommandAnswersNext : Prop :=
  ∀ (c : Instr) (s : State), ∃ t, exec c s = .next t

/-- A command acts on everything but the queue. -/
def Obligations.CommandsKeepQueue : Prop :=
  ∀ (c : Instr) (s t : State), exec c s = .next t → t.pending = s.pending

/-- Isolation of the packages (R46, R61): a core command changes neither P2 nor P3. -/
def Obligations.CoreCommandsLeaveOtherPackages : Prop :=
  ∀ (c : Instr) (s t : State), coreCommand c = true → exec c s = .next t → t.p2 = s.p2 ∧ t.p3 = s.p3

/-- R393 as an invariant of every step: a closed switch has its grounds. -/
def Obligations.ClosedSwitchesKeepTheirGrounds : Prop :=
  ∀ s t : State, switchesSafe s → step s = .next t → switchesSafe t

/-- P2 after reset (R410, R393). -/
def Obligations.ResetHasNoClosedSwitch : Prop :=
  switchesSafe State.reset ∧ ∀ g : Fin 4,
    State.reset.p2.saf.closed[g] = false ∧ State.reset.p2.win.closed[g] = false
      ∧ State.reset.p2.saf.await[g] = true ∧ State.reset.p2.win.await[g] = true
      ∧ State.reset.p2.confirmed = false ∧ State.reset.p2.startDone = false

/-- R538: the first test that fails decides. -/
def Obligations.RequestTestsInOrder : Prop :=
  ∀ (w k : Nat) (x : Val) (r : Rule P1) (p : P1),
    verdict w k x r p = (((requestTests w k x r p).find? fun e => e.1).map fun e => e.2).getD 0

/-- A refused write of an object leaves every cell (R538). -/
def Obligations.RefusedWriteChangesNoCell : Prop :=
  ∀ (w k : Nat) (x : Val) (f : P1 → P1) (s : State), s.p1.serves = true → odWf s.p1.od = true →
    verdict w k x (effRule f) s.p1 ≠ 0 →
    ∃ t, onReq w k x (effRule f) s = .next t ∧ sameCells answerCell s.p1 t.p1 ∧ t.p2 = s.p2 ∧ t.p3 = s.p3
      ∧ ∀ j, j % 256 ≠ 0x18 → t.p1.octets j = s.p1.octets j

/-- Reads after writes of the object map, and its canonical form. -/
def Obligations.CellReadsBackWhatWasWritten : Prop :=
  ∀ (p : P1) (k j : Nat) (v : Int), odWf p.od = true →
    (p.wr k v).rd k = v ∧ (j ≠ k → (p.wr k v).rd j = p.rd j) ∧ odWf (p.wr k v).od = true

/-- The frame of an answer. -/
def Obligations.AnswersTouchOnlyTheirCounters : Prop :=
  ∀ (w k a : Nat) (p : P1), odWf p.od = true →
    sameCells answerCell p (answer w k a p) ∧ odWf (answer w k a p).od = true ∧ (answer w k a p).phase = p.phase
      ∧ (answer w k a p).ns = p.ns ∧ (answer w k a p).alarms = p.alarms ∧ (answer w k a p).faults = p.faults
      ∧ (answer w k a p).dma = p.dma ∧ (answer w k a p).free = p.free

/-- The frame of forwarding (R468). -/
def Obligations.ForwardingTouchesNoCell : Prop :=
  ∀ (w k : Nat) (x : Val) (p : P1),
    (∃ l, forward w k x p = { p with red := { p.red with forward := p.red.forward ++ l } })
      ∧ (p.setSize = 1 ∨ p.role ≠ 2 → forward w k x p = p)

/-- Writes of the clock chapter (R19, R32, R35, R36, R38). -/
def Obligations.ClockWritesTakeEffect : Prop :=
  ∀ (s : State) (w : Nat) (v : Int), s.p1.serves = true →
    (accepted w (ob 0x2000 1) (.num v) s.p1 →
      exec (.stationCycleWrite w v) s = .next (written w (ob 0x2000 1) (.num v)
        (fun p => ({ p with cyclePending := some (v.toNat, p.elapsed) }.wr (ob 0x2000 1) v).setBit kClock 5 true) s))
    ∧ (accepted w (ob 0x2300 2) (.num v) s.p1 →
      exec (.snapLockWrite w v) s = .next (written w (ob 0x2300 2) (.num v) (fun p => p.wr (ob 0x2300 2) v) s))
    ∧ (accepted w (ob 0x2300 0x0D) (.num v) s.p1 →
      exec (.clearRefusedCount w v) s = .next (written w (ob 0x2300 0x0D) (.num v) (fun p => p.wr (ob 0x2300 6) 0) s))
    ∧ (accepted w (ob 0x2001 5) (.num v) s.p1 →
      exec (.clearCycleStatistics w v) s = .next (written w (ob 0x2001 5) (.num v)
        (fun p => (((((p.wr (ob 0x2001 1) 0).wr (ob 0x2001 2) 0).wr (ob 0x2001 3) 0).wr (ob 0x2001 4) 0).wr
          (ob 0x2001 6) 0)) s))
    ∧ (accepted w (ob 0x2300 0x0A) (.num v) s.p1 → v = 0 ∨ (s.p1.ns / 1000 + 1) * 1000 ≤ v →
      exec (.snapTimeWrite w v) s = .next (written w (ob 0x2300 0x0A) (.num v) (fun p => p.wr (ob 0x2300 0x0A) v) s))
    ∧ (accepted w (ob 0x2300 0x0A) (.num v) s.p1 → v ≠ 0 → (s.p1.ns / 1000 : Nat) * 1000 ≤ v →
      v < ((s.p1.ns / 1000 + 1) * 1000 : Nat) →
      exec (.snapTimeWrite w v) s = .next (written w (ob 0x2300 0x0A) (.num v)
        (fun p => let t := p.wr (ob 0x2300 0x0A) v
          { t with snapDue := t.snapDue ++ [3] }) s))
    ∧ (accepted w (ob 0x2300 1) (.num v) s.p1 → snapRefused s.p1 = false →
      exec (.snapTriggerWrite w v) s = .next (written w (ob 0x2300 1) (.num v) (snapTrigger 0) s))

/-- Events of the clock chapter (R12, R19, R30–R37). -/
def Obligations.CycleAndSnapshotEvents : Prop :=
  ∀ s : State, s.p1.up = true →
    (∀ c g, c < 4 → s.p1.cyclePending = some (c, g) → g < s.p1.elapsed → s.p1.grainIndex % 20000 = 0 →
      exec .cycleChangeEffect s = .next (s.core (({ s.p1 with cyclePending := none }.wr (ob 0x2000 2)
        (([2500, 5000, 10000, 20000] : List Int).getD c 0)).setBit kClock 5 false)))
    ∧ (s.p1.cyclePending = none ∨ s.p1.grainIndex % 20000 ≠ 0 → exec .cycleChangeEffect s = .next s)
    ∧ (s.p1.rd (ob 0x2300 0x0A) ≠ 0 → s.p1.rdN (ob 0x2300 0x0A) < (s.p1.ns / 1000 + 1) * 1000 →
      exec .snapProgrammedTime s = .next (s.core (snapTrigger 3 (s.p1.wr (ob 0x2300 0x0A) 0))))
    ∧ (s.p1.rd (ob 0x2300 0x0A) = 0 → exec .snapProgrammedTime s = .next s)
    ∧ exec .pllLockHeld s = .next (s.core (s.p1.setBits kClock [(0, true), (1, true)]))
    ∧ (∀ src, odWf s.p1.od = true → snapRefused s.p1 = false → s.p1.snapGrain ≠ some s.p1.elapsed →
      (snapTrigger src s.p1).rd (ob 0x2300 3) =
          (if s.p1.rdN (ob 0x2300 3) = 0xFFFFFFFF then 1 else s.p1.rdN (ob 0x2300 3) + 1 : Nat)
        ∧ (snapTrigger src s.p1).rd (ob 0x2300 4) = (s.p1.ns / 1000 * 1000 % 2 ^ 32 : Nat)
        ∧ (snapTrigger src s.p1).rd (ob 0x2300 5) = 2 ^ src
        ∧ (snapTrigger src s.p1).rd (ob 0x2300 0x0B) = (s.p1.ns / 1000 * 1000 : Nat)
        ∧ (snapTrigger src s.p1).octets (ob 0x2300 0x0C) =
            snapContent ((snapTrigger src s.p1).rdN (ob 0x2300 3)) (s.p1.ns / 1000 * 1000) (2 ^ src) (unitEntries s.p1)
        ∧ sameCells (fun k => k = ob 0x2300 3 || k = ob 0x2300 4 || k = ob 0x2300 5 || k = ob 0x2300 0x0B) s.p1
            (snapTrigger src s.p1))

/-- R35: the lock. -/
def Obligations.LockedSnapshotRefusesTriggers : Prop :=
  ∀ (s : State) (w : Nat) (src : Nat), s.p1.serves = true → s.p1.rd (ob 0x2300 2) = 1 → s.p1.rd (ob 0x2300 3) ≠ 0 →
    snapTrigger src s.p1 = s.p1.wr (ob 0x2300 6) (satAdd 0xFFFFFFFF (s.p1.rd (ob 0x2300 6)) 1)
    ∧ (accepted w (ob 0x2300 1) (.num 1) s.p1 →
      exec (.snapTriggerWrite w 1) s = .next (s.core (answer w (ob 0x2300 1) abBusy (s.p1.wr (ob 0x2300 6) (satAdd 0xFFFFFFFF (s.p1.rd (ob 0x2300 6)) 1)))))

/-- The order of a station cycle (R20–R25), and its overrun. -/
def Obligations.StationCycleRunsItsStages : Prop :=
  ∀ s : State, s.p1.up = true →
    (s.p1.mode = 0 ∨ s.p1.grainIndex % s.p1.cycleLen ≠ 0 → exec .stationCycleStart s = .next s)
    ∧ (∀ p, s.p1.mode ≠ 0 → s.p1.grainIndex % s.p1.cycleLen = 0 → timeStep (overrunWork s.p1) = (p, false) →
      ∃ u : State, u = takeStaged { s with
          p1 := { p with time := { p.time with broken := false }, alc := { p.alc with latch := p.ns } } }
        ∧ exec .stationCycleStart s = .next { u with p1 :=
          (let a := assignCycle (adoptFit (adoptAlign (adoptMounts (adoptNext (suspendCommit (servoTick (latchGains u.p1)))))))
           let c := judgeCycle (eachThr judgeMismatch (judgeAvailability (governDue (sendReferences (beginSet a)))))
           let d := { c with alc := { c.alc with opened := true } }
           if vacancyHere c then c else if d.role = 2 && allocating d.lawMode then allocWork d else idleWork d) })
    ∧ (s.p1.alc.opened = false ∨ s.p1.ns < s.p1.alc.latch + 900000 → exec .releaseOverrun s = .next s)
    ∧ (∀ u, s.p1.alc.opened = true → s.p1.alc.latch + 900000 ≤ s.p1.ns →
      u = setRed (fun r => { r with overrun := true }) (sampleRelease (raise 0x0012 0 (record 0x0012 0
          ({ s.p1 with alc := { s.p1.alc with due := false, queue := [], opened := false }
                       overrunRun := s.p1.overrunRun + 1 }.inc (ob 0x2001 3))))) →
      (s.p1.overrunRun < 2 → exec .releaseOverrun s = .next (s.core (afterRelease u)))
      ∧ (2 ≤ s.p1.overrunRun → exec .releaseOverrun s = .next (s.core (afterRelease (moduleFault u)))))
    ∧ (vacancyHere s.p1 = true →
      exec .vacancy s = .next (s.core (cycleWork (sendReferences (takeVacancy s.p1)))))
    ∧ (vacancyHere s.p1 = false → exec .vacancy s = .next s)

/-- The servo tick (R27) and the propagation (R28). -/
def Obligations.ServoTickRunsSpeedsGeneratorsLoops : Prop :=
  ∀ s : State, s.p1.up = true →
    (∀ t, s.p1.grainIndex % 250 = 0 → s.p1.ctl.tickAt ≠ some s.p1.elapsed →
      t = (List.finRange 8).foldl (fun u (a : Fin 8) => tickSpeed a u)
        { s.p1 with ctl := { s.p1.ctl with tickAt := some s.p1.elapsed } } →
      (t.mode ≠ 0 → t.stopped (ctlAddr 1) = false →
        exec .servoTick s = .next { s with p1 :=
          ((List.finRange 32).foldl (fun u (l : Fin 32) => servoLoop l u) (trackTick (gensTick t))).drawN 32 })
      ∧ ((t.mode = 0 ∨ t.stopped (ctlAddr 1) = true) → exec .servoTick s = .next (s.core (t))))
    ∧ (s.p1.grainIndex % 250 ≠ 0 ∨ s.p1.ctl.tickAt = some s.p1.elapsed → exec .servoTick s = .next s)
    ∧ (s.p1.grainIndex % 1000 = 0 → exec .inertialPropagation s = .next (s.core (propagateTo s.p1)))
    ∧ (s.p1.grainIndex % 1000 ≠ 0 → exec .inertialPropagation s = .next s)
    ∧ (∀ (l : Fin 32) (p : P1), p.rd (loopKey l 1) = 0 → servoLoop l p = setLoop l ⟨0, 0, false⟩ p)
    ∧ (∀ (l : Fin 32) (p : P1), p.rd (loopKey l 1) ≠ 0 → loopFed l p = false → 16 ≤ p.rdN (loopKey l 5) →
      (p.ctl.loops[l]).forced = false → servoLoop l p = record 0x0405 l.val (setLoop l ⟨0, 0, true⟩ p))

/-- R65. -/
def Obligations.UnnamedUnitIsRefused : Prop :=
  ∀ (s : State) (w : Nat) (a : Word32), s.p1.serves = true → odWf s.p1.od = true →
    accepted w (ob 0x2200 7) (.num a.toNat) s.p1 →
    (unitOf a.toNat = none →
      ∃ t, exec (.readStatusWordSelect w a) s = .next t ∧ t.p1 = answer w (ob 0x2200 7) abRange s.p1
        ∧ t.p1.rd (ob 0x2200 7) = s.p1.rd (ob 0x2200 7) ∧ t.p2 = s.p2 ∧ t.p3 = s.p3)
    ∧ ((unitOf a.toNat).isSome = true →
      exec (.readStatusWordSelect w a) s =
        .next (written w (ob 0x2200 7) (.num a.toNat) (fun p => p.wr (ob 0x2200 7) a.toNat) s))

/-- Faults (R55, R57, R62, R63, R581). -/
def Obligations.FaultsAreReportedOnceAtTheirBlock : Prop :=
  ∀ s : State, s.p1.phase = .run →
    (∀ a : Word32, a.toNat / 2 ^ 30 % 4 = 1 → s.p1.stopped (blockOf a.toNat) = false →
      exec (.blockFault a) s = .next (s.core (judgeRelinquish (stopUnits a.toNat (addFault a.toNat s.p1))))
        ∧ (addFault a.toNat s.p1).stopped (blockOf a.toNat) = true
        ∧ (contained a.toNat s.p1 = true → (addFault a.toNat s.p1).faults = s.p1.faults
          ∧ (addFault a.toNat s.p1).alarms = s.p1.alarms))
    ∧ (∀ a : Word32, a.toNat / 2 ^ 30 % 4 = 1 → s.p1.stopped (blockOf a.toNat) = true → contained a.toNat s.p1 = true →
      exec (.blockFault a) s = .next (s.core (showBlocks (if levelOf (blockOf a.toNat) = 0 then
        setLastCause (blockOf a.toNat) (causeOf a.toNat) (s.p1.inc (ob 0x2200 6)) else s.p1.inc (ob 0x2200 6)))))
    ∧ (∀ a : Word32, a.toNat / 2 ^ 30 % 4 = 0 → contained a.toNat s.p1 = false →
      exec (.blockFault a) s = .next (s.core (judgeRelinquish (addFault a.toNat s.p1))))
    ∧ (∀ a : Word32, a.toNat / 2 ^ 30 % 4 = 0 → contained a.toNat s.p1 = true →
      exec (.blockFault a) s = .next (s.core (showBlocks (s.p1.inc (ob 0x2200 6)))))
    ∧ (∀ t, t = onP2 (fun p => { p with powered := false, link := false }) s → t.p1.phase = .run →
      exec (.fieldLogicPowerFail .p2) s = .next (coreLinkDown { t with p1 := addFault 0xBFFFFC09 t.p1 }))
    ∧ (∀ t, t = syncField { s with p3 := { s.p3 with powered := false } } → t.p1.phase = .run →
      exec (.fieldLogicPowerFail .p3) s = .next { t with p1 := addFault 0xFFFFFC09 t.p1 })
    ∧ (∀ t, t = onP2 (stopChannel .saf) s → t.p1.phase = .run →
      exec .safClockFail s = .next (coreLinkDown { t with p1 := addFault 0x80000003 t.p1 }))
    ∧ (∀ a : Word32, a.toNat / 2 ^ 30 % 4 = 1 → s.p1.stopped (blockOf a.toNat) = false →
      exec (.wrespLost (.block a)) s =
        .next (s.core (judgeRelinquish (stopUnits (blockOf a.toNat + 5) (addFault (blockOf a.toNat + 5) s.p1)))))
    ∧ (∀ e : Fin 4, exec (.wrespLost (.solverResult e)) s = .next (s.core (judgeRelinquish (withAllEnded (engineFault e 0x102 s.p1)))))

/-- R63: switches open and outputs turn off. -/
def Obligations.PoweredDownPackageOpensEverySwitch : Prop :=
  ∀ s : State, s.p1.phase = .run →
    (∃ t, exec (.fieldLogicPowerFail .p2) s = .next t ∧ t.p2.powered = false
      ∧ ∀ g : Fin 4, t.p2.saf.closed[g] = false ∧ t.p2.win.closed[g] = false)
    ∧ (∃ t, exec (.fieldLogicPowerFail .p3) s = .next t ∧ t.p3.powered = false
      ∧ ∀ n : Fin 16, doCommanded t.p3 n = false ∧ aoCommanded t.p3 n = 0)

/-- Links, halts, temperatures and supplies (R12, R59, R60, R568). -/
def Obligations.LinksHaltsAndSupplies : Prop :=
  ∀ s : State, s.p1.phase = .run →
    (∀ (d : Die) (n g : Nat), s.p1.linkTries[dieIdx d] = (n, g) → s.p1.elapsed ≤ g + 1 → n < 3 →
      exec (.linkCheckFail d) s = .next (s.core ({ s.p1 with linkTries := s.p1.linkTries.set (dieIdx d) (n + 1, s.p1.elapsed) })))
    ∧ (∀ (d : Die) (g : Nat), s.p1.linkTries[dieIdx d] = (3, g) → s.p1.elapsed ≤ g + 1 →
      exec (.linkCheckFail d) s = .next (linkFail d { s with
        p1 := { s.p1 with linkTries := s.p1.linkTries.set (dieIdx d) (0, 0) } }))
    ∧ (s.p1.up = true → ∀ (d : Die) (x : Int), -32767 ≤ x → x ≤ 32767 →
      (dieState d s.p1 = 0 → 1100 ≤ x →
        exec (.dieTemperatureAlarm d x) s = .next (s.core (showDies (raise 0x0015 (dieIdx d).val
          (record 0x0015 (dieIdx d).val (s.p1.wr (ob 0x2201 (dieSub d)) x))))))
      ∧ (dieState d s.p1 = 0 → x < 1100 →
        exec (.dieTemperatureAlarm d x) s = .next (s.core (showDies (s.p1.wr (ob 0x2201 (dieSub d)) x))))
      ∧ (dieState d s.p1 = 1 → x ≤ 1050 →
        exec (.dieTemperatureAlarm d x) s =
          .next (s.core (showDies (lower 0x0015 (dieIdx d).val (s.p1.wr (ob 0x2201 (dieSub d)) x))))))
    ∧ (s.p1.up = true → ∀ (i : SupplyInput) (b : Bool), s.p1.supply[supplyIdx i] ≠ b →
      b = true ∨ s.p1.supply[1 - supplyIdx i] = true →
      exec (.supplyInputChange i b) s = .next (s.core (record 0x0017
        (packDetails [(8, (supplyIdx i).val), (8, if b then 0 else 1)])
          { s.p1 with supply := s.p1.supply.set (supplyIdx i) b })))
    ∧ (s.p1.up = true → ∀ i : SupplyInput, s.p1.supply[supplyIdx i] = true → s.p1.supply[1 - supplyIdx i] = false →
      exec (.supplyInputChange i false) s = .next (s.core { s.p1 with supply := s.p1.supply.set (supplyIdx i) false }))
    ∧ (∀ i : SupplyInput, exec (.supplyInputChange i s.p1.supply[supplyIdx i]) s = .next s)
    ∧ exec .pllUnlock s = .next (s.core (coreFault 0x3FFFFC0B
        { ((s.p1.setField kClock 16 16 (min 0xFFFF (s.p1.field kClock 16 16 + 1))).setBits kClock [(0, false), (1, false)]) with
          pllLost := true }))
    ∧ exec .coreBrownout s = .next (s.core ({ coreFault 0x7FFFFC09 s.p1 with
        phase := .off, supply := Vector.replicate 2 false }))
    ∧ (∀ d : Die, d = .c ∨ d = .t ∨ d = .n →
      exec (.dieHalt d .overtemp) s = .next (s.core (coreFault (dieBlock d + 8) s.p1)))
    ∧ (∀ d : Die, d = .c ∨ d = .n →
      exec (.dieHalt d .powerGoodLost) s = .next (s.core (coreFault (dieBlock d + 7) s.p1)))
    ∧ (∀ p, p = coreFault (dieBlock .t + 7) s.p1 →
      exec (.dieHalt .t .powerGoodLost) s = .next (s.core { p with time := { p.time with broken := true } }))
    ∧ (∀ (d : Die) (t : State), d = .g ∨ d = .w → t = onP2 (guardFault (dieBlock d)) s → t.p1.phase = .run →
      exec (.dieHalt d .overtemp) s = .next (coreLinkDown { t with p1 := addFault (dieBlock d + 8) t.p1 })
      ∧ exec (.dieHalt d .powerGoodLost) s = .next (coreLinkDown { t with p1 := addFault (dieBlock d + 7) t.p1 }))
    ∧ (∀ (d : Die) (t : State), d = .f0 ∨ d = .f1 → t = syncField { s with p3 := fieldFault (dieBlock d) s.p3 } →
      t.p1.phase = .run →
      exec (.dieHalt d .overtemp) s = .next { t with p1 := addFault (dieBlock d + 8) t.p1 }
      ∧ exec (.dieHalt d .powerGoodLost) s = .next { t with p1 := addFault (dieBlock d + 7) t.p1 })
    ∧ (s.p2.powered = true → exec (.crossBarrierLinkReturn .g) s =
        .next (syncGuard { s with p2 := { s.p2 with link := true }, p1 := endLinkFault 0xBFFFFC06 s.p1 }))
    ∧ (∀ p : P1, p = { s.p1 with fldLink := s.p1.fldLink.set (0 : Fin 2) true } → s.p1.fldLink[(1 : Fin 2)] = true →
      exec (.crossBarrierLinkReturn .f0) s = .next (linkBack .f0 { s with
        p3 := { s.p3 with link := s.p3.link.set (0 : Fin 2) true }, p1 := endLinkFault 0xFFFFFC06 p }))
    ∧ (∀ d : Die, d = .c ∨ d = .t ∨ d = .n → exec (.crossBarrierLinkReturn d) s = .next s)

/-- Restart of a block (R58). -/
def Obligations.BlockRestartRunsSelfTest : Prop :=
  ∀ (s : State) (w : Nat) (a : Word32), s.p1.serves = true → accepted w (ob 0x2200 5) (.num a.toNat) s.p1 →
    restartable a.toNat = true → (holdsEngine a.toNat = true → s.p1.mode = 1 ∨ s.p1.mode = 2 ∨ s.p1.mode = 11) →
    (a.toNat / 2 ^ 30 % 4 = 1 →
      exec (.restartBlock w a true) s =
        .next (flushLinks (written w (ob 0x2200 5) (.num a.toNat) (fun p => resumeUnits a.toNat (endFaultsIn a.toNat p)) s))
      ∧ exec (.restartBlock w a false) s =
        .next (flushLinks (written w (ob 0x2200 5) (.num a.toNat) (fun p => coreFault (a.toNat + 0x00A) (endFaultsIn a.toNat p)) s)))
    ∧ (∀ ok, a.toNat / 2 ^ 30 % 4 = 2 → s.p2.link = true → exec (.restartBlock w a ok) s =
        .next (flushLinks (written w (ob 0x2200 5) (.num a.toNat)
          (fun p => { p with linkOut := p.linkOut ++ [.channels a.toNat] }) s)))

/-- Mode commands (R67–R69, R74): all twelve. -/
def Obligations.ModeCommandsFollowTheTable : Prop :=
  ∀ (s : State) (n : Fin 12) (w : Sess) (di : Fin 32), s.p1.serves = true → springing s.p1 = false → s.p1.role = 2 ∨
      (s.p1.role = 0 ∧ (n.val ≤ 2 ∨ n.val = 11)) →
    (∀ l, (n.val, l) ∈ commandPairs → s.p1.mode ∈ l → s.p1.mode ≠ 11 → n.val ≠ 1 → s.p1.rdN (ob 0x2101 (n + 1)) = di.val →
      conditionReason s.p1.mode n false s.p1 = 0 →
      exec (modeCmd n (.panel di)) s = .next (s.core (switchPower s.p1.mode (transition false n (0x0200 + n) s.p1))))
    ∧ (∀ l, (n.val, l) ∈ commandPairs → s.p1.mode ∈ l → s.p1.mode ≠ 11 → accepted w (ob 0x2100 1) (.num n.val) s.p1 →
      conditionReason s.p1.mode n (authorised w s.p1 && w ≠ 0) s.p1 = 0 → (s.p1.mode = 0 → overService w s.p1 = false) →
      exec (modeCmd n (.session w)) s = .next (s.core (switchPower s.p1.mode
        (answer w (ob 0x2100 1) 0 (forward w (ob 0x2100 1) (.num n.val) (transition false n (0x0200 + n) s.p1))))))
    ∧ (s.p1.mode = 11 → n.val = 2 → s.p1.rdN (ob 0x2101 3) = di.val →
      exec (modeCmd n (.panel di)) s = .next (s.core (startSpring s.p1)))
    ∧ (s.p1.mode = n.val → s.p1.rdN (ob 0x2101 (n + 1)) = di.val → exec (modeCmd n (.panel di)) s = .next s)
    ∧ (∀ l, (n.val, l) ∈ commandPairs → s.p1.mode ∉ l → s.p1.mode ≠ n.val → s.p1.mode ≤ 11 →
      s.p1.rdN (ob 0x2101 (n + 1)) = di.val →
      exec (modeCmd n (.panel di)) s = .next (s.core (record (0x0220 + n) 0 (s.p1.wr (ob 0x2100 7) 1))))

/-- The change of mode (R69, R96, R97). -/
def Obligations.AcceptedModeChangeShowsItself : Prop :=
  ∀ (p : P1) (n : Fin 12), odWf p.od = true → p.mode < 256 → p.rd kMode = p.mode →
    (changeMode n p).mode = n ∧ (changeMode n p).rd (ob 0x2100 3) = p.mode
      ∧ (changeMode n p).rd (ob 0x2100 8) = p.stamp
      ∧ (changeMode n p).bit kModeStatus 0 = true ∧ (changeMode n p).field kModeStatus 16 8 = n
      ∧ sameCells (fun k => k = kMode || k = ob 0x2100 3 || k = ob 0x2100 8 || k = kModeStatus || k = ob 0x6000 6
          || k = ob 0x6000 7 || k = ob 0x6000 8) p (changeMode n p)
      ∧ (p.bit kModeStatus 0 = false → (changeMode n p).recorder = p.recorder)
      ∧ (p.bit kModeStatus 0 = true →
          (changeMode n p).recorder = (record (0x0230 + p.field kModeStatus 16 8) 0 p).recorder)

/-- The Spring sequence (R83, R84) and panel inputs (R73). -/
def Obligations.SpringStepsAndPanelInputs : Prop :=
  ∀ s : State,
    (s.p1.up = true → springing s.p1 = true → (s.p1.springStep = 2 ∨ s.p1.springStep = 3) →
      exec (.springStepComplete true) s = .next (s.core ({ s.p1 with springStep := s.p1.springStep + 1 }))
      ∧ exec (.springStepComplete false) s = .next (s.core (springFail s.p1.springStep s.p1)))
    ∧ (∀ ok, s.p1.up = true → springing s.p1 = true → s.p1.springStep = 4 → s.p1.bit kClock 0 = true →
      s.p1.bit kClock 1 = true → exec (.springStepComplete ok) s = .next (s.core { s.p1 with springStep := 5 }))
    ∧ (∀ ok, s.p1.up = true → springing s.p1 = true → s.p1.springStep = 5 → feedbackHealthy s.p1 = true →
      exec (.springStepComplete ok) s = .next (s.core (transition false 2 0x0202
        (record 0x0241 0 (endSpring (clearLaw (requalifyAll s.p1)))))))
    ∧ (∀ ok, springing s.p1 = false → exec (.springStepComplete ok) s = .next s)
    ∧ (∀ (w : Nat) (m : Fin 12) (v : Int), s.p1.serves = true → m.val ≠ 1 → accepted w (ob 0x2101 (m + 1)) (.num v) s.p1 →
      (v = 0xFF ∨ ∀ j : Fin 12, j ≠ m → s.p1.rd (ob 0x2101 (j + 1)) ≠ v) →
      exec (.panelInputAssign w m v) s =
        .next (written w (ob 0x2101 (m + 1)) (.num v) (fun p => p.wr (ob 0x2101 (m + 1)) v) s))

/-- Reset inputs and starts (R85–R95). -/
def Obligations.ResetsAndStarts : Prop :=
  ∀ s : State,
    (∀ (i : ResetInput) (n : Nat) (k : KeptChecks), s.p1.phase ≠ .off → s.p1.stuck[resetIdx i] = false →
      (n < 200000 → exec (.resetInputRelease i n k) s = .next s)
      ∧ (200000 ≤ n → n < 3000000 →
          exec (.resetInputRelease i n k) s = .next (restartModule 1 (timeKept k s.p1) k s))
      ∧ (3000000 ≤ n → n < 10000000 → exec (.resetInputRelease i n k) s = .next (restartModule 2 false keptNothing s))
      ∧ (10000000 ≤ n → exec (.resetInputRelease i n k) s = exec (.resetInputStuck i) s))
    ∧ (s.p1.phase = .off → exec .powerApplied s = .next (restartModule 0 false keptNothing s))
    ∧ (s.p1.phase ≠ .off → exec .powerApplied s = .next s)
    ∧ (∀ o l, s.p1.phase = .cold o → exec (.selfTestComplete l) s = .next (serveAgain l s))
    ∧ (∀ l, s.p1.phase = .spring → exec (.springStartComplete l) s = .next (serveAgain l s))
    ∧ (∀ i : ResetInput, s.p1.phase = .run → s.p1.stuck[resetIdx i] = false →
      exec (.resetInputStuck i) s = .next (s.core (raise 0x0254 0 (record 0x0254 0
        (({ s.p1 with stuck := s.p1.stuck.set (resetIdx i) true } : P1).setBit kModeStatus 4 true)))))
    ∧ (∀ i : ResetInput, s.p1.phase = .run → odWf s.p1.od = true →
      s.p1.stuck[resetIdx i] = true →
      ∃ t, exec (.resetStuckClear i) s = .next t ∧ t.p1.stuck = s.p1.stuck.set (resetIdx i) false
        ∧ t.p1.bit kModeStatus 4 = (t.p1.stuck[(0 : Fin 2)] || t.p1.stuck[(1 : Fin 2)]) ∧ t.p2 = s.p2 ∧ t.p3 = s.p3)

/-- What a reset does to the other packages (R61, R87, R88). -/
def Obligations.ResetsLeaveSwitchesOpenOrUntouched : Prop :=
  ∀ (s : State) (i : ResetInput) (n : Nat) (k : KeptChecks), s.p1.phase ≠ .off → s.p1.stuck[resetIdx i] = false →
    (200000 ≤ n → n < 3000000 →
      ∃ t, exec (.resetInputRelease i n k) s = .next t ∧ t.p2 = s.p2 ∧ t.p3 = s.p3)
    ∧ (3000000 ≤ n → n < 10000000 →
      ∃ t, exec (.resetInputRelease i n k) s = .next t ∧ t.p2.confirmed = false ∧ t.p2.startDone = false
        ∧ t.p2.confirmedValue = s.p2.confirmedValue ∧ t.p2.key = s.p2.key
        ∧ ∀ g : Fin 4, t.p2.saf.closed[g] = false ∧ t.p2.win.closed[g] = false ∧ t.p2.saf.await[g] = true
            ∧ t.p2.win.await[g] = true)

/-- Completion of the mode commands (R67–R69, R74), each by name. -/
def Obligations.EveryModeCommandCompletes : Prop :=
  ∀ (s : State) (w : Sess) (di : Fin 32),
    (panelTakes 0 di s.p1 → exec (.modeCommandDormant (.panel di)) s = .next (entered 0 s))
    ∧ (sessionTakes 0 w s.p1 → exec (.modeCommandDormant (.session w)) s = .next (enteredFor 0 w s))
    ∧ (sessionTakes 1 w s.p1 → exec (.modeCommandCommissioning (.session w)) s = .next (enteredFor 1 w s))
    ∧ (panelTakes 2 di s.p1 → exec (.modeCommandStandby (.panel di)) s = .next (entered 2 s))
    ∧ (sessionTakes 2 w s.p1 → exec (.modeCommandStandby (.session w)) s = .next (enteredFor 2 w s))
    ∧ (panelTakes 3 di s.p1 → exec (.modeCommandManualLever (.panel di)) s = .next (entered 3 s))
    ∧ (sessionTakes 3 w s.p1 → exec (.modeCommandManualLever (.session w)) s = .next (enteredFor 3 w s))
    ∧ (panelTakes 4 di s.p1 → exec (.modeCommandJoystick (.panel di)) s = .next (entered 4 s))
    ∧ (sessionTakes 4 w s.p1 → exec (.modeCommandJoystick (.session w)) s = .next (enteredFor 4 w s))
    ∧ (panelTakes 5 di s.p1 → exec (.modeCommandJoystickAutoHeading (.panel di)) s = .next (entered 5 s))
    ∧ (sessionTakes 5 w s.p1 → exec (.modeCommandJoystickAutoHeading (.session w)) s = .next (enteredFor 5 w s))
    ∧ (panelTakes 6 di s.p1 → exec (.modeCommandAutoPosition (.panel di)) s = .next (entered 6 s))
    ∧ (sessionTakes 6 w s.p1 → exec (.modeCommandAutoPosition (.session w)) s = .next (enteredFor 6 w s))
    ∧ (panelTakes 7 di s.p1 → exec (.modeCommandAutoTrack (.panel di)) s = .next (entered 7 s))
    ∧ (sessionTakes 7 w s.p1 → exec (.modeCommandAutoTrack (.session w)) s = .next (enteredFor 7 w s))
    ∧ (panelTakes 8 di s.p1 → exec (.modeCommandFollowTarget (.panel di)) s = .next (entered 8 s))
    ∧ (sessionTakes 8 w s.p1 → exec (.modeCommandFollowTarget (.session w)) s = .next (enteredFor 8 w s))
    ∧ (panelTakes 9 di s.p1 → exec (.modeCommandWeathervane (.panel di)) s = .next (entered 9 s))
    ∧ (sessionTakes 9 w s.p1 → exec (.modeCommandWeathervane (.session w)) s = .next (enteredFor 9 w s))
    ∧ (panelTakes 10 di s.p1 → exec (.modeCommandCloseHold (.panel di)) s = .next (entered 10 s))
    ∧ (sessionTakes 10 w s.p1 → exec (.modeCommandCloseHold (.session w)) s = .next (enteredFor 10 w s))
    ∧ (panelTakes 11 di s.p1 → exec (.modeCommandWinter (.panel di)) s = .next (entered 11 s))
    ∧ (sessionTakes 11 w s.p1 → exec (.modeCommandWinter (.session w)) s = .next (enteredFor 11 w s))
    ∧ (s.p1.serves = true → s.p1.role = 2 ∨ s.p1.role = 0 → s.p1.mode = 11 →
      (springing s.p1 = false → s.p1.rdN (ob 0x2101 3) = di.val →
        exec (.modeCommandStandby (.panel di)) s = .next (s.core (startSpring s.p1)))
      ∧ (springing s.p1 = false → accepted w (ob 0x2100 1) (.num 2) s.p1 →
        exec (.modeCommandStandby (.session w)) s =
          .next (s.core (answer w (ob 0x2100 1) 0 (forward w (ob 0x2100 1) (.num 2) (startSpring s.p1)))))
      ∧ (springing s.p1 = true → s.p1.rdN (ob 0x2101 12) = di.val →
        exec (.modeCommandWinter (.panel di)) s = .next (s.core (endSpring s.p1))))

/-- Items that arrive for the slots (R105–R118, R430, R446). -/
def Obligations.IntakeEventsReachTheirSlots : Prop :=
  ∀ s : State, s.p1.up = true →
    (∀ (k : Fin 8) b, serialOn k s.p1 = false → exec (.nmeaSentence k b) s = .next s)
    ∧ (∀ (k : Fin 8) b, serialOn k s.p1 = true → s.p1.rd (serKey k 4) = 0 → (tagBlock (nats b)).2.length > 82 →
      exec (.nmeaSentence k b) s = .next (s.core (dropSerial k 2 (heardChars k b.length s.p1))))
    ∧ (∀ (k : Fin 8) b l, serialOn k s.p1 = true → s.p1.rd (serKey k 4) = 0 → (tagBlock (nats b)).2 = l ++ [0x0D, 0x0A] →
      l.length ≤ 80 → ((l.drop 1).any fun c => c < 0x20 || 0x7E < c || c = 0x24 || c = 0x21) = false →
      s.p1.serial[k].spoilt = false → exec (.nmeaSentence k b) s = .next (s.core (eachSlot (fun i v =>
        if onSerial i k 1 v then
          let w := republish i (.sentence k b) v
          if slotTakes i false w then slotSentence i w.ns b w else w
        else v) (if (summed (l.drop 1)).2 then (heardChars k b.length s.p1).incWrap (serKey k 0x0B)
          else (heardChars k b.length s.p1).inc (serKey k 0x0C)))))
    ∧ (∀ (p : Fin 4) port ip b (hits : List (Fin 64)) (q : Fin 3), sensorPortOn p s.p1 = true →
      hits = (List.finRange 64).filter (fun (i : Fin 64) => udpMatches i p port ip s.p1) → hits ≠ [] →
      q = (if hits.any fun i => s.p1.rd (slKey i 6) = 6 then 0 else 1) →
      (sensorRoom p q s.p1 = true →
        exec (.lidarSegment p port ip b) s = .next (s.core (offered p q hits b s.p1))
          ∧ exec (.landmarkPacket p port ip b) s = .next (s.core (offered p q hits b s.p1))
          ∧ exec (.templateFrame (.udp p port ip) b) s = .next (s.core (offered p q hits b s.p1)))
      ∧ (sensorRoom p q s.p1 = false →
        exec (.lidarSegment p port ip b) s = .next (s.core (turnedAway p hits s.p1))
          ∧ exec (.landmarkPacket p port ip b) s = .next (s.core (turnedAway p hits s.p1))
          ∧ exec (.templateFrame (.udp p port ip) b) s = .next (s.core (turnedAway p hits s.p1))))
    ∧ (∀ (p : Fin 4) port ip b, sensorPortOn p s.p1 = true → (∀ i : Fin 64, udpMatches i p port ip s.p1 = false) →
      exec (.lidarSegment p port ip b) s = .next (s.core (s.p1.inc (ob (0x5930 + p) 0x0B)))
        ∧ exec (.landmarkPacket p port ip b) s = .next (s.core (s.p1.inc (ob (0x5930 + p) 0x0B))))
    ∧ (∀ (p : Fin 4) port ip b, sensorPortOn p s.p1 = false →
      exec (.lidarSegment p port ip b) s = .next s ∧ exec (.landmarkPacket p port ip b) s = .next s
        ∧ exec (.templateFrame (.udp p port ip) b) s = .next s)
    ∧ (∀ (c : Fin 4) (id : Nat) (x : Bool) b, sourceOn (.can c id x) s.p1 = true →
      exec (.templateFrame (.can c id x) b) s = .next (s.core (eachSlot (fun i t =>
        if templateMatches i (.can c id x) t then
          let u := republish i (.template (.can c id x) b) t
          if slotTakes i false u then slotTemplateFrame i u.ns b u else u
        else t) s.p1)))
    ∧ (∀ (k : Fin 16) b, s.p1.rd (ob (0x5910 + k) 1) = 1 → dpIp s.p1 = true → b.take 6 = ascii "UdPbC" ++ [0#8] →
      exec (.udpbcDatagram k b) s = .next (s.core (eachSlot (fun i u =>
        if u.rd (slKey i 2) = 3 && u.rd (slKey i 3) = k.val && u.rd (slKey i 6) = 2 then
          let v := republish i (.datagram k b) u
          if slotTakes i false v then slotDatagram i v.ns b v else v
        else u) ((s.p1.inc (ob (0x5910 + k) 4)).add (ob (0x5910 + k) 5)
          ((datagramLines (nats (b.drop 6))).countP fun line => match (tagBlock line).1 with
            | some x => !(summed x).2
            | none => false)))))
    ∧ (∀ (k : Fin 16) b, s.p1.rd (ob (0x5910 + k) 1) = 1 → dpIp s.p1 = true →
      b.take 6 ≠ ascii "UdPbC" ++ [0#8] →
      exec (.udpbcDatagram k b) s = .next (s.core ((s.p1.inc (ob (0x5910 + k) 4)).inc (ob (0x5910 + k) 5))))
    ∧ (∀ (k : Fin 16) b, s.p1.rd (ob (0x5910 + k) 1) = 0 → exec (.udpbcDatagram k b) s = .next s)
    ∧ (∀ (c : Fin 4) pr q b, canHears c s.p1 = true →
      exec (.nmea2000Message c pr q b) s = .next (s.core (eachSlot (fun i t =>
        if pgnMatches i c (identOf pr q) t && slotTakes i false t then slotPgn i t.ns (pgnOf (identOf pr q)) b t else t)
          (if fastPgn (pgnOf (identOf pr q)) then s.p1 else republishPgn c (identOf pr q) b s.p1))))
    ∧ (∀ (c : Fin 4) pgn src f, s.p1.can[c].fast.find? (fun f => f.pgn = pgn && f.source = src) = some f →
      (750000 ≤ s.p1.elapsed - f.since →
        exec (.fastPacketTimeout c pgn src) s = .next (s.core (dropFast none c f.ident s.p1)))
      ∧ (s.p1.elapsed - f.since < 750000 → exec (.fastPacketTimeout c pgn src) s = .next s))
    ∧ (∀ (i : Fin 64) f, s.p1.slots[i].frame = some f → 2 * s.p1.rdN (slKey i 0x0A) ≤ s.p1.elapsed - f.first →
      exec (.lidarFrameTimeout i) s = .next (s.core (closeFrame i s.p1)))
    ∧ (∀ i : Fin 64, exec (.timeModelBlockEnd i) s = .next (s.core (closeBlock i s.p1.ns s.p1)))

/-- Serial line errors (R448–R450). -/
def Obligations.SerialLineErrorsAreCounted : Prop :=
  ∀ (s : State) (k : Fin 8), s.p1.up = true →
    (serialOn k s.p1 = true →
      exec (.serialOverrun k) s = .next (s.core (s.p1.inc (serKey k 0x0A)))
      ∧ (∃ t, exec (.serialCharacterError k .framing) s = .next t ∧ (t.p1.serial[k]).spoilt = true
          ∧ t.p1.od = (s.p1.inc (serKey k 8)).od)
      ∧ (∃ t, exec (.serialCharacterError k .parity) s = .next t ∧ (t.p1.serial[k]).spoilt = true
          ∧ t.p1.od = (s.p1.inc (serKey k 9)).od)
      ∧ (∃ t, exec (.serialBreak k) s = .next t ∧ (t.p1.serial[k]).inBreak = true
          ∧ t.p1.od = (s.p1.inc (serKey k 0x0D)).od)
      ∧ (s.p1.rd (serKey k 4) = 0 →
          exec (.sentenceSyntaxDiscard k) s = .next (s.core (dropSerial k 2 s.p1)) ∧ exec (.templateFrameGap k) s = .next s)
      ∧ (s.p1.rd (serKey k 4) = 1 →
          exec (.templateFrameGap k) s = .next (s.core (dropSerial k 2 s.p1)) ∧ exec (.sentenceSyntaxDiscard k) s = .next s))
    ∧ (serialOn k s.p1 = false → ∀ c ∈ [Instr.serialOverrun k, .serialCharacterError k .framing, .serialBreak k,
        .sentenceSyntaxDiscard k, .templateFrameGap k], exec c s = .next s)
    ∧ (∀ w v, s.p1.serves = true → accepted w (serKey k 0x0E) (.num v) s.p1 →
      exec (.serialClearCounters w k v) s = .next (written w (serKey k 0x0E) (.num v)
        (fun p => (List.range 6).foldl (fun t i => t.wr (serKey k (8 + i)) 0) p) s))

/-- Writes of the intake chapter (R100, R125, R128, R129, R451). -/
def Obligations.SlotMountAndModelWrites : Prop :=
  ∀ (s : State) (w : Nat), s.p1.serves = true →
    (∀ (i : Fin 64) v, accepted w (slKey i 1) (.num v) s.p1 → (v = 1 → configOk i s.p1 = true) → s.p1.rd (slKey i 1) = v →
      exec (.slotEnable w i v) s = .next (written w (slKey i 1) (.num v) id s))
    ∧ (∀ i : Fin 64, accepted w (slKey i 1) (.num 1) s.p1 → configOk i s.p1 = true → s.p1.rd (slKey i 1) = 0 →
      exec (.slotEnable w i 1) s = .next (written w (slKey i 1) (.num 1) (fun p => refreshSlot i
        ((((setSlot i (fun x => { SlotState.reset with since := s.p1.elapsed, date := x.date }) (p.wr (slKey i 1) 1)).setField
          (slKey i 0x14) 16 16 1).setBits (slKey i 0x14) [(bTimeUnaligned, false), (bModelPending, s.p1.rd (slKey i 9) = 4),
          (bUntagged, false)]).wrs [(slKey i 0x1C, 0), (slKey i 0x1D, 0)])) s))
    ∧ (∀ i : Fin 64, accepted w (slKey i 1) (.num 0) s.p1 → s.p1.rd (slKey i 1) = 1 →
      exec (.slotEnable w i 0) s = .next (written w (slKey i 1) (.num 0)
        (fun p => refreshSlot i (setSlot i (fun x => { x with since := s.p1.elapsed }) (p.wr (slKey i 1) 0))) s))
    ∧ (∀ i : Fin 64, accepted w (slKey i 1) (.num 1) s.p1 → configOk i s.p1 = false →
      exec (.slotEnable w i 1) s = .next (s.core (answer w (slKey i 1) abRange s.p1)))
    ∧ (∀ (e : Fin 80) (k : Fin 6) v, accepted w (mtKey e (1 + k)) (.num v) s.p1 →
      exec (.mountCommissionedWrite w e k v) s = .next (written w (mtKey e (1 + k)) (.num v)
        (fun p => refineAnew e (p.wr (mtKey e (1 + k)) v)) s))
    ∧ (∀ (e : Fin 80) v, accepted w (mtKey e 0x10) (.num v) s.p1 → s.p1.rd (mtKey e 0x0D) = 1 →
      exec (.acceptRefined w e v) s = .next (written w (mtKey e 0x10) (.num v) (fun p => record 0x0301 e.val
        { p.inc (mtKey e 0x11) with fus := { p.fus with accepts := p.fus.accepts ++ [e.val] } }) s))
    ∧ (∀ (e : Fin 80) v, accepted w (mtKey e 0x10) (.num v) s.p1 → s.p1.rd (mtKey e 0x0D) ≠ 1 →
      exec (.acceptRefined w e v) s = .next (s.core (answer w (mtKey e 0x10) abRange s.p1)))
    ∧ (∀ b, accepted w (ob 0x3400 1) (.bytes b) s.p1 → modelOk b 0x5344 256 64 2 = true →
      nextBusy (ob 0x3400 1) s.p1 = false → exec (.structureModelWrite w b) s =
        .next (written w (ob 0x3400 1) (.bytes b) (submitNext (ob 0x3400 1) b) s))
    ∧ (∀ b, accepted w (ob 0x3500 1) (.bytes b) s.p1 → modelOk b 0x4D54 1024 32 0 = true →
      nextBusy (ob 0x3500 1) s.p1 = false → exec (.markerTableWrite w b) s =
        .next (written w (ob 0x3500 1) (.bytes b) (submitNext (ob 0x3500 1) b) s))
    ∧ (∀ b, accepted w (ob 0x3500 1) (.bytes b) s.p1 → modelOk b 0x4D54 1024 32 0 = false →
      exec (.markerTableWrite w b) s = .next (s.core (answer w (ob 0x3500 1) abRange s.p1)))
    ∧ (∀ (t : Fin 16) b, accepted w (ob (0x5780 + t) 1) (.bytes b) s.p1 → templateOk t b = true →
      nextBusy (ob (0x5780 + t) 1) s.p1 = false → exec (.templateWrite w t b) s =
        .next (written w (ob (0x5780 + t) 1) (.bytes b) (submitNext (ob (0x5780 + t) 1) b) s))
    ∧ (∀ (i : Fin 64) v, accepted w (slKey i 0x1F) (.num v) s.p1 →
      exec (.slotClearCounters w i v) s = .next (written w (slKey i 0x1F) (.num v)
        (fun p => (List.range 5).foldl (fun t j => t.wr (slKey i (0x15 + j)) 0) p) s))

/-- Events and writes of the fusion chapter (R143, R153–R165). -/
def Obligations.GradeAndDisputeEvents : Prop :=
  ∀ s : State, s.p1.up = true → s.p1.serves = true → atCycle s.p1 = true → decides s.p1 = true → s.p1.mode ≠ 0 →
    (∀ d, (vote .pos s.p1).dispute = some d → disputeSpan .pos s.p1 ≤ s.p1.elapsed - d.start →
      selectionPending d s.p1 = false → exec .disputeLimit s = .next (s.core (endDispute .pos (some 0x0318)
        ((disputed d s.p1).foldl (fun t i => leaveSlot i 3 4 t) s.p1))))
    ∧ (∀ d, (vote .hdg s.p1).dispute = some d → disputeSpan .hdg s.p1 ≤ s.p1.elapsed - d.start →
      selectionPending d s.p1 = false → exec .headingDisputeLimit s = .next (s.core (endDispute .hdg (some 0x0318)
        ((disputed d s.p1).foldl (fun t i => leaveSlot i 3 4 t) s.p1))))
    ∧ ((vote .pos s.p1).dispute = none → exec .disputeLimit s = .next s)
    ∧ ((vote .hdg s.p1).dispute = none → exec .headingDisputeLimit s = .next s)
    ∧ (∀ w v, accepted w (ob 0x3000 0x0C) (.num v) s.p1 → inDispute v.toNat s.p1 = true →
      exec (.disputeSelection w v) s = .next (written w (ob 0x3000 0x0C) (.num v)
        (setFus fun f => { f with selection := some v.toNat }) s))
    ∧ (∀ w v, accepted w (ob 0x3000 0x0C) (.num v) s.p1 → inDispute v.toNat s.p1 = false →
      exec (.disputeSelection w v) s = .next (s.core (answer w (ob 0x3000 0x0C) abRange s.p1)))
    ∧ (∀ w v o j, accepted w (ob 0x3000 0x0D) (.num v) s.p1 → fuState (slotNo v.toNat) s.p1 ≠ 4 →
      (counts (slotNo v.toNat) s.p1 = false ∨ (countGroups .pos s.p1).length ≠ 1) → s.p1.slots[slotNo v.toNat].origin = some o →
      s.p1.slots[slotNo v.toNat].pos = some j →
      exec (.recaptureOrigin w v) s = .next (written w (ob 0x3000 0x0D) (.num v) (fun p =>
        record 0x031B (slotNo v.toNat).val (setSlot (slotNo v.toNat) (fun x => { x with
          origin := some (o.1 + (p.fus.x[0]).getD 0 - j.n, o.2 + (p.fus.x[1]).getD 0 - j.e) }) p)) s))
    ∧ (∀ x, dueUpgrade s.p1 = some x →
      exec .upgradeTime s = .next (s.core (judgeGrade (showPendingUpgrade (holdTimer (changeGrade x s.p1))))))
    ∧ (dueUpgrade s.p1 = none → exec .upgradeTime s = .next s)
    ∧ (s.p1.fus.hold.isSome = true → holdReached s.p1 = true → (reachHold s.p1).grade = 4 →
      exec .holdLimit s = .next (s.core (judgeGrade (showPendingUpgrade (holdTimer
        (changeGrade 5 ((reachHold s.p1).wr (ob 0x3300 2) 5)))))))
    ∧ (s.p1.fus.hold = none → exec .holdLimit s = .next s)
    ∧ (∀ u : State, atCycle u.p1 = false → ∀ c ∈ [Instr.disputeLimit, .headingDisputeLimit, .upgradeTime, .holdLimit],
      exec c u = .next u)
    ∧ (∀ (i : Fin 64) g, s.p1.slots[i].trend.clean = some g → s.p1.rdN (ob 0x3010 9) * 1000000 ≤ s.p1.elapsed - g →
      exec (.suspectClearTime i) s = .next (s.core (clearSuspect i s.p1)))
    ∧ (∀ w v, accepted w (ob 0x3010 0x0C) (.num v) s.p1 → exec (.clearSuspect w v) s =
        .next (written w (ob 0x3010 0x0C) (.num v) (clearSuspect (slotNo v.toNat)) s))

/-- The change of a grade (R162, R165). -/
def Obligations.GradeChangeShowsAndAlarms : Prop :=
  ∀ (p : P1) (n : Nat), odWf p.od = true → 1 ≤ n → n ≤ 6 →
    (p.grade = n → changeGrade n p = p)
    ∧ (p.grade ≠ n → (changeGrade n p).grade = n ∧ (changeGrade n p).rd (ob 0x3300 0x12) = p.stamp
      ∧ (changeGrade n p).fus.gradeSince = p.elapsed
      ∧ (3 ≤ n → (changeGrade n p).fus.gradeParam = some (packDetails [(8, p.grade), (8, n)]))
      ∧ (n < 3 → (changeGrade n p).fus.gradeParam = none))

/-- The events of the solver cluster (R172–R206). -/
def Obligations.SolverJobsRunToTheirResults : Prop :=
  ∀ s : State, s.p1.up = true →
    (∀ d j, j = Job.mk d s.p1.elapsed s.p1.stamp (ownInput d.ty s.p1) (deltaNamed d s.p1) none →
      (typeEngine d.ty s.p1).isSome = true →
      (descOk d s.p1 = true → queueFull d.ty s.p1 = false →
        exec (.jobIssue d) s = .next (s.core (enqueueJob j s.p1.draw)))
      ∧ (descOk d s.p1 = false ∨ queueFull d.ty s.p1 = true →
        exec (.jobIssue d) s = .next (s.core (
          let r := reportJob j none (stStale + stRefused) 0 none s.p1.draw
          jobEnded r.2 r.1))))
    ∧ (∀ d, typeEngine d.ty s.p1 = none → exec (.jobIssue d) s = .next (s.core s.p1.draw))
    ∧ (∀ (e : Fin 4) j x, canStart e s.p1 = true → engineTurn e s.p1 = true →
      s.p1.solver.engines[e].next = some (j, x) →
      (startCheck j (serve 0 e.val s.p1) = 0 →
        exec (.jobStart e) s = .next (s.core (beginJob e j x (serve 0 e.val s.p1)))
        ∧ ∃ r, (beginJob e j x (serve 0 e.val s.p1)).solver.engines[e] = { x with run := some r } ∧ r.job = j
          ∧ r.start = s.p1.stamp ∧ (j.desc.warm = false → r.cold = true ∧ r.warmReject = false))
      ∧ (∀ b, b ≠ 0 → startCheck j (serve 0 e.val s.p1) = b →
        exec (.jobStart e) s = .next (s.core (
          let r := reportJob j (some s.p1.stamp) b 0 none (setEng e (fun _ => x) (serve 0 e.val s.p1))
          jobEnded r.2 r.1))))
    ∧ (∀ e : Fin 4, canStart e s.p1 = false → exec (.jobStart e) s = .next s)
    ∧ (∀ (e : Fin 4) r, s.p1.solver.engines[e].run = some r →
      (overdue r.job s.p1 = false →
        exec (.jobComplete e) s = .next (s.core (
          let x := deliverRun e r stDone r.job.desc.iterations s.p1
          jobEnded x.2 x.1))
        ∧ exec (.jobDeadline e .startChecks) s = .next s)
      ∧ (overdue r.job s.p1 = true → exec (.jobComplete e) s = .next s
        ∧ exec (.jobDeadline e .startChecks) s = .next (s.core (withEnded (staleRun e r .nothing 0 s.p1)))
        ∧ (∀ n, n < r.job.desc.iterations →
          exec (.jobDeadline e (.factorisation n)) s = .next (s.core (withEnded (staleRun e r .formed n s.p1))))
        ∧ exec (.jobDeadline e (.solve 0)) s = .next (s.core (withEnded (staleRun e r .factored 0 s.p1)))
        ∧ (∀ n, 0 < n → n < r.job.desc.iterations → ∀ d ∈ [DeadlinePoint.solve n, .assembly n],
          exec (.jobDeadline e d) s = .next (s.core (
            let x := deliverRun e r stTruncated n s.p1
            jobEnded x.2 x.1))))
      ∧ (∀ bit n, (deliverRun e r bit n s.p1).1.solver.engines[e].run = none)
      ∧ (∀ p n, (staleRun e r p n s.p1).1.solver.engines[e].run = none))
    ∧ (∀ (e : Fin 4) n j, s.p1.solver.engines[e].bg[n]? = some j → overdue j s.p1 = true →
      exec (.jobDeadline e (.queuedBackground n)) s = .next (s.core (
        let x := reportJob j none (stStale + stExpired) 0 none
          (setEng e (fun y => { y with bg := s.p1.solver.engines[e].bg.eraseIdx n }) s.p1)
        jobEnded x.2 x.1)))
    ∧ (∀ (e : Fin 4) n j, s.p1.solver.engines[e].fg[n]? = some j → overdue j s.p1 = true →
      exec (.jobDeadline e (.queuedForeground n)) s = .next (s.core (
        let x := reportJob j none (stStale + stExpired) 0 none
          (setEng e (fun y => { y with fg := s.p1.solver.engines[e].fg.eraseIdx n }) s.p1)
        jobEnded x.2 x.1)))
    ∧ (∀ e : Fin 4, exec (.engineCheckJob e true) s = .next (s.core (judgeRelinquish s.p1)))
    ∧ (∀ e : Fin 4, engineRuns e s.p1 = true → s.p1.solver.engines[e] = ⟨none, [], []⟩ →
      exec (.engineCheckJob e false) s = .next (s.core (judgeRelinquish (withAllEnded (engineFault e 0x100 s.p1)))))
    ∧ ((∀ g, s.p1.fus.alignAt = some g → g + 1000 * s.p1.rdN (ob 0x3010 1) ≤ s.p1.elapsed) →
      exec .alignIssue s = .next (s.core (withEnded (issueOwn 3 false .estimate none
        (takeSpacing { s.p1 with fus := { s.p1.fus with alignAt := some s.p1.elapsed } })))))

/-- Structures, test jobs and statistics (R178–R184, R210, R211). -/
def Obligations.StructuresTestJobsAndStatistics : Prop :=
  ∀ (s : State) (w : Nat), s.p1.serves = true →
    (∀ (k : Fin 16) b, accepted w (stKey k 1) (.bytes b) s.p1 → 12 ≤ k.val → structureForm b = true →
      areaOf (leAt b 4 2) (leAt b 8 4) ≤ s.p1.rdN (ob 0x4400 3) →
      exec (.structureLoad w k b) s = .next (written w (stKey k 1) (.bytes b) (fun p =>
        showArea ((setRes k (fun r => { r with swap := some b }) (p.inc (stKey k 7))).wr (stKey k 8) 3)) s))
    ∧ (∀ (k : Fin 16) b, accepted w (stKey k 1) (.bytes b) s.p1 →
      k.val < 12 ∨ structureForm b = false ∨ s.p1.rdN (ob 0x4400 3) < areaOf (leAt b 4 2) (leAt b 8 4) →
      exec (.structureLoad w k b) s = .next (s.core (answer w (stKey k 1) abRange s.p1)))
    ∧ (∀ k : Fin 16, s.p1.solver.res[k].swap = none → exec (.structureSwap k) s = .next s)
    ∧ (∀ (k : Fin 16) b, s.p1.up = true → 12 ≤ k.val → s.p1.mode ≠ 0 → s.p1.solver.res[k].swap = some b →
      structureBusy k s.p1 = false →
      ∃ t, exec (.structureSwap k) s = .next t ∧ t.p1.solver.res[k].swap = none ∧ t.p1.solver.res[k].factor = none
        ∧ t.p1.octets (stKey k 1) = b ∧ t.p2 = s.p2 ∧ t.p3 = s.p3)
    ∧ (∀ (k : Fin 16), structureBusy k s.p1 = true → exec (.structureSwap k) s = .next s)
    ∧ (∀ b, accepted w (ob 0x4430 1) (.bytes b) s.p1 → (testJobRule b).check s.p1 = 0 → queueFull 8 s.p1 = false →
      exec (.testJobDescriptor w b) s = .next (written w (ob 0x4430 1) (.bytes b) (fun p =>
        (enqueueJob ⟨readJob b, p.elapsed, p.stamp, .rhs (p.octets (ob 0x4430 2)), p.octets (ob 0x4430 3), none⟩
          (p.setOctets (ob 0x4430 1) (b.take 16 ++ le 4 p.stamp ++ b.drop 20))).wr (ob 0x4430 5) 1) s))
    ∧ (∀ b, accepted w (ob 0x4430 1) (.bytes b) s.p1 → (testJobRule b).check s.p1 = 0 → queueFull 8 s.p1 = true →
      exec (.testJobDescriptor w b) s = .next (s.core (answer w (ob 0x4430 1) abBusy s.p1)))
    ∧ (∀ b, accepted w (ob 0x4430 1) (.bytes b) s.p1 → (readJob b).ty ≠ 8 →
      exec (.testJobDescriptor w b) s = .next (s.core (answer w (ob 0x4430 1) abRange s.p1)))
    ∧ (∀ (t : Fin 8) v, accepted w (jtKey (t + 1) 0x0D) (.num v) s.p1 →
      exec (.solverClearStatistics w t v) s =
        .next (written w (jtKey (t + 1) 0x0D) (.num v) (fun p => p.clearSubs (0x4421 + t) 3 0x0C) s))

/-- Set-points (R226–R228, R234). The rounding of a real target to generator units is the model's (assumption 4). -/
def Obligations.SetpointWritesFollowTheMode : Prop :=
  ∀ (s : State) (w : Nat), s.p1.serves = true →
    (∀ v, accepted w (ob 0x4030 3) (.num v) s.p1 → [5, 6, 10].contains s.p1.mode = true →
      exec (.headingSetpointWrite w v) s = .next (written w (ob 0x4030 3) (.num v)
        (fun p => aimHeading (toUnits p.free (some ((v : Rat) / 1000000))) p.draw) s))
    ∧ (∀ v, accepted w (ob 0x4030 6) (.num v) s.p1 → [5, 6, 10].contains s.p1.mode = true →
      exec (.relativeTurn w v) s = .next (written w (ob 0x4030 6) (.num v)
        (fun p => aimHeading (p.ctl.gens[2].target + toUnits p.free (some ((v : Rat) / 1000000))) p.draw) s))
    ∧ (∀ b v, accepted w (ob 0x4030 (if b then 2 else 1)) (.num v) s.p1 → s.p1.mode = 6 ∨ s.p1.mode = 10 →
      exec (.positionSetpointWrite w b v) s = .next (written w (ob 0x4030 (if b then 2 else 1)) (.num v) (fun p =>
        let c := targetLatLon p
        let t := Config.northEast (frameOrigin p).1 (frameOrigin p).2 (if b then c.1 else (f64 v).q) (if b then (f64 v).q else c.2)
        aimHoriz (toUnits p.free (some t.1)) (toUnits (p.free + 1) (some t.2)) (p.drawN 2)) s))
    ∧ (∀ v, accepted w (ob 0x4030 4) (.num v) s.p1 → s.p1.mode = 6 ∨ s.p1.mode = 10 →
      exec (.relativeMove w false v) s = .next (written w (ob 0x4030 4) (.num v) (fun p =>
        let m := toEarth (poseOf p.lawMode p).psi (some ((v : Rat) / 10000)) (some 0)
        aimHoriz (p.ctl.gens[0].target + toUnits p.free m.1) (p.ctl.gens[1].target + toUnits (p.free + 1) m.2) (p.drawN 2)) s))
    ∧ (∀ v, accepted w (ob 0x4030 5) (.num v) s.p1 → s.p1.mode = 6 ∨ s.p1.mode = 10 →
      exec (.relativeMove w true v) s = .next (written w (ob 0x4030 5) (.num v) (fun p =>
        let m := toEarth (poseOf p.lawMode p).psi (some 0) (some ((v : Rat) / 10000))
        aimHoriz (p.ctl.gens[0].target + toUnits p.free m.1) (p.ctl.gens[1].target + toUnits (p.free + 1) m.2) (p.drawN 2)) s))
    ∧ (∀ (a : Fin 3) v, accepted w (ob 0x4031 (2 + a)) (.num v) s.p1 → s.p1.mode = 8 →
      exec (.targetOffsetWrite w a v) s = .next (written w (ob 0x4031 (2 + a)) (.num v) (fun p => p.wr (ob 0x4031 (2 + a)) v) s))
    ∧ (∀ b v, accepted w (ob 0x4032 (if b then 4 else 3)) (.num v) s.p1 → s.p1.mode = 9 →
      exec (.weathervaneWrite w b v) s = .next (written w (ob 0x4032 (if b then 4 else 3)) (.num v)
        (fun p => p.wr (ob 0x4032 (if b then 4 else 3)) v) s))
    ∧ (∀ (k : Fin 6) v, accepted w (ob 0x4040 (1 + k)) (.num v) s.p1 →
      exec (.profileLimitWrite w k v) s = .next (written w (ob 0x4040 (1 + k)) (.num v)
        (fun p => p.wr (ob 0x4040 (1 + k)) v) s))
    ∧ (∀ v, accepted w (ob 0x4030 3) (.num v) s.p1 → [5, 6, 10].contains s.p1.mode = false →
      exec (.headingSetpointWrite w v) s = .next (s.core (answer w (ob 0x4030 3) abMode s.p1)))
    ∧ (∀ b v, accepted w (ob 0x4030 (if b then 2 else 1)) (.num v) s.p1 → s.p1.mode ≠ 6 → s.p1.mode ≠ 10 →
      exec (.positionSetpointWrite w b v) s = .next (s.core (answer w (ob 0x4030 (if b then 2 else 1)) abMode s.p1)))
    ∧ (∀ b v, accepted w (ob 0x4030 (if b then 5 else 4)) (.num v) s.p1 → s.p1.mode ≠ 6 → s.p1.mode ≠ 10 →
      exec (.relativeMove w b v) s = .next (s.core (answer w (ob 0x4030 (if b then 5 else 4)) abMode s.p1)))
    ∧ (∀ (a : Fin 3) v, accepted w (ob 0x4031 (2 + a)) (.num v) s.p1 → s.p1.mode ≠ 8 →
      exec (.targetOffsetWrite w a v) s = .next (s.core (answer w (ob 0x4031 (2 + a)) abMode s.p1)))
    ∧ (∀ b v, accepted w (ob 0x4032 (if b then 4 else 3)) (.num v) s.p1 → s.p1.mode ≠ 9 →
      exec (.weathervaneWrite w b v) s = .next (s.core (answer w (ob 0x4032 (if b then 4 else 3)) abMode s.p1)))

/-- The track, the wave model and the saturation flags (R229, R230, R237–R240, R246). -/
def Obligations.TracksWavesAndSaturation : Prop :=
  ∀ (s : State) (w : Nat), s.p1.serves = true → s.p1.up = true →
    (∀ b, accepted w (ob 0x4033 1) (.bytes b) s.p1 → s.p1.mode ≠ 7 → trackOk b = true → nextBusy (ob 0x4033 1) s.p1 = false →
      exec (.waypointListWrite w b) s = .next (written w (ob 0x4033 1) (.bytes b) (submitNext (ob 0x4033 1) b) s)
        ∧ (submitNext (ob 0x4033 1) b s.p1).next = s.p1.next ++ [(ob 0x4033 1, b)])
    ∧ (∀ b, accepted w (ob 0x4033 1) (.bytes b) s.p1 → s.p1.mode = 7 →
      exec (.waypointListWrite w b) s = .next (s.core (answer w (ob 0x4033 1) abMode s.p1)))
    ∧ (∀ b, accepted w (ob 0x4033 1) (.bytes b) s.p1 → s.p1.mode ≠ 7 → trackOk b = false →
      exec (.waypointListWrite w b) s = .next (s.core (answer w (ob 0x4033 1) abRange s.p1)))
    ∧ (∀ g, s.p1.lawMode = 7 → s.p1.role ≠ 1 → s.p1.ctl.track.dwellFrom = some g → g + dwellSpan s.p1 ≤ s.p1.elapsed →
      s.p1.rdN (ob 0x4033 4) + 1 < trackCount (trackList s.p1) →
      ∃ t, exec .waypointDwellEnd s = .next t ∧ t.p1.ctl.track.dwellFrom = none
        ∧ t.p1.ctl.track.fromN = s.p1.ctl.gens[0].target ∧ t.p1.ctl.track.fromE = s.p1.ctl.gens[1].target
        ∧ t.p1.mode = s.p1.mode ∧ t.p2 = s.p2 ∧ t.p3 = s.p3)
    ∧ (∀ g, s.p1.lawMode = 7 → s.p1.mode = 7 → s.p1.role ≠ 1 → s.p1.ctl.track.dwellFrom = some g →
      g + dwellSpan s.p1 ≤ s.p1.elapsed → trackCount (trackList s.p1) ≤ s.p1.rdN (ob 0x4033 4) + 1 → odWf s.p1.od = true →
      ∃ t, exec .waypointDwellEnd s = .next t
        ∧ t.p1 = trackEnd (record 0x0404 (s.p1.rdN (ob 0x4033 4)) s.p1))
    ∧ (s.p1.ctl.track.dwellFrom = none → exec .waypointDwellEnd s = .next s)
    ∧ (∀ g, s.p1.ctl.track.dwellFrom = some g → s.p1.elapsed < g + dwellSpan s.p1 → exec .waypointDwellEnd s = .next s)
    ∧ exec .waveSample s = .next (s.core (judgeCloseHold (waveSample s.p1)))
    ∧ (s.p1.ctl.wave.samples.length < fitCount s.p1 → exec .waveRefitIssue s = .next s)
    ∧ (∀ x r, s.p1.ctl.wave.samples = x :: r → fitCount s.p1 ≤ s.p1.ctl.wave.samples.length →
      s.p1.ctl.wave.lastIssue + s.p1.rdN (ob 0x4300 2) * 1000000000 ≤ s.p1.ns →
      exec .waveRefitIssue s = .next (s.core (withEnded (issueOwn 6 false (ownInput 6 s.p1) none
        { s.p1 with ctl := { s.p1.ctl with wave := { s.p1.ctl.wave with lastIssue := x.ns } } }))))
    ∧ (fitFresh s.p1 = true → exec .waveFitAgeExpiry s = .next s)
    ∧ (fitFresh s.p1 = false → waveReady s.p1 = true → exec .waveFitAgeExpiry s =
        .next (s.core (judgeCloseHold (record 0x0402 1 (s.p1.setBit (ob 0x4304 2) 0 false)))))
    ∧ (∀ g, waveReady s.p1 = true → s.p1.ctl.wave.exitSince = some g → g + 1000 * s.p1.rdN (ob 0x4300 0x0B) ≤ s.p1.elapsed →
      exec .waveExitTime s =
        .next (s.core (judgeCloseHold (record 0x0402 3 (s.p1.setBit (ob 0x4304 2) 0 false)))))
    ∧ (s.p1.ctl.wave.exitSince = none → exec .waveExitTime s = .next s)
    ∧ (∀ v, accepted w (ob 0x4000 4) (.num v) s.p1 →
      exec (.clearSaturationFlags w v) s = .next (written w (ob 0x4000 4) (.num v) (fun p => p.wr (ob 0x4000 3) 0) s))

/-- Thrusters and allocation (R252, R271, R272, R280, R281, R284). -/
def Obligations.ThrustersCurvesTablesAndTests : Prop :=
  ∀ (s : State) (w : Nat), s.p1.serves = true → s.p1.up = true →
    (∀ (i : Fin 16) a b, accepted w (thrKey i (if a then 0x24 else 0x23)) (.bytes b) s.p1 →
      curveOk b (s.p1.rd (thrKey i (if a then 0x0A else 9))) = true →
      exec (.thrustCurveWrite w i a b) s = .next (written w (thrKey i (if a then 0x24 else 0x23)) (.bytes b)
        (fun p => p.setOctets (thrKey i (if a then 0x24 else 0x23)) b) s))
    ∧ (∀ (i : Fin 16) a b, accepted w (thrKey i (if a then 0x24 else 0x23)) (.bytes b) s.p1 →
      curveOk b (s.p1.rd (thrKey i (if a then 0x0A else 9))) = false →
      exec (.thrustCurveWrite w i a b) s = .next (s.core (answer w (thrKey i (if a then 0x24 else 0x23)) abRange s.p1)))
    ∧ (∀ b, accepted w (ob 0x4210 1) (.bytes b) s.p1 → tableOk b s.p1 = true → nextBusy (ob 0x4210 1) s.p1 = false →
      exec (.fallbackTableWrite w b) s = .next (written w (ob 0x4210 1) (.bytes b) (submitNext (ob 0x4210 1) b) s))
    ∧ (∀ b, accepted w (ob 0x4210 1) (.bytes b) s.p1 → tableOk b s.p1 = false →
      exec (.fallbackTableWrite w b) s = .next (s.core (answer w (ob 0x4210 1) abRange s.p1)))
    ∧ (∀ v, accepted w (ob 0x4200 0x1A) (.num v) s.p1 → s.p1.mode = 1 →
      exec (.generateFallbackTables w v) s = .next (written w (ob 0x4200 0x1A) (.num v) (fun p =>
        let good := (wantedMasks p).filter fun m => generable m p
        let b := le 2 0x4654 ++ le 1 1 ++ le 1 good.length ++ zeros 12 ++ good.flatMap fun m => generateEntry m p
        record 0x0508 (packDetails [(8, good.length), (8, (wantedMasks p).length - good.length)])
          (showTable (p.setOctets (ob 0x4210 1) (b ++ le 4 (crc32c b))))) s))
    ∧ (∀ v, accepted w (ob 0x4200 0x1A) (.num v) s.p1 → s.p1.mode ≠ 1 →
      exec (.generateFallbackTables w v) s = .next (s.core (answer w (ob 0x4200 0x1A) abMode s.p1)))
    ∧ (∀ i : Fin 16, accepted w (ob 0x4200 0x1B) (.num (i.val : Nat)) s.p1 → s.p1.setSize = 1 → 16 ≤ testIndex s.p1 →
      odWf s.p1.od = true →
      ∃ t, exec (.testThrusterStart w (i.val : Nat)) s = .next t ∧ t.p1.alc.testStart = s.p1.elapsed
        ∧ t.p1.bit (thrKey i 0x25) 11 = true ∧ testIndex t.p1 = i.val
        ∧ t.p1.rd (thrKey i 0x26) = (feedbackCommand i s.p1).1 ∧ t.p2 = s.p2 ∧ t.p3 = s.p3)
    ∧ (∀ i : Fin 16, accepted w (ob 0x4200 0x1B) (.num (i.val : Nat)) s.p1 → s.p1.setSize = 1 → testIndex s.p1 < 16 →
      exec (.testThrusterStart w (i.val : Nat)) s = .next (s.core (answer w (ob 0x4200 0x1B) abBusy s.p1)))
    ∧ (accepted w (ob 0x4200 0x1B) (.num 0xFF) s.p1 →
      exec (.testThrusterEnd w 0xFF) s = .next (written w (ob 0x4200 0x1B) (.num 0xFF) endTest s))
    ∧ (s.p1.alc.testStart + 1000 * s.p1.rdN (ob 0x4200 0x1E) ≤ s.p1.elapsed →
      exec .testDurationExpiry s = .next (s.core (endTest s.p1)))
    ∧ (s.p1.elapsed < s.p1.alc.testStart + 1000 * s.p1.rdN (ob 0x4200 0x1E) → exec .testDurationExpiry s = .next s)
    ∧ (∀ (h : testIndex s.p1 < 16), odWf s.p1.od = true → testIndex (endTest s.p1) = 255
        ∧ (endTest s.p1).bit (thrKey ⟨testIndex s.p1, h⟩ 0x25) 11 = false)
    ∧ (16 ≤ testIndex s.p1 → endTest s.p1 = s.p1)
    ∧ (∀ c id b, (∀ i : Fin 16, isFeedback c id i s.p1 && feedbackOk i b = false) →
      exec (.thrusterFeedbackFrame c id b) s = .next s)
    ∧ (∀ c id b (i : Fin 16), isFeedback c id i s.p1 = true → feedbackOk i b = true → odWf s.p1.od = true →
      ∃ t, exec (.thrusterFeedbackFrame c id b) s = .next t
        ∧ t.p1.alc.thr[i].fb = ⟨0, leAt b 1 1, leAt b 2 1 % 4, true, s.p1.elapsed⟩
        ∧ t.p1.rd (thrKey i 0x2A) = ofBits 16 (leAt b 6 2) ∧ t.p1.rd (thrKey i 0x2B) = (leAt b 8 2 : Nat)
        ∧ t.p1.rd (thrKey i 0x2C) = (leAt b 10 2 : Nat)
        ∧ (∀ j : Fin 16, j ≠ i → t.p1.alc.thr[j] = s.p1.alc.thr[j]))
    ∧ (∀ v, accepted w (ob 0x4200 0x19) (.num v) s.p1 →
      exec (.allocationClearStatistics w v) s =
        .next (written w (ob 0x4200 0x19) (.num v) (fun p => p.clearSubs 0x4200 0x14 0x18) s))

/-- The discipline of module time (R288–R299, R573). -/
def Obligations.TimeKeepingEvents : Prop :=
  ∀ s : State, s.p1.up = true → s.p1.serves = true →
    (s.p1.grainIndex % 1000000 = 0 → s.p1.time.secondAt ≠ some s.p1.elapsed →
      (∀ g, basebandOn s.p1 = true → gnssQualifies g s.p1 = true → exec (.timeSecond (some g)) s = .next (s.core (
        let run := min 10 (s.p1.time.gnssRun + 1)
        let x := { s.p1.time with gnssRun := run, gnssOk := s.p1.time.gnssOk || 10 ≤ run, gnss := (g.error, g.sigma)
                                  gnssLast := s.p1.elapsed, secondAt := some s.p1.elapsed }
        updateCorrection (judgeLock (slewedStep (judgeSource { s.p1 with time := x }))))))
      ∧ (∀ g, basebandOn s.p1 = true → gnssQualifies g s.p1 = false → exec (.timeSecond (some g)) s = .next (s.core (
        let x := { s.p1.time with gnssRun := 0, gnss := (g.error, g.sigma), secondAt := some s.p1.elapsed }
        updateCorrection (judgeLock (slewedStep (judgeSource { s.p1 with time := x }))))))
      ∧ exec (.timeSecond none) s = .next (s.core (
        let x := { s.p1.time with gnssRun := 0, secondAt := some s.p1.elapsed }
        updateCorrection (judgeLock (slewedStep (judgeSource { s.p1 with time := x }))))))
    ∧ (∀ g, s.p1.grainIndex % 1000000 ≠ 0 → exec (.timeSecond g) s = .next s)
    ∧ (s.p1.time.gnssOk = true → 3000000 ≤ s.p1.elapsed - s.p1.time.gnssLast → exec (.sourceLost .gnss) s =
        .next (s.core (judgeSource { s.p1 with time := { s.p1.time with gnssOk := false, gnssRun := 0 } })))
    ∧ (s.p1.time.ptpOk = true → syncGone s.p1 = true → exec (.sourceLost .ptp) s =
        .next (s.core (judgeSource { s.p1 with time := { s.p1.time with ptpOk := false, ptpRun := 0 } })))
    ∧ (s.p1.elapsed - s.p1.time.gnssLast < 3000000 → exec (.sourceLost .gnss) s = .next s)
    ∧ (timeState s.p1 = 2 → odWf s.p1.od = true → (s.p1.rd (ob 0x5000 4) : Rat) ≤ holdSeconds s.p1 →
      ∃ t, exec .holdoverLimit s = .next t ∧ timeState t.p1 = 0 ∧ t.p1.ns = s.p1.ns ∧ t.p2 = s.p2 ∧ t.p3 = s.p3)
    ∧ (timeState s.p1 ≠ 2 → exec .holdoverLimit s = .next s)
    ∧ (∀ v, v = ofBits 16 (toBits 16 (s.p1.rd (ob 0x5000 0x0C) + s.p1.rd (ob 0x5000 0x0E))) → s.p1.rd (ob 0x5000 0x0E) ≠ 0 →
      0 < s.p1.rd (ob 0x5000 0x0F) → s.p1.rd (ob 0x5000 0x0F) ≤ s.p1.ns → odWf s.p1.od = true →
      ∃ t, exec .leapSecond s = .next t ∧ t.p1.rd (ob 0x5000 0x0C) = v ∧ t.p1.rd (ob 0x5000 0x0E) = 0
        ∧ t.p1.rd (ob 0x5000 0x0F) = 0 ∧ t.p1.ns = s.p1.ns ∧ t.p2 = s.p2 ∧ t.p3 = s.p3)
    ∧ (s.p1.rd (ob 0x5000 0x0E) = 0 ∨ (s.p1.ns : Int) < s.p1.rd (ob 0x5000 0x0F) → exec .leapSecond s = .next s)
    ∧ (60000000 ≤ s.p1.elapsed - s.p1.time.savedAt → exec .timeSave s =
        .next (s.core { s.p1 with time := { s.p1.time with saved := some s.p1.ns, savedAt := s.p1.elapsed } }))
    ∧ (s.p1.elapsed - s.p1.time.savedAt < 60000000 → exec .timeSave s = .next s)
    ∧ exec .refWarm s = .next (s.core (showTime (s.p1.setBit kTime 8 true)))
    ∧ (∀ w, ∃ t, exec (.secondsRead w) s = .next t ∧ t = s.core (answerData w (ob 0x5001 2) (le 8 (s.p1.ns / 1000000000))
        { s.p1 with sessions := s.p1.sessions.map fun x => if x.no = w then { x with nanos := some (s.p1.ns % 1000000000) } else x }))

/-- PTP, pulse outputs and event inputs (R292, R300–R308). -/
def Obligations.PtpPulsesAndEventInputs : Prop :=
  ∀ (s : State) (w : Nat), s.p1.up = true → s.p1.serves = true →
    (∀ p a, s.p1.rd (ob 0x5010 1) = 0 → exec (.ptpAnnounce p a) s = .next s)
    ∧ (∀ p a, ptpHears p s.p1 = true → exec (.ptpAnnounce p a) s = .next (s.core (judgePort
        { s.p1 with time := { s.p1.time with masters := s.p1.time.masters.set (ptpIdx p) (some a) } })))
    ∧ (∀ p o d, s.p1.rdN (ob 0x5010 0x0D) ≠ (ptpIdx p).val ∨ s.p1.rd (ob 0x5010 9) ≠ 9 → exec (.ptpSync p o d) s = .next s)
    ∧ (∀ p o d, ptpHears p s.p1 = true → s.p1.rdN (ob 0x5010 0x0D) = (ptpIdx p).val → s.p1.rd (ob 0x5010 9) = 9 → odWf s.p1.od = true →
      ∃ t, exec (.ptpSync p o d) s = .next t ∧ t.p1.rd (ob 0x5010 0x0B) = sat32 o
        ∧ t.p1.rd (ob 0x5010 0x0C) = (min 0xFFFFFFFF d : Nat) ∧ t.p1.time.ptp.1 = o ∧ t.p1.time.ptpRun ≤ 16
        ∧ (1000 < o.natAbs → t.p1.time.ptpRun = 0) ∧ t.p1.ns = s.p1.ns ∧ t.p2 = s.p2 ∧ t.p3 = s.p3)
    ∧ (syncGone s.p1 = true → s.p1.rdN (ob 0x5010 0x0D) < 2 → ∃ t, exec .ptpAnnounceTimeout s = .next t ∧ t.p1.time.ptpOk = false ∧ t.p1.time.ptpRun = 0 ∧ t.p1.ns = s.p1.ns)
    ∧ (∀ b, ptpMasterRole s.p1 = false ∨ s.p1.rd (ob 0x5010 0x0D) ≠ 0xFF → exec (.ptpMasterSync b) s = .next s)
    ∧ (ptpMasterRole s.p1 = true → s.p1.rd (ob 0x5010 0x0D) = 0xFF → s.p1.time.syncAt = none →
      exec (.ptpMasterSync false) s = .next (s.core (netSend 6 .ptpSync
        { s.p1.wr (ob 0x5010 9) 6 with time := { s.p1.time with syncAt := some s.p1.elapsed } })))
    ∧ (∀ g h, ptpMasterRole s.p1 = true → s.p1.rd (ob 0x5010 0x0D) = 0xFF → s.p1.time.syncAt = some g →
      s.p1.time.announceAt = some h → s.p1.elapsed - g < ptpGrains (s.p1.rd (ob 0x5010 7)) →
      ptpGrains (s.p1.rd (ob 0x5010 8)) ≤ s.p1.elapsed - h → exec (.ptpMasterSync true) s =
        .next (s.core (netSend 6 (.ptpAnnounce (ownQuality (s.p1.wr (ob 0x5010 9) 6)))
          { s.p1.wr (ob 0x5010 9) 6 with time := { s.p1.time with announceAt := some s.p1.elapsed } })))
    ∧ (∀ n q, ppsInstant n s.p1 = none → exec (.ppsPulse n q) s = .next s)
    ∧ (∀ n q i, ppsInstant n s.p1 = some i → ∃ t, exec (.ppsPulse n q) s = .next t
        ∧ t.p1.octets (ob (0x5022 + n) 1) = pulseReport n i q (suppressing n s.p1) s.p1
        ∧ t.p1.time.ppsSeq[n] = (s.p1.time.ppsSeq[n] + 1) % 2 ^ 32 ∧ t.p1.time.ppsFirst[n] = false
        ∧ (odWf s.p1.od = true → s.p1.rd (ppsKey n 1) = 1 → t.p1.rd (ppsKey n 4) = 0) ∧ t.p1.ns = s.p1.ns)
    ∧ (∀ n v, accepted w (ppsKey n 4) (.num v) s.p1 → v = 0 ∨ (s.p1.ns : Int) ≤ v →
      exec (.ppsOnceWrite w n v) s = .next (written w (ppsKey n 4) (.num v) (fun p => ppsChanged n (p.wr (ppsKey n 4) v)) s))
    ∧ (∀ n v, accepted w (ppsKey n 4) (.num v) s.p1 → v ≠ 0 → v < s.p1.ns →
      exec (.ppsOnceWrite w n v) s = .next (s.core (answer w (ppsKey n 4) abRange s.p1)))
    ∧ (∀ n v, accepted w (ppsKey n 2) (.num v) s.p1 →
      exec (.ppsGridWrite w n false v) s =
        .next (written w (ppsKey n 2) (.num v) (fun p => ppsChanged n { p.wr (ppsKey n 2) v with
          time := { p.time with ppsOld := p.time.ppsOld.set n (some (p.elapsed, ppsGrid n p)) } }) s))
    ∧ (∀ n v, accepted w (ppsKey n 3) (.num v) s.p1 → v < s.p1.rd (ppsKey n 2) →
      exec (.ppsGridWrite w n true v) s =
        .next (written w (ppsKey n 3) (.num v) (fun p => ppsChanged n { p.wr (ppsKey n 3) v with
          time := { p.time with ppsOld := p.time.ppsOld.set n (some (p.elapsed, ppsGrid n p)) } }) s))
    ∧ (∀ n v, accepted w (ppsKey n 3) (.num v) s.p1 → s.p1.rd (ppsKey n 2) ≤ v →
      exec (.ppsGridWrite w n true v) s = .next (s.core (answer w (ppsKey n 3) abRange s.p1)))
    ∧ (∀ n f ns, s.p1.rd (evtKey n 1) = 0 → exec (.evtEdge n f ns) s = .next s)
    ∧ (∀ n f ns, s.p1.rd (evtKey n 1) ≠ 0 → s.p1.rd (evtKey n 2) = 2 → s.p1.time.evtLast[n] = none →
      (s.p1.time.evt[n]).length < 64 → ∃ t, exec (.evtEdge n f ns) s = .next t
        ∧ t.p1.time.evt[n] = s.p1.time.evt[n] ++ [le 8 (ns - s.p1.rdN (evtKey n 6)) ++ le 1 (if f then 1 else 0) ++ zeros 7]
        ∧ t.p1.time.evtLast[n] = some ns)
    ∧ (∀ n f ns, s.p1.rd (evtKey n 1) ≠ 0 → s.p1.rd (evtKey n 2) = 2 → 64 ≤ (s.p1.time.evt[n]).length →
      ∃ t, exec (.evtEdge n f ns) s = .next t ∧ t.p1.time.evt = s.p1.time.evt)
    ∧ (∀ n, ∃ t, exec (.evtEventRead w n) s = .next t ∧ t.p1.time.evt[n] = (s.p1.time.evt[n]).drop 1)

/-- GNSS channels, epochs, antennas and sleep (R311–R319). -/
def Obligations.GnssChannelsEpochsAndAntennas : Prop :=
  ∀ s : State, s.p1.up = true →
    (basebandOn s.p1 = false → ∀ a v c x y z f o b, exec (.channelAssignment a v) s = .next s
      ∧ exec (.channelLock a c x y z) s = .next s ∧ exec (.gnssEpoch f o b) s = .next s)
    ∧ (basebandOn s.p1 = true → ∀ a v, (∀ g, s.p1.time.assignAt[a] = some g → 1000000 ≤ s.p1.elapsed - g) →
      ∃ t, exec (.channelAssignment a v) s = .next t
      ∧ (∀ c g, t.p1.time.chans[chanNo a c].asg = some g → (channelPlan v s.p1).contains g = true)
      ∧ (∀ a' c, a' ≠ a → t.p1.time.chans[chanNo a' c] = s.p1.time.chans[chanNo a' c]) ∧ t.p2 = s.p2 ∧ t.p3 = s.p3)
    ∧ (∀ a c x y z, basebandOn s.p1 = true → s.p1.stopped (unitAddr 1 1 0 (a : Fin 3) (c : Fin 64)) = false → ∃ t, exec (.channelLock a c x y z) s = .next t
      ∧ (s.p1.time.chans[chanNo a c].asg = none → t.p1.time.chans = s.p1.time.chans)
      ∧ (s.p1.time.chans[chanNo a c].asg.isSome = true →
        t.p1.time.chans[chanNo a c].code = (s.p1.time.chans[chanNo a c].code || x)
          ∧ t.p1.time.chans[chanNo a c].carrier = (s.p1.time.chans[chanNo a c].carrier || y))
      ∧ (∀ j : Fin 192, j ≠ chanNo a c → t.p1.time.chans[j] = s.p1.time.chans[j]))
    ∧ (∀ a c x y, ∃ t, exec (.channelLockLoss a c x y) s = .next t
      ∧ t.p1.time.chans[chanNo a c].code = (s.p1.time.chans[chanNo a c].code && !x)
      ∧ t.p1.time.chans[chanNo a c].carrier = (s.p1.time.chans[chanNo a c].carrier && !y)
      ∧ t.p1.time.chans[chanNo a c].slip = (s.p1.time.chans[chanNo a c].slip || (y && s.p1.time.chans[chanNo a c].carrier))
      ∧ (∀ j : Fin 192, j ≠ chanNo a c → t.p1.time.chans[j] = s.p1.time.chans[j]))
    ∧ (basebandOn s.p1 = true → epochDue s.p1 = true → ∀ o b, odWf s.p1.od = true →
      ∃ t, exec (.gnssEpoch none o b) s = .next t ∧ t.p1.bit kGnss 2 = false
        ∧ (∀ a : Fin 3, t.p1.octets (ob (0x5110 : Nat) (a.val + 1)) = epochContent a o s.p1)
        ∧ (∀ j : Fin 192, t.p1.time.chans[j].slip = false) ∧ t.p1.slots = s.p1.slots)
    ∧ (basebandOn s.p1 = true → epochDue s.p1 = true → ∀ f o b, odWf s.p1.od = true →
      ∃ t, exec (.gnssEpoch (some f) o b) s = .next t ∧ t.p1.bit kGnss 2 = true
        ∧ (∀ j : Fin 192, t.p1.time.chans[j].slip = false) ∧ t.p1.time.epochAt = some s.p1.elapsed)
    ∧ (∀ (a : Fin 3) l n, s.p1.rdN (ob (0x5101 + a) 2) = antennaCode a l n s.p1 → exec (.antennaStateChange a l n) s = .next (s.core
        (s.p1.wrs [(ob (0x5101 + a) 2, antennaCode a l n s.p1), (ob (0x5101 + a) 3, (min 65535 n : Nat))])))
    ∧ (∀ (a : Fin 3) l n, odWf s.p1.od = true → ∃ t, exec (.antennaStateChange a l n) s = .next t
        ∧ t.p1.rdN (ob (0x5101 + a) 2) = antennaCode a l n s.p1 ∧ t.p1.rd (ob (0x5101 + a) 3) = (min 65535 n : Nat)
        ∧ t.p1.time = s.p1.time)
    ∧ (s.p1.mode = 0 → s.p1.bit kGnss 0 = true → s.p1.rdN (ob 0x5100 0x0A) * 1000000 ≤ s.p1.elapsed - s.p1.time.wakeLast →
      odWf s.p1.od = true → ∃ t, exec .gnssWake s = .next t
        ∧ t.p1.time.wakeFrom = some s.p1.elapsed ∧ t.p1.time.startFrom = some s.p1.elapsed ∧ t.p1.bit kGnss 0 = false
        ∧ t.p1.bit kGnss 1 = true)
    ∧ (s.p1.mode ≠ 0 → exec .gnssWake s = .next s ∧ exec .gnssWakeEnd s = .next s)
    ∧ (s.p1.mode = 0 → s.p1.time.wakeFrom.isSome = true → odWf s.p1.od = true → ∃ t, exec .gnssWakeEnd s = .next t
        ∧ t.p1.time.wakeFrom = none ∧ t.p1.bit kGnss 0 = true ∧ t.p1.time.chans = Vector.replicate 192 idleChan)

/-- Axes (R331–R347, R356). -/
def Obligations.AxesCountReferenceAndStop : Prop :=
  ∀ (s : State) (a : Fin 8), s.p1.up = true → s.p1.serves = true →
    (axisRuns a s.p1 = false → ∀ q n r c, exec (.countEdge a q n) s = .next s ∧ exec (.indexPulse a q) s = .next s
      ∧ exec (.absoluteReadStart a) s = .next s ∧ exec (.absoluteReadDone a r) s = .next s
      ∧ exec (.speedWindowEnd a) s = .next s ∧ exec (.axisSignalFault a c) s = .next s)
    ∧ (∀ q n, axisRuns a s.p1 = true → s.p1.rd (axKey a 2) = 1 → s.p1.rd (axKey a 3) ≠ 1 → odWf s.p1.od = true →
      ∃ t, exec (.countEdge a q n) s = .next t ∧ t.p1.rd (axKey a 0x16) = q ∧ t.p2 = s.p2 ∧ t.p3 = s.p3
        ∧ (∀ b : Fin 8, b ≠ a → t.p1.axes[b] = s.p1.axes[b]))
    ∧ (∀ c, axisRuns a s.p1 = true → s.p1.field (axKey a 0x11) 0 2 ≠ 0 → isAbsolute a s.p1 = false →
      s.p1.axes[a].anchor = none → s.p1.bit (axKey a 0x11) 2 = false → odWf s.p1.od = true →
      ∃ t, exec (.indexPulse a c) s = .next t ∧ t.p1.axes[a].anchor = some c ∧ t.p1.axes[a].index = c
        ∧ t.p1.bit (axKey a 0x1A) 16 = true ∧ t.p1.rd (axKey a 0x16) = s.p1.rd (axKey a 0x16))
    ∧ (∀ c x, axisRuns a s.p1 = true → s.p1.field (axKey a 0x11) 0 2 ≠ 0 → isAbsolute a s.p1 = false →
      s.p1.axes[a].anchor = some x → expectedCount x (cprOf a s.p1) c = c → odWf s.p1.od = true →
      ∃ t, exec (.indexPulse a c) s = .next t ∧ t.p1.axes[a].index = c ∧ t.p1.bit (axKey a 0x1A) 17 = false
        ∧ t.p1.rd (axKey a 0x16) = s.p1.rd (axKey a 0x16) ∧ t.p1.rd (axKey a 0x1D) = s.p1.rd (axKey a 0x1D))
    ∧ (axisRuns a s.p1 = true → isAbsolute a s.p1 = true → s.p1.grainIndex % readPeriod (s.p1.rd (axKey a 9)) = 0 →
      ∃ t, exec (.absoluteReadStart a) s = .next t ∧ t.p1.axes[a].reading = some s.p1.ns ∧ t.p1.od = s.p1.od)
    ∧ (∀ r, axisRuns a s.p1 = true → isAbsolute a s.p1 = true → s.p1.axes[a].reading.isSome = true →
      readFails a r s.p1 = true → s.p1.axes[a].failedReads < 2 →
      ∃ t, exec (.absoluteReadDone a r) s = .next t ∧ t.p1.axes[a].failedReads = s.p1.axes[a].failedReads + 1
        ∧ t.p1.axes[a].reading = none ∧ t.p1.faults = s.p1.faults)
    ∧ (∀ r, axisRuns a s.p1 = true → isAbsolute a s.p1 = true → s.p1.axes[a].reading.isSome = true →
      readFails a r s.p1 = true → 2 ≤ s.p1.axes[a].failedReads →
      ∃ t, exec (.absoluteReadDone a r) s = .next t ∧ t.p1.stopped (axisAddr a) = true)
    ∧ (∀ r, axisRuns a s.p1 = true → isAbsolute a s.p1 = true → s.p1.axes[a].reading.isSome = true →
      readFails a r s.p1 = false →
      ∃ t, exec (.absoluteReadDone a r) s = .next t ∧ t.p1.axes[a].failedReads = 0 ∧ t.p1.axes[a].reading = none)
    ∧ (axisRuns a s.p1 = true → s.p1.rd (axKey a 0x0B) = 1 → s.p1.grainIndex % (s.p1.rdN (axKey a 0x0F) * 1000) = 0 →
      s.p1.axes[a].windowAt ≠ some s.p1.elapsed → ∃ t, exec (.speedWindowEnd a) s = .next t
        ∧ t.p1.axes[a].windowTravel = s.p1.before.axes[a].travel ∧ t.p1.axes[a].windowAt = some s.p1.elapsed
        ∧ t.p1.free = s.p1.free + 2)
    ∧ (∀ c, axisRuns a s.p1 = true → odWf s.p1.od = true → ∃ t, exec (.axisSignalFault a c) s = .next t
        ∧ t.p1.stopped (axisAddr a) = true ∧ t.p1.bit (axKey a 0x1A) 16 = false ∧ t.p1.axes[a].sectors = [])
    ∧ (∀ g, s.p1.axes[a].pulseEnd = some g → g ≤ s.p1.elapsed →
      ∃ t, exec (.comparePulseEnd a) s = .next t ∧ t.p1.axes[a].pulseEnd = none ∧ t.p1.od = s.p1.od)
    ∧ (∀ g, s.p1.axes[a].pulseEnd = some g → s.p1.elapsed < g → exec (.comparePulseEnd a) s = .next s)
    ∧ (∀ w v, accepted w (axKey a 0x1B) (.num v) s.p1 → s.p1.mode = 1 → s.p1.bit (axKey a 0x1A) 21 = false →
      exec (.setPosition w a v) s = .next (written w (axKey a 0x1B) (.num v) (changePos a v) s)
        ∧ (odWf s.p1.od = true → (changePos a v s.p1).rd (axKey a 0x16) = wrapPos a v s.p1))
    ∧ (∀ w v, accepted w (axKey a 0x1B) (.num v) s.p1 → s.p1.mode ≠ 1 →
      exec (.setPosition w a v) s = .next (s.core (answer w (axKey a 0x1B) abMode s.p1)))
    ∧ (∀ w v, accepted w (axKey a 0x1B) (.num v) s.p1 → s.p1.mode = 1 → s.p1.bit (axKey a 0x1A) 21 = true →
      exec (.setPosition w a v) s = .next (s.core (answer w (axKey a 0x1B) abRange s.p1)))
    ∧ (∀ w v, accepted w (axKey a 0x2B) (.num v) s.p1 → exec (.axisClearCounters w a v) s =
        .next (written w (axKey a 0x2B) (.num v)
          (fun p => (p.clearSubs (0x5200 + a) 0x1D 0x20).clearSubs (0x5200 + a) 0x27 0x29) s))
    ∧ (∀ w (o : Fin 2) v, accepted w (ob (0x5210 + o) 1) (.num v) s.p1 → exec (.emulationEnable w o v) s =
        .next (written w (ob (0x5210 + o) 1) (.num v) (emulationRule o v).eff s))

/-- Compare entries, probes and filter outputs (R339–R344, R351, R358, R375). -/
def Obligations.CompareListsProbesAndFilters : Prop :=
  ∀ (s : State) (w : Nat), s.p1.up = true → s.p1.serves = true →
    (∀ a b, accepted w (axKey a 0x21) (.bytes b) s.p1 → listOk b = true →
      exec (.compareListWrite w a b) s = .next (written w (axKey a 0x21) (.bytes b) (putEntries a (listEntries b)) s)
        ∧ (putEntries a (listEntries b) s.p1).axes[a].staged = listEntries b
        ∧ (putEntries a (listEntries b) s.p1).axes[a].restage = true)
    ∧ (∀ a : Fin 8, s.p1.axes[a].staged ≠ [] ∨ s.p1.axes[a].restage = true →
      (adoptEntries a s.p1).axes[a].entries = (s.p1.axes[a].staged.map fun e => writtenEntry a e s.p1).foldl
          (fun l e => putEntry e l) (if s.p1.axes[a].restage then [] else s.p1.axes[a].entries)
        ∧ (adoptEntries a s.p1).axes[a].staged = [] ∧ (adoptEntries a s.p1).axes[a].restage = false)
    ∧ (∀ a b, accepted w (axKey a 0x21) (.bytes b) s.p1 → listOk b = false →
      exec (.compareListWrite w a b) s = .next (s.core (answer w (axKey a 0x21) abRange s.p1)))
    ∧ (∀ a b, accepted w (axKey a 0x22) (.bytes b) s.p1 → b.length = 20 → leAt b 0 4 < 248 →
      exec (.compareEntryWrite w a b) s = .next (written w (axKey a 0x22) (.bytes b) (compareEntryRule a b).eff s)
        ∧ ((compareEntryRule a b).eff s.p1).axes[a].staged =
          putEntry (readEntry (leAt b 0 4) (b.drop 4)) s.p1.axes[a].staged)
    ∧ (∀ a b, accepted w (axKey a 0x22) (.bytes b) s.p1 → b.length ≠ 20 ∨ 248 ≤ leAt b 0 4 →
      exec (.compareEntryWrite w a b) s = .next (s.core (answer w (axKey a 0x22) abRange s.p1)))
    ∧ (∀ a, ∃ t, exec (.compareEventRead w a) s = .next t ∧ t.p1.axes[a].events = s.p1.axes[a].events.drop 1)
    ∧ (∀ k, ∃ t, exec (.probeRecordRead w k) s = .next t ∧ t.p1.probes[k].records = s.p1.probes[k].records.drop 1
        ∧ t.p1.probes[k].latched = s.p1.probes[k].latched)
    ∧ (∀ k f n g, s.p1.rd (prKey k 1) ≠ 1 → exec (.probeLatch k f n g) s = .next s)
    ∧ (∀ k f n, s.p1.rd (prKey k 1) = 1 → s.p1.stopped (unitAddr 1 1 2 0 (10 + k)) = false → s.p1.rd (prKey k 3) = 2 → s.p1.rd (prKey k 4) ≠ 0 →
      exec (.probeLatch k f n true) s = .next (s.core (s.p1.inc (prKey k 9))))
    ∧ (∀ k f n, s.p1.rd (prKey k 1) = 1 → s.p1.stopped (unitAddr 1 1 2 0 (10 + k)) = false → s.p1.rd (prKey k 3) = 2 →
      ∃ t, exec (.probeLatch k f n false) s = .next t ∧ t.p1.od = s.p1.od
        ∧ t.p1.probes[k].latched = s.p1.probes[k].latched ++ [latchNow k f n s.p1])
    ∧ (∀ (k : Fin 2) b r, s.p1.probes[k].latched = b :: r → latchComplete b s.p1 = true → s.p1.probes[k].records.length < 16 →
      ∃ t, exec (.probeRecordQueued k) s = .next t ∧ t.p1.probes[k] = ⟨r, s.p1.probes[k].records ++ [probeRecord k b s.p1]⟩)
    ∧ (∀ (k : Fin 2) b r, s.p1.probes[k].latched = b :: r → latchComplete b s.p1 = true → 16 ≤ s.p1.probes[k].records.length →
      ∃ t, exec (.probeRecordQueued k) s = .next t ∧ t.p1.probes[k] = ⟨r, s.p1.probes[k].records⟩)
    ∧ (∀ (k : Fin 2) b r, s.p1.probes[k].latched = b :: r → latchComplete b s.p1 = false →
      exec (.probeRecordQueued k) s = .next s)
    ∧ (∀ k : Fin 2, s.p1.probes[k].latched = [] → exec (.probeRecordQueued k) s = .next s)
    ∧ (∀ c v o, filtOn c s.p1 = false → exec (.filterOutput c v o) s = .next s)
    ∧ (∀ c v o, outputDue c s.p1 = false → exec (.filterOutput c v o) s = .next s)
    ∧ (∀ c v o, filtOn c s.p1 = true → outputDue c s.p1 = true → odWf s.p1.od = true → ∃ t, exec (.filterOutput c v o) s = .next t
        ∧ t.p1.rd (fiKey c 0x0B) = sat32 v ∧ t.p1.bit (fiKey c 0x0D) 1 = o ∧ t.p1.filt[c].last = some v
        ∧ (∀ d : Fin 32, d ≠ c → t.p1.filt[d] = s.p1.filt[d]))
    ∧ (∀ (n : Fin 16) o, s.p1.bit (ob 0x5504 (n.val + 1)) 2 = false ∨ s.p1.elapsed < s.p1.filt[chanOf n].shuntAt + 1000000 →
      exec (.shuntRetry n o) s = .next s)
    ∧ (∀ n : Fin 16, s.p1.bit (ob 0x5504 (n.val + 1)) 2 = true → s.p1.filt[chanOf n].shuntAt + 1000000 ≤ s.p1.elapsed →
      ∃ t, exec (.shuntRetry n true) s = .next t ∧ t.p1.filt[chanOf n].shuntAt = s.p1.elapsed ∧ t.p1.od = s.p1.od)
    ∧ (∀ n : Fin 16, s.p1.bit (ob 0x5504 (n.val + 1)) 2 = true → s.p1.filt[chanOf n].shuntAt + 1000000 ≤ s.p1.elapsed →
      odWf s.p1.od = true →
      ∃ t, exec (.shuntRetry n false) s = .next t ∧ t.p1.bit (ob 0x5504 (n.val + 1)) 2 = false)

/-- The field link (R363–R369). -/
def Obligations.FieldFramesSilenceAndInputs : Prop :=
  ∀ s : State,
    (∀ d, fieldLink d s = false ∨ pllDown s.p1 = true → exec (.fieldFrame d) s = .next s)
    ∧ (fieldLink .f0 s = true → pllDown s.p1 = false → ∃ t, exec (.fieldFrame .f0) s = .next t
        ∧ t.p3.doCmd = doImage s.p1 ∧ t.p3.doSafe = s.p1.rdN (ob 0x5400 9) ∧ t.p3.timeout = s.p1.rdN (ob 0x5400 3)
        ∧ t.p3.silent[(0 : Fin 2)] = false ∧ t.p3.silent[(1 : Fin 2)] = s.p3.silent[(1 : Fin 2)]
        ∧ t.p3.aoCmd = s.p3.aoCmd ∧ t.p2 = s.p2)
    ∧ (fieldLink .f1 s = true → pllDown s.p1 = false → ∃ t, exec (.fieldFrame .f1) s = .next t
        ∧ t.p3.aoCmd = s.p1.ao ∧ (∀ n : Fin 16, t.p3.aoSafe[n] = s.p1.rd (ob 0x5506 (n.val + 1)))
        ∧ t.p3.silent[(1 : Fin 2)] = false ∧ t.p3.silent[(0 : Fin 2)] = s.p3.silent[(0 : Fin 2)]
        ∧ t.p3.doCmd = s.p3.doCmd ∧ t.p2 = s.p2)
    ∧ (∀ d, s.p3.powered = true → s.p3.frameAt[fieldIdx d] + s.p3.timeout * 1000 ≤ s.p3.clock →
        ∃ t, exec (.fieldSilence d) s = .next t ∧ t.p3.silent[fieldIdx d] = true
          ∧ (∀ e, e ≠ d → t.p3.silent[fieldIdx e] = s.p3.silent[fieldIdx e])
          ∧ t.p3.doCmd = s.p3.doCmd ∧ t.p3.aoCmd = s.p3.aoCmd ∧ t.p2 = s.p2)
    ∧ (∀ d, ∃ t, exec (.fieldSilence d) s = .next t
        ∧ (s.p3.powered = false ∨ s.p3.clock < s.p3.frameAt[fieldIdx d] + s.p3.timeout * 1000 → t.p3 = s.p3) ∧ t.p3.doCmd = s.p3.doCmd ∧ t.p3.aoCmd = s.p3.aoCmd ∧ t.p2 = s.p2)
    ∧ (∀ n, s.p3.powered = true → s.p3.silent[(0 : Fin 2)] = true → s.p3.down = [] →
        doCommanded s.p3 n = s.p3.doSafe.testBit n)
    ∧ (∀ n : Fin 16, s.p3.powered = true → s.p3.silent[(1 : Fin 2)] = true → s.p3.down = [] →
        aoCommanded s.p3 n = s.p3.aoSafe[n])
    ∧ (∀ v, ∃ t, exec (.fldMeasurement v) s = .next t ∧ (s.p3.powered = true → t.p3.fld = v ∧ t.p3.diValid = !t.p3.missing)
        ∧ (s.p3.powered = false → t.p3 = s.p3) ∧ t.p3.dos = s.p3.dos ∧ t.p3.di = s.p3.di ∧ t.p2 = s.p2)
    ∧ (∀ (n : Fin 32) b, diSamples s = false ∨ s.p3.powered = false ∨ s.p3.missing = true ∨ s.p3.stopped (unitAddr 3 0 0 0 (n.val / 8)) = true
        ∨ s.p3.di.testBit n = b → exec (.diEdge n b) s = .next s)
    ∧ (∀ (n : Fin 32) b, diSamples s = true → s.p3.powered = true → s.p3.missing = false →
        s.p3.stopped (unitAddr 3 0 0 0 (n.val / 8)) = false → s.p3.di.testBit n = !b →
        ∃ t, exec (.diEdge n b) s = .next t ∧ t.p3.di.testBit n = b ∧ t.p2 = s.p2 ∧ t.p3.dos = s.p3.dos
          ∧ (∀ j, j ≠ n.val → t.p3.di.testBit j = s.p3.di.testBit j))
    ∧ (∀ d, s.p1.up = true → ∃ t, exec (.fieldFrameConfirm d) s = .next t ∧ t.p3 = s.p3 ∧ t.p2 = s.p2
        ∧ t.p1.acks = s.p1.acks.filter (fun a => a.die ≠ (fieldIdx d).val || !a.carried) ∧ sameCells answerCell s.p1 t.p1)

/-- Outputs (R364, R371, R372, R377, R378). -/
def Obligations.OutputFaultsAndWrites : Prop :=
  ∀ (s : State) (w : Nat), s.p1.serves = true →
    (∀ v, accepted w (ob 0x5400 7) (.num v) s.p1 → s.p1.fldLink[(0 : Fin 2)] = true → odWf s.p1.od = true →
      (∀ n, n < 16 → (compareOutput n s.p1).isSome = true → bitOf v n = s.p1.bit (ob 0x5400 7) n) →
      ∃ t, exec (.doCommandWrite w v) s = .next t ∧ t.p1.rd (ob 0x5400 7) = v ∧ t.p3 = s.p3 ∧ t.p2 = s.p2
        ∧ (w ≠ 0 → t.p1.acks = s.p1.acks ++ [⟨0, w, ob 0x5400 7, s.p1.rd (ob 0x5400 7), false⟩]))
    ∧ (∀ v n, accepted w (ob 0x5400 7) (.num v) s.p1 → n < 16 → (compareOutput n s.p1).isSome = true →
      bitOf v n ≠ s.p1.bit (ob 0x5400 7) n →
      exec (.doCommandWrite w v) s = .next (s.core (answer w (ob 0x5400 7) abRange s.p1)))
    ∧ (∀ v, accepted w (ob 0x5400 7) (.num v) s.p1 → s.p1.fldLink[(0 : Fin 2)] = false →
      (∀ n, n < 16 → (compareOutput n s.p1).isSome = false) →
      exec (.doCommandWrite w v) s = .next (s.core (answer w (ob 0x5400 7) abHardware s.p1)))
    ∧ (∀ (n : Fin 16) v, accepted w (ob 0x5505 (n.val + 1)) (.num v) s.p1 → aoAssigned n s.p1 = false →
      s.p1.fldLink[(1 : Fin 2)] = true → odWf s.p1.od = true →
      ∃ t, exec (.aoCodeWrite w n v) s = .next t ∧ t.p1.rd (ob 0x5505 (n.val + 1)) = v ∧ t.p1.ao = s.p1.ao.set n v
        ∧ t.p3 = s.p3)
    ∧ (∀ (n : Fin 16) v, accepted w (ob 0x5505 (n.val + 1)) (.num v) s.p1 → aoAssigned n s.p1 = true →
      exec (.aoCodeWrite w n v) s = .next (s.core (answer w (ob 0x5505 (n.val + 1)) abRange s.p1)))
    ∧ (∀ a b, s.p3.powered = true → ∃ t, exec (.doReadback a b) s = .next t ∧ t.p3.readback = a % 65536
        ∧ t.p3.doCmd = s.p3.doCmd ∧ (s.p3.missing = true → t.p3.dos = s.p3.dos) ∧ t.p2 = s.p2)
    ∧ (∀ n : Fin 16, s.p3.powered = true → s.p3.missing = false → doDriven s.p3 n = true →
      ∃ t, exec (.doShort n) s = .next t ∧ t.p3.dos[n].short = true
        ∧ (∀ m : Fin 16, m ≠ n → t.p3.dos[m] = s.p3.dos[m]) ∧ t.p2 = s.p2)
    ∧ (∀ (n : Fin 16) h, s.p3.powered = true → s.p3.missing = false →
      ∃ t, exec (.doThermal n h) s = .next t ∧ t.p3.dos[n].thermal = h
        ∧ (∀ m : Fin 16, m ≠ n → t.p3.dos[m] = s.p3.dos[m]) ∧ t.p2 = s.p2)
    ∧ (∀ n, s.p1.rd (ob 0x5400 0x0A) ≠ 1 → exec (.shortRetry n) s = .next s)
    ∧ (∀ n : Fin 16, s.p1.rd (ob 0x5400 0x0A) = 1 → s.p3.powered = true → s.p3.missing = false →
      s.p3.shortAt[n] + 1000000 ≤ s.p3.clock →
      ∃ t, exec (.shortRetry n) s = .next t ∧ t.p3.dos[n].short = false)
    ∧ (∀ (g : Fin 2) l, ∃ t, exec (.groupLimit g l) s = .next t
        ∧ (∀ m : Fin 16, m.val / 8 ≠ g.val → t.p3.dos[m] = s.p3.dos[m])
        ∧ ((l.take 8).sum ≤ 4000 → t.p3.dos = s.p3.dos) ∧ t.p2 = s.p2)
    ∧ (∀ v, accepted w (ob 0x5400 0x0B) (.num v) s.p1 → s.p1.fldLink[(0 : Fin 2)] = true →
      ∃ t, exec (.clearLatchedFaults w v) s = .next t
        ∧ ∀ n : Fin 16, t.p3.dos[n] = { s.p3.dos[n] with short := false, groupOff := false })
    ∧ (∀ (n : Fin 16) c l, fieldLink .f1 s = true → s.p3.powered = true → s.p3.missing = false → odWf s.p1.od = true →
      ∃ t, exec (.aoReadback n c l) s = .next t ∧ t.p3.aos[n].limiting = l
        ∧ t.p1.rd (ob 0x5507 (n.val + 1)) = ofBits 16 (toBits 16 c)
        ∧ (∀ m : Fin 16, m ≠ n → t.p3.aos[m] = s.p3.aos[m]) ∧ t.p2 = s.p2)

/-- The conditions of R393, in the channel's own evaluation after an event. -/
def Obligations.SwitchesFollowTheSevenConditions : Prop :=
  ∀ (old new : P2) (c : Chan) (g : Fin 4),
    let p := settle old new
    let k := p.chan c
    let one := bitOf (p.blk (ob 0x6800 1)) g = true
    let two := p.confirmed = true ∧ p.startDone = true
    let three := ∀ n : Fin 8, p.groupBit (ob 0x6802 (n.val + 1)) g = true → inDemand p k n = false
    let four := ∀ a : Fin 8, axisInhibits p k a = true → axisGroup p a ≠ g.val
    let five := p.groupBit (ob 0x6800 2) g = true → k.silent = false
    let six := p.swFault[2 * g.val]'(by omega) = false ∧ p.swFault[2 * g.val + 1]'(by omega) = false
    (k.closed[g] = true → one ∧ two ∧ three ∧ four ∧ five ∧ six ∧ k.await[g] = false)
    ∧ (¬ (one ∧ two ∧ three ∧ five ∧ six) → k.await[g] = true)
    ∧ (one → two → three → four → five → six → p.groupBit (ob 0x6800 6) g = true → k.await[g] = false)
    ∧ (one → two → three → five → six → ¬ (p.groupBit (ob 0x6800 6) g = true ∧ four) → k.await[g] = (new.chan c).await[g])
    ∧ ((runChannel c new).chan c).await = Vector.replicate 4 true
    ∧ (∀ m : Nat, new.works c = true → ((restartGroups c m new).chan c).await[g] =
        ((new.chan c).await[g] && !(m.testBit g && restartConds new (new.chan c) g)))

/-- Events of the safety channels (R390–R402). -/
def Obligations.SafetyEventsReachTheirChannel : Prop :=
  ∀ s : State,
    (∀ c n a b, s.p2.works c = true → ∃ t, exec (.safetyInputChange c n a b) s = .next t
      ∧ (t.p2.chan c).inputs[n].a = a ∧ (t.p2.chan c).inputs[n].b = b
      ∧ (∀ m : Fin 8, m ≠ n → (t.p2.chan c).inputs[m] = (s.p2.chan c).inputs[m])
      ∧ (t.p2.chan (otherChan c)).inputs = (s.p2.chan (otherChan c)).inputs ∧ t.p3 = s.p3)
    ∧ (∀ c (n : Fin 8), s.p2.works c = true → s.p2.blk (ob 0x6801 (n.val + 1)) ≠ 0 →
      demandsA (s.p2.chan c).inputs[n] ≠ demandsB s.p2 n (s.p2.chan c).inputs[n] → (s.p2.chan c).inputs[n].discrep = false →
      ∀ g, (s.p2.chan c).inputs[n].alone = some g → (s.p2.blk (ob 0x6800 5)).toNat * 1000 ≤ s.p2.clock - g →
      ∃ t, exec (.discrepancy c n) s = .next t ∧ (t.p2.chan c).inputs[n].discrep = true ∧ t.p3 = s.p3
        ∧ (t.p2.chan (otherChan c)).inputs = (s.p2.chan (otherChan c)).inputs)
    ∧ (∀ c (n : Fin 8) q d, s.p2.works c = true → s.p2.blk (ob 0x6801 (n.val + 1)) = 2 → (s.p2.chan c).inputs[n].discrep = false →
      (s.p2.chan c).inputs[n].press = some q → 100000 ≤ ownSpan q d → ownSpan q d < 3000000 →
      ∃ t, exec (.restartPress c n d) s = .next t ∧ t.p3 = s.p3
        ∧ ∀ g : Fin 4, restartConds s.p2 (s.p2.chan c) g = true → (t.p2.chan c).await[g] = false)
    ∧ (∀ c (n : Fin 8) q d, s.p2.works c = true → s.p2.blk (ob 0x6801 (n.val + 1)) = 2 → (s.p2.chan c).inputs[n].discrep = false →
      (s.p2.chan c).inputs[n].press = some q → ownSpan q d < 100000 ∨ 3000000 ≤ ownSpan q d →
      exec (.restartPress c n d) s = .next (onP2 (fun p => report 0x0C0D (min 0xFFFFFFFF (ownSpan q d / 1000)) (p.setChan c fun t =>
        { t with inputs := t.inputs.set n { (p.chan c).inputs[n] with press := none } })) s))
    ∧ (∀ w (v : Nat), s.p1.serves = true → accepted w (ob 0x6888 1) (.num v) s.p1 → s.p2.link = true → s.p1.linkOut = [] →
      s.p2.works .saf = true → s.p2.works .winter = true → ∃ t, exec (.restartWrite w v) s = .next t ∧ t.p3 = s.p3
        ∧ ∀ (c : Chan) (g : Fin 4), v.testBit g = true → restartConds s.p2 (s.p2.chan c) g = true →
          (t.p2.chan c).await[g] = false)
    ∧ (∀ w v, s.p1.serves = true → accepted w (ob 0x6888 1) (.num v) s.p1 → s.p2.link = false → s.p1.linkOut = [] →
      ∃ t, exec (.restartWrite w v) s = .next t ∧ t = s.core (answer w (ob 0x6888 1) abHardware s.p1))
    ∧ (∀ (a : Fin 8) up r, s.p2.works .winter = true → 0 < boundaryCount s.p2 a → s.p2.win.region[a] = some r →
      ∃ t, exec (.sectorPulse a up) s = .next t ∧ t.p3 = s.p3 ∧ t.p2.saf.region = s.p2.saf.region
        ∧ t.p2.win.region[a] = some ((r + if up then 1 else boundaryCount s.p2 a - 1) % boundaryCount s.p2 a))
    ∧ (∀ (a : Fin 8) q, s.p1.up = true → s.p2.works .saf = true → s.p2.link = true → 0 < boundaryCount s.p2 a → s.p1.bit (axKey a 0x1A) 21 = true →
      s.p1.axes[a].loads ≠ s.p2.seenLoads[a] → ∃ t, exec (.positionFrame a q) s = .next t ∧ t.p3 = s.p3
        ∧ t.p2.saf.region[a] = regionOf s.p2 a q ∧ t.p2.win.region[a] = regionOf s.p2 a q
        ∧ t.p2.seenLoads[a] = s.p1.axes[a].loads ∧ t.p2.hold[a] = false)
    ∧ (∀ a : Fin 8, s.p2.works .saf = true → s.p2.saf.region[a] ≠ s.p2.win.region[a] → s.p2.disagree[a] = false →
      ∀ g, s.p2.differ[a] = some g → 100000 ≤ s.p2.clock - g → ∃ t, exec (.sectorDisagree a) s = .next t ∧ t.p2.disagree[a] = true ∧ t.p3 = s.p3)
    ∧ (∀ a : Fin 8, s.p2.powered = true → s.p2.hold[a] = false → s.p2.blk (ob (0x6820 + a) 1) ≠ 0xFF →
        s.p1.bit (axKey a 0x1A) 21 = false ∨ s.p2.link = false ∨ 750 ≤ s.p2.clock - s.p2.frameAt[a] →
        ∃ t, exec (.sectorHold a) s = .next t ∧ t.p2.hold[a] = true ∧ t.p3 = s.p3
        ∧ t.p2.saf.region = s.p2.saf.region ∧ t.p2.win.region = s.p2.win.region)
    ∧ (∀ c, s.p2.works c = true → 2000 ≤ s.p2.clock - (s.p2.chan c).edgeAt → ∃ t, exec (.channelSilence c) s = .next t ∧ (t.p2.chan c).silent = true
        ∧ (t.p2.chan (otherChan c)).silent = (s.p2.chan (otherChan c)).silent ∧ t.p3 = s.p3)
    ∧ (∀ c, s.p2.works c = true → s.p2.clock - (s.p2.chan c).edgeAt < 2000 →
      ∃ t, exec (.channelSilence c) s = .next t ∧ (t.p2.chan c).silent = (s.p2.chan c).silent)
    ∧ (∀ c m d, s.p2.works c = true → s.p2.works (otherChan c) = true → m = ownSpan (s.p2.clock - (s.p2.chan c).edgeAt) d →
      m < 500 ∨ 2000 ≤ m →
      ∃ t, exec (.heartbeatEdge c d) s = .next t ∧ (t.p2.chan c).silent = true ∧ (t.p2.chan c).edgeAt = s.p2.clock ∧ t.p3 = s.p3)
    ∧ (∀ c m d, s.p2.works c = true → s.p2.works (otherChan c) = true → m = ownSpan (s.p2.clock - (s.p2.chan c).edgeAt) d →
      500 ≤ m → m < 2000 → (s.p2.chan c).silent = true →
      ∃ t, exec (.heartbeatEdge c d) s = .next t
        ∧ ((s.p2.chan c).good = 999 → (t.p2.chan c).silent = false)
        ∧ ((s.p2.chan c).good < 999 → (t.p2.chan c).silent = true ∧ (t.p2.chan c).good = (s.p2.chan c).good + 1))

/-- Tests, the parameter block and its confirmation (R405–R414). -/
def Obligations.SafetyTestsBlockAndConfirmation : Prop :=
  ∀ s : State,
    (∀ i, s.p2.works .winter = true → nextItem s.p2 = some i → groupClosed s.p2 (itemGroup i) = true → s.p2.slot = none →
      s.p2.slotAt + (s.p2.blk (ob 0x6800 3)).toNat * 1000 ≤ s.p2.clock →
      ∃ t, exec .testSlot s = .next t ∧ t.p2.slot = some i ∧ t.p2.pulse = some i ∧ t.p2.rotation = s.p2.rotation ∧ t.p3 = s.p3)
    ∧ (∀ i, s.p2.works .winter = true → nextItem s.p2 = some i → groupClosed s.p2 (itemGroup i) = false → s.p2.slot = none →
      s.p2.slotAt + (s.p2.blk (ob 0x6800 3)).toNat * 1000 ≤ s.p2.clock →
      ∃ t, exec .testSlot s = .next t ∧ t.p2.pulse = none ∧ t.p2.slotAt = s.p2.clock ∧ t.p3 = s.p3
        ∧ (switchClosed s.p2 (itemChan i) (itemGroup i) = false → t.p2.slot = some i ∧ t.p2.passed = true ∧ t.p2.rotation = s.p2.rotation)
        ∧ (switchClosed s.p2 (itemChan i) (itemGroup i) = true → t.p2.slot = none ∧ t.p2.rotation = after i))
    ∧ (∀ (p : P2) (i : Fin 8), p.slot = some i → p.passed = true → p.slotAt + pulseWidth p + 100 ≤ p.clock →
      (closeSlot p).slot = none ∧ (closeSlot p).rotation = after i ∧ (closeSlot p).lastPass[i] = p.clock
        ∧ (closeSlot p).overdue[i] = false ∧ (closeSlot p).saf = p.saf ∧ (closeSlot p).win = p.win)
    ∧ (∀ i, s.p2.pulse = some i → s.p2.slot = some i → s.p2.slotAt + pulseWidth s.p2 ≤ s.p2.clock →
      ∃ t, exec (.testPulseEnd true) s = .next t ∧ t.p2.pulse = none ∧ t.p2.swFault = s.p2.swFault ∧ t.p2.failed = s.p2.failed
        ∧ (t.p2.slot = some i ∧ t.p2.passed = true
          ∨ t.p2.slot = none ∧ groupConds (settle s.p2 { s.p2 with pulse := none, passed := true }) (itemGroup i)
              ≠ groupConds s.p2 (itemGroup i)))
    ∧ (∀ i, s.p2.pulse = some i → s.p2.slotAt + pulseWidth s.p2 ≤ s.p2.clock → s.p2.swFault[i] = false → ∃ t, exec (.testPulseEnd false) s = .next t ∧ t.p2.pulse = none ∧ t.p2.slot = none
        ∧ t.p2.swFault[i] = true ∧ t.p2.failed = min 0xFFFFFFFF (s.p2.failed + 1) ∧ t.p2.lastPass = s.p2.lastPass)
    ∧ (s.p2.pulse = none → ∀ b, ∃ t, exec (.testPulseEnd b) s = .next t ∧ t.p2.swFault = s.p2.swFault ∧ t.p2.failed = s.p2.failed)
    ∧ (∀ m, s.p2.powered = false → exec (.switchFault m) s = .next (onP2 (fun p => p) s))
    ∧ (∀ m, s.p2.powered = true → ∃ t, exec (.switchFault m) s = .next t ∧ t.p2.swFault[itemIndex m] = true
        ∧ t.p2.saf.closed[m.group] = false ∧ t.p2.win.closed[m.group] = false ∧ t.p3 = s.p3)
    ∧ (∀ m, s.p2.powered = true → s.p2.lastPass[itemIndex m] + 86400000000 ≤ s.p2.clock → ∃ t, exec (.testOverdue m) s = .next t ∧ t.p2.overdue[itemIndex m] = true ∧ t.p3 = s.p3)
    ∧ (s.p1.phase ≠ .off → s.p2.link = true → s.p2.powered = true → s.p2.haveBlock = false →
      ∃ t, exec .safetyBlockTransfer s = .next t ∧ t.p2.block = startBlock s.p1 ∧ t.p2.haveBlock = true ∧ t.p3 = s.p3)
    ∧ (s.p1.phase = .off ∨ s.p2.link = false → exec .safetyBlockTransfer s = .next s)
    ∧ (∀ c, (s.p2.chan c).st = .checking → s.p2.powered = true → s.p2.startDone = false →
      ∃ t, exec (.startChecksDone c true true) s = .next t ∧ (t.p2.chan c).st = .running)
    ∧ (∀ c b, (s.p2.chan c).st = .checking → s.p2.powered = true → s.p2.startDone = false →
      ∃ t, exec (.startChecksDone c b false) s = .next t ∧ (t.p2.chan c).st = .failed
        ∧ ∀ g : Fin 4, (t.p2.chan c).closed[g] = false)
    ∧ (∀ w index sub v, s.p1.serves = true → inBlock (ob index sub) = true → sub < 256 →
      accepted w (ob index sub) (.num v) s.p1 → s.p2.link = true → s.p1.linkOut = [] →
      ∃ t, exec (.safetyBlockWrite w index sub v) s = .next t ∧ t.p2.block = odPut s.p2.block (ob index sub) v
        ∧ t.p2.confirmed = false ∧ (∀ g : Fin 4, t.p2.saf.closed[g] = false ∧ t.p2.win.closed[g] = false) ∧ t.p3 = s.p3)
    ∧ (∀ w v, s.p1.serves = true → accepted w (ob 0x6881 1) (.num v) s.p1 → exec (.checkValueEntry w v) s =
        .next (written w (ob 0x6881 1) (.num v) (fun p => ({ p with entrySess := w } : P1).wr (ob 0x6881 1) v) s))
    ∧ (∀ c, s.p2.works c = true → s.p2.haveBlock = true → ∃ t, exec (.checkValuePlaced c) s = .next t
        ∧ (t.p2.chan c).check = checkOf s.p2.block ∧ (t.p2.chan c).fresh = true ∧ t.p3 = s.p3)
    ∧ (∀ w v, s.p1.serves = true → accepted w (ob 0x6882 1) (.num v) s.p1 → confirmOk s.p2 w s.p1 = true → s.p1.linkOut = [] →
      ∃ t, exec (.confirm w v) s = .next t ∧ t.p2.confirmed = true ∧ t.p2.confirmedValue = some s.p2.saf.check
        ∧ t.p2.block = s.p2.block ∧ t.p3 = s.p3)
    ∧ (∀ w v, s.p1.serves = true → accepted w (ob 0x6882 1) (.num v) s.p1 → confirmOk s.p2 w s.p1 = false → s.p1.linkOut = [] →
      exec (.confirm w v) s = .next (s.core (answer w (ob 0x6882 1) abRange (record 0x0C09 0 (clearEntry s.p1)))))
    ∧ (∀ e n, s.p1.up = true → s.p2.link = true → s.p2.reports.contains e = true →
      ∃ t, exec (.safetyReport e n) s = .next t ∧ t.p2 = { s.p2 with reports := s.p2.reports.erase e } ∧ t.p3 = s.p3)
    ∧ (∀ e n, s.p2.reports.contains e = false → exec (.safetyReport e n) s = .next s)

/-- The network (R421–R431, R454). -/
def Obligations.NetworkLinksNodesAndGroups : Prop :=
  ∀ s : State, s.p1.up = true →
    (∀ p f, portWorks p s.p1 = true → f.fragment = true →
      exec (.prpFrameReceived p f) s = .next (s.core ((portHears p s.p1).inc (ob 0x5900 0x0E))))
    ∧ (∀ p f, portWorks p s.p1 = true → f.fragment = false → f.lanId = none →
      exec (.prpFrameReceived p f) s = .next (s.core (classify f.payload (portHears p s.p1))))
    ∧ (∀ p f n, portWorks p s.p1 = true → f.fragment = false → f.lanId = some (10 + dpIdx p) → f.payload ≠ .ptp →
      (s.p1.net.nodes.find? fun n => n.source = f.source) = some n → n.duplicate f.seq s.p1.elapsed = true →
      s.p1.bit kNet (2 + dpIdx p) = false →
      ∃ t, exec (.prpFrameReceived p f) s = .next t ∧ t.p1.od = (s.p1.inc (ob 0x5900 0x0B)).od ∧ t.p1.net.rx = s.p1.net.rx
        ∧ t.p1.net.nodes = s.p1.net.nodes.map (fun x => if x.source = f.source then { x with lastGrain := s.p1.elapsed } else x))
    ∧ (∀ p f, portWorks p s.p1 = true → f.fragment = false → f.lanId = some (10 + dpIdx p) → f.payload ≠ .ptp →
      (s.p1.net.nodes.find? fun n => n.source = f.source) = none → s.p1.net.nodes.length < 512 →
      ∃ t, exec (.prpFrameReceived p f) s = .next t ∧ t.p2 = s.p2 ∧ t.p3 = s.p3
        ∧ t.p1.net.nodes = s.p1.net.nodes ++ [⟨f.source, [(f.seq, s.p1.elapsed)], s.p1.elapsed⟩])
    ∧ (∀ p f, portWorks p s.p1 = false → exec (.prpFrameReceived p f) s = .next s)
    ∧ (supervisionDue s.p1 = true → dpDown s.p1 = false → pktOn s.p1 = true → s.p1.net.tx[(4 : Fin 8)].length < 1024 →
      ∃ t, exec .prpSupervision s = .next t ∧ t.p1.od = s.p1.od ∧ t.p1.net.supervisedAt = some s.p1.elapsed
        ∧ t.p1.net.tx[(4 : Fin 8)] = s.p1.net.tx[(4 : Fin 8)] ++ [.supervision])
    ∧ (supervisionDue s.p1 = false → exec .prpSupervision s = .next s)
    ∧ (∀ p, dpOn (dpIdx p) s.p1 = true → lanFaulty p s.p1 = true → odWf s.p1.od = true →
      exec (.lanFault p) s = .next (s.core (judgeRelinquish (setLanFault p s.p1)))
        ∧ (setLanFault p s.p1).bit kNet (2 + dpIdx p) = true ∧ (setLanFault p s.p1).net = s.p1.net)
    ∧ (∀ d r, dpOn (dpIdx d) s.p1 = true → odWf s.p1.od = true →
      let t := linkChange (.dp d) false r s.p1
      exec (.linkChange (.dp d) false r) s = .next (s.core (judgeRelinquish t)) ∧ t.bit kNet (dpIdx d) = false
        ∧ t.bit kNet (2 + dpIdx d) = true ∧ t.field kNet (8 + 2 * dpIdx d) 2 = 0)
    ∧ (∀ d r, dpOn (dpIdx d) s.p1 = true → r = 1 ∨ r = 2 → odWf s.p1.od = true →
      let t := linkChange (.dp d) true r s.p1
      exec (.linkChange (.dp d) true r) s = .next (s.core (judgeRelinquish t)) ∧ t.bit kNet (dpIdx d) = true
        ∧ t.bit kNet (2 + dpIdx d) = false ∧ t.field kNet (8 + 2 * dpIdx d) 2 = r)
    ∧ (∀ (q : Fin 4) b r, sensorOn q s.p1 = true → (b = true → sensorSpeed q r s.p1 = true) → odWf s.p1.od = true →
      let t := linkChange (.sensor q) b r s.p1
      exec (.linkChange (.sensor q) b r) s = .next (s.core (judgeRelinquish t))
        ∧ t.bit kNet (12 + q) = b ∧ t.rd (ob (0x5930 + q) 5) = if b then (r : Int) else 0)
    ∧ (∀ (q : Fin 2) b r, serviceOn q s.p1 = true → (b = true → r = 1 ∨ r = 2) → odWf s.p1.od = true →
      let t := linkChange (.service q) b r s.p1
      exec (.linkChange (.service q) b r) s = .next (s.core (judgeRelinquish t)) ∧ t.bit kNet (16 + q) = b)
    ∧ (∀ p b r, odWf s.p1.od = true → ∃ t, exec (.sfpModuleChange p b r) s = .next t
        ∧ t.p1.field kNet (8 + 2 * dpIdx p) 2 = if b = true ∧ (r = 1 ∨ r = 2) then r else 0)
    ∧ (∀ n, (s.p1.net.nodes.any fun x => x.source = n && x.forgotten s.p1) = true → ∃ t, exec (.nodeForget n) s = .next t
        ∧ t.p1.net.nodes = s.p1.net.nodes.filter fun x => x.source ≠ n)
    ∧ (∀ n, (s.p1.net.nodes.any fun x => x.source = n && x.forgotten s.p1) = false → exec (.nodeForget n) s = .next s)
    ∧ (s.p1.rd (ob 0x5900 3) = 0 → exec .igmpQuery s = .next s)
    ∧ (∀ g, dpIp s.p1 = true → s.p1.net.joined = [g] → s.p1.net.tx[(4 : Fin 8)].length < 1024 →
      ∃ t, exec .igmpQuery s = .next t ∧ t.p1.net.tx[(4 : Fin 8)] = s.p1.net.tx[(4 : Fin 8)] ++ [.igmpReport g])
    ∧ (∀ w (k : Fin 16), s.p1.serves = true → accepted w (ob (0x5910 + k) 1) (.num 1) s.p1 →
      ∃ t, exec (.groupEnable w k 1) s = .next t
        ∧ t.p1.net.joined = s.p1.net.joined.filter (· ≠ s.p1.rdN (ob (0x5910 + k) 2)) ++ [s.p1.rdN (ob (0x5910 + k) 2)])
    ∧ (∀ w (k : Fin 16), s.p1.serves = true → accepted w (ob (0x5910 + k) 1) (.num 0) s.p1 → odWf s.p1.od = true →
      (∀ j : Fin 16, j ≠ k → s.p1.rd (ob (0x5910 + j) 1) = 1 →
        s.p1.rdN (ob (0x5910 + j) 2) ≠ s.p1.rdN (ob (0x5910 + k) 2)) → ∃ t, exec (.groupEnable w k 0) s = .next t
        ∧ t.p1.net.joined = s.p1.net.joined.filter (· ≠ s.p1.rdN (ob (0x5910 + k) 2)))
    ∧ (∀ (p : Fin 4) k, s.p1.rd (ob (0x5930 + p) 1) = 0 → exec (.sensorPortDatagram (.sensor p) k) s = .next s)
    ∧ (∀ (p : Fin 4), s.p1.rd (ob (0x5930 + p) 1) ≠ 0 → sensorOn p s.p1 = true → sensorRoom p 2 s.p1 = true →
      s.p1.net.sensorTx[p].length < 4096 → ∃ t, exec (.sensorPortDatagram (.sensor p) .arp) s = .next t
        ∧ t.p1.net.sensorTx[p] = s.p1.net.sensorTx[p] ++ [.arpReply])
    ∧ (∀ (p : Fin 2), serviceOn p s.p1 = true → serviceRoom p s.p1 = true → s.p1.net.serviceTx[p].length < 256 →
      ∃ t, exec (.sensorPortDatagram (.service p) .icmpEcho) s = .next t
        ∧ t.p1.net.serviceTx[p] = s.p1.net.serviceTx[p] ++ [.echoReply])
    ∧ (∀ w v, s.p1.serves = true → accepted w (ob 0x5900 0x12) (.num v) s.p1 → exec (.networkClearCounters w v) s =
        .next (written w (ob 0x5900 0x12) (.num v) (fun p => (p.wr (ob 0x5900 0x0B) 0).clearSubs 0x5900 0x0D 0x11) s))

/-- AOA requests (R434, R543–R548, R588). -/
def Obligations.AoaRequestsReadAndWrite : Prop :=
  ∀ (s : State) (h : AoaHead) (p : P1),
    (∀ x, nextRequest h x p s →
      let u := takeRequest h p
      let w := h.session
      (∀ i b, let k := keyOf i b
        readVerdict k = 0 → isDomain k = false → exec (.aoaRead h i b) s =
          .next (s.core (answerOctets w 1 k 0 0 0 (readOctets w s.p2 k u) (afterRead w k u))))
      ∧ (∀ i b, let k := keyOf i b
        readVerdict k ≠ 0 → exec (.aoaRead h i b) s = .next (s.core (answerOp w 1 k (readVerdict k) u)))
      ∧ (∀ i b d, exec (.aoaWrite h i b d) s = .next (writeWhole w (keyOf i b) d (s.core u)))
      ∧ (∀ i b off len, let k := keyOf i b
        readVerdict k = 0 → isDomain k = true → 1 ≤ len → len ≤ 1428 → exec (.aoaReadSegment h i b off len) s =
          .next (s.core (let c := readOctets w s.p2 k u
            answerOctets w 3 k off c.length (u.gen k) ((c.drop off).take len) (afterRead w k u))))
      ∧ (∀ i b off d, let k := keyOf i b
        isDomain k = true → verdict w k (.bytes ((bufferOf w k u).getD [] ++ d))
          (segmentRule w k off false (ruleOf s.p2 w k (.bytes ((bufferOf w k u).getD [] ++ d)) u)) u = 0 →
        exec (.aoaWriteSegment h i b off d false) s = .next (s.core (answerSegment w k off d.length 0
          { u with bufs := putBuffer (.session w) k off d u.elapsed u.bufs })))
      ∧ (∀ i b, let k := keyOf i b
        indexExists (k / 256) = true → (rowOf k).isSome = true → exec (.aoaInformation h i b) s =
          .next (s.core (answerOctets w 5 k 0 0 0 (information k) u)))
      ∧ (∃ t, exec (.aoaClose h) s = .next t ∧ session? w t.p1 = none ∧ t.p2 = s.p2 ∧ t.p3 = s.p3
        ∧ ∀ j, j ≠ w → (session? j t.p1).isSome = (session? j s.p1).isSome))
    ∧ (s.p1.serves = true → ifaceUp h.iface s.p1 = true → admitAoa h.iface s.p1 = some p →
      (∀ x a, h.session ≠ 0 → h.session ≤ 16 → session? h.session p = some x → inProgress x.no p = false →
        h.seq % 65536 = x.seq → x.last = some a →
        exec (.aoaClose h) s = .next (s.core (repeatLast h a p))
          ∧ ∀ i b d, exec (.aoaWrite h i b d) s = .next (s.core (repeatLast h a p)))
      ∧ (∀ x, h.session ≠ 0 → h.session ≤ 16 → session? h.session p = some x → h.seq % 65536 ≠ x.seq →
        h.seq % 65536 ≠ (x.seq + 1) % 65536 →
        ∀ i b d, exec (.aoaWrite h i b d) s = .next (s.core (countDiscard p)) ∧ exec (.aoaRead h i b) s = .next (s.core (countDiscard p)))
      ∧ (h.session = 0 → openedBefore h p = none → ∀ n id, freeSession p = some n →
        ∃ t, exec (.aoaOpen h id) s = .next t ∧ (session? n t.p1).isSome = true ∧ t.p2 = s.p2 ∧ t.p3 = s.p3
          ∧ ∀ j, j ≠ n → session? j t.p1 = session? j s.p1)
      ∧ (h.session = 0 → openedBefore h p = none → freeSession p = none →
        ∀ id, exec (.aoaOpen h id) s = .next (s.core (answerOpen h abBusy [] p))))
    ∧ (s.p1.serves = true → ifaceUp h.iface s.p1 = true → admitAoa h.iface s.p1 = none → ∀ i b d,
      exec (.aoaWrite h i b d) s = .next (s.core (s.p1.inc (ob 0x5900 0x11)))
        ∧ exec (.aoaOpen h d) s = .next (s.core (s.p1.inc (ob 0x5900 0x11))))
    ∧ (s.p1.up = true → ifaceUp h.iface s.p1 = true →
      exec (.aoaDatagramDiscard h.iface) s = .next (s.core (s.p1.inc (ob 0x5900 0x0F))))

/-- Parameters, the store, idle sessions (R523–R530, R538, R545, R548). -/
def Obligations.ParameterWritesAndTheStore : Prop :=
  ∀ (s : State) (w : Nat), s.p1.up = true → s.p1.serves = true →
    (∀ i b d, let k := keyOf i b
      let x := spelled k d
      let r := ruleOf s.p2 w k x s.p1
      heldDie k = none → s.p1.linkOut = [] → verdict w k x r s.p1 ≠ 0 → (r.refused (verdict w k x r s.p1) s.p1).linkOut = [] →
      exec (.parameterWrite w i b d) s =
        .next (s.core (answer w k (verdict w k x r s.p1) (r.refused (verdict w k x r s.p1) s.p1))))
    ∧ (∀ i b d, let k := keyOf i b
      let x := spelled k d
      let r := ruleOf s.p2 w k x s.p1
      heldDie k = none → verdict w k x r s.p1 = 0 → stages w k x s.p1 = false →
      exec (.parameterWrite w i b d) s = .next (flushLinks (s.core (answer w k 0 (forward w k x (takeEffect k x r.eff s.p1))))))
    ∧ (∀ v, accepted w (ob 0x6500 1) (.num v) s.p1 → s.p1.mode ≠ 0 → s.p1.save = none →
      ∃ t m, exec (.storeSave w v) s = .next t ∧ t.p1.save = some m ∧ m.step = 1
        ∧ m.target = (if s.p1.rdN (ob 0x6500 3) = 0 then 1 else 0) ∧ t.p1.bank m.target = none
        ∧ t.p1.bank (1 - m.target) = s.p1.bank (1 - m.target)
        ∧ m.image.sequence = (if s.p1.rdN (ob 0x6500 3) = 0xFF then 1 else (s.p1.rdN (ob 0x6500 4) + 1) % 2 ^ 32))
    ∧ (∀ v, accepted w (ob 0x6500 1) (.num v) s.p1 → s.p1.mode = 0 →
      exec (.storeSave w v) s = .next (s.core (answer w (ob 0x6500 1) abMode s.p1)))
    ∧ (∀ v, accepted w (ob 0x6500 1) (.num v) s.p1 → s.p1.mode ≠ 0 → s.p1.save.isSome = true →
      ∃ t, exec (.storeSave w v) s = .next t ∧ t.p1.save = s.p1.save ∧ t.p1.saveHeld = true
        ∧ t.p1.bankA = s.p1.bankA ∧ t.p1.bankB = s.p1.bankB)
    ∧ (∀ m, s.p1.save = some m → m.grain = s.p1.elapsed → ∃ n, (sealImage s.p1).save = some n ∧ n.step = m.step
      ∧ n.target = m.target ∧ n.image.body = imageBody s.p1 ∧ n.image.setCheck = setCheckOf s.p1
      ∧ n.image.sequence = m.image.sequence)
    ∧ (∀ b, s.p1.save = none → exec (.saveStepComplete b) s = .next s)
    ∧ (∀ m b, s.p1.save = some m → m.grain = s.p1.elapsed → exec (.saveStepComplete b) s = .next s)
    ∧ (∀ m, s.p1.save = some m → m.grain ≠ s.p1.elapsed → s.p1.stopped (dmaAddr 1) = false → m.step < 3 →
      exec (.saveStepComplete true) s = .next (s.core { s.p1 with save := some { m with step := m.step + 1 } }))
    ∧ (∀ m, s.p1.save = some m → m.grain ≠ s.p1.elapsed → s.p1.stopped (dmaAddr 1) = false → 3 ≤ m.step → m.target < 2 → s.p1.saveHeld = false →
      odWf s.p1.od = true → ∃ t, exec (.saveStepComplete true) s = .next t ∧ t.p1.save = none ∧ t.p1.bank m.target = some m.image
        ∧ t.p1.rdN (ob 0x6500 3) = m.target ∧ t.p1.rd (ob 0x6500 4) = m.image.sequence
        ∧ t.p1.bank (1 - m.target) = s.p1.bank (1 - m.target))
    ∧ (∀ m b, s.p1.save = some m → m.grain ≠ s.p1.elapsed → b = false ∨ s.p1.stopped (dmaAddr 1) = true → s.p1.saveHeld = false →
      ∃ t, exec (.saveStepComplete b) s = .next t ∧ t.p1.save = none ∧ t.p1.bankA = s.p1.bankA ∧ t.p1.bankB = s.p1.bankB ∧ t.p1.rd (ob 0x6500 3) = s.p1.rd (ob 0x6500 3))
    ∧ (∀ v, accepted w (ob 0x6500 0x0B) (.num v) s.p1 → s.p1.mode = 1 →
      exec (.eraseStore w v) s = .next (written w (ob 0x6500 0x0B) (.num v)
        (fun p => record 0x0F02 0 { p with bankA := none, bankB := none }) s))
    ∧ (∀ (n : Fin 16) x, session? (n + 1) s.p1 = some x → s.p1.rdN (ob 0x6600 8) * 1000000 ≤ s.p1.elapsed - x.lastGrain →
      ∃ t, exec (.sessionIdle n) s = .next t ∧ session? (n + 1) t.p1 = none ∧ t.p2 = s.p2 ∧ t.p3 = s.p3)
    ∧ (∀ (n : Fin 16) x, session? (n + 1) s.p1 = some x → s.p1.elapsed - x.lastGrain < s.p1.rdN (ob 0x6600 8) * 1000000 →
      exec (.sessionIdle n) s = .next s)
    ∧ (∀ i b g, g ∈ s.p1.bufs → g.holder = .session w → g.key = keyOf i b → 10000000 ≤ s.p1.elapsed - g.lastGrain →
      exec (.receiveBufferTimeout w i b) s = .next (s.core (dropBuffer w (keyOf i b) s.p1)))
    ∧ (∀ i b, (∀ g ∈ s.p1.bufs, g.holder = .session w → g.key = keyOf i b → s.p1.elapsed - g.lastGrain < 10000000) →
      exec (.receiveBufferTimeout w i b) s = .next s)

/-- Authorisation, alarms and SDO servers (R544, R551, R552, R554). -/
def Obligations.AuthorisationAlarmsAndServers : Prop :=
  ∀ (s : State) (w : Nat), s.p1.serves = true →
    (∃ t, exec (.challengeRead w) s = .next t ∧ t.p1.free = s.p1.free + 1 ∧ t.p2 = s.p2 ∧ t.p3 = s.p3
      ∧ ∀ x, session? w s.p1 = some x → ∃ y, session? w t.p1 = some y ∧ y.challenge = some (freshChallenge s.p1, s.p1.elapsed))
    ∧ (∀ b, accepted w (ob 0x6600 4) (.bytes b) s.p1 → s.p2.link = true → responseGood s.p2 w b s.p1 = true →
      exec (.authorisationResponse w b) s = .next (written w (ob 0x6600 4) (.bytes b) (fun p =>
        sessEvent 2 w 0 (setSession w (fun x => { x with auth := true, challenge := none }) p)) s)
      ∧ ∃ t, exec (.authorisationResponse w b) s = .next t ∧ authorised w t.p1 = true)
    ∧ (∀ b, accepted w (ob 0x6600 4) (.bytes b) s.p1 → s.p2.link = true → responseGood s.p2 w b s.p1 = false →
      exec (.authorisationResponse w b) s = .next (s.core (answer w (ob 0x6600 4) abAuth (refuseAuth w s.p1)))
      ∧ ∀ j, authorised j (refuseAuth w s.p1) = authorised j s.p1)
    ∧ (∀ g, s.p1.lockout.since = some g → g + 60000000 ≤ s.p1.elapsed →
      exec .lockoutEnd s = .next (s.core { s.p1 with lockout := ⟨[], none⟩ }))
    ∧ (∀ g, s.p1.lockout.since = some g → s.p1.elapsed < g + 60000000 → exec .lockoutEnd s = .next s)
    ∧ (∀ v, accepted w (ob 0x6600 5) (.num v) s.p1 → exec (.giveUpAuthorisation w v) s =
        .next (written w (ob 0x6600 5) (.num v) (setSession w fun x => { x with auth := false }) s))
    ∧ (∀ b, accepted w (ob 0x6600 6) (.bytes b) s.p1 → s.p1.mode = 1 → authorised w s.p1 = true → b.length = 32 →
      s.p2.link = true → s.p1.linkOut = [] → ∃ t, exec (.authorisationKeyWrite w b) s = .next t ∧ t.p2.key = b
        ∧ t.p2.block = s.p2.block ∧ t.p2.confirmed = s.p2.confirmed ∧ t.p3 = s.p3)
    ∧ (∀ b, accepted w (ob 0x6600 6) (.bytes b) s.p1 → s.p1.mode ≠ 1 → s.p1.linkOut = [] →
      exec (.authorisationKeyWrite w b) s = .next (s.core (answer w (ob 0x6600 6) abMode s.p1)))
    ∧ (∀ v, accepted w (ob 0x6200 3) (.num v) s.p1 → ∃ t, exec (.alarmAcknowledge w v) s = .next t ∧ t.p2 = s.p2
        ∧ ∀ a ∈ t.p1.alarms, bitOf v a.cls = true → a.acked = true ∧ a.active = true)
    ∧ (∀ c : Fin 4, accepted w (ob (0x6610 + c) 1) (.num 1) s.p1 → ∃ t, exec (.sdoServerEnable w c 1) s = .next t
        ∧ (session? (17 + c) t.p1).isSome = true)
    ∧ (∀ c : Fin 4, accepted w (ob (0x6610 + c) 1) (.num 0) s.p1 → ∃ t, exec (.sdoServerEnable w c 0) s = .next t
        ∧ session? (17 + c) t.p1 = none)

/-- The recorder (R488–R507, R586). -/
def Obligations.RecorderCommitsInOrder : Prop :=
  ∀ (s : State) (w : Nat), s.p1.up = true → s.p1.serves = true →
    (∀ x r', s.p1.recorder.commit = none → s.p1.recorder.freeze = none → mayCommit s.p1 = true →
      s.p1.recorder.take = some (x, r') → s.p1.recorder.log.length < 32760 →
      ∃ t, exec .recordCommit s = .next t ∧ t.p1.recorder = { r' with commit := some ⟨x, 0, false, 0⟩ })
    ∧ (∀ x r', s.p1.recorder.commit = none → s.p1.recorder.freeze = none → mayCommit s.p1 = true →
      s.p1.recorder.take = some (x, r') → 32760 ≤ s.p1.recorder.log.length →
      ∃ t, exec .recordCommit s = .next t ∧ t.p1.recorder = r')
    ∧ (s.p1.recorder.commit.isSome = true ∨ s.p1.recorder.freeze.isSome = true ∨ mayCommit s.p1 = false ∨
      s.p1.recorder.take = none → exec .recordCommit s = .next s)
    ∧ (∀ x, s.p1.recorder.clears = [] → s.p1.recorder.sessions = [] → s.p1.recorder.counts = x :: s.p1.recorder.counts.tail →
      s.p1.recorder.take = some (x, { s.p1.recorder with counts := s.p1.recorder.counts.tail }))
    ∧ (∀ c, s.p1.recorder.commit = some c → s.p1.alc.opened = false → s.p1.stopped (dmaAddr 0) = false → c.stale = false → odWf s.p1.od = true →
      ∃ t, exec .commitComplete s = .next t ∧ t.p1.recorder.commit = none
        ∧ t.p1.recorder.log = s.p1.recorder.log ++ [c.record]
        ∧ t.p1.rd (ob 0x6000 2) = (s.p1.recorder.log.length + 1 : Nat))
    ∧ (∀ c, s.p1.recorder.commit = some c → s.p1.alc.opened = false → s.p1.stopped (dmaAddr 0) = false → c.stale = true → ∃ t, exec .commitComplete s = .next t
        ∧ t.p1.recorder = { s.p1.recorder with commit := none })
    ∧ (s.p1.recorder.commit = none ∨ s.p1.alc.opened = true ∨ s.p1.stopped (dmaAddr 0) = true → exec .commitComplete s = .next s)
    ∧ (boundaryDue s.p1 = false → exec .periodBoundary s = .next s)
    ∧ (boundaryDue s.p1 = true → ∃ t, exec .periodBoundary s = .next t ∧ t.p1.recorder.log = s.p1.recorder.log ∧ t.p2 = s.p2 ∧ t.p3 = s.p3
      ∧ (t.p1.recorder.counts = s.p1.recorder.counts ∨
        t.p1.recorder.periodStart = s.p1.ns ∧ t.p1.recorder.codes = [] ∧ t.p1.recorder.mergedStart = none))
    ∧ (∀ v, accepted w (ob 0x6100 1) (.num v) s.p1 → odWf s.p1.od = true → ∃ t, exec (.cursorWrite w v) s = .next t
        ∧ t.p1.rd (ob 0x6100 1) = v ∧ t.p1.recorder.cursorLog = s.p1.rdN (ob 0x6000 4) ∧ t.p1.bit (ob 0x6100 4) 2 = false)
    ∧ (∀ v, accepted w (ob 0x6100 3) (.num v) s.p1 → exec (.cursorAdvance w v) s =
        .next (written w (ob 0x6100 3) (.num v)
          (fun p => p.wr (ob 0x6100 1) (clamp 0 (p.rd (ob 0x6000 2)) (p.rd (ob 0x6100 1) + v))) s))
    ∧ (accepted w (ob 0x6100 5) (.num 1) s.p1 → s.p1.recorder.freeze = none → deferredLeft s.p1.recorder = false →
      ∃ t, exec (.freeze w 1) s = .next t ∧ t.p1.recorder.freeze = some (w, s.p1.elapsed) ∧ t.p1.recorder.log = s.p1.recorder.log)
    ∧ (accepted w (ob 0x6100 5) (.num 1) s.p1 → s.p1.recorder.freeze = none → deferredLeft s.p1.recorder = true →
      exec (.freeze w 1) s = .next (s.core (answer w (ob 0x6100 5) abBusy s.p1)))
    ∧ (accepted w (ob 0x6100 5) (.num 0) s.p1 → s.p1.recorder.freeze.isSome = true →
      ∃ t, exec (.freezeRelease w 0) s = .next t ∧ t.p1.recorder.freeze = none)
    ∧ (∀ f, s.p1.recorder.freeze = some f → s.p1.elapsed - f.2 < 60000000 → exec .freezeExpiry s = .next s)
    ∧ (∀ f, s.p1.recorder.freeze = some f → 60000000 ≤ s.p1.elapsed - f.2 → ∃ t, exec .freezeExpiry s = .next t ∧ t.p1.recorder.freeze = none ∧ t.p1.recorder.log = s.p1.recorder.log)
    ∧ (∀ v, accepted w (ob 0x6110 1) (.num v) s.p1 → frozenByOther w s.p1 = false →
      exec (.clearRequest w v) s = .next (written w (ob 0x6110 1) (.num v) (clearRequestRule w).eff s))
    ∧ (∀ v, accepted w (ob 0x6110 3) (.num v) s.p1 → codeGood w v s.p1 = true → frozenByOther w s.p1 = false →
      odWf s.p1.od = true → ∃ t, exec (.confirmClear w v) s = .next t ∧ t.p1.recorder.log = []
        ∧ t.p1.rd (ob 0x6000 4) = (s.p1.rd (ob 0x6000 4) + 1) % 2 ^ 32 ∧ t.p1.rd (ob 0x6000 2) = 0
        ∧ t.p1.bit kRec 0 = false ∧ t.p1.recorder.freeze = none)
    ∧ (∀ v, accepted w (ob 0x6110 3) (.num v) s.p1 → codeGood w v s.p1 = false → exec (.confirmClear w v) s =
        .next (s.core (answer w (ob 0x6110 3) abRange (sessEvent 9 w abRange s.p1))))
    ∧ (∀ (b : Fin 64) v, accepted w (ob 0x6031 (b.val + 1)) (.num v) s.p1 → codeLimitCheck (b.val + 1) v s.p1 = 0 →
      exec (.codeLimitWrite w b v) s = .next (written w (ob 0x6031 (b.val + 1)) (.num v)
        (fun p => refill p (p.wr (ob 0x6031 (b.val + 1)) v)) s))
    ∧ (∀ (b : Fin 64) v, accepted w (ob 0x6031 (b.val + 1)) (.num v) s.p1 → codeLimitCheck (b.val + 1) v s.p1 = abRange →
      exec (.codeLimitWrite w b v) s = .next (s.core (answer w (ob 0x6031 (b.val + 1)) abRange s.p1)))

/-- DMA (R511–R521). -/
def Obligations.DmaChannelsRunTheirRings : Prop :=
  ∀ (s : State) (w : Nat) (d : Fin 16), s.p1.up = true → s.p1.serves = true →
    (accepted w (ob (0x5800 + d) 2) (.num 1) s.p1 → s.p1.rdN (ob (0x5800 + d) 0x0B) = 0 → w < 65536 → odWf s.p1.od = true →
      ∃ t, exec (.dmaEnable w d 1) s = .next t ∧ t.p1.rd (ob (0x5800 + d) 2) = 1 ∧ t.p1.rdN (ob (0x5800 + d) 0x0B) = w
        ∧ t.p1.dma[d].ring = s.p1.dma[d].ring)
    ∧ (∀ v, accepted w (ob (0x5800 + d) 2) (.num v) s.p1 → s.p1.rdN (ob (0x5800 + d) 0x0B) ≠ 0 →
      s.p1.rdN (ob (0x5800 + d) 0x0B) ≠ w →
      exec (.dmaEnable w d v) s = .next (s.core (answer w (ob (0x5800 + d) 2) abBusy s.p1)))
    ∧ (accepted w (ob (0x5800 + d) 2) (.num 0) s.p1 → s.p1.rdN (ob (0x5800 + d) 0x0B) = w → odWf s.p1.od = true →
      ∃ t, exec (.dmaEnable w d 0) s = .next t ∧ t.p1.rd (ob (0x5800 + d) 2) = 0 ∧ t.p1.rdN (ob (0x5800 + d) 0x0B) = 0
        ∧ t.p1.dma[d].ring = [] ∧ t.p1.dma[d].run = none)
    ∧ (∀ b, accepted w (ob (0x5800 + d) 5) (.bytes b) s.p1 → (dmaEnqueueRule s.p2 w d b).check s.p1 = 0 →
      s.p1.stopped (dmaAddr d) = false → s.p1.dma[d].ring.length < 16 →
      ∃ t, exec (.dmaEnqueue w d b) s = .next t ∧ t.p1.dma[d].ring = s.p1.dma[d].ring ++ [readDesc b]
        ∧ ∀ e : Fin 16, e ≠ d → t.p1.dma[e] = s.p1.dma[e])
    ∧ (∀ b, accepted w (ob (0x5800 + d) 5) (.bytes b) s.p1 → s.p1.rdN (ob (0x5800 + d) 0x0B) ≠ w →
      exec (.dmaEnqueue w d b) s = .next (s.core (answer w (ob (0x5800 + d) 5) abAuth s.p1)))
    ∧ (∀ x r, s.p1.dma[d].run = none → s.p1.dma[d].ring = x :: r → s.p1.dma[d].paused = false → s.p1.dma[d].pausing = false →
      s.p1.stopped (dmaAddr d) = false → (x.dstKind ≠ 1 ∨ ∀ b ∈ s.p1.bufs, b.key = x.dstKey → b.holder = .channel d) →
      ∃ t, exec (.dmaDescriptorStart d) s = .next t ∧ t.p1.dma[d].run = some ⟨x, 0, x.backward, false, none⟩
        ∧ t.p1.dma[d].ring = r ∧ ∀ e : Fin 16, e ≠ d → t.p1.dma[e] = s.p1.dma[e])
    ∧ (s.p1.dma[d].run.isSome = true ∨ s.p1.dma[d].ring = [] ∨ s.p1.dma[d].paused = true ∨ s.p1.dma[d].pausing = true ∨
      s.p1.stopped (dmaAddr d) = true → exec (.dmaDescriptorStart d) s = .next s)
    ∧ (s.p1.dma[d].pausing = true → ∃ t, exec (.dmaPaused d) s = .next t ∧ t.p1.dma[d].paused = true
        ∧ t.p1.dma[d].pausing = false ∧ t.p1.od = s.p1.od)
    ∧ (s.p1.dma[d].pausing = false → exec (.dmaPaused d) s = .next s)
    ∧ (∀ n, accepted w (ob (0x5800 + d) 3) (.num 1) s.p1 → s.p1.dma[d].paused = false →
      ∃ t, exec (.dmaPause w d 1 n) s = .next t ∧ t.p1.dma[d].pausing = true ∧ t.p1.dma[d].paused = false)
    ∧ (accepted w (ob (0x5800 + d) 3) (.num 0) s.p1 → ∃ t, exec (.dmaResume w d 0) s = .next t
        ∧ t.p1.dma[d].pausing = false ∧ t.p1.dma[d].paused = false ∧ t.p1.dma[d].ring = s.p1.dma[d].ring
        ∧ t.p1.dma[d].run = s.p1.dma[d].run)
    ∧ (∀ v, accepted w (ob (0x5800 + d) 4) (.num v) s.p1 → ∃ t, exec (.dmaReset w d v) s = .next t
        ∧ t.p1.dma[d].ring = [] ∧ t.p1.dma[d].run = none ∧ t.p1.dma[d].paused = false ∧ t.p1.dma[d].pausing = false)
    ∧ (∀ b, s.p1.dma[d].run = none → exec (.dmaDescriptorComplete d b) s = .next s)
    ∧ (∀ b r c, s.p1.dma[d].run = some r → r.lost = some c → s.p1.stopped (dmaAddr d) = false → s.p1.dma[d].paused = false →
      s.p1.dma[d].pausing = false → exec (.dmaDescriptorComplete d b) s = .next (s.core (dmaFinish d r false false false c s.p1))
        ∧ (dmaFinish d r false false false c s.p1).dma[d].run = none
        ∧ (dmaFinish d r false false false c s.p1).dma[d].done.length = s.p1.dma[d].done.length + 1)
    ∧ (∀ r t, s.p1.dma[d].run = some r → r.lost = none → s.p1.stopped (dmaAddr d) = false → s.p1.dma[d].paused = false →
      s.p1.dma[d].pausing = false → t = (if r.moved < r.desc.len then moveOn s.p2 d r r.desc.len s.p1 else s.p1) →
      (r.desc.commit = false ∨ r.desc.dstKind ≠ 1 → exec (.dmaDescriptorComplete d true) s =
        .next (s.core (dmaFinish d { r with moved := r.desc.len } true (readbackMade t) false 0 t.draw)))
      ∧ (r.desc.commit = true → r.desc.dstKind = 1 → exec (.dmaDescriptorComplete d true) s =
        .next (dmaCommit d { r with moved := r.desc.len } (s.core t)))
      ∧ exec (.dmaDescriptorComplete d false) s =
        .next (s.core (dmaFinish d { r with moved := r.desc.len } false true false 6 t)))
    ∧ (∃ t, exec (.dmaCompletionRead w d) s = .next t
        ∧ t.p1.dma[d].done = (if 8 ≤ d.val then s.p1.dma[d].done.drop 1 else s.p1.dma[d].done)
        ∧ t.p1.dma[d].ring = s.p1.dma[d].ring)

/-- Redundant sets (R436, R461–R484). -/
def Obligations.RedundancyMessagesAndRequests : Prop :=
  ∀ (s : State) (w : Nat), s.p1.up = true → s.p1.serves = true →
    (∀ m, fromPartner m s.p1 = false → exec (.cycleMessage m) s = .next s ∧ exec (.relinquishMessage m) s = .next s)
    ∧ (∀ m, fromPartner m s.p1 = true → m.role ≠ .lead → ∃ t, exec (.cycleMessage m) s = .next t ∧ t.p2 = s.p2 ∧ t.p3 = s.p3
      ∧ (∃ p ∈ t.p1.red.partners, p.id = m.source ∧ p.msg = m ∧ p.age = 0)
      ∧ ∀ p ∈ s.p1.red.partners, p.id ≠ m.source → p ∈ t.p1.red.partners)
    ∧ (∀ m x, fromPartner m s.p1 = true → m.role = .lead → m.mirror = some x → x.writes = [] → s.p1.role = 1 →
      odWf s.p1.od = true → ∃ t, exec (.cycleMessage m) s = .next t ∧ t.p1.mode = x.mode ∧ t.p1.red.mirror = some x
        ∧ t.p1.red.replay = some x ∧ t.p1.lawMode = (if x.pending then x.previousMode else x.mode) ∧ t.p2 = s.p2 ∧ t.p3 = s.p3)
    ∧ (∀ m, fromPartner m s.p1 = true → m.mirror = none → m.nominee = s.p1.rdN kModuleId → s.p1.role = 1 → isEligible s.p1 = true →
      (∀ j : Fin 4, j.val ≠ m.source → s.p1.red.canLead[j] = 0) →
      ∃ t, exec (.relinquishMessage m) s = .next t ∧ t.p1.red.takeover = some (m.source, none) ∧ t.p1.role = 1)
    ∧ (∀ m, fromPartner m s.p1 = true → m.mirror = none → m.nominee ≠ s.p1.rdN kModuleId → 1 ≤ m.nominee → m.nominee ≤ 3 →
      ∃ t, exec (.relinquishMessage m) s = .next t ∧ t.p1.red.relinquish = some ⟨m.source, m.nominee, 0, none⟩
        ∧ t.p1.od = s.p1.od ∧ t.p2 = s.p2 ∧ t.p3 = s.p3)
    ∧ (∀ v, accepted w (ob 0x6400 0x0D) (.num v) s.p1 → v ≠ 0 → s.p1.role = 2 → inSet s.p1 = true →
      (∃ p ∈ recent s.p1, (p.id : Int) = v ∧ ableInView p s.p1 = true) →
      exec (.switchOverRequest w v) s = .next (written w (ob 0x6400 0x0D) (.num v) (fun p =>
        relinquish 0xFE v.toNat 1 (record 0x0E0A (packDetails [(8, v), (8, (w : Int))]) p)) s))
    ∧ (∀ v, accepted w (ob 0x6400 0x0D) (.num v) s.p1 → v ≠ 0 → s.p1.role ≠ 2 →
      exec (.switchOverRequest w v) s = .next (s.core (answer w (ob 0x6400 0x0D) abRange s.p1)))
    ∧ (∀ g, s.p1.red.rejoinSince = some g → s.p1.rdN (ob 0x6400 8) * 1000000 ≤ s.p1.elapsed - g → odWf s.p1.od = true →
      ∃ t, exec .rejoinHoldEnd s = .next t ∧ t.p1.red.rejoinSince = none ∧ t.p1.bit kRed 2 = false)
    ∧ (∀ g, s.p1.red.rejoinSince = some g → s.p1.elapsed - g < s.p1.rdN (ob 0x6400 8) * 1000000 →
      exec .rejoinHoldEnd s = .next s)
    ∧ (∀ i x n, s.p1.setSize = 1 → exec (.republication i x n) s = .next s)
    ∧ (∀ (i : Fin 64) x n, dpIp s.p1 = true → inSet s.p1 = true → s.p1.rd (ob 0x6410 (i.val + 1)) = 0 →
      exec (.republication i x n) s = .next (s.core (s.p1.incWrap (ob 0x6400 0x13))))
    ∧ (∀ (i : Fin 64) x n u, dpIp s.p1 = true → inSet s.p1 = true → s.p1.rd (ob 0x6410 (i.val + 1)) ≠ 0 →
      s.p1.rd (ob 0x6410 (i.val + 1)) ≠ s.p1.rd kModuleId → u = s.p1.incWrap (ob 0x6400 0x13) → slotTakes i true u = true →
      exec (.republication i x n) s = .next (s.core (slotItem i x n u)))
    ∧ (dpIp s.p1 = true → exec .setMessageSegmentTimeout s = .next (s.core (s.p1.inc (ob 0x5900 0x0F))))
    ∧ (∀ v, accepted w (ob 0x6400 0x15) (.num v) s.p1 → exec (.redundancyClearCounters w v) s =
        .next (written w (ob 0x6400 0x15) (.num v) (fun p => p.clearSubs 0x6400 0x0E 0x14) s))

/-- CAN (R438–R445, R456). -/
def Obligations.CanFramesAndErrorStates : Prop :=
  ∀ (s : State) (c : Fin 4), s.p1.up = true → s.p1.serves = true →
    (∀ x, exec (.canAttemptFail c x) s = .next (s.core (judgeRelinquish (canAttemptFail c x s.p1))))
    ∧ (s.p1.can[c].head = none → ∀ x, exec (.canFrameSent c) s = .next s ∧ canAttemptFail c x s.p1 = s.p1)
    ∧ (∀ p f, s.p1.can[c].head = some (p, f) → canOn c s.p1 = true → listenOnly c s.p1 = false → s.p1.can[c].errState ≠ 2 →
      s.p1.can[c].alone = false → ∃ t, exec (.canFrameSent c) s = .next t ∧ t.p1.can[c].tec = s.p1.can[c].tec - 1
        ∧ t.p1.can[c].queue p = (s.p1.can[c].queue p).drop 1 ∧ (∀ d : Fin 4, d ≠ c → t.p1.can[d] = s.p1.can[d]))
    ∧ (∀ p f x, s.p1.can[c].head = some (p, f) → canOn c s.p1 = true → listenOnly c s.p1 = false → s.p1.can[c].errState ≠ 2 →
      errStateOf (tecAfter s.p1.can[c].tec s.p1.can[c].errState x) s.p1.can[c].rxErr ≠ 2 →
      f.attempts + 1 ≤ s.p1.rdN (ob (0x5600 + c) (0x0A + p)) → let t := canAttemptFail c x s.p1
        t.can[c].tec = tecAfter s.p1.can[c].tec s.p1.can[c].errState x
        ∧ t.can[c].head = some (p, { f with attempts := f.attempts + 1, onlyAck := f.onlyAck && x = .ackError,
                                               lastArb := x = .lostArbitration })
        ∧ (∀ d : Fin 4, d ≠ c → t.can[d] = s.p1.can[d]))
    ∧ (∀ p f, s.p1.can[c].head = some (p, f) → canOn c s.p1 = true → listenOnly c s.p1 = false → s.p1.can[c].errState ≠ 2 →
      errStateOf (s.p1.can[c].tec + 8) s.p1.can[c].rxErr ≠ 2 → s.p1.rdN (ob (0x5600 + c) (0x0A + p)) ≤ f.attempts →
      (canAttemptFail c .otherError s.p1).can[c].queue p = (s.p1.can[c].queue p).drop 1)
    ∧ (∀ p f, s.p1.can[c].head = some (p, f) → canOn c s.p1 = true → listenOnly c s.p1 = false → s.p1.can[c].errState ≠ 2 →
      248 ≤ s.p1.can[c].tec → (canAttemptFail c .otherError s.p1).can[c].errState = 2
        ∧ (canAttemptFail c .otherError s.p1).can[c].tec = s.p1.can[c].tec + 8)
    ∧ (s.p1.can[c].errState = 2 → canOn c s.p1 = true → ∃ t, exec (.canBusOffRecovery c) s = .next t ∧ t.p1.can[c].errState = 0
        ∧ t.p1.can[c].tec = 0 ∧ t.p1.can[c].rxErr = 0 ∧ t.p2 = s.p2 ∧ t.p3 = s.p3)
    ∧ (s.p1.can[c].errState ≠ 2 → exec (.canBusOffRecovery c) s = .next s)
    ∧ (∃ t, exec (.canFrameExpiry c) s = .next t ∧ t.p1.can[c].q0 = s.p1.can[c].q0.filter (fun f => !f.old s.p1)
        ∧ t.p1.can[c].q1 = s.p1.can[c].q1 ∧ (∀ d : Fin 4, d ≠ c → t.p1.can[d] = s.p1.can[d]))
    ∧ (canOn c s.p1 = false ∨ s.p1.can[c].errState = 2 → ∀ f, exec (.canFrameReceived c f) s = .next s)
    ∧ (canOn c s.p1 = true → s.p1.can[c].errState ≠ 2 → ∀ f, ∃ t, exec (.canFrameReceived c f) s = .next t
        ∧ t.p1.can[c].alone = false ∧ t.p1.can[c].aloneRun = 0 ∧ t.p2 = s.p2 ∧ t.p3 = s.p3)
    ∧ (∀ n, canOn c s.p1 = true → listenOnly c s.p1 = false → s.p1.can[c].errState ≠ 2 → s.p1.can[c].tec ≤ 255 →
      ∃ t, exec (.canReceiveError c n) s = .next t ∧ t.p1.can[c].rxErr = min 255 (s.p1.can[c].rxErr + n)
        ∧ t.p1.can[c].tec = s.p1.can[c].tec)
    ∧ (∀ n, canOn c s.p1 = false ∨ listenOnly c s.p1 = true ∨ s.p1.can[c].errState = 2 → exec (.canReceiveError c n) s = .next s)
    ∧ (∀ w b v, b < 256 → b ≠ 0x19 → accepted w (ob (0x5600 + c) b) (.num v) s.p1 → canWriteCheck c b v s.p1 = 0 →
      exec (.canChannelWrite w c b v) s = .next (written w (ob (0x5600 + c) b) (.num v) (fun p =>
        if b ≤ 9 then setCan c (fun x => { x with writes := x.writes ++ [(b, v)] }) p else p.wr (ob (0x5600 + c) b) v) s))
    ∧ (s.p1.can[c].writes ≠ [] → (adoptCan c s.p1).can[c].writes = [] ∧ (adoptCan c s.p1).can[c].away = true
      ∧ canOn c (adoptCan c s.p1) = false)
    ∧ (s.p1.can[c].writes = [] → (adoptCan c s.p1).can[c].away = false)
    ∧ (∀ w b v, b < 256 → b ≠ 0x19 → accepted w (ob (0x5600 + c) b) (.num v) s.p1 → canWriteCheck c b v s.p1 ≠ 0 →
      exec (.canChannelWrite w c b v) s = .next (s.core (answer w (ob (0x5600 + c) b) abRange s.p1)))
    ∧ (∀ w v, accepted w (ob (0x5600 + c) 0x19) (.num v) s.p1 → exec (.canClearCounters w c v) s =
        .next (written w (ob (0x5600 + c) 0x19) (.num v) (fun p => p.clearSubs (0x5600 + c) 0x12 0x17) s))

/-- SDO servers and the heartbeat (R543–R550, R558). -/
def Obligations.SdoTransfersAndHeartbeat : Prop :=
  ∀ (s : State) (c : Fin 4), s.p1.serves = true →
    (sdoWorks c s.p1 = false → ∀ i b d l k, exec (.sdoDownload c i b d l) s = .next s
      ∧ exec (.sdoUpload c i b l) s = .next s ∧ exec (.sdoBlockDownload c i b d l k) s = .next s
      ∧ exec (.sdoBlockUpload c i b l) s = .next s ∧ exec (.sdoAbort c) s = .next s)
    ∧ (∀ i b d, sdoWorks c s.p1 = true → s.p1.sdo[c] = none → isDomain (keyOf i b) = false →
      ∃ t, exec (.sdoDownload c i b d false) s = .next t ∧ t.p1.sdo[c] = some ⟨keyOf i b, false, false, d⟩
        ∧ t.p2 = s.p2 ∧ t.p3 = s.p3)
    ∧ (∀ i b d, let k := keyOf i b
      sdoWorks c s.p1 = true → s.p1.sdo[c] = none → isDomain k = false → exec (.sdoDownload c i b d true) s =
        .next (writeObject (answerOp (17 + c) 2 k) (17 + c) k (spelled k d) (s.core (setSdo c none s.p1))))
    ∧ (∀ i b d, sdoWorks c s.p1 = true → s.p1.sdo[c] = none → ∃ t, exec (.sdoBlockDownload c i b d true false) s = .next t
        ∧ t.p1.sdo[c] = none ∧ t.p1.dom = s.p1.dom ∧ t.p2 = s.p2 ∧ t.p3 = s.p3)
    ∧ (∀ i b d, sdoWorks c s.p1 = true → s.p1.sdo[c] = none → isDomain (keyOf i b) = false →
      ∃ t, exec (.sdoBlockDownload c i b d false true) s = .next t ∧ t.p1.sdo[c] = some ⟨keyOf i b, false, true, d⟩)
    ∧ (∀ i b, let k := keyOf i b
      sdoWorks c s.p1 = true → s.p1.sdo[c] = none → readVerdict k = 0 → exec (.sdoUpload c i b true) s =
        .next (s.core (let o := readOctets (17 + c) s.p2 k s.p1
          answerOctets (17 + c) 1 k 0 o.length 0 o (setSdo c none (afterRead (17 + c) k s.p1)))))
    ∧ (∀ i b, sdoWorks c s.p1 = true → s.p1.sdo[c] = none → readVerdict (keyOf i b) = 0 →
      ∃ t, exec (.sdoUpload c i b false) s = .next t ∧ t.p1.sdo[c] = some ⟨keyOf i b, true, false, []⟩)
    ∧ (∀ i b l, sdoWorks c s.p1 = true → s.p1.sdo[c] = none → readVerdict (keyOf i b) = 0 →
      ∃ t, exec (.sdoBlockUpload c i b l) s = .next t
        ∧ t.p1.sdo[c] = (if l then none else some ⟨keyOf i b, true, true, []⟩))
    ∧ (∀ i b l, let k := keyOf i b
      sdoWorks c s.p1 = true → s.p1.sdo[c] = none → readVerdict k ≠ 0 → exec (.sdoUpload c i b l) s =
        .next (s.core (answerOp (17 + c) 1 k (readVerdict k) (setSdo c none s.p1))))
    ∧ (sdoWorks c s.p1 = true → ∃ t, exec (.sdoAbort c) s = .next t ∧ t.p1.sdo[c] = none ∧ t.p2 = s.p2 ∧ t.p3 = s.p3)
    ∧ (∀ x y, s.p1.sdo[c] = some x → session? (17 + c) s.p1 = some y → 1000000 ≤ s.p1.elapsed - y.lastGrain →
      ∃ t, exec (.sdoTimeout c) s = .next t ∧ t.p1.sdo[c] = none ∧ t.p1.reply.map (·.abort) = some abTimeout)
    ∧ (∀ y, session? (17 + c) s.p1 = some y → s.p1.elapsed - y.lastGrain < 1000000 → exec (.sdoTimeout c) s = .next s)
    ∧ (heartbeatDue s.p1 = false → exec .canopenHeartbeat s = .next s)
    ∧ (heartbeatDue s.p1 = true → s.p1.rd (ob (0x6610 + c) 1) = 1 → s.p1.stopped (canAddr c) = false →
      s.p1.rd (ob (0x5600 + c) 1) ≠ 0 → s.p1.rd (ob (0x5600 + c) 7) ≠ 1 → s.p1.can[c].q1.length < 64 →
      ∃ t, exec .canopenHeartbeat s = .next t ∧ t.p1.can[c].q1 = s.p1.can[c].q1
        ++ [{ txFrame .canopen (0x700 + s.p1.rdN (ob (0x6610 + c) 2)) (le 1 (if s.p1.mode = 1 then 0x7F else 5)) with
              queuedAt := s.p1.elapsed }] ∧ t.p1.heartbeatAt = some s.p1.elapsed)

/-- The nanoseconds latched for a session (R290). -/
def Obligations.SecondsReadLatchesNanoseconds : Prop :=
  ∀ (s : State) (w : Nat) (x : Session), s.p1.serves = true → session? w s.p1 = some x →
    ∃ t, exec (.secondsRead w) s = .next t ∧ t.p2 = s.p2 ∧ t.p3 = s.p3
      ∧ ∀ p : P1, p.sessions = t.p1.sessions →
        showNum w s.p2 (ob 0x5001 3) p = ((s.p1.ns % 1000000000 : Nat) : Int)
        ∧ (∀ v y, v ≠ w → session? v s.p1 = some y → y.nanos = none →
            showNum v s.p2 (ob 0x5001 3) p = ((p.ns % 1000000000 : Nat) : Int))
        ∧ (∀ q : P1, q.sessions = (afterRead w (ob 0x5001 3) p).sessions →
            showNum w s.p2 (ob 0x5001 3) q = ((q.ns % 1000000000 : Nat) : Int))

/-- What reset leaves (R366, R410, R536; log entry 1 where the spec gives no value). -/
def Obligations.ResetHoldsTheDefaults : Prop :=
  (∀ k, k ∉ [ob 0x2100 4, ob 0x2100 0x10, ob 0x4400 1, ob 0x4400 2, ob 0x4400 3, ob 0x6000 1, ob 0x6000 4] →
    State.reset.p1.rd k = defaultOf k)
  ∧ odWf State.reset.p1.od = true ∧ (∀ k, State.reset.p1.octets k = []) ∧ State.reset.p1.sessions = []
  ∧ State.reset.p1.alarms = [] ∧ State.reset.p1.faults = [] ∧ State.reset.p1.red.partners = []
  ∧ (∀ e : Fin 4, State.reset.p1.solver.engines[e].run = none) ∧ State.reset.p1.bufs = []
  ∧ State.reset.p2.startDone = false ∧ State.reset.p2.confirmed = false
  ∧ (∀ g : Fin 4, State.reset.p2.saf.await[g] = true ∧ State.reset.p2.win.await[g] = true)
  ∧ (∀ n : Fin 16, doCommanded State.reset.p3 n = false ∧ aoCommanded State.reset.p3 n = 0)
  ∧ State.reset.p3.low = true ∧ State.reset.p3.missing = true ∧ State.reset.pending = []
end

