-- ==== Sys2Proof/Laws/State.lean ====
section
/-! SUPPORT. What each update of the state writes and leaves alone: one lemma for each field, true by definition. -/

namespace Sys2Proof.Machine

/-! `P1.wr` -/

@[simp] theorem P1.wr_phase (k : Nat) (v : Int) (s : P1) : (s.wr k v).phase = s.phase := rfl
@[simp] theorem P1.wr_ns (k : Nat) (v : Int) (s : P1) : (s.wr k v).ns = s.ns := rfl
@[simp] theorem P1.wr_elapsed (k : Nat) (v : Int) (s : P1) : (s.wr k v).elapsed = s.elapsed := rfl
@[simp] theorem P1.wr_free (k : Nat) (v : Int) (s : P1) : (s.wr k v).free = s.free := rfl
@[simp] theorem P1.wr_od (k : Nat) (v : Int) (s : P1) : (s.wr k v).od = odPut s.od k v := rfl
@[simp] theorem P1.wr_dom (k : Nat) (v : Int) (s : P1) : (s.wr k v).dom = s.dom := rfl
@[simp] theorem P1.wr_sessions (k : Nat) (v : Int) (s : P1) : (s.wr k v).sessions = s.sessions := rfl
@[simp] theorem P1.wr_reply (k : Nat) (v : Int) (s : P1) : (s.wr k v).reply = s.reply := rfl
@[simp] theorem P1.wr_bufs (k : Nat) (v : Int) (s : P1) : (s.wr k v).bufs = s.bufs := rfl
@[simp] theorem P1.wr_sdo (k : Nat) (v : Int) (s : P1) : (s.wr k v).sdo = s.sdo := rfl
@[simp] theorem P1.wr_lockout (k : Nat) (v : Int) (s : P1) : (s.wr k v).lockout = s.lockout := rfl
@[simp] theorem P1.wr_alarms (k : Nat) (v : Int) (s : P1) : (s.wr k v).alarms = s.alarms := rfl
@[simp] theorem P1.wr_unlisted (k : Nat) (v : Int) (s : P1) : (s.wr k v).unlisted = s.unlisted := rfl
@[simp] theorem P1.wr_faults (k : Nat) (v : Int) (s : P1) : (s.wr k v).faults = s.faults := rfl
@[simp] theorem P1.wr_unreported (k : Nat) (v : Int) (s : P1) : (s.wr k v).unreported = s.unreported := rfl
@[simp] theorem P1.wr_lastCauses (k : Nat) (v : Int) (s : P1) : (s.wr k v).lastCauses = s.lastCauses := rfl
@[simp] theorem P1.wr_cyclePending (k : Nat) (v : Int) (s : P1) : (s.wr k v).cyclePending = s.cyclePending := rfl
@[simp] theorem P1.wr_overrunRun (k : Nat) (v : Int) (s : P1) : (s.wr k v).overrunRun = s.overrunRun := rfl
@[simp] theorem P1.wr_snapGrain (k : Nat) (v : Int) (s : P1) : (s.wr k v).snapGrain = s.snapGrain := rfl
@[simp] theorem P1.wr_lawMode (k : Nat) (v : Int) (s : P1) : (s.wr k v).lawMode = s.lawMode := rfl
@[simp] theorem P1.wr_blend (k : Nat) (v : Int) (s : P1) : (s.wr k v).blend = s.blend := rfl
@[simp] theorem P1.wr_springStep (k : Nat) (v : Int) (s : P1) : (s.wr k v).springStep = s.springStep := rfl
@[simp] theorem P1.wr_stuck (k : Nat) (v : Int) (s : P1) : (s.wr k v).stuck = s.stuck := rfl
@[simp] theorem P1.wr_startGrain (k : Nat) (v : Int) (s : P1) : (s.wr k v).startGrain = s.startGrain := rfl
@[simp] theorem P1.wr_recorder (k : Nat) (v : Int) (s : P1) : (s.wr k v).recorder = s.recorder := rfl
@[simp] theorem P1.wr_dma (k : Nat) (v : Int) (s : P1) : (s.wr k v).dma = s.dma := rfl
@[simp] theorem P1.wr_bankA (k : Nat) (v : Int) (s : P1) : (s.wr k v).bankA = s.bankA := rfl
@[simp] theorem P1.wr_bankB (k : Nat) (v : Int) (s : P1) : (s.wr k v).bankB = s.bankB := rfl
@[simp] theorem P1.wr_save (k : Nat) (v : Int) (s : P1) : (s.wr k v).save = s.save := rfl
@[simp] theorem P1.wr_saveHeld (k : Nat) (v : Int) (s : P1) : (s.wr k v).saveHeld = s.saveHeld := rfl
@[simp] theorem P1.wr_can (k : Nat) (v : Int) (s : P1) : (s.wr k v).can = s.can := rfl
@[simp] theorem P1.wr_net (k : Nat) (v : Int) (s : P1) : (s.wr k v).net = s.net := rfl
@[simp] theorem P1.wr_heartbeatAt (k : Nat) (v : Int) (s : P1) : (s.wr k v).heartbeatAt = s.heartbeatAt := rfl
@[simp] theorem P1.wr_serial (k : Nat) (v : Int) (s : P1) : (s.wr k v).serial = s.serial := rfl
@[simp] theorem P1.wr_red (k : Nat) (v : Int) (s : P1) : (s.wr k v).red = s.red := rfl
@[simp] theorem P1.wr_ctl (k : Nat) (v : Int) (s : P1) : (s.wr k v).ctl = s.ctl := rfl
@[simp] theorem P1.wr_alc (k : Nat) (v : Int) (s : P1) : (s.wr k v).alc = s.alc := rfl
@[simp] theorem P1.wr_acks (k : Nat) (v : Int) (s : P1) : (s.wr k v).acks = s.acks := rfl
@[simp] theorem P1.wr_ao (k : Nat) (v : Int) (s : P1) : (s.wr k v).ao = s.ao := rfl
@[simp] theorem P1.wr_next (k : Nat) (v : Int) (s : P1) : (s.wr k v).next = s.next := rfl
@[simp] theorem P1.wr_slots (k : Nat) (v : Int) (s : P1) : (s.wr k v).slots = s.slots := rfl
@[simp] theorem P1.wr_fus (k : Nat) (v : Int) (s : P1) : (s.wr k v).fus = s.fus := rfl
@[simp] theorem P1.wr_axes (k : Nat) (v : Int) (s : P1) : (s.wr k v).axes = s.axes := rfl
@[simp] theorem P1.wr_emu (k : Nat) (v : Int) (s : P1) : (s.wr k v).emu = s.emu := rfl
@[simp] theorem P1.wr_probes (k : Nat) (v : Int) (s : P1) : (s.wr k v).probes = s.probes := rfl
@[simp] theorem P1.wr_filt (k : Nat) (v : Int) (s : P1) : (s.wr k v).filt = s.filt := rfl
@[simp] theorem P1.wr_time (k : Nat) (v : Int) (s : P1) : (s.wr k v).time = s.time := rfl
@[simp] theorem P1.wr_solver (k : Nat) (v : Int) (s : P1) : (s.wr k v).solver = s.solver := rfl
@[simp] theorem P1.wr_linkOut (k : Nat) (v : Int) (s : P1) : (s.wr k v).linkOut = s.linkOut := rfl
@[simp] theorem P1.wr_entrySess (k : Nat) (v : Int) (s : P1) : (s.wr k v).entrySess = s.entrySess := rfl
@[simp] theorem P1.wr_fldLink (k : Nat) (v : Int) (s : P1) : (s.wr k v).fldLink = s.fldLink := rfl
@[simp] theorem P1.wr_supply (k : Nat) (v : Int) (s : P1) : (s.wr k v).supply = s.supply := rfl
@[simp] theorem P1.wr_owed (k : Nat) (v : Int) (s : P1) : (s.wr k v).owed = s.owed := rfl
@[simp] theorem P1.wr_linkTries (k : Nat) (v : Int) (s : P1) : (s.wr k v).linkTries = s.linkTries := rfl
@[simp] theorem P1.wr_snapDue (k : Nat) (v : Int) (s : P1) : (s.wr k v).snapDue = s.snapDue := rfl
@[simp] theorem P1.wr_crossings (k : Nat) (v : Int) (s : P1) : (s.wr k v).crossings = s.crossings := rfl
@[simp] theorem P1.wr_pllLost (k : Nat) (v : Int) (s : P1) : (s.wr k v).pllLost = s.pllLost := rfl
@[simp] theorem P1.wr_asleep (k : Nat) (v : Int) (s : P1) : (s.wr k v).asleep = s.asleep := rfl
@[simp] theorem P1.wr_served (k : Nat) (v : Int) (s : P1) : (s.wr k v).served = s.served := rfl
@[simp] theorem P1.wr_reports (k : Nat) (v : Int) (s : P1) : (s.wr k v).reports = s.reports := rfl
@[simp] theorem P1.wr_mailboxes (k : Nat) (v : Int) (s : P1) : (s.wr k v).mailboxes = s.mailboxes := rfl
@[simp] theorem P1.wr_before (k : Nat) (v : Int) (s : P1) : (s.wr k v).before = s.before := rfl
@[simp] theorem P1.wr_octets (k : Nat) (v : Int) (s : P1) (j : Nat) : (s.wr k v).octets j = s.octets j := rfl

/-! `P1.setBit` -/

@[simp] theorem P1.setBit_phase (k n : Nat) (b : Bool) (s : P1) : (s.setBit k n b).phase = s.phase := rfl
@[simp] theorem P1.setBit_ns (k n : Nat) (b : Bool) (s : P1) : (s.setBit k n b).ns = s.ns := rfl
@[simp] theorem P1.setBit_elapsed (k n : Nat) (b : Bool) (s : P1) : (s.setBit k n b).elapsed = s.elapsed := rfl
@[simp] theorem P1.setBit_free (k n : Nat) (b : Bool) (s : P1) : (s.setBit k n b).free = s.free := rfl
@[simp] theorem P1.setBit_od (k n : Nat) (b : Bool) (s : P1) : (s.setBit k n b).od = odPut s.od k (withBit (s.rd k) n b) := rfl
@[simp] theorem P1.setBit_dom (k n : Nat) (b : Bool) (s : P1) : (s.setBit k n b).dom = s.dom := rfl
@[simp] theorem P1.setBit_sessions (k n : Nat) (b : Bool) (s : P1) : (s.setBit k n b).sessions = s.sessions := rfl
@[simp] theorem P1.setBit_reply (k n : Nat) (b : Bool) (s : P1) : (s.setBit k n b).reply = s.reply := rfl
@[simp] theorem P1.setBit_bufs (k n : Nat) (b : Bool) (s : P1) : (s.setBit k n b).bufs = s.bufs := rfl
@[simp] theorem P1.setBit_sdo (k n : Nat) (b : Bool) (s : P1) : (s.setBit k n b).sdo = s.sdo := rfl
@[simp] theorem P1.setBit_lockout (k n : Nat) (b : Bool) (s : P1) : (s.setBit k n b).lockout = s.lockout := rfl
@[simp] theorem P1.setBit_alarms (k n : Nat) (b : Bool) (s : P1) : (s.setBit k n b).alarms = s.alarms := rfl
@[simp] theorem P1.setBit_unlisted (k n : Nat) (b : Bool) (s : P1) : (s.setBit k n b).unlisted = s.unlisted := rfl
@[simp] theorem P1.setBit_faults (k n : Nat) (b : Bool) (s : P1) : (s.setBit k n b).faults = s.faults := rfl
@[simp] theorem P1.setBit_unreported (k n : Nat) (b : Bool) (s : P1) : (s.setBit k n b).unreported = s.unreported := rfl
@[simp] theorem P1.setBit_lastCauses (k n : Nat) (b : Bool) (s : P1) : (s.setBit k n b).lastCauses = s.lastCauses := rfl
@[simp] theorem P1.setBit_cyclePending (k n : Nat) (b : Bool) (s : P1) : (s.setBit k n b).cyclePending = s.cyclePending := rfl
@[simp] theorem P1.setBit_overrunRun (k n : Nat) (b : Bool) (s : P1) : (s.setBit k n b).overrunRun = s.overrunRun := rfl
@[simp] theorem P1.setBit_snapGrain (k n : Nat) (b : Bool) (s : P1) : (s.setBit k n b).snapGrain = s.snapGrain := rfl
@[simp] theorem P1.setBit_lawMode (k n : Nat) (b : Bool) (s : P1) : (s.setBit k n b).lawMode = s.lawMode := rfl
@[simp] theorem P1.setBit_blend (k n : Nat) (b : Bool) (s : P1) : (s.setBit k n b).blend = s.blend := rfl
@[simp] theorem P1.setBit_springStep (k n : Nat) (b : Bool) (s : P1) : (s.setBit k n b).springStep = s.springStep := rfl
@[simp] theorem P1.setBit_stuck (k n : Nat) (b : Bool) (s : P1) : (s.setBit k n b).stuck = s.stuck := rfl
@[simp] theorem P1.setBit_startGrain (k n : Nat) (b : Bool) (s : P1) : (s.setBit k n b).startGrain = s.startGrain := rfl
@[simp] theorem P1.setBit_recorder (k n : Nat) (b : Bool) (s : P1) : (s.setBit k n b).recorder = s.recorder := rfl
@[simp] theorem P1.setBit_dma (k n : Nat) (b : Bool) (s : P1) : (s.setBit k n b).dma = s.dma := rfl
@[simp] theorem P1.setBit_bankA (k n : Nat) (b : Bool) (s : P1) : (s.setBit k n b).bankA = s.bankA := rfl
@[simp] theorem P1.setBit_bankB (k n : Nat) (b : Bool) (s : P1) : (s.setBit k n b).bankB = s.bankB := rfl
@[simp] theorem P1.setBit_save (k n : Nat) (b : Bool) (s : P1) : (s.setBit k n b).save = s.save := rfl
@[simp] theorem P1.setBit_saveHeld (k n : Nat) (b : Bool) (s : P1) : (s.setBit k n b).saveHeld = s.saveHeld := rfl
@[simp] theorem P1.setBit_can (k n : Nat) (b : Bool) (s : P1) : (s.setBit k n b).can = s.can := rfl
@[simp] theorem P1.setBit_net (k n : Nat) (b : Bool) (s : P1) : (s.setBit k n b).net = s.net := rfl
@[simp] theorem P1.setBit_heartbeatAt (k n : Nat) (b : Bool) (s : P1) : (s.setBit k n b).heartbeatAt = s.heartbeatAt := rfl
@[simp] theorem P1.setBit_serial (k n : Nat) (b : Bool) (s : P1) : (s.setBit k n b).serial = s.serial := rfl
@[simp] theorem P1.setBit_red (k n : Nat) (b : Bool) (s : P1) : (s.setBit k n b).red = s.red := rfl
@[simp] theorem P1.setBit_ctl (k n : Nat) (b : Bool) (s : P1) : (s.setBit k n b).ctl = s.ctl := rfl
@[simp] theorem P1.setBit_alc (k n : Nat) (b : Bool) (s : P1) : (s.setBit k n b).alc = s.alc := rfl
@[simp] theorem P1.setBit_acks (k n : Nat) (b : Bool) (s : P1) : (s.setBit k n b).acks = s.acks := rfl
@[simp] theorem P1.setBit_ao (k n : Nat) (b : Bool) (s : P1) : (s.setBit k n b).ao = s.ao := rfl
@[simp] theorem P1.setBit_next (k n : Nat) (b : Bool) (s : P1) : (s.setBit k n b).next = s.next := rfl
@[simp] theorem P1.setBit_slots (k n : Nat) (b : Bool) (s : P1) : (s.setBit k n b).slots = s.slots := rfl
@[simp] theorem P1.setBit_fus (k n : Nat) (b : Bool) (s : P1) : (s.setBit k n b).fus = s.fus := rfl
@[simp] theorem P1.setBit_axes (k n : Nat) (b : Bool) (s : P1) : (s.setBit k n b).axes = s.axes := rfl
@[simp] theorem P1.setBit_emu (k n : Nat) (b : Bool) (s : P1) : (s.setBit k n b).emu = s.emu := rfl
@[simp] theorem P1.setBit_probes (k n : Nat) (b : Bool) (s : P1) : (s.setBit k n b).probes = s.probes := rfl
@[simp] theorem P1.setBit_filt (k n : Nat) (b : Bool) (s : P1) : (s.setBit k n b).filt = s.filt := rfl
@[simp] theorem P1.setBit_time (k n : Nat) (b : Bool) (s : P1) : (s.setBit k n b).time = s.time := rfl
@[simp] theorem P1.setBit_solver (k n : Nat) (b : Bool) (s : P1) : (s.setBit k n b).solver = s.solver := rfl
@[simp] theorem P1.setBit_linkOut (k n : Nat) (b : Bool) (s : P1) : (s.setBit k n b).linkOut = s.linkOut := rfl
@[simp] theorem P1.setBit_entrySess (k n : Nat) (b : Bool) (s : P1) : (s.setBit k n b).entrySess = s.entrySess := rfl
@[simp] theorem P1.setBit_fldLink (k n : Nat) (b : Bool) (s : P1) : (s.setBit k n b).fldLink = s.fldLink := rfl
@[simp] theorem P1.setBit_supply (k n : Nat) (b : Bool) (s : P1) : (s.setBit k n b).supply = s.supply := rfl
@[simp] theorem P1.setBit_owed (k n : Nat) (b : Bool) (s : P1) : (s.setBit k n b).owed = s.owed := rfl
@[simp] theorem P1.setBit_linkTries (k n : Nat) (b : Bool) (s : P1) : (s.setBit k n b).linkTries = s.linkTries := rfl
@[simp] theorem P1.setBit_snapDue (k n : Nat) (b : Bool) (s : P1) : (s.setBit k n b).snapDue = s.snapDue := rfl
@[simp] theorem P1.setBit_crossings (k n : Nat) (b : Bool) (s : P1) : (s.setBit k n b).crossings = s.crossings := rfl
@[simp] theorem P1.setBit_pllLost (k n : Nat) (b : Bool) (s : P1) : (s.setBit k n b).pllLost = s.pllLost := rfl
@[simp] theorem P1.setBit_asleep (k n : Nat) (b : Bool) (s : P1) : (s.setBit k n b).asleep = s.asleep := rfl
@[simp] theorem P1.setBit_served (k n : Nat) (b : Bool) (s : P1) : (s.setBit k n b).served = s.served := rfl
@[simp] theorem P1.setBit_reports (k n : Nat) (b : Bool) (s : P1) : (s.setBit k n b).reports = s.reports := rfl
@[simp] theorem P1.setBit_mailboxes (k n : Nat) (b : Bool) (s : P1) : (s.setBit k n b).mailboxes = s.mailboxes := rfl
@[simp] theorem P1.setBit_before (k n : Nat) (b : Bool) (s : P1) : (s.setBit k n b).before = s.before := rfl
@[simp] theorem P1.setBit_octets (k n : Nat) (b : Bool) (s : P1) (j : Nat) : (s.setBit k n b).octets j = s.octets j := rfl

/-! `P1.setField` -/

@[simp] theorem P1.setField_phase (k lo n x : Nat) (s : P1) : (s.setField k lo n x).phase = s.phase := rfl
@[simp] theorem P1.setField_ns (k lo n x : Nat) (s : P1) : (s.setField k lo n x).ns = s.ns := rfl
@[simp] theorem P1.setField_elapsed (k lo n x : Nat) (s : P1) : (s.setField k lo n x).elapsed = s.elapsed := rfl
@[simp] theorem P1.setField_free (k lo n x : Nat) (s : P1) : (s.setField k lo n x).free = s.free := rfl
@[simp] theorem P1.setField_od (k lo n x : Nat) (s : P1) : (s.setField k lo n x).od = odPut s.od k (withField (s.rd k) lo n x) := rfl
@[simp] theorem P1.setField_dom (k lo n x : Nat) (s : P1) : (s.setField k lo n x).dom = s.dom := rfl
@[simp] theorem P1.setField_sessions (k lo n x : Nat) (s : P1) : (s.setField k lo n x).sessions = s.sessions := rfl
@[simp] theorem P1.setField_reply (k lo n x : Nat) (s : P1) : (s.setField k lo n x).reply = s.reply := rfl
@[simp] theorem P1.setField_bufs (k lo n x : Nat) (s : P1) : (s.setField k lo n x).bufs = s.bufs := rfl
@[simp] theorem P1.setField_sdo (k lo n x : Nat) (s : P1) : (s.setField k lo n x).sdo = s.sdo := rfl
@[simp] theorem P1.setField_lockout (k lo n x : Nat) (s : P1) : (s.setField k lo n x).lockout = s.lockout := rfl
@[simp] theorem P1.setField_alarms (k lo n x : Nat) (s : P1) : (s.setField k lo n x).alarms = s.alarms := rfl
@[simp] theorem P1.setField_unlisted (k lo n x : Nat) (s : P1) : (s.setField k lo n x).unlisted = s.unlisted := rfl
@[simp] theorem P1.setField_faults (k lo n x : Nat) (s : P1) : (s.setField k lo n x).faults = s.faults := rfl
@[simp] theorem P1.setField_unreported (k lo n x : Nat) (s : P1) : (s.setField k lo n x).unreported = s.unreported := rfl
@[simp] theorem P1.setField_lastCauses (k lo n x : Nat) (s : P1) : (s.setField k lo n x).lastCauses = s.lastCauses := rfl
@[simp] theorem P1.setField_cyclePending (k lo n x : Nat) (s : P1) : (s.setField k lo n x).cyclePending = s.cyclePending := rfl
@[simp] theorem P1.setField_overrunRun (k lo n x : Nat) (s : P1) : (s.setField k lo n x).overrunRun = s.overrunRun := rfl
@[simp] theorem P1.setField_snapGrain (k lo n x : Nat) (s : P1) : (s.setField k lo n x).snapGrain = s.snapGrain := rfl
@[simp] theorem P1.setField_lawMode (k lo n x : Nat) (s : P1) : (s.setField k lo n x).lawMode = s.lawMode := rfl
@[simp] theorem P1.setField_blend (k lo n x : Nat) (s : P1) : (s.setField k lo n x).blend = s.blend := rfl
@[simp] theorem P1.setField_springStep (k lo n x : Nat) (s : P1) : (s.setField k lo n x).springStep = s.springStep := rfl
@[simp] theorem P1.setField_stuck (k lo n x : Nat) (s : P1) : (s.setField k lo n x).stuck = s.stuck := rfl
@[simp] theorem P1.setField_startGrain (k lo n x : Nat) (s : P1) : (s.setField k lo n x).startGrain = s.startGrain := rfl
@[simp] theorem P1.setField_recorder (k lo n x : Nat) (s : P1) : (s.setField k lo n x).recorder = s.recorder := rfl
@[simp] theorem P1.setField_dma (k lo n x : Nat) (s : P1) : (s.setField k lo n x).dma = s.dma := rfl
@[simp] theorem P1.setField_bankA (k lo n x : Nat) (s : P1) : (s.setField k lo n x).bankA = s.bankA := rfl
@[simp] theorem P1.setField_bankB (k lo n x : Nat) (s : P1) : (s.setField k lo n x).bankB = s.bankB := rfl
@[simp] theorem P1.setField_save (k lo n x : Nat) (s : P1) : (s.setField k lo n x).save = s.save := rfl
@[simp] theorem P1.setField_saveHeld (k lo n x : Nat) (s : P1) : (s.setField k lo n x).saveHeld = s.saveHeld := rfl
@[simp] theorem P1.setField_can (k lo n x : Nat) (s : P1) : (s.setField k lo n x).can = s.can := rfl
@[simp] theorem P1.setField_net (k lo n x : Nat) (s : P1) : (s.setField k lo n x).net = s.net := rfl
@[simp] theorem P1.setField_heartbeatAt (k lo n x : Nat) (s : P1) : (s.setField k lo n x).heartbeatAt = s.heartbeatAt := rfl
@[simp] theorem P1.setField_serial (k lo n x : Nat) (s : P1) : (s.setField k lo n x).serial = s.serial := rfl
@[simp] theorem P1.setField_red (k lo n x : Nat) (s : P1) : (s.setField k lo n x).red = s.red := rfl
@[simp] theorem P1.setField_ctl (k lo n x : Nat) (s : P1) : (s.setField k lo n x).ctl = s.ctl := rfl
@[simp] theorem P1.setField_alc (k lo n x : Nat) (s : P1) : (s.setField k lo n x).alc = s.alc := rfl
@[simp] theorem P1.setField_acks (k lo n x : Nat) (s : P1) : (s.setField k lo n x).acks = s.acks := rfl
@[simp] theorem P1.setField_ao (k lo n x : Nat) (s : P1) : (s.setField k lo n x).ao = s.ao := rfl
@[simp] theorem P1.setField_next (k lo n x : Nat) (s : P1) : (s.setField k lo n x).next = s.next := rfl
@[simp] theorem P1.setField_slots (k lo n x : Nat) (s : P1) : (s.setField k lo n x).slots = s.slots := rfl
@[simp] theorem P1.setField_fus (k lo n x : Nat) (s : P1) : (s.setField k lo n x).fus = s.fus := rfl
@[simp] theorem P1.setField_axes (k lo n x : Nat) (s : P1) : (s.setField k lo n x).axes = s.axes := rfl
@[simp] theorem P1.setField_emu (k lo n x : Nat) (s : P1) : (s.setField k lo n x).emu = s.emu := rfl
@[simp] theorem P1.setField_probes (k lo n x : Nat) (s : P1) : (s.setField k lo n x).probes = s.probes := rfl
@[simp] theorem P1.setField_filt (k lo n x : Nat) (s : P1) : (s.setField k lo n x).filt = s.filt := rfl
@[simp] theorem P1.setField_time (k lo n x : Nat) (s : P1) : (s.setField k lo n x).time = s.time := rfl
@[simp] theorem P1.setField_solver (k lo n x : Nat) (s : P1) : (s.setField k lo n x).solver = s.solver := rfl
@[simp] theorem P1.setField_linkOut (k lo n x : Nat) (s : P1) : (s.setField k lo n x).linkOut = s.linkOut := rfl
@[simp] theorem P1.setField_entrySess (k lo n x : Nat) (s : P1) : (s.setField k lo n x).entrySess = s.entrySess := rfl
@[simp] theorem P1.setField_fldLink (k lo n x : Nat) (s : P1) : (s.setField k lo n x).fldLink = s.fldLink := rfl
@[simp] theorem P1.setField_supply (k lo n x : Nat) (s : P1) : (s.setField k lo n x).supply = s.supply := rfl
@[simp] theorem P1.setField_owed (k lo n x : Nat) (s : P1) : (s.setField k lo n x).owed = s.owed := rfl
@[simp] theorem P1.setField_linkTries (k lo n x : Nat) (s : P1) : (s.setField k lo n x).linkTries = s.linkTries := rfl
@[simp] theorem P1.setField_snapDue (k lo n x : Nat) (s : P1) : (s.setField k lo n x).snapDue = s.snapDue := rfl
@[simp] theorem P1.setField_crossings (k lo n x : Nat) (s : P1) : (s.setField k lo n x).crossings = s.crossings := rfl
@[simp] theorem P1.setField_pllLost (k lo n x : Nat) (s : P1) : (s.setField k lo n x).pllLost = s.pllLost := rfl
@[simp] theorem P1.setField_asleep (k lo n x : Nat) (s : P1) : (s.setField k lo n x).asleep = s.asleep := rfl
@[simp] theorem P1.setField_served (k lo n x : Nat) (s : P1) : (s.setField k lo n x).served = s.served := rfl
@[simp] theorem P1.setField_reports (k lo n x : Nat) (s : P1) : (s.setField k lo n x).reports = s.reports := rfl
@[simp] theorem P1.setField_mailboxes (k lo n x : Nat) (s : P1) : (s.setField k lo n x).mailboxes = s.mailboxes := rfl
@[simp] theorem P1.setField_before (k lo n x : Nat) (s : P1) : (s.setField k lo n x).before = s.before := rfl
@[simp] theorem P1.setField_octets (k lo n x : Nat) (s : P1) (j : Nat) : (s.setField k lo n x).octets j = s.octets j := rfl

/-! `P1.add` -/

@[simp] theorem P1.add_phase (k : Nat) (d : Int) (s : P1) : (s.add k d).phase = s.phase := rfl
@[simp] theorem P1.add_ns (k : Nat) (d : Int) (s : P1) : (s.add k d).ns = s.ns := rfl
@[simp] theorem P1.add_elapsed (k : Nat) (d : Int) (s : P1) : (s.add k d).elapsed = s.elapsed := rfl
@[simp] theorem P1.add_free (k : Nat) (d : Int) (s : P1) : (s.add k d).free = s.free := rfl
@[simp] theorem P1.add_od (k : Nat) (d : Int) (s : P1) : (s.add k d).od = odPut s.od k (satAdd (topOf k) (s.rd k) d) := rfl
@[simp] theorem P1.add_dom (k : Nat) (d : Int) (s : P1) : (s.add k d).dom = s.dom := rfl
@[simp] theorem P1.add_sessions (k : Nat) (d : Int) (s : P1) : (s.add k d).sessions = s.sessions := rfl
@[simp] theorem P1.add_reply (k : Nat) (d : Int) (s : P1) : (s.add k d).reply = s.reply := rfl
@[simp] theorem P1.add_bufs (k : Nat) (d : Int) (s : P1) : (s.add k d).bufs = s.bufs := rfl
@[simp] theorem P1.add_sdo (k : Nat) (d : Int) (s : P1) : (s.add k d).sdo = s.sdo := rfl
@[simp] theorem P1.add_lockout (k : Nat) (d : Int) (s : P1) : (s.add k d).lockout = s.lockout := rfl
@[simp] theorem P1.add_alarms (k : Nat) (d : Int) (s : P1) : (s.add k d).alarms = s.alarms := rfl
@[simp] theorem P1.add_unlisted (k : Nat) (d : Int) (s : P1) : (s.add k d).unlisted = s.unlisted := rfl
@[simp] theorem P1.add_faults (k : Nat) (d : Int) (s : P1) : (s.add k d).faults = s.faults := rfl
@[simp] theorem P1.add_unreported (k : Nat) (d : Int) (s : P1) : (s.add k d).unreported = s.unreported := rfl
@[simp] theorem P1.add_lastCauses (k : Nat) (d : Int) (s : P1) : (s.add k d).lastCauses = s.lastCauses := rfl
@[simp] theorem P1.add_cyclePending (k : Nat) (d : Int) (s : P1) : (s.add k d).cyclePending = s.cyclePending := rfl
@[simp] theorem P1.add_overrunRun (k : Nat) (d : Int) (s : P1) : (s.add k d).overrunRun = s.overrunRun := rfl
@[simp] theorem P1.add_snapGrain (k : Nat) (d : Int) (s : P1) : (s.add k d).snapGrain = s.snapGrain := rfl
@[simp] theorem P1.add_lawMode (k : Nat) (d : Int) (s : P1) : (s.add k d).lawMode = s.lawMode := rfl
@[simp] theorem P1.add_blend (k : Nat) (d : Int) (s : P1) : (s.add k d).blend = s.blend := rfl
@[simp] theorem P1.add_springStep (k : Nat) (d : Int) (s : P1) : (s.add k d).springStep = s.springStep := rfl
@[simp] theorem P1.add_stuck (k : Nat) (d : Int) (s : P1) : (s.add k d).stuck = s.stuck := rfl
@[simp] theorem P1.add_startGrain (k : Nat) (d : Int) (s : P1) : (s.add k d).startGrain = s.startGrain := rfl
@[simp] theorem P1.add_recorder (k : Nat) (d : Int) (s : P1) : (s.add k d).recorder = s.recorder := rfl
@[simp] theorem P1.add_dma (k : Nat) (d : Int) (s : P1) : (s.add k d).dma = s.dma := rfl
@[simp] theorem P1.add_bankA (k : Nat) (d : Int) (s : P1) : (s.add k d).bankA = s.bankA := rfl
@[simp] theorem P1.add_bankB (k : Nat) (d : Int) (s : P1) : (s.add k d).bankB = s.bankB := rfl
@[simp] theorem P1.add_save (k : Nat) (d : Int) (s : P1) : (s.add k d).save = s.save := rfl
@[simp] theorem P1.add_saveHeld (k : Nat) (d : Int) (s : P1) : (s.add k d).saveHeld = s.saveHeld := rfl
@[simp] theorem P1.add_can (k : Nat) (d : Int) (s : P1) : (s.add k d).can = s.can := rfl
@[simp] theorem P1.add_net (k : Nat) (d : Int) (s : P1) : (s.add k d).net = s.net := rfl
@[simp] theorem P1.add_heartbeatAt (k : Nat) (d : Int) (s : P1) : (s.add k d).heartbeatAt = s.heartbeatAt := rfl
@[simp] theorem P1.add_serial (k : Nat) (d : Int) (s : P1) : (s.add k d).serial = s.serial := rfl
@[simp] theorem P1.add_red (k : Nat) (d : Int) (s : P1) : (s.add k d).red = s.red := rfl
@[simp] theorem P1.add_ctl (k : Nat) (d : Int) (s : P1) : (s.add k d).ctl = s.ctl := rfl
@[simp] theorem P1.add_alc (k : Nat) (d : Int) (s : P1) : (s.add k d).alc = s.alc := rfl
@[simp] theorem P1.add_acks (k : Nat) (d : Int) (s : P1) : (s.add k d).acks = s.acks := rfl
@[simp] theorem P1.add_ao (k : Nat) (d : Int) (s : P1) : (s.add k d).ao = s.ao := rfl
@[simp] theorem P1.add_next (k : Nat) (d : Int) (s : P1) : (s.add k d).next = s.next := rfl
@[simp] theorem P1.add_slots (k : Nat) (d : Int) (s : P1) : (s.add k d).slots = s.slots := rfl
@[simp] theorem P1.add_fus (k : Nat) (d : Int) (s : P1) : (s.add k d).fus = s.fus := rfl
@[simp] theorem P1.add_axes (k : Nat) (d : Int) (s : P1) : (s.add k d).axes = s.axes := rfl
@[simp] theorem P1.add_emu (k : Nat) (d : Int) (s : P1) : (s.add k d).emu = s.emu := rfl
@[simp] theorem P1.add_probes (k : Nat) (d : Int) (s : P1) : (s.add k d).probes = s.probes := rfl
@[simp] theorem P1.add_filt (k : Nat) (d : Int) (s : P1) : (s.add k d).filt = s.filt := rfl
@[simp] theorem P1.add_time (k : Nat) (d : Int) (s : P1) : (s.add k d).time = s.time := rfl
@[simp] theorem P1.add_solver (k : Nat) (d : Int) (s : P1) : (s.add k d).solver = s.solver := rfl
@[simp] theorem P1.add_linkOut (k : Nat) (d : Int) (s : P1) : (s.add k d).linkOut = s.linkOut := rfl
@[simp] theorem P1.add_entrySess (k : Nat) (d : Int) (s : P1) : (s.add k d).entrySess = s.entrySess := rfl
@[simp] theorem P1.add_fldLink (k : Nat) (d : Int) (s : P1) : (s.add k d).fldLink = s.fldLink := rfl
@[simp] theorem P1.add_supply (k : Nat) (d : Int) (s : P1) : (s.add k d).supply = s.supply := rfl
@[simp] theorem P1.add_owed (k : Nat) (d : Int) (s : P1) : (s.add k d).owed = s.owed := rfl
@[simp] theorem P1.add_linkTries (k : Nat) (d : Int) (s : P1) : (s.add k d).linkTries = s.linkTries := rfl
@[simp] theorem P1.add_snapDue (k : Nat) (d : Int) (s : P1) : (s.add k d).snapDue = s.snapDue := rfl
@[simp] theorem P1.add_crossings (k : Nat) (d : Int) (s : P1) : (s.add k d).crossings = s.crossings := rfl
@[simp] theorem P1.add_pllLost (k : Nat) (d : Int) (s : P1) : (s.add k d).pllLost = s.pllLost := rfl
@[simp] theorem P1.add_asleep (k : Nat) (d : Int) (s : P1) : (s.add k d).asleep = s.asleep := rfl
@[simp] theorem P1.add_served (k : Nat) (d : Int) (s : P1) : (s.add k d).served = s.served := rfl
@[simp] theorem P1.add_reports (k : Nat) (d : Int) (s : P1) : (s.add k d).reports = s.reports := rfl
@[simp] theorem P1.add_mailboxes (k : Nat) (d : Int) (s : P1) : (s.add k d).mailboxes = s.mailboxes := rfl
@[simp] theorem P1.add_before (k : Nat) (d : Int) (s : P1) : (s.add k d).before = s.before := rfl
@[simp] theorem P1.add_octets (k : Nat) (d : Int) (s : P1) (j : Nat) : (s.add k d).octets j = s.octets j := rfl

/-! `P1.inc` -/

@[simp] theorem P1.inc_phase (k : Nat) (s : P1) : (s.inc k).phase = s.phase := rfl
@[simp] theorem P1.inc_ns (k : Nat) (s : P1) : (s.inc k).ns = s.ns := rfl
@[simp] theorem P1.inc_elapsed (k : Nat) (s : P1) : (s.inc k).elapsed = s.elapsed := rfl
@[simp] theorem P1.inc_free (k : Nat) (s : P1) : (s.inc k).free = s.free := rfl
@[simp] theorem P1.inc_od (k : Nat) (s : P1) : (s.inc k).od = odPut s.od k (satAdd (topOf k) (s.rd k) 1) := rfl
@[simp] theorem P1.inc_dom (k : Nat) (s : P1) : (s.inc k).dom = s.dom := rfl
@[simp] theorem P1.inc_sessions (k : Nat) (s : P1) : (s.inc k).sessions = s.sessions := rfl
@[simp] theorem P1.inc_reply (k : Nat) (s : P1) : (s.inc k).reply = s.reply := rfl
@[simp] theorem P1.inc_bufs (k : Nat) (s : P1) : (s.inc k).bufs = s.bufs := rfl
@[simp] theorem P1.inc_sdo (k : Nat) (s : P1) : (s.inc k).sdo = s.sdo := rfl
@[simp] theorem P1.inc_lockout (k : Nat) (s : P1) : (s.inc k).lockout = s.lockout := rfl
@[simp] theorem P1.inc_alarms (k : Nat) (s : P1) : (s.inc k).alarms = s.alarms := rfl
@[simp] theorem P1.inc_unlisted (k : Nat) (s : P1) : (s.inc k).unlisted = s.unlisted := rfl
@[simp] theorem P1.inc_faults (k : Nat) (s : P1) : (s.inc k).faults = s.faults := rfl
@[simp] theorem P1.inc_unreported (k : Nat) (s : P1) : (s.inc k).unreported = s.unreported := rfl
@[simp] theorem P1.inc_lastCauses (k : Nat) (s : P1) : (s.inc k).lastCauses = s.lastCauses := rfl
@[simp] theorem P1.inc_cyclePending (k : Nat) (s : P1) : (s.inc k).cyclePending = s.cyclePending := rfl
@[simp] theorem P1.inc_overrunRun (k : Nat) (s : P1) : (s.inc k).overrunRun = s.overrunRun := rfl
@[simp] theorem P1.inc_snapGrain (k : Nat) (s : P1) : (s.inc k).snapGrain = s.snapGrain := rfl
@[simp] theorem P1.inc_lawMode (k : Nat) (s : P1) : (s.inc k).lawMode = s.lawMode := rfl
@[simp] theorem P1.inc_blend (k : Nat) (s : P1) : (s.inc k).blend = s.blend := rfl
@[simp] theorem P1.inc_springStep (k : Nat) (s : P1) : (s.inc k).springStep = s.springStep := rfl
@[simp] theorem P1.inc_stuck (k : Nat) (s : P1) : (s.inc k).stuck = s.stuck := rfl
@[simp] theorem P1.inc_startGrain (k : Nat) (s : P1) : (s.inc k).startGrain = s.startGrain := rfl
@[simp] theorem P1.inc_recorder (k : Nat) (s : P1) : (s.inc k).recorder = s.recorder := rfl
@[simp] theorem P1.inc_dma (k : Nat) (s : P1) : (s.inc k).dma = s.dma := rfl
@[simp] theorem P1.inc_bankA (k : Nat) (s : P1) : (s.inc k).bankA = s.bankA := rfl
@[simp] theorem P1.inc_bankB (k : Nat) (s : P1) : (s.inc k).bankB = s.bankB := rfl
@[simp] theorem P1.inc_save (k : Nat) (s : P1) : (s.inc k).save = s.save := rfl
@[simp] theorem P1.inc_saveHeld (k : Nat) (s : P1) : (s.inc k).saveHeld = s.saveHeld := rfl
@[simp] theorem P1.inc_can (k : Nat) (s : P1) : (s.inc k).can = s.can := rfl
@[simp] theorem P1.inc_net (k : Nat) (s : P1) : (s.inc k).net = s.net := rfl
@[simp] theorem P1.inc_heartbeatAt (k : Nat) (s : P1) : (s.inc k).heartbeatAt = s.heartbeatAt := rfl
@[simp] theorem P1.inc_serial (k : Nat) (s : P1) : (s.inc k).serial = s.serial := rfl
@[simp] theorem P1.inc_red (k : Nat) (s : P1) : (s.inc k).red = s.red := rfl
@[simp] theorem P1.inc_ctl (k : Nat) (s : P1) : (s.inc k).ctl = s.ctl := rfl
@[simp] theorem P1.inc_alc (k : Nat) (s : P1) : (s.inc k).alc = s.alc := rfl
@[simp] theorem P1.inc_acks (k : Nat) (s : P1) : (s.inc k).acks = s.acks := rfl
@[simp] theorem P1.inc_ao (k : Nat) (s : P1) : (s.inc k).ao = s.ao := rfl
@[simp] theorem P1.inc_next (k : Nat) (s : P1) : (s.inc k).next = s.next := rfl
@[simp] theorem P1.inc_slots (k : Nat) (s : P1) : (s.inc k).slots = s.slots := rfl
@[simp] theorem P1.inc_fus (k : Nat) (s : P1) : (s.inc k).fus = s.fus := rfl
@[simp] theorem P1.inc_axes (k : Nat) (s : P1) : (s.inc k).axes = s.axes := rfl
@[simp] theorem P1.inc_emu (k : Nat) (s : P1) : (s.inc k).emu = s.emu := rfl
@[simp] theorem P1.inc_probes (k : Nat) (s : P1) : (s.inc k).probes = s.probes := rfl
@[simp] theorem P1.inc_filt (k : Nat) (s : P1) : (s.inc k).filt = s.filt := rfl
@[simp] theorem P1.inc_time (k : Nat) (s : P1) : (s.inc k).time = s.time := rfl
@[simp] theorem P1.inc_solver (k : Nat) (s : P1) : (s.inc k).solver = s.solver := rfl
@[simp] theorem P1.inc_linkOut (k : Nat) (s : P1) : (s.inc k).linkOut = s.linkOut := rfl
@[simp] theorem P1.inc_entrySess (k : Nat) (s : P1) : (s.inc k).entrySess = s.entrySess := rfl
@[simp] theorem P1.inc_fldLink (k : Nat) (s : P1) : (s.inc k).fldLink = s.fldLink := rfl
@[simp] theorem P1.inc_supply (k : Nat) (s : P1) : (s.inc k).supply = s.supply := rfl
@[simp] theorem P1.inc_owed (k : Nat) (s : P1) : (s.inc k).owed = s.owed := rfl
@[simp] theorem P1.inc_linkTries (k : Nat) (s : P1) : (s.inc k).linkTries = s.linkTries := rfl
@[simp] theorem P1.inc_snapDue (k : Nat) (s : P1) : (s.inc k).snapDue = s.snapDue := rfl
@[simp] theorem P1.inc_crossings (k : Nat) (s : P1) : (s.inc k).crossings = s.crossings := rfl
@[simp] theorem P1.inc_pllLost (k : Nat) (s : P1) : (s.inc k).pllLost = s.pllLost := rfl
@[simp] theorem P1.inc_asleep (k : Nat) (s : P1) : (s.inc k).asleep = s.asleep := rfl
@[simp] theorem P1.inc_served (k : Nat) (s : P1) : (s.inc k).served = s.served := rfl
@[simp] theorem P1.inc_reports (k : Nat) (s : P1) : (s.inc k).reports = s.reports := rfl
@[simp] theorem P1.inc_mailboxes (k : Nat) (s : P1) : (s.inc k).mailboxes = s.mailboxes := rfl
@[simp] theorem P1.inc_before (k : Nat) (s : P1) : (s.inc k).before = s.before := rfl
@[simp] theorem P1.inc_octets (k : Nat) (s : P1) (j : Nat) : (s.inc k).octets j = s.octets j := rfl

/-! `P1.incWrap` -/

@[simp] theorem P1.incWrap_phase (k : Nat) (s : P1) : (s.incWrap k).phase = s.phase := rfl
@[simp] theorem P1.incWrap_ns (k : Nat) (s : P1) : (s.incWrap k).ns = s.ns := rfl
@[simp] theorem P1.incWrap_elapsed (k : Nat) (s : P1) : (s.incWrap k).elapsed = s.elapsed := rfl
@[simp] theorem P1.incWrap_free (k : Nat) (s : P1) : (s.incWrap k).free = s.free := rfl
@[simp] theorem P1.incWrap_od (k : Nat) (s : P1) : (s.incWrap k).od = odPut s.od k ((s.rd k + 1) % (topOf k + 1)) := rfl
@[simp] theorem P1.incWrap_dom (k : Nat) (s : P1) : (s.incWrap k).dom = s.dom := rfl
@[simp] theorem P1.incWrap_sessions (k : Nat) (s : P1) : (s.incWrap k).sessions = s.sessions := rfl
@[simp] theorem P1.incWrap_reply (k : Nat) (s : P1) : (s.incWrap k).reply = s.reply := rfl
@[simp] theorem P1.incWrap_bufs (k : Nat) (s : P1) : (s.incWrap k).bufs = s.bufs := rfl
@[simp] theorem P1.incWrap_sdo (k : Nat) (s : P1) : (s.incWrap k).sdo = s.sdo := rfl
@[simp] theorem P1.incWrap_lockout (k : Nat) (s : P1) : (s.incWrap k).lockout = s.lockout := rfl
@[simp] theorem P1.incWrap_alarms (k : Nat) (s : P1) : (s.incWrap k).alarms = s.alarms := rfl
@[simp] theorem P1.incWrap_unlisted (k : Nat) (s : P1) : (s.incWrap k).unlisted = s.unlisted := rfl
@[simp] theorem P1.incWrap_faults (k : Nat) (s : P1) : (s.incWrap k).faults = s.faults := rfl
@[simp] theorem P1.incWrap_unreported (k : Nat) (s : P1) : (s.incWrap k).unreported = s.unreported := rfl
@[simp] theorem P1.incWrap_lastCauses (k : Nat) (s : P1) : (s.incWrap k).lastCauses = s.lastCauses := rfl
@[simp] theorem P1.incWrap_cyclePending (k : Nat) (s : P1) : (s.incWrap k).cyclePending = s.cyclePending := rfl
@[simp] theorem P1.incWrap_overrunRun (k : Nat) (s : P1) : (s.incWrap k).overrunRun = s.overrunRun := rfl
@[simp] theorem P1.incWrap_snapGrain (k : Nat) (s : P1) : (s.incWrap k).snapGrain = s.snapGrain := rfl
@[simp] theorem P1.incWrap_lawMode (k : Nat) (s : P1) : (s.incWrap k).lawMode = s.lawMode := rfl
@[simp] theorem P1.incWrap_blend (k : Nat) (s : P1) : (s.incWrap k).blend = s.blend := rfl
@[simp] theorem P1.incWrap_springStep (k : Nat) (s : P1) : (s.incWrap k).springStep = s.springStep := rfl
@[simp] theorem P1.incWrap_stuck (k : Nat) (s : P1) : (s.incWrap k).stuck = s.stuck := rfl
@[simp] theorem P1.incWrap_startGrain (k : Nat) (s : P1) : (s.incWrap k).startGrain = s.startGrain := rfl
@[simp] theorem P1.incWrap_recorder (k : Nat) (s : P1) : (s.incWrap k).recorder = s.recorder := rfl
@[simp] theorem P1.incWrap_dma (k : Nat) (s : P1) : (s.incWrap k).dma = s.dma := rfl
@[simp] theorem P1.incWrap_bankA (k : Nat) (s : P1) : (s.incWrap k).bankA = s.bankA := rfl
@[simp] theorem P1.incWrap_bankB (k : Nat) (s : P1) : (s.incWrap k).bankB = s.bankB := rfl
@[simp] theorem P1.incWrap_save (k : Nat) (s : P1) : (s.incWrap k).save = s.save := rfl
@[simp] theorem P1.incWrap_saveHeld (k : Nat) (s : P1) : (s.incWrap k).saveHeld = s.saveHeld := rfl
@[simp] theorem P1.incWrap_can (k : Nat) (s : P1) : (s.incWrap k).can = s.can := rfl
@[simp] theorem P1.incWrap_net (k : Nat) (s : P1) : (s.incWrap k).net = s.net := rfl
@[simp] theorem P1.incWrap_heartbeatAt (k : Nat) (s : P1) : (s.incWrap k).heartbeatAt = s.heartbeatAt := rfl
@[simp] theorem P1.incWrap_serial (k : Nat) (s : P1) : (s.incWrap k).serial = s.serial := rfl
@[simp] theorem P1.incWrap_red (k : Nat) (s : P1) : (s.incWrap k).red = s.red := rfl
@[simp] theorem P1.incWrap_ctl (k : Nat) (s : P1) : (s.incWrap k).ctl = s.ctl := rfl
@[simp] theorem P1.incWrap_alc (k : Nat) (s : P1) : (s.incWrap k).alc = s.alc := rfl
@[simp] theorem P1.incWrap_acks (k : Nat) (s : P1) : (s.incWrap k).acks = s.acks := rfl
@[simp] theorem P1.incWrap_ao (k : Nat) (s : P1) : (s.incWrap k).ao = s.ao := rfl
@[simp] theorem P1.incWrap_next (k : Nat) (s : P1) : (s.incWrap k).next = s.next := rfl
@[simp] theorem P1.incWrap_slots (k : Nat) (s : P1) : (s.incWrap k).slots = s.slots := rfl
@[simp] theorem P1.incWrap_fus (k : Nat) (s : P1) : (s.incWrap k).fus = s.fus := rfl
@[simp] theorem P1.incWrap_axes (k : Nat) (s : P1) : (s.incWrap k).axes = s.axes := rfl
@[simp] theorem P1.incWrap_emu (k : Nat) (s : P1) : (s.incWrap k).emu = s.emu := rfl
@[simp] theorem P1.incWrap_probes (k : Nat) (s : P1) : (s.incWrap k).probes = s.probes := rfl
@[simp] theorem P1.incWrap_filt (k : Nat) (s : P1) : (s.incWrap k).filt = s.filt := rfl
@[simp] theorem P1.incWrap_time (k : Nat) (s : P1) : (s.incWrap k).time = s.time := rfl
@[simp] theorem P1.incWrap_solver (k : Nat) (s : P1) : (s.incWrap k).solver = s.solver := rfl
@[simp] theorem P1.incWrap_linkOut (k : Nat) (s : P1) : (s.incWrap k).linkOut = s.linkOut := rfl
@[simp] theorem P1.incWrap_entrySess (k : Nat) (s : P1) : (s.incWrap k).entrySess = s.entrySess := rfl
@[simp] theorem P1.incWrap_fldLink (k : Nat) (s : P1) : (s.incWrap k).fldLink = s.fldLink := rfl
@[simp] theorem P1.incWrap_supply (k : Nat) (s : P1) : (s.incWrap k).supply = s.supply := rfl
@[simp] theorem P1.incWrap_owed (k : Nat) (s : P1) : (s.incWrap k).owed = s.owed := rfl
@[simp] theorem P1.incWrap_linkTries (k : Nat) (s : P1) : (s.incWrap k).linkTries = s.linkTries := rfl
@[simp] theorem P1.incWrap_snapDue (k : Nat) (s : P1) : (s.incWrap k).snapDue = s.snapDue := rfl
@[simp] theorem P1.incWrap_crossings (k : Nat) (s : P1) : (s.incWrap k).crossings = s.crossings := rfl
@[simp] theorem P1.incWrap_pllLost (k : Nat) (s : P1) : (s.incWrap k).pllLost = s.pllLost := rfl
@[simp] theorem P1.incWrap_asleep (k : Nat) (s : P1) : (s.incWrap k).asleep = s.asleep := rfl
@[simp] theorem P1.incWrap_served (k : Nat) (s : P1) : (s.incWrap k).served = s.served := rfl
@[simp] theorem P1.incWrap_reports (k : Nat) (s : P1) : (s.incWrap k).reports = s.reports := rfl
@[simp] theorem P1.incWrap_mailboxes (k : Nat) (s : P1) : (s.incWrap k).mailboxes = s.mailboxes := rfl
@[simp] theorem P1.incWrap_before (k : Nat) (s : P1) : (s.incWrap k).before = s.before := rfl
@[simp] theorem P1.incWrap_octets (k : Nat) (s : P1) (j : Nat) : (s.incWrap k).octets j = s.octets j := rfl

/-! `P1.setOctets` -/

@[simp] theorem P1.setOctets_phase (k : Nat) (b : List Byte) (s : P1) : (s.setOctets k b).phase = s.phase := rfl
@[simp] theorem P1.setOctets_ns (k : Nat) (b : List Byte) (s : P1) : (s.setOctets k b).ns = s.ns := rfl
@[simp] theorem P1.setOctets_elapsed (k : Nat) (b : List Byte) (s : P1) : (s.setOctets k b).elapsed = s.elapsed := rfl
@[simp] theorem P1.setOctets_free (k : Nat) (b : List Byte) (s : P1) : (s.setOctets k b).free = s.free := rfl
@[simp] theorem P1.setOctets_od (k : Nat) (b : List Byte) (s : P1) : (s.setOctets k b).od = s.od := rfl
@[simp] theorem P1.setOctets_dom (k : Nat) (b : List Byte) (s : P1) : (s.setOctets k b).dom = domInsert k ⟨b, (domGet s.dom k).gen + 1⟩ s.dom := rfl
@[simp] theorem P1.setOctets_sessions (k : Nat) (b : List Byte) (s : P1) : (s.setOctets k b).sessions = s.sessions := rfl
@[simp] theorem P1.setOctets_reply (k : Nat) (b : List Byte) (s : P1) : (s.setOctets k b).reply = s.reply := rfl
@[simp] theorem P1.setOctets_bufs (k : Nat) (b : List Byte) (s : P1) : (s.setOctets k b).bufs = s.bufs := rfl
@[simp] theorem P1.setOctets_sdo (k : Nat) (b : List Byte) (s : P1) : (s.setOctets k b).sdo = s.sdo := rfl
@[simp] theorem P1.setOctets_lockout (k : Nat) (b : List Byte) (s : P1) : (s.setOctets k b).lockout = s.lockout := rfl
@[simp] theorem P1.setOctets_alarms (k : Nat) (b : List Byte) (s : P1) : (s.setOctets k b).alarms = s.alarms := rfl
@[simp] theorem P1.setOctets_unlisted (k : Nat) (b : List Byte) (s : P1) : (s.setOctets k b).unlisted = s.unlisted := rfl
@[simp] theorem P1.setOctets_faults (k : Nat) (b : List Byte) (s : P1) : (s.setOctets k b).faults = s.faults := rfl
@[simp] theorem P1.setOctets_unreported (k : Nat) (b : List Byte) (s : P1) : (s.setOctets k b).unreported = s.unreported := rfl
@[simp] theorem P1.setOctets_lastCauses (k : Nat) (b : List Byte) (s : P1) : (s.setOctets k b).lastCauses = s.lastCauses := rfl
@[simp] theorem P1.setOctets_cyclePending (k : Nat) (b : List Byte) (s : P1) : (s.setOctets k b).cyclePending = s.cyclePending := rfl
@[simp] theorem P1.setOctets_overrunRun (k : Nat) (b : List Byte) (s : P1) : (s.setOctets k b).overrunRun = s.overrunRun := rfl
@[simp] theorem P1.setOctets_snapGrain (k : Nat) (b : List Byte) (s : P1) : (s.setOctets k b).snapGrain = s.snapGrain := rfl
@[simp] theorem P1.setOctets_lawMode (k : Nat) (b : List Byte) (s : P1) : (s.setOctets k b).lawMode = s.lawMode := rfl
@[simp] theorem P1.setOctets_blend (k : Nat) (b : List Byte) (s : P1) : (s.setOctets k b).blend = s.blend := rfl
@[simp] theorem P1.setOctets_springStep (k : Nat) (b : List Byte) (s : P1) : (s.setOctets k b).springStep = s.springStep := rfl
@[simp] theorem P1.setOctets_stuck (k : Nat) (b : List Byte) (s : P1) : (s.setOctets k b).stuck = s.stuck := rfl
@[simp] theorem P1.setOctets_startGrain (k : Nat) (b : List Byte) (s : P1) : (s.setOctets k b).startGrain = s.startGrain := rfl
@[simp] theorem P1.setOctets_recorder (k : Nat) (b : List Byte) (s : P1) : (s.setOctets k b).recorder = s.recorder := rfl
@[simp] theorem P1.setOctets_dma (k : Nat) (b : List Byte) (s : P1) : (s.setOctets k b).dma = s.dma := rfl
@[simp] theorem P1.setOctets_bankA (k : Nat) (b : List Byte) (s : P1) : (s.setOctets k b).bankA = s.bankA := rfl
@[simp] theorem P1.setOctets_bankB (k : Nat) (b : List Byte) (s : P1) : (s.setOctets k b).bankB = s.bankB := rfl
@[simp] theorem P1.setOctets_save (k : Nat) (b : List Byte) (s : P1) : (s.setOctets k b).save = s.save := rfl
@[simp] theorem P1.setOctets_saveHeld (k : Nat) (b : List Byte) (s : P1) : (s.setOctets k b).saveHeld = s.saveHeld := rfl
@[simp] theorem P1.setOctets_can (k : Nat) (b : List Byte) (s : P1) : (s.setOctets k b).can = s.can := rfl
@[simp] theorem P1.setOctets_net (k : Nat) (b : List Byte) (s : P1) : (s.setOctets k b).net = s.net := rfl
@[simp] theorem P1.setOctets_heartbeatAt (k : Nat) (b : List Byte) (s : P1) : (s.setOctets k b).heartbeatAt = s.heartbeatAt := rfl
@[simp] theorem P1.setOctets_serial (k : Nat) (b : List Byte) (s : P1) : (s.setOctets k b).serial = s.serial := rfl
@[simp] theorem P1.setOctets_red (k : Nat) (b : List Byte) (s : P1) : (s.setOctets k b).red = s.red := rfl
@[simp] theorem P1.setOctets_ctl (k : Nat) (b : List Byte) (s : P1) : (s.setOctets k b).ctl = s.ctl := rfl
@[simp] theorem P1.setOctets_alc (k : Nat) (b : List Byte) (s : P1) : (s.setOctets k b).alc = s.alc := rfl
@[simp] theorem P1.setOctets_acks (k : Nat) (b : List Byte) (s : P1) : (s.setOctets k b).acks = s.acks := rfl
@[simp] theorem P1.setOctets_ao (k : Nat) (b : List Byte) (s : P1) : (s.setOctets k b).ao = s.ao := rfl
@[simp] theorem P1.setOctets_next (k : Nat) (b : List Byte) (s : P1) : (s.setOctets k b).next = s.next := rfl
@[simp] theorem P1.setOctets_slots (k : Nat) (b : List Byte) (s : P1) : (s.setOctets k b).slots = s.slots := rfl
@[simp] theorem P1.setOctets_fus (k : Nat) (b : List Byte) (s : P1) : (s.setOctets k b).fus = s.fus := rfl
@[simp] theorem P1.setOctets_axes (k : Nat) (b : List Byte) (s : P1) : (s.setOctets k b).axes = s.axes := rfl
@[simp] theorem P1.setOctets_emu (k : Nat) (b : List Byte) (s : P1) : (s.setOctets k b).emu = s.emu := rfl
@[simp] theorem P1.setOctets_probes (k : Nat) (b : List Byte) (s : P1) : (s.setOctets k b).probes = s.probes := rfl
@[simp] theorem P1.setOctets_filt (k : Nat) (b : List Byte) (s : P1) : (s.setOctets k b).filt = s.filt := rfl
@[simp] theorem P1.setOctets_time (k : Nat) (b : List Byte) (s : P1) : (s.setOctets k b).time = s.time := rfl
@[simp] theorem P1.setOctets_solver (k : Nat) (b : List Byte) (s : P1) : (s.setOctets k b).solver = s.solver := rfl
@[simp] theorem P1.setOctets_linkOut (k : Nat) (b : List Byte) (s : P1) : (s.setOctets k b).linkOut = s.linkOut := rfl
@[simp] theorem P1.setOctets_entrySess (k : Nat) (b : List Byte) (s : P1) : (s.setOctets k b).entrySess = s.entrySess := rfl
@[simp] theorem P1.setOctets_fldLink (k : Nat) (b : List Byte) (s : P1) : (s.setOctets k b).fldLink = s.fldLink := rfl
@[simp] theorem P1.setOctets_supply (k : Nat) (b : List Byte) (s : P1) : (s.setOctets k b).supply = s.supply := rfl
@[simp] theorem P1.setOctets_owed (k : Nat) (b : List Byte) (s : P1) : (s.setOctets k b).owed = s.owed := rfl
@[simp] theorem P1.setOctets_linkTries (k : Nat) (b : List Byte) (s : P1) : (s.setOctets k b).linkTries = s.linkTries := rfl
@[simp] theorem P1.setOctets_snapDue (k : Nat) (b : List Byte) (s : P1) : (s.setOctets k b).snapDue = s.snapDue := rfl
@[simp] theorem P1.setOctets_crossings (k : Nat) (b : List Byte) (s : P1) : (s.setOctets k b).crossings = s.crossings := rfl
@[simp] theorem P1.setOctets_pllLost (k : Nat) (b : List Byte) (s : P1) : (s.setOctets k b).pllLost = s.pllLost := rfl
@[simp] theorem P1.setOctets_asleep (k : Nat) (b : List Byte) (s : P1) : (s.setOctets k b).asleep = s.asleep := rfl
@[simp] theorem P1.setOctets_served (k : Nat) (b : List Byte) (s : P1) : (s.setOctets k b).served = s.served := rfl
@[simp] theorem P1.setOctets_reports (k : Nat) (b : List Byte) (s : P1) : (s.setOctets k b).reports = s.reports := rfl
@[simp] theorem P1.setOctets_mailboxes (k : Nat) (b : List Byte) (s : P1) : (s.setOctets k b).mailboxes = s.mailboxes := rfl
@[simp] theorem P1.setOctets_before (k : Nat) (b : List Byte) (s : P1) : (s.setOctets k b).before = s.before := rfl
@[simp] theorem P1.setOctets_rd (k : Nat) (b : List Byte) (s : P1) (j : Nat) : (s.setOctets k b).rd j = s.rd j := rfl

/-! `P1.draw` -/

@[simp] theorem P1.draw_phase (s : P1) : (s.draw).phase = s.phase := rfl
@[simp] theorem P1.draw_ns (s : P1) : (s.draw).ns = s.ns := rfl
@[simp] theorem P1.draw_elapsed (s : P1) : (s.draw).elapsed = s.elapsed := rfl
@[simp] theorem P1.draw_free (s : P1) : (s.draw).free = s.free + 1 := rfl
@[simp] theorem P1.draw_od (s : P1) : (s.draw).od = s.od := rfl
@[simp] theorem P1.draw_dom (s : P1) : (s.draw).dom = s.dom := rfl
@[simp] theorem P1.draw_sessions (s : P1) : (s.draw).sessions = s.sessions := rfl
@[simp] theorem P1.draw_reply (s : P1) : (s.draw).reply = s.reply := rfl
@[simp] theorem P1.draw_bufs (s : P1) : (s.draw).bufs = s.bufs := rfl
@[simp] theorem P1.draw_sdo (s : P1) : (s.draw).sdo = s.sdo := rfl
@[simp] theorem P1.draw_lockout (s : P1) : (s.draw).lockout = s.lockout := rfl
@[simp] theorem P1.draw_alarms (s : P1) : (s.draw).alarms = s.alarms := rfl
@[simp] theorem P1.draw_unlisted (s : P1) : (s.draw).unlisted = s.unlisted := rfl
@[simp] theorem P1.draw_faults (s : P1) : (s.draw).faults = s.faults := rfl
@[simp] theorem P1.draw_unreported (s : P1) : (s.draw).unreported = s.unreported := rfl
@[simp] theorem P1.draw_lastCauses (s : P1) : (s.draw).lastCauses = s.lastCauses := rfl
@[simp] theorem P1.draw_cyclePending (s : P1) : (s.draw).cyclePending = s.cyclePending := rfl
@[simp] theorem P1.draw_overrunRun (s : P1) : (s.draw).overrunRun = s.overrunRun := rfl
@[simp] theorem P1.draw_snapGrain (s : P1) : (s.draw).snapGrain = s.snapGrain := rfl
@[simp] theorem P1.draw_lawMode (s : P1) : (s.draw).lawMode = s.lawMode := rfl
@[simp] theorem P1.draw_blend (s : P1) : (s.draw).blend = s.blend := rfl
@[simp] theorem P1.draw_springStep (s : P1) : (s.draw).springStep = s.springStep := rfl
@[simp] theorem P1.draw_stuck (s : P1) : (s.draw).stuck = s.stuck := rfl
@[simp] theorem P1.draw_startGrain (s : P1) : (s.draw).startGrain = s.startGrain := rfl
@[simp] theorem P1.draw_recorder (s : P1) : (s.draw).recorder = s.recorder := rfl
@[simp] theorem P1.draw_dma (s : P1) : (s.draw).dma = s.dma := rfl
@[simp] theorem P1.draw_bankA (s : P1) : (s.draw).bankA = s.bankA := rfl
@[simp] theorem P1.draw_bankB (s : P1) : (s.draw).bankB = s.bankB := rfl
@[simp] theorem P1.draw_save (s : P1) : (s.draw).save = s.save := rfl
@[simp] theorem P1.draw_saveHeld (s : P1) : (s.draw).saveHeld = s.saveHeld := rfl
@[simp] theorem P1.draw_can (s : P1) : (s.draw).can = s.can := rfl
@[simp] theorem P1.draw_net (s : P1) : (s.draw).net = s.net := rfl
@[simp] theorem P1.draw_heartbeatAt (s : P1) : (s.draw).heartbeatAt = s.heartbeatAt := rfl
@[simp] theorem P1.draw_serial (s : P1) : (s.draw).serial = s.serial := rfl
@[simp] theorem P1.draw_red (s : P1) : (s.draw).red = s.red := rfl
@[simp] theorem P1.draw_ctl (s : P1) : (s.draw).ctl = s.ctl := rfl
@[simp] theorem P1.draw_alc (s : P1) : (s.draw).alc = s.alc := rfl
@[simp] theorem P1.draw_acks (s : P1) : (s.draw).acks = s.acks := rfl
@[simp] theorem P1.draw_ao (s : P1) : (s.draw).ao = s.ao := rfl
@[simp] theorem P1.draw_next (s : P1) : (s.draw).next = s.next := rfl
@[simp] theorem P1.draw_slots (s : P1) : (s.draw).slots = s.slots := rfl
@[simp] theorem P1.draw_fus (s : P1) : (s.draw).fus = s.fus := rfl
@[simp] theorem P1.draw_axes (s : P1) : (s.draw).axes = s.axes := rfl
@[simp] theorem P1.draw_emu (s : P1) : (s.draw).emu = s.emu := rfl
@[simp] theorem P1.draw_probes (s : P1) : (s.draw).probes = s.probes := rfl
@[simp] theorem P1.draw_filt (s : P1) : (s.draw).filt = s.filt := rfl
@[simp] theorem P1.draw_time (s : P1) : (s.draw).time = s.time := rfl
@[simp] theorem P1.draw_solver (s : P1) : (s.draw).solver = s.solver := rfl
@[simp] theorem P1.draw_linkOut (s : P1) : (s.draw).linkOut = s.linkOut := rfl
@[simp] theorem P1.draw_entrySess (s : P1) : (s.draw).entrySess = s.entrySess := rfl
@[simp] theorem P1.draw_fldLink (s : P1) : (s.draw).fldLink = s.fldLink := rfl
@[simp] theorem P1.draw_supply (s : P1) : (s.draw).supply = s.supply := rfl
@[simp] theorem P1.draw_owed (s : P1) : (s.draw).owed = s.owed := rfl
@[simp] theorem P1.draw_linkTries (s : P1) : (s.draw).linkTries = s.linkTries := rfl
@[simp] theorem P1.draw_snapDue (s : P1) : (s.draw).snapDue = s.snapDue := rfl
@[simp] theorem P1.draw_crossings (s : P1) : (s.draw).crossings = s.crossings := rfl
@[simp] theorem P1.draw_pllLost (s : P1) : (s.draw).pllLost = s.pllLost := rfl
@[simp] theorem P1.draw_asleep (s : P1) : (s.draw).asleep = s.asleep := rfl
@[simp] theorem P1.draw_served (s : P1) : (s.draw).served = s.served := rfl
@[simp] theorem P1.draw_reports (s : P1) : (s.draw).reports = s.reports := rfl
@[simp] theorem P1.draw_mailboxes (s : P1) : (s.draw).mailboxes = s.mailboxes := rfl
@[simp] theorem P1.draw_before (s : P1) : (s.draw).before = s.before := rfl
@[simp] theorem P1.draw_rd (s : P1) (j : Nat) : (s.draw).rd j = s.rd j := rfl
@[simp] theorem P1.draw_octets (s : P1) (j : Nat) : (s.draw).octets j = s.octets j := rfl

/-! `P1.drawN` -/

@[simp] theorem P1.drawN_phase (n : Nat) (s : P1) : (s.drawN n).phase = s.phase := rfl
@[simp] theorem P1.drawN_ns (n : Nat) (s : P1) : (s.drawN n).ns = s.ns := rfl
@[simp] theorem P1.drawN_elapsed (n : Nat) (s : P1) : (s.drawN n).elapsed = s.elapsed := rfl
@[simp] theorem P1.drawN_free (n : Nat) (s : P1) : (s.drawN n).free = s.free + n := rfl
@[simp] theorem P1.drawN_od (n : Nat) (s : P1) : (s.drawN n).od = s.od := rfl
@[simp] theorem P1.drawN_dom (n : Nat) (s : P1) : (s.drawN n).dom = s.dom := rfl
@[simp] theorem P1.drawN_sessions (n : Nat) (s : P1) : (s.drawN n).sessions = s.sessions := rfl
@[simp] theorem P1.drawN_reply (n : Nat) (s : P1) : (s.drawN n).reply = s.reply := rfl
@[simp] theorem P1.drawN_bufs (n : Nat) (s : P1) : (s.drawN n).bufs = s.bufs := rfl
@[simp] theorem P1.drawN_sdo (n : Nat) (s : P1) : (s.drawN n).sdo = s.sdo := rfl
@[simp] theorem P1.drawN_lockout (n : Nat) (s : P1) : (s.drawN n).lockout = s.lockout := rfl
@[simp] theorem P1.drawN_alarms (n : Nat) (s : P1) : (s.drawN n).alarms = s.alarms := rfl
@[simp] theorem P1.drawN_unlisted (n : Nat) (s : P1) : (s.drawN n).unlisted = s.unlisted := rfl
@[simp] theorem P1.drawN_faults (n : Nat) (s : P1) : (s.drawN n).faults = s.faults := rfl
@[simp] theorem P1.drawN_unreported (n : Nat) (s : P1) : (s.drawN n).unreported = s.unreported := rfl
@[simp] theorem P1.drawN_lastCauses (n : Nat) (s : P1) : (s.drawN n).lastCauses = s.lastCauses := rfl
@[simp] theorem P1.drawN_cyclePending (n : Nat) (s : P1) : (s.drawN n).cyclePending = s.cyclePending := rfl
@[simp] theorem P1.drawN_overrunRun (n : Nat) (s : P1) : (s.drawN n).overrunRun = s.overrunRun := rfl
@[simp] theorem P1.drawN_snapGrain (n : Nat) (s : P1) : (s.drawN n).snapGrain = s.snapGrain := rfl
@[simp] theorem P1.drawN_lawMode (n : Nat) (s : P1) : (s.drawN n).lawMode = s.lawMode := rfl
@[simp] theorem P1.drawN_blend (n : Nat) (s : P1) : (s.drawN n).blend = s.blend := rfl
@[simp] theorem P1.drawN_springStep (n : Nat) (s : P1) : (s.drawN n).springStep = s.springStep := rfl
@[simp] theorem P1.drawN_stuck (n : Nat) (s : P1) : (s.drawN n).stuck = s.stuck := rfl
@[simp] theorem P1.drawN_startGrain (n : Nat) (s : P1) : (s.drawN n).startGrain = s.startGrain := rfl
@[simp] theorem P1.drawN_recorder (n : Nat) (s : P1) : (s.drawN n).recorder = s.recorder := rfl
@[simp] theorem P1.drawN_dma (n : Nat) (s : P1) : (s.drawN n).dma = s.dma := rfl
@[simp] theorem P1.drawN_bankA (n : Nat) (s : P1) : (s.drawN n).bankA = s.bankA := rfl
@[simp] theorem P1.drawN_bankB (n : Nat) (s : P1) : (s.drawN n).bankB = s.bankB := rfl
@[simp] theorem P1.drawN_save (n : Nat) (s : P1) : (s.drawN n).save = s.save := rfl
@[simp] theorem P1.drawN_saveHeld (n : Nat) (s : P1) : (s.drawN n).saveHeld = s.saveHeld := rfl
@[simp] theorem P1.drawN_can (n : Nat) (s : P1) : (s.drawN n).can = s.can := rfl
@[simp] theorem P1.drawN_net (n : Nat) (s : P1) : (s.drawN n).net = s.net := rfl
@[simp] theorem P1.drawN_heartbeatAt (n : Nat) (s : P1) : (s.drawN n).heartbeatAt = s.heartbeatAt := rfl
@[simp] theorem P1.drawN_serial (n : Nat) (s : P1) : (s.drawN n).serial = s.serial := rfl
@[simp] theorem P1.drawN_red (n : Nat) (s : P1) : (s.drawN n).red = s.red := rfl
@[simp] theorem P1.drawN_ctl (n : Nat) (s : P1) : (s.drawN n).ctl = s.ctl := rfl
@[simp] theorem P1.drawN_alc (n : Nat) (s : P1) : (s.drawN n).alc = s.alc := rfl
@[simp] theorem P1.drawN_acks (n : Nat) (s : P1) : (s.drawN n).acks = s.acks := rfl
@[simp] theorem P1.drawN_ao (n : Nat) (s : P1) : (s.drawN n).ao = s.ao := rfl
@[simp] theorem P1.drawN_next (n : Nat) (s : P1) : (s.drawN n).next = s.next := rfl
@[simp] theorem P1.drawN_slots (n : Nat) (s : P1) : (s.drawN n).slots = s.slots := rfl
@[simp] theorem P1.drawN_fus (n : Nat) (s : P1) : (s.drawN n).fus = s.fus := rfl
@[simp] theorem P1.drawN_axes (n : Nat) (s : P1) : (s.drawN n).axes = s.axes := rfl
@[simp] theorem P1.drawN_emu (n : Nat) (s : P1) : (s.drawN n).emu = s.emu := rfl
@[simp] theorem P1.drawN_probes (n : Nat) (s : P1) : (s.drawN n).probes = s.probes := rfl
@[simp] theorem P1.drawN_filt (n : Nat) (s : P1) : (s.drawN n).filt = s.filt := rfl
@[simp] theorem P1.drawN_time (n : Nat) (s : P1) : (s.drawN n).time = s.time := rfl
@[simp] theorem P1.drawN_solver (n : Nat) (s : P1) : (s.drawN n).solver = s.solver := rfl
@[simp] theorem P1.drawN_linkOut (n : Nat) (s : P1) : (s.drawN n).linkOut = s.linkOut := rfl
@[simp] theorem P1.drawN_entrySess (n : Nat) (s : P1) : (s.drawN n).entrySess = s.entrySess := rfl
@[simp] theorem P1.drawN_fldLink (n : Nat) (s : P1) : (s.drawN n).fldLink = s.fldLink := rfl
@[simp] theorem P1.drawN_supply (n : Nat) (s : P1) : (s.drawN n).supply = s.supply := rfl
@[simp] theorem P1.drawN_owed (n : Nat) (s : P1) : (s.drawN n).owed = s.owed := rfl
@[simp] theorem P1.drawN_linkTries (n : Nat) (s : P1) : (s.drawN n).linkTries = s.linkTries := rfl
@[simp] theorem P1.drawN_snapDue (n : Nat) (s : P1) : (s.drawN n).snapDue = s.snapDue := rfl
@[simp] theorem P1.drawN_crossings (n : Nat) (s : P1) : (s.drawN n).crossings = s.crossings := rfl
@[simp] theorem P1.drawN_pllLost (n : Nat) (s : P1) : (s.drawN n).pllLost = s.pllLost := rfl
@[simp] theorem P1.drawN_asleep (n : Nat) (s : P1) : (s.drawN n).asleep = s.asleep := rfl
@[simp] theorem P1.drawN_served (n : Nat) (s : P1) : (s.drawN n).served = s.served := rfl
@[simp] theorem P1.drawN_reports (n : Nat) (s : P1) : (s.drawN n).reports = s.reports := rfl
@[simp] theorem P1.drawN_mailboxes (n : Nat) (s : P1) : (s.drawN n).mailboxes = s.mailboxes := rfl
@[simp] theorem P1.drawN_before (n : Nat) (s : P1) : (s.drawN n).before = s.before := rfl
@[simp] theorem P1.drawN_rd (n : Nat) (s : P1) (j : Nat) : (s.drawN n).rd j = s.rd j := rfl
@[simp] theorem P1.drawN_octets (n : Nat) (s : P1) (j : Nat) : (s.drawN n).octets j = s.octets j := rfl

/-! `setSlot` -/

@[simp] theorem setSlot_phase (i : Fin 64) (f : SlotState → SlotState) (s : P1) : (setSlot i f s).phase = s.phase := rfl
@[simp] theorem setSlot_ns (i : Fin 64) (f : SlotState → SlotState) (s : P1) : (setSlot i f s).ns = s.ns := rfl
@[simp] theorem setSlot_elapsed (i : Fin 64) (f : SlotState → SlotState) (s : P1) : (setSlot i f s).elapsed = s.elapsed := rfl
@[simp] theorem setSlot_free (i : Fin 64) (f : SlotState → SlotState) (s : P1) : (setSlot i f s).free = s.free := rfl
@[simp] theorem setSlot_od (i : Fin 64) (f : SlotState → SlotState) (s : P1) : (setSlot i f s).od = s.od := rfl
@[simp] theorem setSlot_dom (i : Fin 64) (f : SlotState → SlotState) (s : P1) : (setSlot i f s).dom = s.dom := rfl
@[simp] theorem setSlot_sessions (i : Fin 64) (f : SlotState → SlotState) (s : P1) : (setSlot i f s).sessions = s.sessions := rfl
@[simp] theorem setSlot_reply (i : Fin 64) (f : SlotState → SlotState) (s : P1) : (setSlot i f s).reply = s.reply := rfl
@[simp] theorem setSlot_bufs (i : Fin 64) (f : SlotState → SlotState) (s : P1) : (setSlot i f s).bufs = s.bufs := rfl
@[simp] theorem setSlot_sdo (i : Fin 64) (f : SlotState → SlotState) (s : P1) : (setSlot i f s).sdo = s.sdo := rfl
@[simp] theorem setSlot_lockout (i : Fin 64) (f : SlotState → SlotState) (s : P1) : (setSlot i f s).lockout = s.lockout := rfl
@[simp] theorem setSlot_alarms (i : Fin 64) (f : SlotState → SlotState) (s : P1) : (setSlot i f s).alarms = s.alarms := rfl
@[simp] theorem setSlot_unlisted (i : Fin 64) (f : SlotState → SlotState) (s : P1) : (setSlot i f s).unlisted = s.unlisted := rfl
@[simp] theorem setSlot_faults (i : Fin 64) (f : SlotState → SlotState) (s : P1) : (setSlot i f s).faults = s.faults := rfl
@[simp] theorem setSlot_unreported (i : Fin 64) (f : SlotState → SlotState) (s : P1) : (setSlot i f s).unreported = s.unreported := rfl
@[simp] theorem setSlot_lastCauses (i : Fin 64) (f : SlotState → SlotState) (s : P1) : (setSlot i f s).lastCauses = s.lastCauses := rfl
@[simp] theorem setSlot_cyclePending (i : Fin 64) (f : SlotState → SlotState) (s : P1) : (setSlot i f s).cyclePending = s.cyclePending := rfl
@[simp] theorem setSlot_overrunRun (i : Fin 64) (f : SlotState → SlotState) (s : P1) : (setSlot i f s).overrunRun = s.overrunRun := rfl
@[simp] theorem setSlot_snapGrain (i : Fin 64) (f : SlotState → SlotState) (s : P1) : (setSlot i f s).snapGrain = s.snapGrain := rfl
@[simp] theorem setSlot_lawMode (i : Fin 64) (f : SlotState → SlotState) (s : P1) : (setSlot i f s).lawMode = s.lawMode := rfl
@[simp] theorem setSlot_blend (i : Fin 64) (f : SlotState → SlotState) (s : P1) : (setSlot i f s).blend = s.blend := rfl
@[simp] theorem setSlot_springStep (i : Fin 64) (f : SlotState → SlotState) (s : P1) : (setSlot i f s).springStep = s.springStep := rfl
@[simp] theorem setSlot_stuck (i : Fin 64) (f : SlotState → SlotState) (s : P1) : (setSlot i f s).stuck = s.stuck := rfl
@[simp] theorem setSlot_startGrain (i : Fin 64) (f : SlotState → SlotState) (s : P1) : (setSlot i f s).startGrain = s.startGrain := rfl
@[simp] theorem setSlot_recorder (i : Fin 64) (f : SlotState → SlotState) (s : P1) : (setSlot i f s).recorder = s.recorder := rfl
@[simp] theorem setSlot_dma (i : Fin 64) (f : SlotState → SlotState) (s : P1) : (setSlot i f s).dma = s.dma := rfl
@[simp] theorem setSlot_bankA (i : Fin 64) (f : SlotState → SlotState) (s : P1) : (setSlot i f s).bankA = s.bankA := rfl
@[simp] theorem setSlot_bankB (i : Fin 64) (f : SlotState → SlotState) (s : P1) : (setSlot i f s).bankB = s.bankB := rfl
@[simp] theorem setSlot_save (i : Fin 64) (f : SlotState → SlotState) (s : P1) : (setSlot i f s).save = s.save := rfl
@[simp] theorem setSlot_saveHeld (i : Fin 64) (f : SlotState → SlotState) (s : P1) : (setSlot i f s).saveHeld = s.saveHeld := rfl
@[simp] theorem setSlot_can (i : Fin 64) (f : SlotState → SlotState) (s : P1) : (setSlot i f s).can = s.can := rfl
@[simp] theorem setSlot_net (i : Fin 64) (f : SlotState → SlotState) (s : P1) : (setSlot i f s).net = s.net := rfl
@[simp] theorem setSlot_heartbeatAt (i : Fin 64) (f : SlotState → SlotState) (s : P1) : (setSlot i f s).heartbeatAt = s.heartbeatAt := rfl
@[simp] theorem setSlot_serial (i : Fin 64) (f : SlotState → SlotState) (s : P1) : (setSlot i f s).serial = s.serial := rfl
@[simp] theorem setSlot_red (i : Fin 64) (f : SlotState → SlotState) (s : P1) : (setSlot i f s).red = s.red := rfl
@[simp] theorem setSlot_ctl (i : Fin 64) (f : SlotState → SlotState) (s : P1) : (setSlot i f s).ctl = s.ctl := rfl
@[simp] theorem setSlot_alc (i : Fin 64) (f : SlotState → SlotState) (s : P1) : (setSlot i f s).alc = s.alc := rfl
@[simp] theorem setSlot_acks (i : Fin 64) (f : SlotState → SlotState) (s : P1) : (setSlot i f s).acks = s.acks := rfl
@[simp] theorem setSlot_ao (i : Fin 64) (f : SlotState → SlotState) (s : P1) : (setSlot i f s).ao = s.ao := rfl
@[simp] theorem setSlot_next (i : Fin 64) (f : SlotState → SlotState) (s : P1) : (setSlot i f s).next = s.next := rfl
@[simp] theorem setSlot_slots (i : Fin 64) (f : SlotState → SlotState) (s : P1) : (setSlot i f s).slots = upd s.slots i f := rfl
@[simp] theorem setSlot_fus (i : Fin 64) (f : SlotState → SlotState) (s : P1) : (setSlot i f s).fus = s.fus := rfl
@[simp] theorem setSlot_axes (i : Fin 64) (f : SlotState → SlotState) (s : P1) : (setSlot i f s).axes = s.axes := rfl
@[simp] theorem setSlot_emu (i : Fin 64) (f : SlotState → SlotState) (s : P1) : (setSlot i f s).emu = s.emu := rfl
@[simp] theorem setSlot_probes (i : Fin 64) (f : SlotState → SlotState) (s : P1) : (setSlot i f s).probes = s.probes := rfl
@[simp] theorem setSlot_filt (i : Fin 64) (f : SlotState → SlotState) (s : P1) : (setSlot i f s).filt = s.filt := rfl
@[simp] theorem setSlot_time (i : Fin 64) (f : SlotState → SlotState) (s : P1) : (setSlot i f s).time = s.time := rfl
@[simp] theorem setSlot_solver (i : Fin 64) (f : SlotState → SlotState) (s : P1) : (setSlot i f s).solver = s.solver := rfl
@[simp] theorem setSlot_linkOut (i : Fin 64) (f : SlotState → SlotState) (s : P1) : (setSlot i f s).linkOut = s.linkOut := rfl
@[simp] theorem setSlot_entrySess (i : Fin 64) (f : SlotState → SlotState) (s : P1) : (setSlot i f s).entrySess = s.entrySess := rfl
@[simp] theorem setSlot_fldLink (i : Fin 64) (f : SlotState → SlotState) (s : P1) : (setSlot i f s).fldLink = s.fldLink := rfl
@[simp] theorem setSlot_supply (i : Fin 64) (f : SlotState → SlotState) (s : P1) : (setSlot i f s).supply = s.supply := rfl
@[simp] theorem setSlot_owed (i : Fin 64) (f : SlotState → SlotState) (s : P1) : (setSlot i f s).owed = s.owed := rfl
@[simp] theorem setSlot_linkTries (i : Fin 64) (f : SlotState → SlotState) (s : P1) : (setSlot i f s).linkTries = s.linkTries := rfl
@[simp] theorem setSlot_snapDue (i : Fin 64) (f : SlotState → SlotState) (s : P1) : (setSlot i f s).snapDue = s.snapDue := rfl
@[simp] theorem setSlot_crossings (i : Fin 64) (f : SlotState → SlotState) (s : P1) : (setSlot i f s).crossings = s.crossings := rfl
@[simp] theorem setSlot_pllLost (i : Fin 64) (f : SlotState → SlotState) (s : P1) : (setSlot i f s).pllLost = s.pllLost := rfl
@[simp] theorem setSlot_asleep (i : Fin 64) (f : SlotState → SlotState) (s : P1) : (setSlot i f s).asleep = s.asleep := rfl
@[simp] theorem setSlot_served (i : Fin 64) (f : SlotState → SlotState) (s : P1) : (setSlot i f s).served = s.served := rfl
@[simp] theorem setSlot_reports (i : Fin 64) (f : SlotState → SlotState) (s : P1) : (setSlot i f s).reports = s.reports := rfl
@[simp] theorem setSlot_mailboxes (i : Fin 64) (f : SlotState → SlotState) (s : P1) : (setSlot i f s).mailboxes = s.mailboxes := rfl
@[simp] theorem setSlot_before (i : Fin 64) (f : SlotState → SlotState) (s : P1) : (setSlot i f s).before = s.before := rfl
@[simp] theorem setSlot_rd (i : Fin 64) (f : SlotState → SlotState) (s : P1) (j : Nat) : (setSlot i f s).rd j = s.rd j := rfl
@[simp] theorem setSlot_octets (i : Fin 64) (f : SlotState → SlotState) (s : P1) (j : Nat) : (setSlot i f s).octets j = s.octets j := rfl

/-! `setSer` -/

@[simp] theorem setSer_phase (i : Fin 8) (f : SerialChan → SerialChan) (s : P1) : (setSer i f s).phase = s.phase := rfl
@[simp] theorem setSer_ns (i : Fin 8) (f : SerialChan → SerialChan) (s : P1) : (setSer i f s).ns = s.ns := rfl
@[simp] theorem setSer_elapsed (i : Fin 8) (f : SerialChan → SerialChan) (s : P1) : (setSer i f s).elapsed = s.elapsed := rfl
@[simp] theorem setSer_free (i : Fin 8) (f : SerialChan → SerialChan) (s : P1) : (setSer i f s).free = s.free := rfl
@[simp] theorem setSer_od (i : Fin 8) (f : SerialChan → SerialChan) (s : P1) : (setSer i f s).od = s.od := rfl
@[simp] theorem setSer_dom (i : Fin 8) (f : SerialChan → SerialChan) (s : P1) : (setSer i f s).dom = s.dom := rfl
@[simp] theorem setSer_sessions (i : Fin 8) (f : SerialChan → SerialChan) (s : P1) : (setSer i f s).sessions = s.sessions := rfl
@[simp] theorem setSer_reply (i : Fin 8) (f : SerialChan → SerialChan) (s : P1) : (setSer i f s).reply = s.reply := rfl
@[simp] theorem setSer_bufs (i : Fin 8) (f : SerialChan → SerialChan) (s : P1) : (setSer i f s).bufs = s.bufs := rfl
@[simp] theorem setSer_sdo (i : Fin 8) (f : SerialChan → SerialChan) (s : P1) : (setSer i f s).sdo = s.sdo := rfl
@[simp] theorem setSer_lockout (i : Fin 8) (f : SerialChan → SerialChan) (s : P1) : (setSer i f s).lockout = s.lockout := rfl
@[simp] theorem setSer_alarms (i : Fin 8) (f : SerialChan → SerialChan) (s : P1) : (setSer i f s).alarms = s.alarms := rfl
@[simp] theorem setSer_unlisted (i : Fin 8) (f : SerialChan → SerialChan) (s : P1) : (setSer i f s).unlisted = s.unlisted := rfl
@[simp] theorem setSer_faults (i : Fin 8) (f : SerialChan → SerialChan) (s : P1) : (setSer i f s).faults = s.faults := rfl
@[simp] theorem setSer_unreported (i : Fin 8) (f : SerialChan → SerialChan) (s : P1) : (setSer i f s).unreported = s.unreported := rfl
@[simp] theorem setSer_lastCauses (i : Fin 8) (f : SerialChan → SerialChan) (s : P1) : (setSer i f s).lastCauses = s.lastCauses := rfl
@[simp] theorem setSer_cyclePending (i : Fin 8) (f : SerialChan → SerialChan) (s : P1) : (setSer i f s).cyclePending = s.cyclePending := rfl
@[simp] theorem setSer_overrunRun (i : Fin 8) (f : SerialChan → SerialChan) (s : P1) : (setSer i f s).overrunRun = s.overrunRun := rfl
@[simp] theorem setSer_snapGrain (i : Fin 8) (f : SerialChan → SerialChan) (s : P1) : (setSer i f s).snapGrain = s.snapGrain := rfl
@[simp] theorem setSer_lawMode (i : Fin 8) (f : SerialChan → SerialChan) (s : P1) : (setSer i f s).lawMode = s.lawMode := rfl
@[simp] theorem setSer_blend (i : Fin 8) (f : SerialChan → SerialChan) (s : P1) : (setSer i f s).blend = s.blend := rfl
@[simp] theorem setSer_springStep (i : Fin 8) (f : SerialChan → SerialChan) (s : P1) : (setSer i f s).springStep = s.springStep := rfl
@[simp] theorem setSer_stuck (i : Fin 8) (f : SerialChan → SerialChan) (s : P1) : (setSer i f s).stuck = s.stuck := rfl
@[simp] theorem setSer_startGrain (i : Fin 8) (f : SerialChan → SerialChan) (s : P1) : (setSer i f s).startGrain = s.startGrain := rfl
@[simp] theorem setSer_recorder (i : Fin 8) (f : SerialChan → SerialChan) (s : P1) : (setSer i f s).recorder = s.recorder := rfl
@[simp] theorem setSer_dma (i : Fin 8) (f : SerialChan → SerialChan) (s : P1) : (setSer i f s).dma = s.dma := rfl
@[simp] theorem setSer_bankA (i : Fin 8) (f : SerialChan → SerialChan) (s : P1) : (setSer i f s).bankA = s.bankA := rfl
@[simp] theorem setSer_bankB (i : Fin 8) (f : SerialChan → SerialChan) (s : P1) : (setSer i f s).bankB = s.bankB := rfl
@[simp] theorem setSer_save (i : Fin 8) (f : SerialChan → SerialChan) (s : P1) : (setSer i f s).save = s.save := rfl
@[simp] theorem setSer_saveHeld (i : Fin 8) (f : SerialChan → SerialChan) (s : P1) : (setSer i f s).saveHeld = s.saveHeld := rfl
@[simp] theorem setSer_can (i : Fin 8) (f : SerialChan → SerialChan) (s : P1) : (setSer i f s).can = s.can := rfl
@[simp] theorem setSer_net (i : Fin 8) (f : SerialChan → SerialChan) (s : P1) : (setSer i f s).net = s.net := rfl
@[simp] theorem setSer_heartbeatAt (i : Fin 8) (f : SerialChan → SerialChan) (s : P1) : (setSer i f s).heartbeatAt = s.heartbeatAt := rfl
@[simp] theorem setSer_serial (i : Fin 8) (f : SerialChan → SerialChan) (s : P1) : (setSer i f s).serial = upd s.serial i f := rfl
@[simp] theorem setSer_red (i : Fin 8) (f : SerialChan → SerialChan) (s : P1) : (setSer i f s).red = s.red := rfl
@[simp] theorem setSer_ctl (i : Fin 8) (f : SerialChan → SerialChan) (s : P1) : (setSer i f s).ctl = s.ctl := rfl
@[simp] theorem setSer_alc (i : Fin 8) (f : SerialChan → SerialChan) (s : P1) : (setSer i f s).alc = s.alc := rfl
@[simp] theorem setSer_acks (i : Fin 8) (f : SerialChan → SerialChan) (s : P1) : (setSer i f s).acks = s.acks := rfl
@[simp] theorem setSer_ao (i : Fin 8) (f : SerialChan → SerialChan) (s : P1) : (setSer i f s).ao = s.ao := rfl
@[simp] theorem setSer_next (i : Fin 8) (f : SerialChan → SerialChan) (s : P1) : (setSer i f s).next = s.next := rfl
@[simp] theorem setSer_slots (i : Fin 8) (f : SerialChan → SerialChan) (s : P1) : (setSer i f s).slots = s.slots := rfl
@[simp] theorem setSer_fus (i : Fin 8) (f : SerialChan → SerialChan) (s : P1) : (setSer i f s).fus = s.fus := rfl
@[simp] theorem setSer_axes (i : Fin 8) (f : SerialChan → SerialChan) (s : P1) : (setSer i f s).axes = s.axes := rfl
@[simp] theorem setSer_emu (i : Fin 8) (f : SerialChan → SerialChan) (s : P1) : (setSer i f s).emu = s.emu := rfl
@[simp] theorem setSer_probes (i : Fin 8) (f : SerialChan → SerialChan) (s : P1) : (setSer i f s).probes = s.probes := rfl
@[simp] theorem setSer_filt (i : Fin 8) (f : SerialChan → SerialChan) (s : P1) : (setSer i f s).filt = s.filt := rfl
@[simp] theorem setSer_time (i : Fin 8) (f : SerialChan → SerialChan) (s : P1) : (setSer i f s).time = s.time := rfl
@[simp] theorem setSer_solver (i : Fin 8) (f : SerialChan → SerialChan) (s : P1) : (setSer i f s).solver = s.solver := rfl
@[simp] theorem setSer_linkOut (i : Fin 8) (f : SerialChan → SerialChan) (s : P1) : (setSer i f s).linkOut = s.linkOut := rfl
@[simp] theorem setSer_entrySess (i : Fin 8) (f : SerialChan → SerialChan) (s : P1) : (setSer i f s).entrySess = s.entrySess := rfl
@[simp] theorem setSer_fldLink (i : Fin 8) (f : SerialChan → SerialChan) (s : P1) : (setSer i f s).fldLink = s.fldLink := rfl
@[simp] theorem setSer_supply (i : Fin 8) (f : SerialChan → SerialChan) (s : P1) : (setSer i f s).supply = s.supply := rfl
@[simp] theorem setSer_owed (i : Fin 8) (f : SerialChan → SerialChan) (s : P1) : (setSer i f s).owed = s.owed := rfl
@[simp] theorem setSer_linkTries (i : Fin 8) (f : SerialChan → SerialChan) (s : P1) : (setSer i f s).linkTries = s.linkTries := rfl
@[simp] theorem setSer_snapDue (i : Fin 8) (f : SerialChan → SerialChan) (s : P1) : (setSer i f s).snapDue = s.snapDue := rfl
@[simp] theorem setSer_crossings (i : Fin 8) (f : SerialChan → SerialChan) (s : P1) : (setSer i f s).crossings = s.crossings := rfl
@[simp] theorem setSer_pllLost (i : Fin 8) (f : SerialChan → SerialChan) (s : P1) : (setSer i f s).pllLost = s.pllLost := rfl
@[simp] theorem setSer_asleep (i : Fin 8) (f : SerialChan → SerialChan) (s : P1) : (setSer i f s).asleep = s.asleep := rfl
@[simp] theorem setSer_served (i : Fin 8) (f : SerialChan → SerialChan) (s : P1) : (setSer i f s).served = s.served := rfl
@[simp] theorem setSer_reports (i : Fin 8) (f : SerialChan → SerialChan) (s : P1) : (setSer i f s).reports = s.reports := rfl
@[simp] theorem setSer_mailboxes (i : Fin 8) (f : SerialChan → SerialChan) (s : P1) : (setSer i f s).mailboxes = s.mailboxes := rfl
@[simp] theorem setSer_before (i : Fin 8) (f : SerialChan → SerialChan) (s : P1) : (setSer i f s).before = s.before := rfl
@[simp] theorem setSer_rd (i : Fin 8) (f : SerialChan → SerialChan) (s : P1) (j : Nat) : (setSer i f s).rd j = s.rd j := rfl
@[simp] theorem setSer_octets (i : Fin 8) (f : SerialChan → SerialChan) (s : P1) (j : Nat) : (setSer i f s).octets j = s.octets j := rfl

/-! `setCan` -/

@[simp] theorem setCan_phase (c : Fin 4) (f : CanChan → CanChan) (s : P1) : (setCan c f s).phase = s.phase := rfl
@[simp] theorem setCan_ns (c : Fin 4) (f : CanChan → CanChan) (s : P1) : (setCan c f s).ns = s.ns := rfl
@[simp] theorem setCan_elapsed (c : Fin 4) (f : CanChan → CanChan) (s : P1) : (setCan c f s).elapsed = s.elapsed := rfl
@[simp] theorem setCan_free (c : Fin 4) (f : CanChan → CanChan) (s : P1) : (setCan c f s).free = s.free := rfl
@[simp] theorem setCan_od (c : Fin 4) (f : CanChan → CanChan) (s : P1) : (setCan c f s).od = s.od := rfl
@[simp] theorem setCan_dom (c : Fin 4) (f : CanChan → CanChan) (s : P1) : (setCan c f s).dom = s.dom := rfl
@[simp] theorem setCan_sessions (c : Fin 4) (f : CanChan → CanChan) (s : P1) : (setCan c f s).sessions = s.sessions := rfl
@[simp] theorem setCan_reply (c : Fin 4) (f : CanChan → CanChan) (s : P1) : (setCan c f s).reply = s.reply := rfl
@[simp] theorem setCan_bufs (c : Fin 4) (f : CanChan → CanChan) (s : P1) : (setCan c f s).bufs = s.bufs := rfl
@[simp] theorem setCan_sdo (c : Fin 4) (f : CanChan → CanChan) (s : P1) : (setCan c f s).sdo = s.sdo := rfl
@[simp] theorem setCan_lockout (c : Fin 4) (f : CanChan → CanChan) (s : P1) : (setCan c f s).lockout = s.lockout := rfl
@[simp] theorem setCan_alarms (c : Fin 4) (f : CanChan → CanChan) (s : P1) : (setCan c f s).alarms = s.alarms := rfl
@[simp] theorem setCan_unlisted (c : Fin 4) (f : CanChan → CanChan) (s : P1) : (setCan c f s).unlisted = s.unlisted := rfl
@[simp] theorem setCan_faults (c : Fin 4) (f : CanChan → CanChan) (s : P1) : (setCan c f s).faults = s.faults := rfl
@[simp] theorem setCan_unreported (c : Fin 4) (f : CanChan → CanChan) (s : P1) : (setCan c f s).unreported = s.unreported := rfl
@[simp] theorem setCan_lastCauses (c : Fin 4) (f : CanChan → CanChan) (s : P1) : (setCan c f s).lastCauses = s.lastCauses := rfl
@[simp] theorem setCan_cyclePending (c : Fin 4) (f : CanChan → CanChan) (s : P1) : (setCan c f s).cyclePending = s.cyclePending := rfl
@[simp] theorem setCan_overrunRun (c : Fin 4) (f : CanChan → CanChan) (s : P1) : (setCan c f s).overrunRun = s.overrunRun := rfl
@[simp] theorem setCan_snapGrain (c : Fin 4) (f : CanChan → CanChan) (s : P1) : (setCan c f s).snapGrain = s.snapGrain := rfl
@[simp] theorem setCan_lawMode (c : Fin 4) (f : CanChan → CanChan) (s : P1) : (setCan c f s).lawMode = s.lawMode := rfl
@[simp] theorem setCan_blend (c : Fin 4) (f : CanChan → CanChan) (s : P1) : (setCan c f s).blend = s.blend := rfl
@[simp] theorem setCan_springStep (c : Fin 4) (f : CanChan → CanChan) (s : P1) : (setCan c f s).springStep = s.springStep := rfl
@[simp] theorem setCan_stuck (c : Fin 4) (f : CanChan → CanChan) (s : P1) : (setCan c f s).stuck = s.stuck := rfl
@[simp] theorem setCan_startGrain (c : Fin 4) (f : CanChan → CanChan) (s : P1) : (setCan c f s).startGrain = s.startGrain := rfl
@[simp] theorem setCan_recorder (c : Fin 4) (f : CanChan → CanChan) (s : P1) : (setCan c f s).recorder = s.recorder := rfl
@[simp] theorem setCan_dma (c : Fin 4) (f : CanChan → CanChan) (s : P1) : (setCan c f s).dma = s.dma := rfl
@[simp] theorem setCan_bankA (c : Fin 4) (f : CanChan → CanChan) (s : P1) : (setCan c f s).bankA = s.bankA := rfl
@[simp] theorem setCan_bankB (c : Fin 4) (f : CanChan → CanChan) (s : P1) : (setCan c f s).bankB = s.bankB := rfl
@[simp] theorem setCan_save (c : Fin 4) (f : CanChan → CanChan) (s : P1) : (setCan c f s).save = s.save := rfl
@[simp] theorem setCan_saveHeld (c : Fin 4) (f : CanChan → CanChan) (s : P1) : (setCan c f s).saveHeld = s.saveHeld := rfl
@[simp] theorem setCan_can (c : Fin 4) (f : CanChan → CanChan) (s : P1) : (setCan c f s).can = upd s.can c f := rfl
@[simp] theorem setCan_net (c : Fin 4) (f : CanChan → CanChan) (s : P1) : (setCan c f s).net = s.net := rfl
@[simp] theorem setCan_heartbeatAt (c : Fin 4) (f : CanChan → CanChan) (s : P1) : (setCan c f s).heartbeatAt = s.heartbeatAt := rfl
@[simp] theorem setCan_serial (c : Fin 4) (f : CanChan → CanChan) (s : P1) : (setCan c f s).serial = s.serial := rfl
@[simp] theorem setCan_red (c : Fin 4) (f : CanChan → CanChan) (s : P1) : (setCan c f s).red = s.red := rfl
@[simp] theorem setCan_ctl (c : Fin 4) (f : CanChan → CanChan) (s : P1) : (setCan c f s).ctl = s.ctl := rfl
@[simp] theorem setCan_alc (c : Fin 4) (f : CanChan → CanChan) (s : P1) : (setCan c f s).alc = s.alc := rfl
@[simp] theorem setCan_acks (c : Fin 4) (f : CanChan → CanChan) (s : P1) : (setCan c f s).acks = s.acks := rfl
@[simp] theorem setCan_ao (c : Fin 4) (f : CanChan → CanChan) (s : P1) : (setCan c f s).ao = s.ao := rfl
@[simp] theorem setCan_next (c : Fin 4) (f : CanChan → CanChan) (s : P1) : (setCan c f s).next = s.next := rfl
@[simp] theorem setCan_slots (c : Fin 4) (f : CanChan → CanChan) (s : P1) : (setCan c f s).slots = s.slots := rfl
@[simp] theorem setCan_fus (c : Fin 4) (f : CanChan → CanChan) (s : P1) : (setCan c f s).fus = s.fus := rfl
@[simp] theorem setCan_axes (c : Fin 4) (f : CanChan → CanChan) (s : P1) : (setCan c f s).axes = s.axes := rfl
@[simp] theorem setCan_emu (c : Fin 4) (f : CanChan → CanChan) (s : P1) : (setCan c f s).emu = s.emu := rfl
@[simp] theorem setCan_probes (c : Fin 4) (f : CanChan → CanChan) (s : P1) : (setCan c f s).probes = s.probes := rfl
@[simp] theorem setCan_filt (c : Fin 4) (f : CanChan → CanChan) (s : P1) : (setCan c f s).filt = s.filt := rfl
@[simp] theorem setCan_time (c : Fin 4) (f : CanChan → CanChan) (s : P1) : (setCan c f s).time = s.time := rfl
@[simp] theorem setCan_solver (c : Fin 4) (f : CanChan → CanChan) (s : P1) : (setCan c f s).solver = s.solver := rfl
@[simp] theorem setCan_linkOut (c : Fin 4) (f : CanChan → CanChan) (s : P1) : (setCan c f s).linkOut = s.linkOut := rfl
@[simp] theorem setCan_entrySess (c : Fin 4) (f : CanChan → CanChan) (s : P1) : (setCan c f s).entrySess = s.entrySess := rfl
@[simp] theorem setCan_fldLink (c : Fin 4) (f : CanChan → CanChan) (s : P1) : (setCan c f s).fldLink = s.fldLink := rfl
@[simp] theorem setCan_supply (c : Fin 4) (f : CanChan → CanChan) (s : P1) : (setCan c f s).supply = s.supply := rfl
@[simp] theorem setCan_owed (c : Fin 4) (f : CanChan → CanChan) (s : P1) : (setCan c f s).owed = s.owed := rfl
@[simp] theorem setCan_linkTries (c : Fin 4) (f : CanChan → CanChan) (s : P1) : (setCan c f s).linkTries = s.linkTries := rfl
@[simp] theorem setCan_snapDue (c : Fin 4) (f : CanChan → CanChan) (s : P1) : (setCan c f s).snapDue = s.snapDue := rfl
@[simp] theorem setCan_crossings (c : Fin 4) (f : CanChan → CanChan) (s : P1) : (setCan c f s).crossings = s.crossings := rfl
@[simp] theorem setCan_pllLost (c : Fin 4) (f : CanChan → CanChan) (s : P1) : (setCan c f s).pllLost = s.pllLost := rfl
@[simp] theorem setCan_asleep (c : Fin 4) (f : CanChan → CanChan) (s : P1) : (setCan c f s).asleep = s.asleep := rfl
@[simp] theorem setCan_served (c : Fin 4) (f : CanChan → CanChan) (s : P1) : (setCan c f s).served = s.served := rfl
@[simp] theorem setCan_reports (c : Fin 4) (f : CanChan → CanChan) (s : P1) : (setCan c f s).reports = s.reports := rfl
@[simp] theorem setCan_mailboxes (c : Fin 4) (f : CanChan → CanChan) (s : P1) : (setCan c f s).mailboxes = s.mailboxes := rfl
@[simp] theorem setCan_before (c : Fin 4) (f : CanChan → CanChan) (s : P1) : (setCan c f s).before = s.before := rfl
@[simp] theorem setCan_rd (c : Fin 4) (f : CanChan → CanChan) (s : P1) (j : Nat) : (setCan c f s).rd j = s.rd j := rfl
@[simp] theorem setCan_octets (c : Fin 4) (f : CanChan → CanChan) (s : P1) (j : Nat) : (setCan c f s).octets j = s.octets j := rfl

/-! `setFus` -/

@[simp] theorem setFus_phase (f : Fusion → Fusion) (s : P1) : (setFus f s).phase = s.phase := rfl
@[simp] theorem setFus_ns (f : Fusion → Fusion) (s : P1) : (setFus f s).ns = s.ns := rfl
@[simp] theorem setFus_elapsed (f : Fusion → Fusion) (s : P1) : (setFus f s).elapsed = s.elapsed := rfl
@[simp] theorem setFus_free (f : Fusion → Fusion) (s : P1) : (setFus f s).free = s.free := rfl
@[simp] theorem setFus_od (f : Fusion → Fusion) (s : P1) : (setFus f s).od = s.od := rfl
@[simp] theorem setFus_dom (f : Fusion → Fusion) (s : P1) : (setFus f s).dom = s.dom := rfl
@[simp] theorem setFus_sessions (f : Fusion → Fusion) (s : P1) : (setFus f s).sessions = s.sessions := rfl
@[simp] theorem setFus_reply (f : Fusion → Fusion) (s : P1) : (setFus f s).reply = s.reply := rfl
@[simp] theorem setFus_bufs (f : Fusion → Fusion) (s : P1) : (setFus f s).bufs = s.bufs := rfl
@[simp] theorem setFus_sdo (f : Fusion → Fusion) (s : P1) : (setFus f s).sdo = s.sdo := rfl
@[simp] theorem setFus_lockout (f : Fusion → Fusion) (s : P1) : (setFus f s).lockout = s.lockout := rfl
@[simp] theorem setFus_alarms (f : Fusion → Fusion) (s : P1) : (setFus f s).alarms = s.alarms := rfl
@[simp] theorem setFus_unlisted (f : Fusion → Fusion) (s : P1) : (setFus f s).unlisted = s.unlisted := rfl
@[simp] theorem setFus_faults (f : Fusion → Fusion) (s : P1) : (setFus f s).faults = s.faults := rfl
@[simp] theorem setFus_unreported (f : Fusion → Fusion) (s : P1) : (setFus f s).unreported = s.unreported := rfl
@[simp] theorem setFus_lastCauses (f : Fusion → Fusion) (s : P1) : (setFus f s).lastCauses = s.lastCauses := rfl
@[simp] theorem setFus_cyclePending (f : Fusion → Fusion) (s : P1) : (setFus f s).cyclePending = s.cyclePending := rfl
@[simp] theorem setFus_overrunRun (f : Fusion → Fusion) (s : P1) : (setFus f s).overrunRun = s.overrunRun := rfl
@[simp] theorem setFus_snapGrain (f : Fusion → Fusion) (s : P1) : (setFus f s).snapGrain = s.snapGrain := rfl
@[simp] theorem setFus_lawMode (f : Fusion → Fusion) (s : P1) : (setFus f s).lawMode = s.lawMode := rfl
@[simp] theorem setFus_blend (f : Fusion → Fusion) (s : P1) : (setFus f s).blend = s.blend := rfl
@[simp] theorem setFus_springStep (f : Fusion → Fusion) (s : P1) : (setFus f s).springStep = s.springStep := rfl
@[simp] theorem setFus_stuck (f : Fusion → Fusion) (s : P1) : (setFus f s).stuck = s.stuck := rfl
@[simp] theorem setFus_startGrain (f : Fusion → Fusion) (s : P1) : (setFus f s).startGrain = s.startGrain := rfl
@[simp] theorem setFus_recorder (f : Fusion → Fusion) (s : P1) : (setFus f s).recorder = s.recorder := rfl
@[simp] theorem setFus_dma (f : Fusion → Fusion) (s : P1) : (setFus f s).dma = s.dma := rfl
@[simp] theorem setFus_bankA (f : Fusion → Fusion) (s : P1) : (setFus f s).bankA = s.bankA := rfl
@[simp] theorem setFus_bankB (f : Fusion → Fusion) (s : P1) : (setFus f s).bankB = s.bankB := rfl
@[simp] theorem setFus_save (f : Fusion → Fusion) (s : P1) : (setFus f s).save = s.save := rfl
@[simp] theorem setFus_saveHeld (f : Fusion → Fusion) (s : P1) : (setFus f s).saveHeld = s.saveHeld := rfl
@[simp] theorem setFus_can (f : Fusion → Fusion) (s : P1) : (setFus f s).can = s.can := rfl
@[simp] theorem setFus_net (f : Fusion → Fusion) (s : P1) : (setFus f s).net = s.net := rfl
@[simp] theorem setFus_heartbeatAt (f : Fusion → Fusion) (s : P1) : (setFus f s).heartbeatAt = s.heartbeatAt := rfl
@[simp] theorem setFus_serial (f : Fusion → Fusion) (s : P1) : (setFus f s).serial = s.serial := rfl
@[simp] theorem setFus_red (f : Fusion → Fusion) (s : P1) : (setFus f s).red = s.red := rfl
@[simp] theorem setFus_ctl (f : Fusion → Fusion) (s : P1) : (setFus f s).ctl = s.ctl := rfl
@[simp] theorem setFus_alc (f : Fusion → Fusion) (s : P1) : (setFus f s).alc = s.alc := rfl
@[simp] theorem setFus_acks (f : Fusion → Fusion) (s : P1) : (setFus f s).acks = s.acks := rfl
@[simp] theorem setFus_ao (f : Fusion → Fusion) (s : P1) : (setFus f s).ao = s.ao := rfl
@[simp] theorem setFus_next (f : Fusion → Fusion) (s : P1) : (setFus f s).next = s.next := rfl
@[simp] theorem setFus_slots (f : Fusion → Fusion) (s : P1) : (setFus f s).slots = s.slots := rfl
@[simp] theorem setFus_fus (f : Fusion → Fusion) (s : P1) : (setFus f s).fus = f s.fus := rfl
@[simp] theorem setFus_axes (f : Fusion → Fusion) (s : P1) : (setFus f s).axes = s.axes := rfl
@[simp] theorem setFus_emu (f : Fusion → Fusion) (s : P1) : (setFus f s).emu = s.emu := rfl
@[simp] theorem setFus_probes (f : Fusion → Fusion) (s : P1) : (setFus f s).probes = s.probes := rfl
@[simp] theorem setFus_filt (f : Fusion → Fusion) (s : P1) : (setFus f s).filt = s.filt := rfl
@[simp] theorem setFus_time (f : Fusion → Fusion) (s : P1) : (setFus f s).time = s.time := rfl
@[simp] theorem setFus_solver (f : Fusion → Fusion) (s : P1) : (setFus f s).solver = s.solver := rfl
@[simp] theorem setFus_linkOut (f : Fusion → Fusion) (s : P1) : (setFus f s).linkOut = s.linkOut := rfl
@[simp] theorem setFus_entrySess (f : Fusion → Fusion) (s : P1) : (setFus f s).entrySess = s.entrySess := rfl
@[simp] theorem setFus_fldLink (f : Fusion → Fusion) (s : P1) : (setFus f s).fldLink = s.fldLink := rfl
@[simp] theorem setFus_supply (f : Fusion → Fusion) (s : P1) : (setFus f s).supply = s.supply := rfl
@[simp] theorem setFus_owed (f : Fusion → Fusion) (s : P1) : (setFus f s).owed = s.owed := rfl
@[simp] theorem setFus_linkTries (f : Fusion → Fusion) (s : P1) : (setFus f s).linkTries = s.linkTries := rfl
@[simp] theorem setFus_snapDue (f : Fusion → Fusion) (s : P1) : (setFus f s).snapDue = s.snapDue := rfl
@[simp] theorem setFus_crossings (f : Fusion → Fusion) (s : P1) : (setFus f s).crossings = s.crossings := rfl
@[simp] theorem setFus_pllLost (f : Fusion → Fusion) (s : P1) : (setFus f s).pllLost = s.pllLost := rfl
@[simp] theorem setFus_asleep (f : Fusion → Fusion) (s : P1) : (setFus f s).asleep = s.asleep := rfl
@[simp] theorem setFus_served (f : Fusion → Fusion) (s : P1) : (setFus f s).served = s.served := rfl
@[simp] theorem setFus_reports (f : Fusion → Fusion) (s : P1) : (setFus f s).reports = s.reports := rfl
@[simp] theorem setFus_mailboxes (f : Fusion → Fusion) (s : P1) : (setFus f s).mailboxes = s.mailboxes := rfl
@[simp] theorem setFus_before (f : Fusion → Fusion) (s : P1) : (setFus f s).before = s.before := rfl
@[simp] theorem setFus_rd (f : Fusion → Fusion) (s : P1) (j : Nat) : (setFus f s).rd j = s.rd j := rfl
@[simp] theorem setFus_octets (f : Fusion → Fusion) (s : P1) (j : Nat) : (setFus f s).octets j = s.octets j := rfl

/-! `setRed` -/

@[simp] theorem setRed_phase (f : Redundancy → Redundancy) (s : P1) : (setRed f s).phase = s.phase := rfl
@[simp] theorem setRed_ns (f : Redundancy → Redundancy) (s : P1) : (setRed f s).ns = s.ns := rfl
@[simp] theorem setRed_elapsed (f : Redundancy → Redundancy) (s : P1) : (setRed f s).elapsed = s.elapsed := rfl
@[simp] theorem setRed_free (f : Redundancy → Redundancy) (s : P1) : (setRed f s).free = s.free := rfl
@[simp] theorem setRed_od (f : Redundancy → Redundancy) (s : P1) : (setRed f s).od = s.od := rfl
@[simp] theorem setRed_dom (f : Redundancy → Redundancy) (s : P1) : (setRed f s).dom = s.dom := rfl
@[simp] theorem setRed_sessions (f : Redundancy → Redundancy) (s : P1) : (setRed f s).sessions = s.sessions := rfl
@[simp] theorem setRed_reply (f : Redundancy → Redundancy) (s : P1) : (setRed f s).reply = s.reply := rfl
@[simp] theorem setRed_bufs (f : Redundancy → Redundancy) (s : P1) : (setRed f s).bufs = s.bufs := rfl
@[simp] theorem setRed_sdo (f : Redundancy → Redundancy) (s : P1) : (setRed f s).sdo = s.sdo := rfl
@[simp] theorem setRed_lockout (f : Redundancy → Redundancy) (s : P1) : (setRed f s).lockout = s.lockout := rfl
@[simp] theorem setRed_alarms (f : Redundancy → Redundancy) (s : P1) : (setRed f s).alarms = s.alarms := rfl
@[simp] theorem setRed_unlisted (f : Redundancy → Redundancy) (s : P1) : (setRed f s).unlisted = s.unlisted := rfl
@[simp] theorem setRed_faults (f : Redundancy → Redundancy) (s : P1) : (setRed f s).faults = s.faults := rfl
@[simp] theorem setRed_unreported (f : Redundancy → Redundancy) (s : P1) : (setRed f s).unreported = s.unreported := rfl
@[simp] theorem setRed_lastCauses (f : Redundancy → Redundancy) (s : P1) : (setRed f s).lastCauses = s.lastCauses := rfl
@[simp] theorem setRed_cyclePending (f : Redundancy → Redundancy) (s : P1) : (setRed f s).cyclePending = s.cyclePending := rfl
@[simp] theorem setRed_overrunRun (f : Redundancy → Redundancy) (s : P1) : (setRed f s).overrunRun = s.overrunRun := rfl
@[simp] theorem setRed_snapGrain (f : Redundancy → Redundancy) (s : P1) : (setRed f s).snapGrain = s.snapGrain := rfl
@[simp] theorem setRed_lawMode (f : Redundancy → Redundancy) (s : P1) : (setRed f s).lawMode = s.lawMode := rfl
@[simp] theorem setRed_blend (f : Redundancy → Redundancy) (s : P1) : (setRed f s).blend = s.blend := rfl
@[simp] theorem setRed_springStep (f : Redundancy → Redundancy) (s : P1) : (setRed f s).springStep = s.springStep := rfl
@[simp] theorem setRed_stuck (f : Redundancy → Redundancy) (s : P1) : (setRed f s).stuck = s.stuck := rfl
@[simp] theorem setRed_startGrain (f : Redundancy → Redundancy) (s : P1) : (setRed f s).startGrain = s.startGrain := rfl
@[simp] theorem setRed_recorder (f : Redundancy → Redundancy) (s : P1) : (setRed f s).recorder = s.recorder := rfl
@[simp] theorem setRed_dma (f : Redundancy → Redundancy) (s : P1) : (setRed f s).dma = s.dma := rfl
@[simp] theorem setRed_bankA (f : Redundancy → Redundancy) (s : P1) : (setRed f s).bankA = s.bankA := rfl
@[simp] theorem setRed_bankB (f : Redundancy → Redundancy) (s : P1) : (setRed f s).bankB = s.bankB := rfl
@[simp] theorem setRed_save (f : Redundancy → Redundancy) (s : P1) : (setRed f s).save = s.save := rfl
@[simp] theorem setRed_saveHeld (f : Redundancy → Redundancy) (s : P1) : (setRed f s).saveHeld = s.saveHeld := rfl
@[simp] theorem setRed_can (f : Redundancy → Redundancy) (s : P1) : (setRed f s).can = s.can := rfl
@[simp] theorem setRed_net (f : Redundancy → Redundancy) (s : P1) : (setRed f s).net = s.net := rfl
@[simp] theorem setRed_heartbeatAt (f : Redundancy → Redundancy) (s : P1) : (setRed f s).heartbeatAt = s.heartbeatAt := rfl
@[simp] theorem setRed_serial (f : Redundancy → Redundancy) (s : P1) : (setRed f s).serial = s.serial := rfl
@[simp] theorem setRed_red (f : Redundancy → Redundancy) (s : P1) : (setRed f s).red = f s.red := rfl
@[simp] theorem setRed_ctl (f : Redundancy → Redundancy) (s : P1) : (setRed f s).ctl = s.ctl := rfl
@[simp] theorem setRed_alc (f : Redundancy → Redundancy) (s : P1) : (setRed f s).alc = s.alc := rfl
@[simp] theorem setRed_acks (f : Redundancy → Redundancy) (s : P1) : (setRed f s).acks = s.acks := rfl
@[simp] theorem setRed_ao (f : Redundancy → Redundancy) (s : P1) : (setRed f s).ao = s.ao := rfl
@[simp] theorem setRed_next (f : Redundancy → Redundancy) (s : P1) : (setRed f s).next = s.next := rfl
@[simp] theorem setRed_slots (f : Redundancy → Redundancy) (s : P1) : (setRed f s).slots = s.slots := rfl
@[simp] theorem setRed_fus (f : Redundancy → Redundancy) (s : P1) : (setRed f s).fus = s.fus := rfl
@[simp] theorem setRed_axes (f : Redundancy → Redundancy) (s : P1) : (setRed f s).axes = s.axes := rfl
@[simp] theorem setRed_emu (f : Redundancy → Redundancy) (s : P1) : (setRed f s).emu = s.emu := rfl
@[simp] theorem setRed_probes (f : Redundancy → Redundancy) (s : P1) : (setRed f s).probes = s.probes := rfl
@[simp] theorem setRed_filt (f : Redundancy → Redundancy) (s : P1) : (setRed f s).filt = s.filt := rfl
@[simp] theorem setRed_time (f : Redundancy → Redundancy) (s : P1) : (setRed f s).time = s.time := rfl
@[simp] theorem setRed_solver (f : Redundancy → Redundancy) (s : P1) : (setRed f s).solver = s.solver := rfl
@[simp] theorem setRed_linkOut (f : Redundancy → Redundancy) (s : P1) : (setRed f s).linkOut = s.linkOut := rfl
@[simp] theorem setRed_entrySess (f : Redundancy → Redundancy) (s : P1) : (setRed f s).entrySess = s.entrySess := rfl
@[simp] theorem setRed_fldLink (f : Redundancy → Redundancy) (s : P1) : (setRed f s).fldLink = s.fldLink := rfl
@[simp] theorem setRed_supply (f : Redundancy → Redundancy) (s : P1) : (setRed f s).supply = s.supply := rfl
@[simp] theorem setRed_owed (f : Redundancy → Redundancy) (s : P1) : (setRed f s).owed = s.owed := rfl
@[simp] theorem setRed_linkTries (f : Redundancy → Redundancy) (s : P1) : (setRed f s).linkTries = s.linkTries := rfl
@[simp] theorem setRed_snapDue (f : Redundancy → Redundancy) (s : P1) : (setRed f s).snapDue = s.snapDue := rfl
@[simp] theorem setRed_crossings (f : Redundancy → Redundancy) (s : P1) : (setRed f s).crossings = s.crossings := rfl
@[simp] theorem setRed_pllLost (f : Redundancy → Redundancy) (s : P1) : (setRed f s).pllLost = s.pllLost := rfl
@[simp] theorem setRed_asleep (f : Redundancy → Redundancy) (s : P1) : (setRed f s).asleep = s.asleep := rfl
@[simp] theorem setRed_served (f : Redundancy → Redundancy) (s : P1) : (setRed f s).served = s.served := rfl
@[simp] theorem setRed_reports (f : Redundancy → Redundancy) (s : P1) : (setRed f s).reports = s.reports := rfl
@[simp] theorem setRed_mailboxes (f : Redundancy → Redundancy) (s : P1) : (setRed f s).mailboxes = s.mailboxes := rfl
@[simp] theorem setRed_before (f : Redundancy → Redundancy) (s : P1) : (setRed f s).before = s.before := rfl
@[simp] theorem setRed_rd (f : Redundancy → Redundancy) (s : P1) (j : Nat) : (setRed f s).rd j = s.rd j := rfl
@[simp] theorem setRed_octets (f : Redundancy → Redundancy) (s : P1) (j : Nat) : (setRed f s).octets j = s.octets j := rfl

/-! `setTime` -/

@[simp] theorem setTime_phase (f : TimeState → TimeState) (s : P1) : (setTime f s).phase = s.phase := rfl
@[simp] theorem setTime_ns (f : TimeState → TimeState) (s : P1) : (setTime f s).ns = s.ns := rfl
@[simp] theorem setTime_elapsed (f : TimeState → TimeState) (s : P1) : (setTime f s).elapsed = s.elapsed := rfl
@[simp] theorem setTime_free (f : TimeState → TimeState) (s : P1) : (setTime f s).free = s.free := rfl
@[simp] theorem setTime_od (f : TimeState → TimeState) (s : P1) : (setTime f s).od = s.od := rfl
@[simp] theorem setTime_dom (f : TimeState → TimeState) (s : P1) : (setTime f s).dom = s.dom := rfl
@[simp] theorem setTime_sessions (f : TimeState → TimeState) (s : P1) : (setTime f s).sessions = s.sessions := rfl
@[simp] theorem setTime_reply (f : TimeState → TimeState) (s : P1) : (setTime f s).reply = s.reply := rfl
@[simp] theorem setTime_bufs (f : TimeState → TimeState) (s : P1) : (setTime f s).bufs = s.bufs := rfl
@[simp] theorem setTime_sdo (f : TimeState → TimeState) (s : P1) : (setTime f s).sdo = s.sdo := rfl
@[simp] theorem setTime_lockout (f : TimeState → TimeState) (s : P1) : (setTime f s).lockout = s.lockout := rfl
@[simp] theorem setTime_alarms (f : TimeState → TimeState) (s : P1) : (setTime f s).alarms = s.alarms := rfl
@[simp] theorem setTime_unlisted (f : TimeState → TimeState) (s : P1) : (setTime f s).unlisted = s.unlisted := rfl
@[simp] theorem setTime_faults (f : TimeState → TimeState) (s : P1) : (setTime f s).faults = s.faults := rfl
@[simp] theorem setTime_unreported (f : TimeState → TimeState) (s : P1) : (setTime f s).unreported = s.unreported := rfl
@[simp] theorem setTime_lastCauses (f : TimeState → TimeState) (s : P1) : (setTime f s).lastCauses = s.lastCauses := rfl
@[simp] theorem setTime_cyclePending (f : TimeState → TimeState) (s : P1) : (setTime f s).cyclePending = s.cyclePending := rfl
@[simp] theorem setTime_overrunRun (f : TimeState → TimeState) (s : P1) : (setTime f s).overrunRun = s.overrunRun := rfl
@[simp] theorem setTime_snapGrain (f : TimeState → TimeState) (s : P1) : (setTime f s).snapGrain = s.snapGrain := rfl
@[simp] theorem setTime_lawMode (f : TimeState → TimeState) (s : P1) : (setTime f s).lawMode = s.lawMode := rfl
@[simp] theorem setTime_blend (f : TimeState → TimeState) (s : P1) : (setTime f s).blend = s.blend := rfl
@[simp] theorem setTime_springStep (f : TimeState → TimeState) (s : P1) : (setTime f s).springStep = s.springStep := rfl
@[simp] theorem setTime_stuck (f : TimeState → TimeState) (s : P1) : (setTime f s).stuck = s.stuck := rfl
@[simp] theorem setTime_startGrain (f : TimeState → TimeState) (s : P1) : (setTime f s).startGrain = s.startGrain := rfl
@[simp] theorem setTime_recorder (f : TimeState → TimeState) (s : P1) : (setTime f s).recorder = s.recorder := rfl
@[simp] theorem setTime_dma (f : TimeState → TimeState) (s : P1) : (setTime f s).dma = s.dma := rfl
@[simp] theorem setTime_bankA (f : TimeState → TimeState) (s : P1) : (setTime f s).bankA = s.bankA := rfl
@[simp] theorem setTime_bankB (f : TimeState → TimeState) (s : P1) : (setTime f s).bankB = s.bankB := rfl
@[simp] theorem setTime_save (f : TimeState → TimeState) (s : P1) : (setTime f s).save = s.save := rfl
@[simp] theorem setTime_saveHeld (f : TimeState → TimeState) (s : P1) : (setTime f s).saveHeld = s.saveHeld := rfl
@[simp] theorem setTime_can (f : TimeState → TimeState) (s : P1) : (setTime f s).can = s.can := rfl
@[simp] theorem setTime_net (f : TimeState → TimeState) (s : P1) : (setTime f s).net = s.net := rfl
@[simp] theorem setTime_heartbeatAt (f : TimeState → TimeState) (s : P1) : (setTime f s).heartbeatAt = s.heartbeatAt := rfl
@[simp] theorem setTime_serial (f : TimeState → TimeState) (s : P1) : (setTime f s).serial = s.serial := rfl
@[simp] theorem setTime_red (f : TimeState → TimeState) (s : P1) : (setTime f s).red = s.red := rfl
@[simp] theorem setTime_ctl (f : TimeState → TimeState) (s : P1) : (setTime f s).ctl = s.ctl := rfl
@[simp] theorem setTime_alc (f : TimeState → TimeState) (s : P1) : (setTime f s).alc = s.alc := rfl
@[simp] theorem setTime_acks (f : TimeState → TimeState) (s : P1) : (setTime f s).acks = s.acks := rfl
@[simp] theorem setTime_ao (f : TimeState → TimeState) (s : P1) : (setTime f s).ao = s.ao := rfl
@[simp] theorem setTime_next (f : TimeState → TimeState) (s : P1) : (setTime f s).next = s.next := rfl
@[simp] theorem setTime_slots (f : TimeState → TimeState) (s : P1) : (setTime f s).slots = s.slots := rfl
@[simp] theorem setTime_fus (f : TimeState → TimeState) (s : P1) : (setTime f s).fus = s.fus := rfl
@[simp] theorem setTime_axes (f : TimeState → TimeState) (s : P1) : (setTime f s).axes = s.axes := rfl
@[simp] theorem setTime_emu (f : TimeState → TimeState) (s : P1) : (setTime f s).emu = s.emu := rfl
@[simp] theorem setTime_probes (f : TimeState → TimeState) (s : P1) : (setTime f s).probes = s.probes := rfl
@[simp] theorem setTime_filt (f : TimeState → TimeState) (s : P1) : (setTime f s).filt = s.filt := rfl
@[simp] theorem setTime_time (f : TimeState → TimeState) (s : P1) : (setTime f s).time = f s.time := rfl
@[simp] theorem setTime_solver (f : TimeState → TimeState) (s : P1) : (setTime f s).solver = s.solver := rfl
@[simp] theorem setTime_linkOut (f : TimeState → TimeState) (s : P1) : (setTime f s).linkOut = s.linkOut := rfl
@[simp] theorem setTime_entrySess (f : TimeState → TimeState) (s : P1) : (setTime f s).entrySess = s.entrySess := rfl
@[simp] theorem setTime_fldLink (f : TimeState → TimeState) (s : P1) : (setTime f s).fldLink = s.fldLink := rfl
@[simp] theorem setTime_supply (f : TimeState → TimeState) (s : P1) : (setTime f s).supply = s.supply := rfl
@[simp] theorem setTime_owed (f : TimeState → TimeState) (s : P1) : (setTime f s).owed = s.owed := rfl
@[simp] theorem setTime_linkTries (f : TimeState → TimeState) (s : P1) : (setTime f s).linkTries = s.linkTries := rfl
@[simp] theorem setTime_snapDue (f : TimeState → TimeState) (s : P1) : (setTime f s).snapDue = s.snapDue := rfl
@[simp] theorem setTime_crossings (f : TimeState → TimeState) (s : P1) : (setTime f s).crossings = s.crossings := rfl
@[simp] theorem setTime_pllLost (f : TimeState → TimeState) (s : P1) : (setTime f s).pllLost = s.pllLost := rfl
@[simp] theorem setTime_asleep (f : TimeState → TimeState) (s : P1) : (setTime f s).asleep = s.asleep := rfl
@[simp] theorem setTime_served (f : TimeState → TimeState) (s : P1) : (setTime f s).served = s.served := rfl
@[simp] theorem setTime_reports (f : TimeState → TimeState) (s : P1) : (setTime f s).reports = s.reports := rfl
@[simp] theorem setTime_mailboxes (f : TimeState → TimeState) (s : P1) : (setTime f s).mailboxes = s.mailboxes := rfl
@[simp] theorem setTime_before (f : TimeState → TimeState) (s : P1) : (setTime f s).before = s.before := rfl
@[simp] theorem setTime_rd (f : TimeState → TimeState) (s : P1) (j : Nat) : (setTime f s).rd j = s.rd j := rfl
@[simp] theorem setTime_octets (f : TimeState → TimeState) (s : P1) (j : Nat) : (setTime f s).octets j = s.octets j := rfl

/-! `setAxis` -/

@[simp] theorem setAxis_phase (a : Fin 8) (f : AxisState → AxisState) (s : P1) : (setAxis a f s).phase = s.phase := rfl
@[simp] theorem setAxis_ns (a : Fin 8) (f : AxisState → AxisState) (s : P1) : (setAxis a f s).ns = s.ns := rfl
@[simp] theorem setAxis_elapsed (a : Fin 8) (f : AxisState → AxisState) (s : P1) : (setAxis a f s).elapsed = s.elapsed := rfl
@[simp] theorem setAxis_free (a : Fin 8) (f : AxisState → AxisState) (s : P1) : (setAxis a f s).free = s.free := rfl
@[simp] theorem setAxis_od (a : Fin 8) (f : AxisState → AxisState) (s : P1) : (setAxis a f s).od = s.od := rfl
@[simp] theorem setAxis_dom (a : Fin 8) (f : AxisState → AxisState) (s : P1) : (setAxis a f s).dom = s.dom := rfl
@[simp] theorem setAxis_sessions (a : Fin 8) (f : AxisState → AxisState) (s : P1) : (setAxis a f s).sessions = s.sessions := rfl
@[simp] theorem setAxis_reply (a : Fin 8) (f : AxisState → AxisState) (s : P1) : (setAxis a f s).reply = s.reply := rfl
@[simp] theorem setAxis_bufs (a : Fin 8) (f : AxisState → AxisState) (s : P1) : (setAxis a f s).bufs = s.bufs := rfl
@[simp] theorem setAxis_sdo (a : Fin 8) (f : AxisState → AxisState) (s : P1) : (setAxis a f s).sdo = s.sdo := rfl
@[simp] theorem setAxis_lockout (a : Fin 8) (f : AxisState → AxisState) (s : P1) : (setAxis a f s).lockout = s.lockout := rfl
@[simp] theorem setAxis_alarms (a : Fin 8) (f : AxisState → AxisState) (s : P1) : (setAxis a f s).alarms = s.alarms := rfl
@[simp] theorem setAxis_unlisted (a : Fin 8) (f : AxisState → AxisState) (s : P1) : (setAxis a f s).unlisted = s.unlisted := rfl
@[simp] theorem setAxis_faults (a : Fin 8) (f : AxisState → AxisState) (s : P1) : (setAxis a f s).faults = s.faults := rfl
@[simp] theorem setAxis_unreported (a : Fin 8) (f : AxisState → AxisState) (s : P1) : (setAxis a f s).unreported = s.unreported := rfl
@[simp] theorem setAxis_lastCauses (a : Fin 8) (f : AxisState → AxisState) (s : P1) : (setAxis a f s).lastCauses = s.lastCauses := rfl
@[simp] theorem setAxis_cyclePending (a : Fin 8) (f : AxisState → AxisState) (s : P1) : (setAxis a f s).cyclePending = s.cyclePending := rfl
@[simp] theorem setAxis_overrunRun (a : Fin 8) (f : AxisState → AxisState) (s : P1) : (setAxis a f s).overrunRun = s.overrunRun := rfl
@[simp] theorem setAxis_snapGrain (a : Fin 8) (f : AxisState → AxisState) (s : P1) : (setAxis a f s).snapGrain = s.snapGrain := rfl
@[simp] theorem setAxis_lawMode (a : Fin 8) (f : AxisState → AxisState) (s : P1) : (setAxis a f s).lawMode = s.lawMode := rfl
@[simp] theorem setAxis_blend (a : Fin 8) (f : AxisState → AxisState) (s : P1) : (setAxis a f s).blend = s.blend := rfl
@[simp] theorem setAxis_springStep (a : Fin 8) (f : AxisState → AxisState) (s : P1) : (setAxis a f s).springStep = s.springStep := rfl
@[simp] theorem setAxis_stuck (a : Fin 8) (f : AxisState → AxisState) (s : P1) : (setAxis a f s).stuck = s.stuck := rfl
@[simp] theorem setAxis_startGrain (a : Fin 8) (f : AxisState → AxisState) (s : P1) : (setAxis a f s).startGrain = s.startGrain := rfl
@[simp] theorem setAxis_recorder (a : Fin 8) (f : AxisState → AxisState) (s : P1) : (setAxis a f s).recorder = s.recorder := rfl
@[simp] theorem setAxis_dma (a : Fin 8) (f : AxisState → AxisState) (s : P1) : (setAxis a f s).dma = s.dma := rfl
@[simp] theorem setAxis_bankA (a : Fin 8) (f : AxisState → AxisState) (s : P1) : (setAxis a f s).bankA = s.bankA := rfl
@[simp] theorem setAxis_bankB (a : Fin 8) (f : AxisState → AxisState) (s : P1) : (setAxis a f s).bankB = s.bankB := rfl
@[simp] theorem setAxis_save (a : Fin 8) (f : AxisState → AxisState) (s : P1) : (setAxis a f s).save = s.save := rfl
@[simp] theorem setAxis_saveHeld (a : Fin 8) (f : AxisState → AxisState) (s : P1) : (setAxis a f s).saveHeld = s.saveHeld := rfl
@[simp] theorem setAxis_can (a : Fin 8) (f : AxisState → AxisState) (s : P1) : (setAxis a f s).can = s.can := rfl
@[simp] theorem setAxis_net (a : Fin 8) (f : AxisState → AxisState) (s : P1) : (setAxis a f s).net = s.net := rfl
@[simp] theorem setAxis_heartbeatAt (a : Fin 8) (f : AxisState → AxisState) (s : P1) : (setAxis a f s).heartbeatAt = s.heartbeatAt := rfl
@[simp] theorem setAxis_serial (a : Fin 8) (f : AxisState → AxisState) (s : P1) : (setAxis a f s).serial = s.serial := rfl
@[simp] theorem setAxis_red (a : Fin 8) (f : AxisState → AxisState) (s : P1) : (setAxis a f s).red = s.red := rfl
@[simp] theorem setAxis_ctl (a : Fin 8) (f : AxisState → AxisState) (s : P1) : (setAxis a f s).ctl = s.ctl := rfl
@[simp] theorem setAxis_alc (a : Fin 8) (f : AxisState → AxisState) (s : P1) : (setAxis a f s).alc = s.alc := rfl
@[simp] theorem setAxis_acks (a : Fin 8) (f : AxisState → AxisState) (s : P1) : (setAxis a f s).acks = s.acks := rfl
@[simp] theorem setAxis_ao (a : Fin 8) (f : AxisState → AxisState) (s : P1) : (setAxis a f s).ao = s.ao := rfl
@[simp] theorem setAxis_next (a : Fin 8) (f : AxisState → AxisState) (s : P1) : (setAxis a f s).next = s.next := rfl
@[simp] theorem setAxis_slots (a : Fin 8) (f : AxisState → AxisState) (s : P1) : (setAxis a f s).slots = s.slots := rfl
@[simp] theorem setAxis_fus (a : Fin 8) (f : AxisState → AxisState) (s : P1) : (setAxis a f s).fus = s.fus := rfl
@[simp] theorem setAxis_axes (a : Fin 8) (f : AxisState → AxisState) (s : P1) : (setAxis a f s).axes = upd s.axes a f := rfl
@[simp] theorem setAxis_emu (a : Fin 8) (f : AxisState → AxisState) (s : P1) : (setAxis a f s).emu = s.emu := rfl
@[simp] theorem setAxis_probes (a : Fin 8) (f : AxisState → AxisState) (s : P1) : (setAxis a f s).probes = s.probes := rfl
@[simp] theorem setAxis_filt (a : Fin 8) (f : AxisState → AxisState) (s : P1) : (setAxis a f s).filt = s.filt := rfl
@[simp] theorem setAxis_time (a : Fin 8) (f : AxisState → AxisState) (s : P1) : (setAxis a f s).time = s.time := rfl
@[simp] theorem setAxis_solver (a : Fin 8) (f : AxisState → AxisState) (s : P1) : (setAxis a f s).solver = s.solver := rfl
@[simp] theorem setAxis_linkOut (a : Fin 8) (f : AxisState → AxisState) (s : P1) : (setAxis a f s).linkOut = s.linkOut := rfl
@[simp] theorem setAxis_entrySess (a : Fin 8) (f : AxisState → AxisState) (s : P1) : (setAxis a f s).entrySess = s.entrySess := rfl
@[simp] theorem setAxis_fldLink (a : Fin 8) (f : AxisState → AxisState) (s : P1) : (setAxis a f s).fldLink = s.fldLink := rfl
@[simp] theorem setAxis_supply (a : Fin 8) (f : AxisState → AxisState) (s : P1) : (setAxis a f s).supply = s.supply := rfl
@[simp] theorem setAxis_owed (a : Fin 8) (f : AxisState → AxisState) (s : P1) : (setAxis a f s).owed = s.owed := rfl
@[simp] theorem setAxis_linkTries (a : Fin 8) (f : AxisState → AxisState) (s : P1) : (setAxis a f s).linkTries = s.linkTries := rfl
@[simp] theorem setAxis_snapDue (a : Fin 8) (f : AxisState → AxisState) (s : P1) : (setAxis a f s).snapDue = s.snapDue := rfl
@[simp] theorem setAxis_crossings (a : Fin 8) (f : AxisState → AxisState) (s : P1) : (setAxis a f s).crossings = s.crossings := rfl
@[simp] theorem setAxis_pllLost (a : Fin 8) (f : AxisState → AxisState) (s : P1) : (setAxis a f s).pllLost = s.pllLost := rfl
@[simp] theorem setAxis_asleep (a : Fin 8) (f : AxisState → AxisState) (s : P1) : (setAxis a f s).asleep = s.asleep := rfl
@[simp] theorem setAxis_served (a : Fin 8) (f : AxisState → AxisState) (s : P1) : (setAxis a f s).served = s.served := rfl
@[simp] theorem setAxis_reports (a : Fin 8) (f : AxisState → AxisState) (s : P1) : (setAxis a f s).reports = s.reports := rfl
@[simp] theorem setAxis_mailboxes (a : Fin 8) (f : AxisState → AxisState) (s : P1) : (setAxis a f s).mailboxes = s.mailboxes := rfl
@[simp] theorem setAxis_before (a : Fin 8) (f : AxisState → AxisState) (s : P1) : (setAxis a f s).before = s.before := rfl
@[simp] theorem setAxis_rd (a : Fin 8) (f : AxisState → AxisState) (s : P1) (j : Nat) : (setAxis a f s).rd j = s.rd j := rfl
@[simp] theorem setAxis_octets (a : Fin 8) (f : AxisState → AxisState) (s : P1) (j : Nat) : (setAxis a f s).octets j = s.octets j := rfl

/-! `setProbe` -/

@[simp] theorem setProbe_phase (q : Fin 2) (f : Probe → Probe) (s : P1) : (setProbe q f s).phase = s.phase := rfl
@[simp] theorem setProbe_ns (q : Fin 2) (f : Probe → Probe) (s : P1) : (setProbe q f s).ns = s.ns := rfl
@[simp] theorem setProbe_elapsed (q : Fin 2) (f : Probe → Probe) (s : P1) : (setProbe q f s).elapsed = s.elapsed := rfl
@[simp] theorem setProbe_free (q : Fin 2) (f : Probe → Probe) (s : P1) : (setProbe q f s).free = s.free := rfl
@[simp] theorem setProbe_od (q : Fin 2) (f : Probe → Probe) (s : P1) : (setProbe q f s).od = s.od := rfl
@[simp] theorem setProbe_dom (q : Fin 2) (f : Probe → Probe) (s : P1) : (setProbe q f s).dom = s.dom := rfl
@[simp] theorem setProbe_sessions (q : Fin 2) (f : Probe → Probe) (s : P1) : (setProbe q f s).sessions = s.sessions := rfl
@[simp] theorem setProbe_reply (q : Fin 2) (f : Probe → Probe) (s : P1) : (setProbe q f s).reply = s.reply := rfl
@[simp] theorem setProbe_bufs (q : Fin 2) (f : Probe → Probe) (s : P1) : (setProbe q f s).bufs = s.bufs := rfl
@[simp] theorem setProbe_sdo (q : Fin 2) (f : Probe → Probe) (s : P1) : (setProbe q f s).sdo = s.sdo := rfl
@[simp] theorem setProbe_lockout (q : Fin 2) (f : Probe → Probe) (s : P1) : (setProbe q f s).lockout = s.lockout := rfl
@[simp] theorem setProbe_alarms (q : Fin 2) (f : Probe → Probe) (s : P1) : (setProbe q f s).alarms = s.alarms := rfl
@[simp] theorem setProbe_unlisted (q : Fin 2) (f : Probe → Probe) (s : P1) : (setProbe q f s).unlisted = s.unlisted := rfl
@[simp] theorem setProbe_faults (q : Fin 2) (f : Probe → Probe) (s : P1) : (setProbe q f s).faults = s.faults := rfl
@[simp] theorem setProbe_unreported (q : Fin 2) (f : Probe → Probe) (s : P1) : (setProbe q f s).unreported = s.unreported := rfl
@[simp] theorem setProbe_lastCauses (q : Fin 2) (f : Probe → Probe) (s : P1) : (setProbe q f s).lastCauses = s.lastCauses := rfl
@[simp] theorem setProbe_cyclePending (q : Fin 2) (f : Probe → Probe) (s : P1) : (setProbe q f s).cyclePending = s.cyclePending := rfl
@[simp] theorem setProbe_overrunRun (q : Fin 2) (f : Probe → Probe) (s : P1) : (setProbe q f s).overrunRun = s.overrunRun := rfl
@[simp] theorem setProbe_snapGrain (q : Fin 2) (f : Probe → Probe) (s : P1) : (setProbe q f s).snapGrain = s.snapGrain := rfl
@[simp] theorem setProbe_lawMode (q : Fin 2) (f : Probe → Probe) (s : P1) : (setProbe q f s).lawMode = s.lawMode := rfl
@[simp] theorem setProbe_blend (q : Fin 2) (f : Probe → Probe) (s : P1) : (setProbe q f s).blend = s.blend := rfl
@[simp] theorem setProbe_springStep (q : Fin 2) (f : Probe → Probe) (s : P1) : (setProbe q f s).springStep = s.springStep := rfl
@[simp] theorem setProbe_stuck (q : Fin 2) (f : Probe → Probe) (s : P1) : (setProbe q f s).stuck = s.stuck := rfl
@[simp] theorem setProbe_startGrain (q : Fin 2) (f : Probe → Probe) (s : P1) : (setProbe q f s).startGrain = s.startGrain := rfl
@[simp] theorem setProbe_recorder (q : Fin 2) (f : Probe → Probe) (s : P1) : (setProbe q f s).recorder = s.recorder := rfl
@[simp] theorem setProbe_dma (q : Fin 2) (f : Probe → Probe) (s : P1) : (setProbe q f s).dma = s.dma := rfl
@[simp] theorem setProbe_bankA (q : Fin 2) (f : Probe → Probe) (s : P1) : (setProbe q f s).bankA = s.bankA := rfl
@[simp] theorem setProbe_bankB (q : Fin 2) (f : Probe → Probe) (s : P1) : (setProbe q f s).bankB = s.bankB := rfl
@[simp] theorem setProbe_save (q : Fin 2) (f : Probe → Probe) (s : P1) : (setProbe q f s).save = s.save := rfl
@[simp] theorem setProbe_saveHeld (q : Fin 2) (f : Probe → Probe) (s : P1) : (setProbe q f s).saveHeld = s.saveHeld := rfl
@[simp] theorem setProbe_can (q : Fin 2) (f : Probe → Probe) (s : P1) : (setProbe q f s).can = s.can := rfl
@[simp] theorem setProbe_net (q : Fin 2) (f : Probe → Probe) (s : P1) : (setProbe q f s).net = s.net := rfl
@[simp] theorem setProbe_heartbeatAt (q : Fin 2) (f : Probe → Probe) (s : P1) : (setProbe q f s).heartbeatAt = s.heartbeatAt := rfl
@[simp] theorem setProbe_serial (q : Fin 2) (f : Probe → Probe) (s : P1) : (setProbe q f s).serial = s.serial := rfl
@[simp] theorem setProbe_red (q : Fin 2) (f : Probe → Probe) (s : P1) : (setProbe q f s).red = s.red := rfl
@[simp] theorem setProbe_ctl (q : Fin 2) (f : Probe → Probe) (s : P1) : (setProbe q f s).ctl = s.ctl := rfl
@[simp] theorem setProbe_alc (q : Fin 2) (f : Probe → Probe) (s : P1) : (setProbe q f s).alc = s.alc := rfl
@[simp] theorem setProbe_acks (q : Fin 2) (f : Probe → Probe) (s : P1) : (setProbe q f s).acks = s.acks := rfl
@[simp] theorem setProbe_ao (q : Fin 2) (f : Probe → Probe) (s : P1) : (setProbe q f s).ao = s.ao := rfl
@[simp] theorem setProbe_next (q : Fin 2) (f : Probe → Probe) (s : P1) : (setProbe q f s).next = s.next := rfl
@[simp] theorem setProbe_slots (q : Fin 2) (f : Probe → Probe) (s : P1) : (setProbe q f s).slots = s.slots := rfl
@[simp] theorem setProbe_fus (q : Fin 2) (f : Probe → Probe) (s : P1) : (setProbe q f s).fus = s.fus := rfl
@[simp] theorem setProbe_axes (q : Fin 2) (f : Probe → Probe) (s : P1) : (setProbe q f s).axes = s.axes := rfl
@[simp] theorem setProbe_emu (q : Fin 2) (f : Probe → Probe) (s : P1) : (setProbe q f s).emu = s.emu := rfl
@[simp] theorem setProbe_probes (q : Fin 2) (f : Probe → Probe) (s : P1) : (setProbe q f s).probes = upd s.probes q f := rfl
@[simp] theorem setProbe_filt (q : Fin 2) (f : Probe → Probe) (s : P1) : (setProbe q f s).filt = s.filt := rfl
@[simp] theorem setProbe_time (q : Fin 2) (f : Probe → Probe) (s : P1) : (setProbe q f s).time = s.time := rfl
@[simp] theorem setProbe_solver (q : Fin 2) (f : Probe → Probe) (s : P1) : (setProbe q f s).solver = s.solver := rfl
@[simp] theorem setProbe_linkOut (q : Fin 2) (f : Probe → Probe) (s : P1) : (setProbe q f s).linkOut = s.linkOut := rfl
@[simp] theorem setProbe_entrySess (q : Fin 2) (f : Probe → Probe) (s : P1) : (setProbe q f s).entrySess = s.entrySess := rfl
@[simp] theorem setProbe_fldLink (q : Fin 2) (f : Probe → Probe) (s : P1) : (setProbe q f s).fldLink = s.fldLink := rfl
@[simp] theorem setProbe_supply (q : Fin 2) (f : Probe → Probe) (s : P1) : (setProbe q f s).supply = s.supply := rfl
@[simp] theorem setProbe_owed (q : Fin 2) (f : Probe → Probe) (s : P1) : (setProbe q f s).owed = s.owed := rfl
@[simp] theorem setProbe_linkTries (q : Fin 2) (f : Probe → Probe) (s : P1) : (setProbe q f s).linkTries = s.linkTries := rfl
@[simp] theorem setProbe_snapDue (q : Fin 2) (f : Probe → Probe) (s : P1) : (setProbe q f s).snapDue = s.snapDue := rfl
@[simp] theorem setProbe_crossings (q : Fin 2) (f : Probe → Probe) (s : P1) : (setProbe q f s).crossings = s.crossings := rfl
@[simp] theorem setProbe_pllLost (q : Fin 2) (f : Probe → Probe) (s : P1) : (setProbe q f s).pllLost = s.pllLost := rfl
@[simp] theorem setProbe_asleep (q : Fin 2) (f : Probe → Probe) (s : P1) : (setProbe q f s).asleep = s.asleep := rfl
@[simp] theorem setProbe_served (q : Fin 2) (f : Probe → Probe) (s : P1) : (setProbe q f s).served = s.served := rfl
@[simp] theorem setProbe_reports (q : Fin 2) (f : Probe → Probe) (s : P1) : (setProbe q f s).reports = s.reports := rfl
@[simp] theorem setProbe_mailboxes (q : Fin 2) (f : Probe → Probe) (s : P1) : (setProbe q f s).mailboxes = s.mailboxes := rfl
@[simp] theorem setProbe_before (q : Fin 2) (f : Probe → Probe) (s : P1) : (setProbe q f s).before = s.before := rfl
@[simp] theorem setProbe_rd (q : Fin 2) (f : Probe → Probe) (s : P1) (j : Nat) : (setProbe q f s).rd j = s.rd j := rfl
@[simp] theorem setProbe_octets (q : Fin 2) (f : Probe → Probe) (s : P1) (j : Nat) : (setProbe q f s).octets j = s.octets j := rfl

/-! `setFilt` -/

@[simp] theorem setFilt_phase (c : Fin 32) (f : FilterChan → FilterChan) (s : P1) : (setFilt c f s).phase = s.phase := rfl
@[simp] theorem setFilt_ns (c : Fin 32) (f : FilterChan → FilterChan) (s : P1) : (setFilt c f s).ns = s.ns := rfl
@[simp] theorem setFilt_elapsed (c : Fin 32) (f : FilterChan → FilterChan) (s : P1) : (setFilt c f s).elapsed = s.elapsed := rfl
@[simp] theorem setFilt_free (c : Fin 32) (f : FilterChan → FilterChan) (s : P1) : (setFilt c f s).free = s.free := rfl
@[simp] theorem setFilt_od (c : Fin 32) (f : FilterChan → FilterChan) (s : P1) : (setFilt c f s).od = s.od := rfl
@[simp] theorem setFilt_dom (c : Fin 32) (f : FilterChan → FilterChan) (s : P1) : (setFilt c f s).dom = s.dom := rfl
@[simp] theorem setFilt_sessions (c : Fin 32) (f : FilterChan → FilterChan) (s : P1) : (setFilt c f s).sessions = s.sessions := rfl
@[simp] theorem setFilt_reply (c : Fin 32) (f : FilterChan → FilterChan) (s : P1) : (setFilt c f s).reply = s.reply := rfl
@[simp] theorem setFilt_bufs (c : Fin 32) (f : FilterChan → FilterChan) (s : P1) : (setFilt c f s).bufs = s.bufs := rfl
@[simp] theorem setFilt_sdo (c : Fin 32) (f : FilterChan → FilterChan) (s : P1) : (setFilt c f s).sdo = s.sdo := rfl
@[simp] theorem setFilt_lockout (c : Fin 32) (f : FilterChan → FilterChan) (s : P1) : (setFilt c f s).lockout = s.lockout := rfl
@[simp] theorem setFilt_alarms (c : Fin 32) (f : FilterChan → FilterChan) (s : P1) : (setFilt c f s).alarms = s.alarms := rfl
@[simp] theorem setFilt_unlisted (c : Fin 32) (f : FilterChan → FilterChan) (s : P1) : (setFilt c f s).unlisted = s.unlisted := rfl
@[simp] theorem setFilt_faults (c : Fin 32) (f : FilterChan → FilterChan) (s : P1) : (setFilt c f s).faults = s.faults := rfl
@[simp] theorem setFilt_unreported (c : Fin 32) (f : FilterChan → FilterChan) (s : P1) : (setFilt c f s).unreported = s.unreported := rfl
@[simp] theorem setFilt_lastCauses (c : Fin 32) (f : FilterChan → FilterChan) (s : P1) : (setFilt c f s).lastCauses = s.lastCauses := rfl
@[simp] theorem setFilt_cyclePending (c : Fin 32) (f : FilterChan → FilterChan) (s : P1) : (setFilt c f s).cyclePending = s.cyclePending := rfl
@[simp] theorem setFilt_overrunRun (c : Fin 32) (f : FilterChan → FilterChan) (s : P1) : (setFilt c f s).overrunRun = s.overrunRun := rfl
@[simp] theorem setFilt_snapGrain (c : Fin 32) (f : FilterChan → FilterChan) (s : P1) : (setFilt c f s).snapGrain = s.snapGrain := rfl
@[simp] theorem setFilt_lawMode (c : Fin 32) (f : FilterChan → FilterChan) (s : P1) : (setFilt c f s).lawMode = s.lawMode := rfl
@[simp] theorem setFilt_blend (c : Fin 32) (f : FilterChan → FilterChan) (s : P1) : (setFilt c f s).blend = s.blend := rfl
@[simp] theorem setFilt_springStep (c : Fin 32) (f : FilterChan → FilterChan) (s : P1) : (setFilt c f s).springStep = s.springStep := rfl
@[simp] theorem setFilt_stuck (c : Fin 32) (f : FilterChan → FilterChan) (s : P1) : (setFilt c f s).stuck = s.stuck := rfl
@[simp] theorem setFilt_startGrain (c : Fin 32) (f : FilterChan → FilterChan) (s : P1) : (setFilt c f s).startGrain = s.startGrain := rfl
@[simp] theorem setFilt_recorder (c : Fin 32) (f : FilterChan → FilterChan) (s : P1) : (setFilt c f s).recorder = s.recorder := rfl
@[simp] theorem setFilt_dma (c : Fin 32) (f : FilterChan → FilterChan) (s : P1) : (setFilt c f s).dma = s.dma := rfl
@[simp] theorem setFilt_bankA (c : Fin 32) (f : FilterChan → FilterChan) (s : P1) : (setFilt c f s).bankA = s.bankA := rfl
@[simp] theorem setFilt_bankB (c : Fin 32) (f : FilterChan → FilterChan) (s : P1) : (setFilt c f s).bankB = s.bankB := rfl
@[simp] theorem setFilt_save (c : Fin 32) (f : FilterChan → FilterChan) (s : P1) : (setFilt c f s).save = s.save := rfl
@[simp] theorem setFilt_saveHeld (c : Fin 32) (f : FilterChan → FilterChan) (s : P1) : (setFilt c f s).saveHeld = s.saveHeld := rfl
@[simp] theorem setFilt_can (c : Fin 32) (f : FilterChan → FilterChan) (s : P1) : (setFilt c f s).can = s.can := rfl
@[simp] theorem setFilt_net (c : Fin 32) (f : FilterChan → FilterChan) (s : P1) : (setFilt c f s).net = s.net := rfl
@[simp] theorem setFilt_heartbeatAt (c : Fin 32) (f : FilterChan → FilterChan) (s : P1) : (setFilt c f s).heartbeatAt = s.heartbeatAt := rfl
@[simp] theorem setFilt_serial (c : Fin 32) (f : FilterChan → FilterChan) (s : P1) : (setFilt c f s).serial = s.serial := rfl
@[simp] theorem setFilt_red (c : Fin 32) (f : FilterChan → FilterChan) (s : P1) : (setFilt c f s).red = s.red := rfl
@[simp] theorem setFilt_ctl (c : Fin 32) (f : FilterChan → FilterChan) (s : P1) : (setFilt c f s).ctl = s.ctl := rfl
@[simp] theorem setFilt_alc (c : Fin 32) (f : FilterChan → FilterChan) (s : P1) : (setFilt c f s).alc = s.alc := rfl
@[simp] theorem setFilt_acks (c : Fin 32) (f : FilterChan → FilterChan) (s : P1) : (setFilt c f s).acks = s.acks := rfl
@[simp] theorem setFilt_ao (c : Fin 32) (f : FilterChan → FilterChan) (s : P1) : (setFilt c f s).ao = s.ao := rfl
@[simp] theorem setFilt_next (c : Fin 32) (f : FilterChan → FilterChan) (s : P1) : (setFilt c f s).next = s.next := rfl
@[simp] theorem setFilt_slots (c : Fin 32) (f : FilterChan → FilterChan) (s : P1) : (setFilt c f s).slots = s.slots := rfl
@[simp] theorem setFilt_fus (c : Fin 32) (f : FilterChan → FilterChan) (s : P1) : (setFilt c f s).fus = s.fus := rfl
@[simp] theorem setFilt_axes (c : Fin 32) (f : FilterChan → FilterChan) (s : P1) : (setFilt c f s).axes = s.axes := rfl
@[simp] theorem setFilt_emu (c : Fin 32) (f : FilterChan → FilterChan) (s : P1) : (setFilt c f s).emu = s.emu := rfl
@[simp] theorem setFilt_probes (c : Fin 32) (f : FilterChan → FilterChan) (s : P1) : (setFilt c f s).probes = s.probes := rfl
@[simp] theorem setFilt_filt (c : Fin 32) (f : FilterChan → FilterChan) (s : P1) : (setFilt c f s).filt = upd s.filt c f := rfl
@[simp] theorem setFilt_time (c : Fin 32) (f : FilterChan → FilterChan) (s : P1) : (setFilt c f s).time = s.time := rfl
@[simp] theorem setFilt_solver (c : Fin 32) (f : FilterChan → FilterChan) (s : P1) : (setFilt c f s).solver = s.solver := rfl
@[simp] theorem setFilt_linkOut (c : Fin 32) (f : FilterChan → FilterChan) (s : P1) : (setFilt c f s).linkOut = s.linkOut := rfl
@[simp] theorem setFilt_entrySess (c : Fin 32) (f : FilterChan → FilterChan) (s : P1) : (setFilt c f s).entrySess = s.entrySess := rfl
@[simp] theorem setFilt_fldLink (c : Fin 32) (f : FilterChan → FilterChan) (s : P1) : (setFilt c f s).fldLink = s.fldLink := rfl
@[simp] theorem setFilt_supply (c : Fin 32) (f : FilterChan → FilterChan) (s : P1) : (setFilt c f s).supply = s.supply := rfl
@[simp] theorem setFilt_owed (c : Fin 32) (f : FilterChan → FilterChan) (s : P1) : (setFilt c f s).owed = s.owed := rfl
@[simp] theorem setFilt_linkTries (c : Fin 32) (f : FilterChan → FilterChan) (s : P1) : (setFilt c f s).linkTries = s.linkTries := rfl
@[simp] theorem setFilt_snapDue (c : Fin 32) (f : FilterChan → FilterChan) (s : P1) : (setFilt c f s).snapDue = s.snapDue := rfl
@[simp] theorem setFilt_crossings (c : Fin 32) (f : FilterChan → FilterChan) (s : P1) : (setFilt c f s).crossings = s.crossings := rfl
@[simp] theorem setFilt_pllLost (c : Fin 32) (f : FilterChan → FilterChan) (s : P1) : (setFilt c f s).pllLost = s.pllLost := rfl
@[simp] theorem setFilt_asleep (c : Fin 32) (f : FilterChan → FilterChan) (s : P1) : (setFilt c f s).asleep = s.asleep := rfl
@[simp] theorem setFilt_served (c : Fin 32) (f : FilterChan → FilterChan) (s : P1) : (setFilt c f s).served = s.served := rfl
@[simp] theorem setFilt_reports (c : Fin 32) (f : FilterChan → FilterChan) (s : P1) : (setFilt c f s).reports = s.reports := rfl
@[simp] theorem setFilt_mailboxes (c : Fin 32) (f : FilterChan → FilterChan) (s : P1) : (setFilt c f s).mailboxes = s.mailboxes := rfl
@[simp] theorem setFilt_before (c : Fin 32) (f : FilterChan → FilterChan) (s : P1) : (setFilt c f s).before = s.before := rfl
@[simp] theorem setFilt_rd (c : Fin 32) (f : FilterChan → FilterChan) (s : P1) (j : Nat) : (setFilt c f s).rd j = s.rd j := rfl
@[simp] theorem setFilt_octets (c : Fin 32) (f : FilterChan → FilterChan) (s : P1) (j : Nat) : (setFilt c f s).octets j = s.octets j := rfl

/-! `setDma` -/

@[simp] theorem setDma_phase (d : Fin 16) (f : DmaChan → DmaChan) (s : P1) : (setDma d f s).phase = s.phase := rfl
@[simp] theorem setDma_ns (d : Fin 16) (f : DmaChan → DmaChan) (s : P1) : (setDma d f s).ns = s.ns := rfl
@[simp] theorem setDma_elapsed (d : Fin 16) (f : DmaChan → DmaChan) (s : P1) : (setDma d f s).elapsed = s.elapsed := rfl
@[simp] theorem setDma_free (d : Fin 16) (f : DmaChan → DmaChan) (s : P1) : (setDma d f s).free = s.free := rfl
@[simp] theorem setDma_od (d : Fin 16) (f : DmaChan → DmaChan) (s : P1) : (setDma d f s).od = s.od := rfl
@[simp] theorem setDma_dom (d : Fin 16) (f : DmaChan → DmaChan) (s : P1) : (setDma d f s).dom = s.dom := rfl
@[simp] theorem setDma_sessions (d : Fin 16) (f : DmaChan → DmaChan) (s : P1) : (setDma d f s).sessions = s.sessions := rfl
@[simp] theorem setDma_reply (d : Fin 16) (f : DmaChan → DmaChan) (s : P1) : (setDma d f s).reply = s.reply := rfl
@[simp] theorem setDma_bufs (d : Fin 16) (f : DmaChan → DmaChan) (s : P1) : (setDma d f s).bufs = s.bufs := rfl
@[simp] theorem setDma_sdo (d : Fin 16) (f : DmaChan → DmaChan) (s : P1) : (setDma d f s).sdo = s.sdo := rfl
@[simp] theorem setDma_lockout (d : Fin 16) (f : DmaChan → DmaChan) (s : P1) : (setDma d f s).lockout = s.lockout := rfl
@[simp] theorem setDma_alarms (d : Fin 16) (f : DmaChan → DmaChan) (s : P1) : (setDma d f s).alarms = s.alarms := rfl
@[simp] theorem setDma_unlisted (d : Fin 16) (f : DmaChan → DmaChan) (s : P1) : (setDma d f s).unlisted = s.unlisted := rfl
@[simp] theorem setDma_faults (d : Fin 16) (f : DmaChan → DmaChan) (s : P1) : (setDma d f s).faults = s.faults := rfl
@[simp] theorem setDma_unreported (d : Fin 16) (f : DmaChan → DmaChan) (s : P1) : (setDma d f s).unreported = s.unreported := rfl
@[simp] theorem setDma_lastCauses (d : Fin 16) (f : DmaChan → DmaChan) (s : P1) : (setDma d f s).lastCauses = s.lastCauses := rfl
@[simp] theorem setDma_cyclePending (d : Fin 16) (f : DmaChan → DmaChan) (s : P1) : (setDma d f s).cyclePending = s.cyclePending := rfl
@[simp] theorem setDma_overrunRun (d : Fin 16) (f : DmaChan → DmaChan) (s : P1) : (setDma d f s).overrunRun = s.overrunRun := rfl
@[simp] theorem setDma_snapGrain (d : Fin 16) (f : DmaChan → DmaChan) (s : P1) : (setDma d f s).snapGrain = s.snapGrain := rfl
@[simp] theorem setDma_lawMode (d : Fin 16) (f : DmaChan → DmaChan) (s : P1) : (setDma d f s).lawMode = s.lawMode := rfl
@[simp] theorem setDma_blend (d : Fin 16) (f : DmaChan → DmaChan) (s : P1) : (setDma d f s).blend = s.blend := rfl
@[simp] theorem setDma_springStep (d : Fin 16) (f : DmaChan → DmaChan) (s : P1) : (setDma d f s).springStep = s.springStep := rfl
@[simp] theorem setDma_stuck (d : Fin 16) (f : DmaChan → DmaChan) (s : P1) : (setDma d f s).stuck = s.stuck := rfl
@[simp] theorem setDma_startGrain (d : Fin 16) (f : DmaChan → DmaChan) (s : P1) : (setDma d f s).startGrain = s.startGrain := rfl
@[simp] theorem setDma_recorder (d : Fin 16) (f : DmaChan → DmaChan) (s : P1) : (setDma d f s).recorder = s.recorder := rfl
@[simp] theorem setDma_dma (d : Fin 16) (f : DmaChan → DmaChan) (s : P1) : (setDma d f s).dma = upd s.dma d f := rfl
@[simp] theorem setDma_bankA (d : Fin 16) (f : DmaChan → DmaChan) (s : P1) : (setDma d f s).bankA = s.bankA := rfl
@[simp] theorem setDma_bankB (d : Fin 16) (f : DmaChan → DmaChan) (s : P1) : (setDma d f s).bankB = s.bankB := rfl
@[simp] theorem setDma_save (d : Fin 16) (f : DmaChan → DmaChan) (s : P1) : (setDma d f s).save = s.save := rfl
@[simp] theorem setDma_saveHeld (d : Fin 16) (f : DmaChan → DmaChan) (s : P1) : (setDma d f s).saveHeld = s.saveHeld := rfl
@[simp] theorem setDma_can (d : Fin 16) (f : DmaChan → DmaChan) (s : P1) : (setDma d f s).can = s.can := rfl
@[simp] theorem setDma_net (d : Fin 16) (f : DmaChan → DmaChan) (s : P1) : (setDma d f s).net = s.net := rfl
@[simp] theorem setDma_heartbeatAt (d : Fin 16) (f : DmaChan → DmaChan) (s : P1) : (setDma d f s).heartbeatAt = s.heartbeatAt := rfl
@[simp] theorem setDma_serial (d : Fin 16) (f : DmaChan → DmaChan) (s : P1) : (setDma d f s).serial = s.serial := rfl
@[simp] theorem setDma_red (d : Fin 16) (f : DmaChan → DmaChan) (s : P1) : (setDma d f s).red = s.red := rfl
@[simp] theorem setDma_ctl (d : Fin 16) (f : DmaChan → DmaChan) (s : P1) : (setDma d f s).ctl = s.ctl := rfl
@[simp] theorem setDma_alc (d : Fin 16) (f : DmaChan → DmaChan) (s : P1) : (setDma d f s).alc = s.alc := rfl
@[simp] theorem setDma_acks (d : Fin 16) (f : DmaChan → DmaChan) (s : P1) : (setDma d f s).acks = s.acks := rfl
@[simp] theorem setDma_ao (d : Fin 16) (f : DmaChan → DmaChan) (s : P1) : (setDma d f s).ao = s.ao := rfl
@[simp] theorem setDma_next (d : Fin 16) (f : DmaChan → DmaChan) (s : P1) : (setDma d f s).next = s.next := rfl
@[simp] theorem setDma_slots (d : Fin 16) (f : DmaChan → DmaChan) (s : P1) : (setDma d f s).slots = s.slots := rfl
@[simp] theorem setDma_fus (d : Fin 16) (f : DmaChan → DmaChan) (s : P1) : (setDma d f s).fus = s.fus := rfl
@[simp] theorem setDma_axes (d : Fin 16) (f : DmaChan → DmaChan) (s : P1) : (setDma d f s).axes = s.axes := rfl
@[simp] theorem setDma_emu (d : Fin 16) (f : DmaChan → DmaChan) (s : P1) : (setDma d f s).emu = s.emu := rfl
@[simp] theorem setDma_probes (d : Fin 16) (f : DmaChan → DmaChan) (s : P1) : (setDma d f s).probes = s.probes := rfl
@[simp] theorem setDma_filt (d : Fin 16) (f : DmaChan → DmaChan) (s : P1) : (setDma d f s).filt = s.filt := rfl
@[simp] theorem setDma_time (d : Fin 16) (f : DmaChan → DmaChan) (s : P1) : (setDma d f s).time = s.time := rfl
@[simp] theorem setDma_solver (d : Fin 16) (f : DmaChan → DmaChan) (s : P1) : (setDma d f s).solver = s.solver := rfl
@[simp] theorem setDma_linkOut (d : Fin 16) (f : DmaChan → DmaChan) (s : P1) : (setDma d f s).linkOut = s.linkOut := rfl
@[simp] theorem setDma_entrySess (d : Fin 16) (f : DmaChan → DmaChan) (s : P1) : (setDma d f s).entrySess = s.entrySess := rfl
@[simp] theorem setDma_fldLink (d : Fin 16) (f : DmaChan → DmaChan) (s : P1) : (setDma d f s).fldLink = s.fldLink := rfl
@[simp] theorem setDma_supply (d : Fin 16) (f : DmaChan → DmaChan) (s : P1) : (setDma d f s).supply = s.supply := rfl
@[simp] theorem setDma_owed (d : Fin 16) (f : DmaChan → DmaChan) (s : P1) : (setDma d f s).owed = s.owed := rfl
@[simp] theorem setDma_linkTries (d : Fin 16) (f : DmaChan → DmaChan) (s : P1) : (setDma d f s).linkTries = s.linkTries := rfl
@[simp] theorem setDma_snapDue (d : Fin 16) (f : DmaChan → DmaChan) (s : P1) : (setDma d f s).snapDue = s.snapDue := rfl
@[simp] theorem setDma_crossings (d : Fin 16) (f : DmaChan → DmaChan) (s : P1) : (setDma d f s).crossings = s.crossings := rfl
@[simp] theorem setDma_pllLost (d : Fin 16) (f : DmaChan → DmaChan) (s : P1) : (setDma d f s).pllLost = s.pllLost := rfl
@[simp] theorem setDma_asleep (d : Fin 16) (f : DmaChan → DmaChan) (s : P1) : (setDma d f s).asleep = s.asleep := rfl
@[simp] theorem setDma_served (d : Fin 16) (f : DmaChan → DmaChan) (s : P1) : (setDma d f s).served = s.served := rfl
@[simp] theorem setDma_reports (d : Fin 16) (f : DmaChan → DmaChan) (s : P1) : (setDma d f s).reports = s.reports := rfl
@[simp] theorem setDma_mailboxes (d : Fin 16) (f : DmaChan → DmaChan) (s : P1) : (setDma d f s).mailboxes = s.mailboxes := rfl
@[simp] theorem setDma_before (d : Fin 16) (f : DmaChan → DmaChan) (s : P1) : (setDma d f s).before = s.before := rfl
@[simp] theorem setDma_rd (d : Fin 16) (f : DmaChan → DmaChan) (s : P1) (j : Nat) : (setDma d f s).rd j = s.rd j := rfl
@[simp] theorem setDma_octets (d : Fin 16) (f : DmaChan → DmaChan) (s : P1) (j : Nat) : (setDma d f s).octets j = s.octets j := rfl

/-! `setThr` -/

@[simp] theorem setThr_phase (i : Fin 16) (f : Thruster → Thruster) (s : P1) : (setThr i f s).phase = s.phase := rfl
@[simp] theorem setThr_ns (i : Fin 16) (f : Thruster → Thruster) (s : P1) : (setThr i f s).ns = s.ns := rfl
@[simp] theorem setThr_elapsed (i : Fin 16) (f : Thruster → Thruster) (s : P1) : (setThr i f s).elapsed = s.elapsed := rfl
@[simp] theorem setThr_free (i : Fin 16) (f : Thruster → Thruster) (s : P1) : (setThr i f s).free = s.free := rfl
@[simp] theorem setThr_od (i : Fin 16) (f : Thruster → Thruster) (s : P1) : (setThr i f s).od = s.od := rfl
@[simp] theorem setThr_dom (i : Fin 16) (f : Thruster → Thruster) (s : P1) : (setThr i f s).dom = s.dom := rfl
@[simp] theorem setThr_sessions (i : Fin 16) (f : Thruster → Thruster) (s : P1) : (setThr i f s).sessions = s.sessions := rfl
@[simp] theorem setThr_reply (i : Fin 16) (f : Thruster → Thruster) (s : P1) : (setThr i f s).reply = s.reply := rfl
@[simp] theorem setThr_bufs (i : Fin 16) (f : Thruster → Thruster) (s : P1) : (setThr i f s).bufs = s.bufs := rfl
@[simp] theorem setThr_sdo (i : Fin 16) (f : Thruster → Thruster) (s : P1) : (setThr i f s).sdo = s.sdo := rfl
@[simp] theorem setThr_lockout (i : Fin 16) (f : Thruster → Thruster) (s : P1) : (setThr i f s).lockout = s.lockout := rfl
@[simp] theorem setThr_alarms (i : Fin 16) (f : Thruster → Thruster) (s : P1) : (setThr i f s).alarms = s.alarms := rfl
@[simp] theorem setThr_unlisted (i : Fin 16) (f : Thruster → Thruster) (s : P1) : (setThr i f s).unlisted = s.unlisted := rfl
@[simp] theorem setThr_faults (i : Fin 16) (f : Thruster → Thruster) (s : P1) : (setThr i f s).faults = s.faults := rfl
@[simp] theorem setThr_unreported (i : Fin 16) (f : Thruster → Thruster) (s : P1) : (setThr i f s).unreported = s.unreported := rfl
@[simp] theorem setThr_lastCauses (i : Fin 16) (f : Thruster → Thruster) (s : P1) : (setThr i f s).lastCauses = s.lastCauses := rfl
@[simp] theorem setThr_cyclePending (i : Fin 16) (f : Thruster → Thruster) (s : P1) : (setThr i f s).cyclePending = s.cyclePending := rfl
@[simp] theorem setThr_overrunRun (i : Fin 16) (f : Thruster → Thruster) (s : P1) : (setThr i f s).overrunRun = s.overrunRun := rfl
@[simp] theorem setThr_snapGrain (i : Fin 16) (f : Thruster → Thruster) (s : P1) : (setThr i f s).snapGrain = s.snapGrain := rfl
@[simp] theorem setThr_lawMode (i : Fin 16) (f : Thruster → Thruster) (s : P1) : (setThr i f s).lawMode = s.lawMode := rfl
@[simp] theorem setThr_blend (i : Fin 16) (f : Thruster → Thruster) (s : P1) : (setThr i f s).blend = s.blend := rfl
@[simp] theorem setThr_springStep (i : Fin 16) (f : Thruster → Thruster) (s : P1) : (setThr i f s).springStep = s.springStep := rfl
@[simp] theorem setThr_stuck (i : Fin 16) (f : Thruster → Thruster) (s : P1) : (setThr i f s).stuck = s.stuck := rfl
@[simp] theorem setThr_startGrain (i : Fin 16) (f : Thruster → Thruster) (s : P1) : (setThr i f s).startGrain = s.startGrain := rfl
@[simp] theorem setThr_recorder (i : Fin 16) (f : Thruster → Thruster) (s : P1) : (setThr i f s).recorder = s.recorder := rfl
@[simp] theorem setThr_dma (i : Fin 16) (f : Thruster → Thruster) (s : P1) : (setThr i f s).dma = s.dma := rfl
@[simp] theorem setThr_bankA (i : Fin 16) (f : Thruster → Thruster) (s : P1) : (setThr i f s).bankA = s.bankA := rfl
@[simp] theorem setThr_bankB (i : Fin 16) (f : Thruster → Thruster) (s : P1) : (setThr i f s).bankB = s.bankB := rfl
@[simp] theorem setThr_save (i : Fin 16) (f : Thruster → Thruster) (s : P1) : (setThr i f s).save = s.save := rfl
@[simp] theorem setThr_saveHeld (i : Fin 16) (f : Thruster → Thruster) (s : P1) : (setThr i f s).saveHeld = s.saveHeld := rfl
@[simp] theorem setThr_can (i : Fin 16) (f : Thruster → Thruster) (s : P1) : (setThr i f s).can = s.can := rfl
@[simp] theorem setThr_net (i : Fin 16) (f : Thruster → Thruster) (s : P1) : (setThr i f s).net = s.net := rfl
@[simp] theorem setThr_heartbeatAt (i : Fin 16) (f : Thruster → Thruster) (s : P1) : (setThr i f s).heartbeatAt = s.heartbeatAt := rfl
@[simp] theorem setThr_serial (i : Fin 16) (f : Thruster → Thruster) (s : P1) : (setThr i f s).serial = s.serial := rfl
@[simp] theorem setThr_red (i : Fin 16) (f : Thruster → Thruster) (s : P1) : (setThr i f s).red = s.red := rfl
@[simp] theorem setThr_ctl (i : Fin 16) (f : Thruster → Thruster) (s : P1) : (setThr i f s).ctl = s.ctl := rfl
@[simp] theorem setThr_acks (i : Fin 16) (f : Thruster → Thruster) (s : P1) : (setThr i f s).acks = s.acks := rfl
@[simp] theorem setThr_ao (i : Fin 16) (f : Thruster → Thruster) (s : P1) : (setThr i f s).ao = s.ao := rfl
@[simp] theorem setThr_next (i : Fin 16) (f : Thruster → Thruster) (s : P1) : (setThr i f s).next = s.next := rfl
@[simp] theorem setThr_slots (i : Fin 16) (f : Thruster → Thruster) (s : P1) : (setThr i f s).slots = s.slots := rfl
@[simp] theorem setThr_fus (i : Fin 16) (f : Thruster → Thruster) (s : P1) : (setThr i f s).fus = s.fus := rfl
@[simp] theorem setThr_axes (i : Fin 16) (f : Thruster → Thruster) (s : P1) : (setThr i f s).axes = s.axes := rfl
@[simp] theorem setThr_emu (i : Fin 16) (f : Thruster → Thruster) (s : P1) : (setThr i f s).emu = s.emu := rfl
@[simp] theorem setThr_probes (i : Fin 16) (f : Thruster → Thruster) (s : P1) : (setThr i f s).probes = s.probes := rfl
@[simp] theorem setThr_filt (i : Fin 16) (f : Thruster → Thruster) (s : P1) : (setThr i f s).filt = s.filt := rfl
@[simp] theorem setThr_time (i : Fin 16) (f : Thruster → Thruster) (s : P1) : (setThr i f s).time = s.time := rfl
@[simp] theorem setThr_solver (i : Fin 16) (f : Thruster → Thruster) (s : P1) : (setThr i f s).solver = s.solver := rfl
@[simp] theorem setThr_linkOut (i : Fin 16) (f : Thruster → Thruster) (s : P1) : (setThr i f s).linkOut = s.linkOut := rfl
@[simp] theorem setThr_entrySess (i : Fin 16) (f : Thruster → Thruster) (s : P1) : (setThr i f s).entrySess = s.entrySess := rfl
@[simp] theorem setThr_fldLink (i : Fin 16) (f : Thruster → Thruster) (s : P1) : (setThr i f s).fldLink = s.fldLink := rfl
@[simp] theorem setThr_supply (i : Fin 16) (f : Thruster → Thruster) (s : P1) : (setThr i f s).supply = s.supply := rfl
@[simp] theorem setThr_owed (i : Fin 16) (f : Thruster → Thruster) (s : P1) : (setThr i f s).owed = s.owed := rfl
@[simp] theorem setThr_linkTries (i : Fin 16) (f : Thruster → Thruster) (s : P1) : (setThr i f s).linkTries = s.linkTries := rfl
@[simp] theorem setThr_snapDue (i : Fin 16) (f : Thruster → Thruster) (s : P1) : (setThr i f s).snapDue = s.snapDue := rfl
@[simp] theorem setThr_crossings (i : Fin 16) (f : Thruster → Thruster) (s : P1) : (setThr i f s).crossings = s.crossings := rfl
@[simp] theorem setThr_pllLost (i : Fin 16) (f : Thruster → Thruster) (s : P1) : (setThr i f s).pllLost = s.pllLost := rfl
@[simp] theorem setThr_asleep (i : Fin 16) (f : Thruster → Thruster) (s : P1) : (setThr i f s).asleep = s.asleep := rfl
@[simp] theorem setThr_served (i : Fin 16) (f : Thruster → Thruster) (s : P1) : (setThr i f s).served = s.served := rfl
@[simp] theorem setThr_reports (i : Fin 16) (f : Thruster → Thruster) (s : P1) : (setThr i f s).reports = s.reports := rfl
@[simp] theorem setThr_mailboxes (i : Fin 16) (f : Thruster → Thruster) (s : P1) : (setThr i f s).mailboxes = s.mailboxes := rfl
@[simp] theorem setThr_before (i : Fin 16) (f : Thruster → Thruster) (s : P1) : (setThr i f s).before = s.before := rfl
@[simp] theorem setThr_rd (i : Fin 16) (f : Thruster → Thruster) (s : P1) (j : Nat) : (setThr i f s).rd j = s.rd j := rfl
@[simp] theorem setThr_octets (i : Fin 16) (f : Thruster → Thruster) (s : P1) (j : Nat) : (setThr i f s).octets j = s.octets j := rfl

/-! `setLoop` -/

@[simp] theorem setLoop_phase (l : Fin 32) (x : LoopState) (s : P1) : (setLoop l x s).phase = s.phase := rfl
@[simp] theorem setLoop_ns (l : Fin 32) (x : LoopState) (s : P1) : (setLoop l x s).ns = s.ns := rfl
@[simp] theorem setLoop_elapsed (l : Fin 32) (x : LoopState) (s : P1) : (setLoop l x s).elapsed = s.elapsed := rfl
@[simp] theorem setLoop_free (l : Fin 32) (x : LoopState) (s : P1) : (setLoop l x s).free = s.free := rfl
@[simp] theorem setLoop_od (l : Fin 32) (x : LoopState) (s : P1) : (setLoop l x s).od = s.od := rfl
@[simp] theorem setLoop_dom (l : Fin 32) (x : LoopState) (s : P1) : (setLoop l x s).dom = s.dom := rfl
@[simp] theorem setLoop_sessions (l : Fin 32) (x : LoopState) (s : P1) : (setLoop l x s).sessions = s.sessions := rfl
@[simp] theorem setLoop_reply (l : Fin 32) (x : LoopState) (s : P1) : (setLoop l x s).reply = s.reply := rfl
@[simp] theorem setLoop_bufs (l : Fin 32) (x : LoopState) (s : P1) : (setLoop l x s).bufs = s.bufs := rfl
@[simp] theorem setLoop_sdo (l : Fin 32) (x : LoopState) (s : P1) : (setLoop l x s).sdo = s.sdo := rfl
@[simp] theorem setLoop_lockout (l : Fin 32) (x : LoopState) (s : P1) : (setLoop l x s).lockout = s.lockout := rfl
@[simp] theorem setLoop_alarms (l : Fin 32) (x : LoopState) (s : P1) : (setLoop l x s).alarms = s.alarms := rfl
@[simp] theorem setLoop_unlisted (l : Fin 32) (x : LoopState) (s : P1) : (setLoop l x s).unlisted = s.unlisted := rfl
@[simp] theorem setLoop_faults (l : Fin 32) (x : LoopState) (s : P1) : (setLoop l x s).faults = s.faults := rfl
@[simp] theorem setLoop_unreported (l : Fin 32) (x : LoopState) (s : P1) : (setLoop l x s).unreported = s.unreported := rfl
@[simp] theorem setLoop_lastCauses (l : Fin 32) (x : LoopState) (s : P1) : (setLoop l x s).lastCauses = s.lastCauses := rfl
@[simp] theorem setLoop_cyclePending (l : Fin 32) (x : LoopState) (s : P1) : (setLoop l x s).cyclePending = s.cyclePending := rfl
@[simp] theorem setLoop_overrunRun (l : Fin 32) (x : LoopState) (s : P1) : (setLoop l x s).overrunRun = s.overrunRun := rfl
@[simp] theorem setLoop_snapGrain (l : Fin 32) (x : LoopState) (s : P1) : (setLoop l x s).snapGrain = s.snapGrain := rfl
@[simp] theorem setLoop_lawMode (l : Fin 32) (x : LoopState) (s : P1) : (setLoop l x s).lawMode = s.lawMode := rfl
@[simp] theorem setLoop_blend (l : Fin 32) (x : LoopState) (s : P1) : (setLoop l x s).blend = s.blend := rfl
@[simp] theorem setLoop_springStep (l : Fin 32) (x : LoopState) (s : P1) : (setLoop l x s).springStep = s.springStep := rfl
@[simp] theorem setLoop_stuck (l : Fin 32) (x : LoopState) (s : P1) : (setLoop l x s).stuck = s.stuck := rfl
@[simp] theorem setLoop_startGrain (l : Fin 32) (x : LoopState) (s : P1) : (setLoop l x s).startGrain = s.startGrain := rfl
@[simp] theorem setLoop_recorder (l : Fin 32) (x : LoopState) (s : P1) : (setLoop l x s).recorder = s.recorder := rfl
@[simp] theorem setLoop_dma (l : Fin 32) (x : LoopState) (s : P1) : (setLoop l x s).dma = s.dma := rfl
@[simp] theorem setLoop_bankA (l : Fin 32) (x : LoopState) (s : P1) : (setLoop l x s).bankA = s.bankA := rfl
@[simp] theorem setLoop_bankB (l : Fin 32) (x : LoopState) (s : P1) : (setLoop l x s).bankB = s.bankB := rfl
@[simp] theorem setLoop_save (l : Fin 32) (x : LoopState) (s : P1) : (setLoop l x s).save = s.save := rfl
@[simp] theorem setLoop_saveHeld (l : Fin 32) (x : LoopState) (s : P1) : (setLoop l x s).saveHeld = s.saveHeld := rfl
@[simp] theorem setLoop_can (l : Fin 32) (x : LoopState) (s : P1) : (setLoop l x s).can = s.can := rfl
@[simp] theorem setLoop_net (l : Fin 32) (x : LoopState) (s : P1) : (setLoop l x s).net = s.net := rfl
@[simp] theorem setLoop_heartbeatAt (l : Fin 32) (x : LoopState) (s : P1) : (setLoop l x s).heartbeatAt = s.heartbeatAt := rfl
@[simp] theorem setLoop_serial (l : Fin 32) (x : LoopState) (s : P1) : (setLoop l x s).serial = s.serial := rfl
@[simp] theorem setLoop_red (l : Fin 32) (x : LoopState) (s : P1) : (setLoop l x s).red = s.red := rfl
@[simp] theorem setLoop_alc (l : Fin 32) (x : LoopState) (s : P1) : (setLoop l x s).alc = s.alc := rfl
@[simp] theorem setLoop_acks (l : Fin 32) (x : LoopState) (s : P1) : (setLoop l x s).acks = s.acks := rfl
@[simp] theorem setLoop_ao (l : Fin 32) (x : LoopState) (s : P1) : (setLoop l x s).ao = s.ao := rfl
@[simp] theorem setLoop_next (l : Fin 32) (x : LoopState) (s : P1) : (setLoop l x s).next = s.next := rfl
@[simp] theorem setLoop_slots (l : Fin 32) (x : LoopState) (s : P1) : (setLoop l x s).slots = s.slots := rfl
@[simp] theorem setLoop_fus (l : Fin 32) (x : LoopState) (s : P1) : (setLoop l x s).fus = s.fus := rfl
@[simp] theorem setLoop_axes (l : Fin 32) (x : LoopState) (s : P1) : (setLoop l x s).axes = s.axes := rfl
@[simp] theorem setLoop_emu (l : Fin 32) (x : LoopState) (s : P1) : (setLoop l x s).emu = s.emu := rfl
@[simp] theorem setLoop_probes (l : Fin 32) (x : LoopState) (s : P1) : (setLoop l x s).probes = s.probes := rfl
@[simp] theorem setLoop_filt (l : Fin 32) (x : LoopState) (s : P1) : (setLoop l x s).filt = s.filt := rfl
@[simp] theorem setLoop_time (l : Fin 32) (x : LoopState) (s : P1) : (setLoop l x s).time = s.time := rfl
@[simp] theorem setLoop_solver (l : Fin 32) (x : LoopState) (s : P1) : (setLoop l x s).solver = s.solver := rfl
@[simp] theorem setLoop_linkOut (l : Fin 32) (x : LoopState) (s : P1) : (setLoop l x s).linkOut = s.linkOut := rfl
@[simp] theorem setLoop_entrySess (l : Fin 32) (x : LoopState) (s : P1) : (setLoop l x s).entrySess = s.entrySess := rfl
@[simp] theorem setLoop_fldLink (l : Fin 32) (x : LoopState) (s : P1) : (setLoop l x s).fldLink = s.fldLink := rfl
@[simp] theorem setLoop_supply (l : Fin 32) (x : LoopState) (s : P1) : (setLoop l x s).supply = s.supply := rfl
@[simp] theorem setLoop_owed (l : Fin 32) (x : LoopState) (s : P1) : (setLoop l x s).owed = s.owed := rfl
@[simp] theorem setLoop_linkTries (l : Fin 32) (x : LoopState) (s : P1) : (setLoop l x s).linkTries = s.linkTries := rfl
@[simp] theorem setLoop_snapDue (l : Fin 32) (x : LoopState) (s : P1) : (setLoop l x s).snapDue = s.snapDue := rfl
@[simp] theorem setLoop_crossings (l : Fin 32) (x : LoopState) (s : P1) : (setLoop l x s).crossings = s.crossings := rfl
@[simp] theorem setLoop_pllLost (l : Fin 32) (x : LoopState) (s : P1) : (setLoop l x s).pllLost = s.pllLost := rfl
@[simp] theorem setLoop_asleep (l : Fin 32) (x : LoopState) (s : P1) : (setLoop l x s).asleep = s.asleep := rfl
@[simp] theorem setLoop_served (l : Fin 32) (x : LoopState) (s : P1) : (setLoop l x s).served = s.served := rfl
@[simp] theorem setLoop_reports (l : Fin 32) (x : LoopState) (s : P1) : (setLoop l x s).reports = s.reports := rfl
@[simp] theorem setLoop_mailboxes (l : Fin 32) (x : LoopState) (s : P1) : (setLoop l x s).mailboxes = s.mailboxes := rfl
@[simp] theorem setLoop_before (l : Fin 32) (x : LoopState) (s : P1) : (setLoop l x s).before = s.before := rfl
@[simp] theorem setLoop_rd (l : Fin 32) (x : LoopState) (s : P1) (j : Nat) : (setLoop l x s).rd j = s.rd j := rfl
@[simp] theorem setLoop_octets (l : Fin 32) (x : LoopState) (s : P1) (j : Nat) : (setLoop l x s).octets j = s.octets j := rfl

/-! `setEng` -/

@[simp] theorem setEng_phase (e : Fin 4) (f : SolverEngine → SolverEngine) (s : P1) : (setEng e f s).phase = s.phase := rfl
@[simp] theorem setEng_ns (e : Fin 4) (f : SolverEngine → SolverEngine) (s : P1) : (setEng e f s).ns = s.ns := rfl
@[simp] theorem setEng_elapsed (e : Fin 4) (f : SolverEngine → SolverEngine) (s : P1) : (setEng e f s).elapsed = s.elapsed := rfl
@[simp] theorem setEng_free (e : Fin 4) (f : SolverEngine → SolverEngine) (s : P1) : (setEng e f s).free = s.free := rfl
@[simp] theorem setEng_od (e : Fin 4) (f : SolverEngine → SolverEngine) (s : P1) : (setEng e f s).od = s.od := rfl
@[simp] theorem setEng_dom (e : Fin 4) (f : SolverEngine → SolverEngine) (s : P1) : (setEng e f s).dom = s.dom := rfl
@[simp] theorem setEng_sessions (e : Fin 4) (f : SolverEngine → SolverEngine) (s : P1) : (setEng e f s).sessions = s.sessions := rfl
@[simp] theorem setEng_reply (e : Fin 4) (f : SolverEngine → SolverEngine) (s : P1) : (setEng e f s).reply = s.reply := rfl
@[simp] theorem setEng_bufs (e : Fin 4) (f : SolverEngine → SolverEngine) (s : P1) : (setEng e f s).bufs = s.bufs := rfl
@[simp] theorem setEng_sdo (e : Fin 4) (f : SolverEngine → SolverEngine) (s : P1) : (setEng e f s).sdo = s.sdo := rfl
@[simp] theorem setEng_lockout (e : Fin 4) (f : SolverEngine → SolverEngine) (s : P1) : (setEng e f s).lockout = s.lockout := rfl
@[simp] theorem setEng_alarms (e : Fin 4) (f : SolverEngine → SolverEngine) (s : P1) : (setEng e f s).alarms = s.alarms := rfl
@[simp] theorem setEng_unlisted (e : Fin 4) (f : SolverEngine → SolverEngine) (s : P1) : (setEng e f s).unlisted = s.unlisted := rfl
@[simp] theorem setEng_faults (e : Fin 4) (f : SolverEngine → SolverEngine) (s : P1) : (setEng e f s).faults = s.faults := rfl
@[simp] theorem setEng_unreported (e : Fin 4) (f : SolverEngine → SolverEngine) (s : P1) : (setEng e f s).unreported = s.unreported := rfl
@[simp] theorem setEng_lastCauses (e : Fin 4) (f : SolverEngine → SolverEngine) (s : P1) : (setEng e f s).lastCauses = s.lastCauses := rfl
@[simp] theorem setEng_cyclePending (e : Fin 4) (f : SolverEngine → SolverEngine) (s : P1) : (setEng e f s).cyclePending = s.cyclePending := rfl
@[simp] theorem setEng_overrunRun (e : Fin 4) (f : SolverEngine → SolverEngine) (s : P1) : (setEng e f s).overrunRun = s.overrunRun := rfl
@[simp] theorem setEng_snapGrain (e : Fin 4) (f : SolverEngine → SolverEngine) (s : P1) : (setEng e f s).snapGrain = s.snapGrain := rfl
@[simp] theorem setEng_lawMode (e : Fin 4) (f : SolverEngine → SolverEngine) (s : P1) : (setEng e f s).lawMode = s.lawMode := rfl
@[simp] theorem setEng_blend (e : Fin 4) (f : SolverEngine → SolverEngine) (s : P1) : (setEng e f s).blend = s.blend := rfl
@[simp] theorem setEng_springStep (e : Fin 4) (f : SolverEngine → SolverEngine) (s : P1) : (setEng e f s).springStep = s.springStep := rfl
@[simp] theorem setEng_stuck (e : Fin 4) (f : SolverEngine → SolverEngine) (s : P1) : (setEng e f s).stuck = s.stuck := rfl
@[simp] theorem setEng_startGrain (e : Fin 4) (f : SolverEngine → SolverEngine) (s : P1) : (setEng e f s).startGrain = s.startGrain := rfl
@[simp] theorem setEng_recorder (e : Fin 4) (f : SolverEngine → SolverEngine) (s : P1) : (setEng e f s).recorder = s.recorder := rfl
@[simp] theorem setEng_dma (e : Fin 4) (f : SolverEngine → SolverEngine) (s : P1) : (setEng e f s).dma = s.dma := rfl
@[simp] theorem setEng_bankA (e : Fin 4) (f : SolverEngine → SolverEngine) (s : P1) : (setEng e f s).bankA = s.bankA := rfl
@[simp] theorem setEng_bankB (e : Fin 4) (f : SolverEngine → SolverEngine) (s : P1) : (setEng e f s).bankB = s.bankB := rfl
@[simp] theorem setEng_save (e : Fin 4) (f : SolverEngine → SolverEngine) (s : P1) : (setEng e f s).save = s.save := rfl
@[simp] theorem setEng_saveHeld (e : Fin 4) (f : SolverEngine → SolverEngine) (s : P1) : (setEng e f s).saveHeld = s.saveHeld := rfl
@[simp] theorem setEng_can (e : Fin 4) (f : SolverEngine → SolverEngine) (s : P1) : (setEng e f s).can = s.can := rfl
@[simp] theorem setEng_net (e : Fin 4) (f : SolverEngine → SolverEngine) (s : P1) : (setEng e f s).net = s.net := rfl
@[simp] theorem setEng_heartbeatAt (e : Fin 4) (f : SolverEngine → SolverEngine) (s : P1) : (setEng e f s).heartbeatAt = s.heartbeatAt := rfl
@[simp] theorem setEng_serial (e : Fin 4) (f : SolverEngine → SolverEngine) (s : P1) : (setEng e f s).serial = s.serial := rfl
@[simp] theorem setEng_red (e : Fin 4) (f : SolverEngine → SolverEngine) (s : P1) : (setEng e f s).red = s.red := rfl
@[simp] theorem setEng_ctl (e : Fin 4) (f : SolverEngine → SolverEngine) (s : P1) : (setEng e f s).ctl = s.ctl := rfl
@[simp] theorem setEng_alc (e : Fin 4) (f : SolverEngine → SolverEngine) (s : P1) : (setEng e f s).alc = s.alc := rfl
@[simp] theorem setEng_acks (e : Fin 4) (f : SolverEngine → SolverEngine) (s : P1) : (setEng e f s).acks = s.acks := rfl
@[simp] theorem setEng_ao (e : Fin 4) (f : SolverEngine → SolverEngine) (s : P1) : (setEng e f s).ao = s.ao := rfl
@[simp] theorem setEng_next (e : Fin 4) (f : SolverEngine → SolverEngine) (s : P1) : (setEng e f s).next = s.next := rfl
@[simp] theorem setEng_slots (e : Fin 4) (f : SolverEngine → SolverEngine) (s : P1) : (setEng e f s).slots = s.slots := rfl
@[simp] theorem setEng_fus (e : Fin 4) (f : SolverEngine → SolverEngine) (s : P1) : (setEng e f s).fus = s.fus := rfl
@[simp] theorem setEng_axes (e : Fin 4) (f : SolverEngine → SolverEngine) (s : P1) : (setEng e f s).axes = s.axes := rfl
@[simp] theorem setEng_emu (e : Fin 4) (f : SolverEngine → SolverEngine) (s : P1) : (setEng e f s).emu = s.emu := rfl
@[simp] theorem setEng_probes (e : Fin 4) (f : SolverEngine → SolverEngine) (s : P1) : (setEng e f s).probes = s.probes := rfl
@[simp] theorem setEng_filt (e : Fin 4) (f : SolverEngine → SolverEngine) (s : P1) : (setEng e f s).filt = s.filt := rfl
@[simp] theorem setEng_time (e : Fin 4) (f : SolverEngine → SolverEngine) (s : P1) : (setEng e f s).time = s.time := rfl
@[simp] theorem setEng_linkOut (e : Fin 4) (f : SolverEngine → SolverEngine) (s : P1) : (setEng e f s).linkOut = s.linkOut := rfl
@[simp] theorem setEng_entrySess (e : Fin 4) (f : SolverEngine → SolverEngine) (s : P1) : (setEng e f s).entrySess = s.entrySess := rfl
@[simp] theorem setEng_fldLink (e : Fin 4) (f : SolverEngine → SolverEngine) (s : P1) : (setEng e f s).fldLink = s.fldLink := rfl
@[simp] theorem setEng_supply (e : Fin 4) (f : SolverEngine → SolverEngine) (s : P1) : (setEng e f s).supply = s.supply := rfl
@[simp] theorem setEng_owed (e : Fin 4) (f : SolverEngine → SolverEngine) (s : P1) : (setEng e f s).owed = s.owed := rfl
@[simp] theorem setEng_linkTries (e : Fin 4) (f : SolverEngine → SolverEngine) (s : P1) : (setEng e f s).linkTries = s.linkTries := rfl
@[simp] theorem setEng_snapDue (e : Fin 4) (f : SolverEngine → SolverEngine) (s : P1) : (setEng e f s).snapDue = s.snapDue := rfl
@[simp] theorem setEng_crossings (e : Fin 4) (f : SolverEngine → SolverEngine) (s : P1) : (setEng e f s).crossings = s.crossings := rfl
@[simp] theorem setEng_pllLost (e : Fin 4) (f : SolverEngine → SolverEngine) (s : P1) : (setEng e f s).pllLost = s.pllLost := rfl
@[simp] theorem setEng_asleep (e : Fin 4) (f : SolverEngine → SolverEngine) (s : P1) : (setEng e f s).asleep = s.asleep := rfl
@[simp] theorem setEng_served (e : Fin 4) (f : SolverEngine → SolverEngine) (s : P1) : (setEng e f s).served = s.served := rfl
@[simp] theorem setEng_reports (e : Fin 4) (f : SolverEngine → SolverEngine) (s : P1) : (setEng e f s).reports = s.reports := rfl
@[simp] theorem setEng_mailboxes (e : Fin 4) (f : SolverEngine → SolverEngine) (s : P1) : (setEng e f s).mailboxes = s.mailboxes := rfl
@[simp] theorem setEng_before (e : Fin 4) (f : SolverEngine → SolverEngine) (s : P1) : (setEng e f s).before = s.before := rfl
@[simp] theorem setEng_rd (e : Fin 4) (f : SolverEngine → SolverEngine) (s : P1) (j : Nat) : (setEng e f s).rd j = s.rd j := rfl
@[simp] theorem setEng_octets (e : Fin 4) (f : SolverEngine → SolverEngine) (s : P1) (j : Nat) : (setEng e f s).octets j = s.octets j := rfl

/-! `setRes` -/

@[simp] theorem setRes_phase (q : Fin 16) (f : Resident → Resident) (s : P1) : (setRes q f s).phase = s.phase := rfl
@[simp] theorem setRes_ns (q : Fin 16) (f : Resident → Resident) (s : P1) : (setRes q f s).ns = s.ns := rfl
@[simp] theorem setRes_elapsed (q : Fin 16) (f : Resident → Resident) (s : P1) : (setRes q f s).elapsed = s.elapsed := rfl
@[simp] theorem setRes_free (q : Fin 16) (f : Resident → Resident) (s : P1) : (setRes q f s).free = s.free := rfl
@[simp] theorem setRes_od (q : Fin 16) (f : Resident → Resident) (s : P1) : (setRes q f s).od = s.od := rfl
@[simp] theorem setRes_dom (q : Fin 16) (f : Resident → Resident) (s : P1) : (setRes q f s).dom = s.dom := rfl
@[simp] theorem setRes_sessions (q : Fin 16) (f : Resident → Resident) (s : P1) : (setRes q f s).sessions = s.sessions := rfl
@[simp] theorem setRes_reply (q : Fin 16) (f : Resident → Resident) (s : P1) : (setRes q f s).reply = s.reply := rfl
@[simp] theorem setRes_bufs (q : Fin 16) (f : Resident → Resident) (s : P1) : (setRes q f s).bufs = s.bufs := rfl
@[simp] theorem setRes_sdo (q : Fin 16) (f : Resident → Resident) (s : P1) : (setRes q f s).sdo = s.sdo := rfl
@[simp] theorem setRes_lockout (q : Fin 16) (f : Resident → Resident) (s : P1) : (setRes q f s).lockout = s.lockout := rfl
@[simp] theorem setRes_alarms (q : Fin 16) (f : Resident → Resident) (s : P1) : (setRes q f s).alarms = s.alarms := rfl
@[simp] theorem setRes_unlisted (q : Fin 16) (f : Resident → Resident) (s : P1) : (setRes q f s).unlisted = s.unlisted := rfl
@[simp] theorem setRes_faults (q : Fin 16) (f : Resident → Resident) (s : P1) : (setRes q f s).faults = s.faults := rfl
@[simp] theorem setRes_unreported (q : Fin 16) (f : Resident → Resident) (s : P1) : (setRes q f s).unreported = s.unreported := rfl
@[simp] theorem setRes_lastCauses (q : Fin 16) (f : Resident → Resident) (s : P1) : (setRes q f s).lastCauses = s.lastCauses := rfl
@[simp] theorem setRes_cyclePending (q : Fin 16) (f : Resident → Resident) (s : P1) : (setRes q f s).cyclePending = s.cyclePending := rfl
@[simp] theorem setRes_overrunRun (q : Fin 16) (f : Resident → Resident) (s : P1) : (setRes q f s).overrunRun = s.overrunRun := rfl
@[simp] theorem setRes_snapGrain (q : Fin 16) (f : Resident → Resident) (s : P1) : (setRes q f s).snapGrain = s.snapGrain := rfl
@[simp] theorem setRes_lawMode (q : Fin 16) (f : Resident → Resident) (s : P1) : (setRes q f s).lawMode = s.lawMode := rfl
@[simp] theorem setRes_blend (q : Fin 16) (f : Resident → Resident) (s : P1) : (setRes q f s).blend = s.blend := rfl
@[simp] theorem setRes_springStep (q : Fin 16) (f : Resident → Resident) (s : P1) : (setRes q f s).springStep = s.springStep := rfl
@[simp] theorem setRes_stuck (q : Fin 16) (f : Resident → Resident) (s : P1) : (setRes q f s).stuck = s.stuck := rfl
@[simp] theorem setRes_startGrain (q : Fin 16) (f : Resident → Resident) (s : P1) : (setRes q f s).startGrain = s.startGrain := rfl
@[simp] theorem setRes_recorder (q : Fin 16) (f : Resident → Resident) (s : P1) : (setRes q f s).recorder = s.recorder := rfl
@[simp] theorem setRes_dma (q : Fin 16) (f : Resident → Resident) (s : P1) : (setRes q f s).dma = s.dma := rfl
@[simp] theorem setRes_bankA (q : Fin 16) (f : Resident → Resident) (s : P1) : (setRes q f s).bankA = s.bankA := rfl
@[simp] theorem setRes_bankB (q : Fin 16) (f : Resident → Resident) (s : P1) : (setRes q f s).bankB = s.bankB := rfl
@[simp] theorem setRes_save (q : Fin 16) (f : Resident → Resident) (s : P1) : (setRes q f s).save = s.save := rfl
@[simp] theorem setRes_saveHeld (q : Fin 16) (f : Resident → Resident) (s : P1) : (setRes q f s).saveHeld = s.saveHeld := rfl
@[simp] theorem setRes_can (q : Fin 16) (f : Resident → Resident) (s : P1) : (setRes q f s).can = s.can := rfl
@[simp] theorem setRes_net (q : Fin 16) (f : Resident → Resident) (s : P1) : (setRes q f s).net = s.net := rfl
@[simp] theorem setRes_heartbeatAt (q : Fin 16) (f : Resident → Resident) (s : P1) : (setRes q f s).heartbeatAt = s.heartbeatAt := rfl
@[simp] theorem setRes_serial (q : Fin 16) (f : Resident → Resident) (s : P1) : (setRes q f s).serial = s.serial := rfl
@[simp] theorem setRes_red (q : Fin 16) (f : Resident → Resident) (s : P1) : (setRes q f s).red = s.red := rfl
@[simp] theorem setRes_ctl (q : Fin 16) (f : Resident → Resident) (s : P1) : (setRes q f s).ctl = s.ctl := rfl
@[simp] theorem setRes_alc (q : Fin 16) (f : Resident → Resident) (s : P1) : (setRes q f s).alc = s.alc := rfl
@[simp] theorem setRes_acks (q : Fin 16) (f : Resident → Resident) (s : P1) : (setRes q f s).acks = s.acks := rfl
@[simp] theorem setRes_ao (q : Fin 16) (f : Resident → Resident) (s : P1) : (setRes q f s).ao = s.ao := rfl
@[simp] theorem setRes_next (q : Fin 16) (f : Resident → Resident) (s : P1) : (setRes q f s).next = s.next := rfl
@[simp] theorem setRes_slots (q : Fin 16) (f : Resident → Resident) (s : P1) : (setRes q f s).slots = s.slots := rfl
@[simp] theorem setRes_fus (q : Fin 16) (f : Resident → Resident) (s : P1) : (setRes q f s).fus = s.fus := rfl
@[simp] theorem setRes_axes (q : Fin 16) (f : Resident → Resident) (s : P1) : (setRes q f s).axes = s.axes := rfl
@[simp] theorem setRes_emu (q : Fin 16) (f : Resident → Resident) (s : P1) : (setRes q f s).emu = s.emu := rfl
@[simp] theorem setRes_probes (q : Fin 16) (f : Resident → Resident) (s : P1) : (setRes q f s).probes = s.probes := rfl
@[simp] theorem setRes_filt (q : Fin 16) (f : Resident → Resident) (s : P1) : (setRes q f s).filt = s.filt := rfl
@[simp] theorem setRes_time (q : Fin 16) (f : Resident → Resident) (s : P1) : (setRes q f s).time = s.time := rfl
@[simp] theorem setRes_linkOut (q : Fin 16) (f : Resident → Resident) (s : P1) : (setRes q f s).linkOut = s.linkOut := rfl
@[simp] theorem setRes_entrySess (q : Fin 16) (f : Resident → Resident) (s : P1) : (setRes q f s).entrySess = s.entrySess := rfl
@[simp] theorem setRes_fldLink (q : Fin 16) (f : Resident → Resident) (s : P1) : (setRes q f s).fldLink = s.fldLink := rfl
@[simp] theorem setRes_supply (q : Fin 16) (f : Resident → Resident) (s : P1) : (setRes q f s).supply = s.supply := rfl
@[simp] theorem setRes_owed (q : Fin 16) (f : Resident → Resident) (s : P1) : (setRes q f s).owed = s.owed := rfl
@[simp] theorem setRes_linkTries (q : Fin 16) (f : Resident → Resident) (s : P1) : (setRes q f s).linkTries = s.linkTries := rfl
@[simp] theorem setRes_snapDue (q : Fin 16) (f : Resident → Resident) (s : P1) : (setRes q f s).snapDue = s.snapDue := rfl
@[simp] theorem setRes_crossings (q : Fin 16) (f : Resident → Resident) (s : P1) : (setRes q f s).crossings = s.crossings := rfl
@[simp] theorem setRes_pllLost (q : Fin 16) (f : Resident → Resident) (s : P1) : (setRes q f s).pllLost = s.pllLost := rfl
@[simp] theorem setRes_asleep (q : Fin 16) (f : Resident → Resident) (s : P1) : (setRes q f s).asleep = s.asleep := rfl
@[simp] theorem setRes_served (q : Fin 16) (f : Resident → Resident) (s : P1) : (setRes q f s).served = s.served := rfl
@[simp] theorem setRes_reports (q : Fin 16) (f : Resident → Resident) (s : P1) : (setRes q f s).reports = s.reports := rfl
@[simp] theorem setRes_mailboxes (q : Fin 16) (f : Resident → Resident) (s : P1) : (setRes q f s).mailboxes = s.mailboxes := rfl
@[simp] theorem setRes_before (q : Fin 16) (f : Resident → Resident) (s : P1) : (setRes q f s).before = s.before := rfl
@[simp] theorem setRes_rd (q : Fin 16) (f : Resident → Resident) (s : P1) (j : Nat) : (setRes q f s).rd j = s.rd j := rfl
@[simp] theorem setRes_octets (q : Fin 16) (f : Resident → Resident) (s : P1) (j : Nat) : (setRes q f s).octets j = s.octets j := rfl

/-! `setSession` -/

@[simp] theorem setSession_phase (w : Nat) (f : Session → Session) (s : P1) : (setSession w f s).phase = s.phase := rfl
@[simp] theorem setSession_ns (w : Nat) (f : Session → Session) (s : P1) : (setSession w f s).ns = s.ns := rfl
@[simp] theorem setSession_elapsed (w : Nat) (f : Session → Session) (s : P1) : (setSession w f s).elapsed = s.elapsed := rfl
@[simp] theorem setSession_free (w : Nat) (f : Session → Session) (s : P1) : (setSession w f s).free = s.free := rfl
@[simp] theorem setSession_od (w : Nat) (f : Session → Session) (s : P1) : (setSession w f s).od = s.od := rfl
@[simp] theorem setSession_dom (w : Nat) (f : Session → Session) (s : P1) : (setSession w f s).dom = s.dom := rfl
@[simp] theorem setSession_reply (w : Nat) (f : Session → Session) (s : P1) : (setSession w f s).reply = s.reply := rfl
@[simp] theorem setSession_bufs (w : Nat) (f : Session → Session) (s : P1) : (setSession w f s).bufs = s.bufs := rfl
@[simp] theorem setSession_sdo (w : Nat) (f : Session → Session) (s : P1) : (setSession w f s).sdo = s.sdo := rfl
@[simp] theorem setSession_lockout (w : Nat) (f : Session → Session) (s : P1) : (setSession w f s).lockout = s.lockout := rfl
@[simp] theorem setSession_alarms (w : Nat) (f : Session → Session) (s : P1) : (setSession w f s).alarms = s.alarms := rfl
@[simp] theorem setSession_unlisted (w : Nat) (f : Session → Session) (s : P1) : (setSession w f s).unlisted = s.unlisted := rfl
@[simp] theorem setSession_faults (w : Nat) (f : Session → Session) (s : P1) : (setSession w f s).faults = s.faults := rfl
@[simp] theorem setSession_unreported (w : Nat) (f : Session → Session) (s : P1) : (setSession w f s).unreported = s.unreported := rfl
@[simp] theorem setSession_lastCauses (w : Nat) (f : Session → Session) (s : P1) : (setSession w f s).lastCauses = s.lastCauses := rfl
@[simp] theorem setSession_cyclePending (w : Nat) (f : Session → Session) (s : P1) : (setSession w f s).cyclePending = s.cyclePending := rfl
@[simp] theorem setSession_overrunRun (w : Nat) (f : Session → Session) (s : P1) : (setSession w f s).overrunRun = s.overrunRun := rfl
@[simp] theorem setSession_snapGrain (w : Nat) (f : Session → Session) (s : P1) : (setSession w f s).snapGrain = s.snapGrain := rfl
@[simp] theorem setSession_lawMode (w : Nat) (f : Session → Session) (s : P1) : (setSession w f s).lawMode = s.lawMode := rfl
@[simp] theorem setSession_blend (w : Nat) (f : Session → Session) (s : P1) : (setSession w f s).blend = s.blend := rfl
@[simp] theorem setSession_springStep (w : Nat) (f : Session → Session) (s : P1) : (setSession w f s).springStep = s.springStep := rfl
@[simp] theorem setSession_stuck (w : Nat) (f : Session → Session) (s : P1) : (setSession w f s).stuck = s.stuck := rfl
@[simp] theorem setSession_startGrain (w : Nat) (f : Session → Session) (s : P1) : (setSession w f s).startGrain = s.startGrain := rfl
@[simp] theorem setSession_recorder (w : Nat) (f : Session → Session) (s : P1) : (setSession w f s).recorder = s.recorder := rfl
@[simp] theorem setSession_dma (w : Nat) (f : Session → Session) (s : P1) : (setSession w f s).dma = s.dma := rfl
@[simp] theorem setSession_bankA (w : Nat) (f : Session → Session) (s : P1) : (setSession w f s).bankA = s.bankA := rfl
@[simp] theorem setSession_bankB (w : Nat) (f : Session → Session) (s : P1) : (setSession w f s).bankB = s.bankB := rfl
@[simp] theorem setSession_save (w : Nat) (f : Session → Session) (s : P1) : (setSession w f s).save = s.save := rfl
@[simp] theorem setSession_saveHeld (w : Nat) (f : Session → Session) (s : P1) : (setSession w f s).saveHeld = s.saveHeld := rfl
@[simp] theorem setSession_can (w : Nat) (f : Session → Session) (s : P1) : (setSession w f s).can = s.can := rfl
@[simp] theorem setSession_net (w : Nat) (f : Session → Session) (s : P1) : (setSession w f s).net = s.net := rfl
@[simp] theorem setSession_heartbeatAt (w : Nat) (f : Session → Session) (s : P1) : (setSession w f s).heartbeatAt = s.heartbeatAt := rfl
@[simp] theorem setSession_serial (w : Nat) (f : Session → Session) (s : P1) : (setSession w f s).serial = s.serial := rfl
@[simp] theorem setSession_red (w : Nat) (f : Session → Session) (s : P1) : (setSession w f s).red = s.red := rfl
@[simp] theorem setSession_ctl (w : Nat) (f : Session → Session) (s : P1) : (setSession w f s).ctl = s.ctl := rfl
@[simp] theorem setSession_alc (w : Nat) (f : Session → Session) (s : P1) : (setSession w f s).alc = s.alc := rfl
@[simp] theorem setSession_acks (w : Nat) (f : Session → Session) (s : P1) : (setSession w f s).acks = s.acks := rfl
@[simp] theorem setSession_ao (w : Nat) (f : Session → Session) (s : P1) : (setSession w f s).ao = s.ao := rfl
@[simp] theorem setSession_next (w : Nat) (f : Session → Session) (s : P1) : (setSession w f s).next = s.next := rfl
@[simp] theorem setSession_slots (w : Nat) (f : Session → Session) (s : P1) : (setSession w f s).slots = s.slots := rfl
@[simp] theorem setSession_fus (w : Nat) (f : Session → Session) (s : P1) : (setSession w f s).fus = s.fus := rfl
@[simp] theorem setSession_axes (w : Nat) (f : Session → Session) (s : P1) : (setSession w f s).axes = s.axes := rfl
@[simp] theorem setSession_emu (w : Nat) (f : Session → Session) (s : P1) : (setSession w f s).emu = s.emu := rfl
@[simp] theorem setSession_probes (w : Nat) (f : Session → Session) (s : P1) : (setSession w f s).probes = s.probes := rfl
@[simp] theorem setSession_filt (w : Nat) (f : Session → Session) (s : P1) : (setSession w f s).filt = s.filt := rfl
@[simp] theorem setSession_time (w : Nat) (f : Session → Session) (s : P1) : (setSession w f s).time = s.time := rfl
@[simp] theorem setSession_solver (w : Nat) (f : Session → Session) (s : P1) : (setSession w f s).solver = s.solver := rfl
@[simp] theorem setSession_linkOut (w : Nat) (f : Session → Session) (s : P1) : (setSession w f s).linkOut = s.linkOut := rfl
@[simp] theorem setSession_entrySess (w : Nat) (f : Session → Session) (s : P1) : (setSession w f s).entrySess = s.entrySess := rfl
@[simp] theorem setSession_fldLink (w : Nat) (f : Session → Session) (s : P1) : (setSession w f s).fldLink = s.fldLink := rfl
@[simp] theorem setSession_supply (w : Nat) (f : Session → Session) (s : P1) : (setSession w f s).supply = s.supply := rfl
@[simp] theorem setSession_owed (w : Nat) (f : Session → Session) (s : P1) : (setSession w f s).owed = s.owed := rfl
@[simp] theorem setSession_linkTries (w : Nat) (f : Session → Session) (s : P1) : (setSession w f s).linkTries = s.linkTries := rfl
@[simp] theorem setSession_snapDue (w : Nat) (f : Session → Session) (s : P1) : (setSession w f s).snapDue = s.snapDue := rfl
@[simp] theorem setSession_crossings (w : Nat) (f : Session → Session) (s : P1) : (setSession w f s).crossings = s.crossings := rfl
@[simp] theorem setSession_pllLost (w : Nat) (f : Session → Session) (s : P1) : (setSession w f s).pllLost = s.pllLost := rfl
@[simp] theorem setSession_asleep (w : Nat) (f : Session → Session) (s : P1) : (setSession w f s).asleep = s.asleep := rfl
@[simp] theorem setSession_served (w : Nat) (f : Session → Session) (s : P1) : (setSession w f s).served = s.served := rfl
@[simp] theorem setSession_reports (w : Nat) (f : Session → Session) (s : P1) : (setSession w f s).reports = s.reports := rfl
@[simp] theorem setSession_mailboxes (w : Nat) (f : Session → Session) (s : P1) : (setSession w f s).mailboxes = s.mailboxes := rfl
@[simp] theorem setSession_before (w : Nat) (f : Session → Session) (s : P1) : (setSession w f s).before = s.before := rfl
@[simp] theorem setSession_rd (w : Nat) (f : Session → Session) (s : P1) (j : Nat) : (setSession w f s).rd j = s.rd j := rfl
@[simp] theorem setSession_octets (w : Nat) (f : Session → Session) (s : P1) (j : Nat) : (setSession w f s).octets j = s.octets j := rfl

/-! `sendGuard` -/

@[simp] theorem sendGuard_phase (m : LinkMsg) (s : P1) : (sendGuard m s).phase = s.phase := rfl
@[simp] theorem sendGuard_ns (m : LinkMsg) (s : P1) : (sendGuard m s).ns = s.ns := rfl
@[simp] theorem sendGuard_elapsed (m : LinkMsg) (s : P1) : (sendGuard m s).elapsed = s.elapsed := rfl
@[simp] theorem sendGuard_free (m : LinkMsg) (s : P1) : (sendGuard m s).free = s.free := rfl
@[simp] theorem sendGuard_od (m : LinkMsg) (s : P1) : (sendGuard m s).od = s.od := rfl
@[simp] theorem sendGuard_dom (m : LinkMsg) (s : P1) : (sendGuard m s).dom = s.dom := rfl
@[simp] theorem sendGuard_sessions (m : LinkMsg) (s : P1) : (sendGuard m s).sessions = s.sessions := rfl
@[simp] theorem sendGuard_reply (m : LinkMsg) (s : P1) : (sendGuard m s).reply = s.reply := rfl
@[simp] theorem sendGuard_bufs (m : LinkMsg) (s : P1) : (sendGuard m s).bufs = s.bufs := rfl
@[simp] theorem sendGuard_sdo (m : LinkMsg) (s : P1) : (sendGuard m s).sdo = s.sdo := rfl
@[simp] theorem sendGuard_lockout (m : LinkMsg) (s : P1) : (sendGuard m s).lockout = s.lockout := rfl
@[simp] theorem sendGuard_alarms (m : LinkMsg) (s : P1) : (sendGuard m s).alarms = s.alarms := rfl
@[simp] theorem sendGuard_unlisted (m : LinkMsg) (s : P1) : (sendGuard m s).unlisted = s.unlisted := rfl
@[simp] theorem sendGuard_faults (m : LinkMsg) (s : P1) : (sendGuard m s).faults = s.faults := rfl
@[simp] theorem sendGuard_unreported (m : LinkMsg) (s : P1) : (sendGuard m s).unreported = s.unreported := rfl
@[simp] theorem sendGuard_lastCauses (m : LinkMsg) (s : P1) : (sendGuard m s).lastCauses = s.lastCauses := rfl
@[simp] theorem sendGuard_cyclePending (m : LinkMsg) (s : P1) : (sendGuard m s).cyclePending = s.cyclePending := rfl
@[simp] theorem sendGuard_overrunRun (m : LinkMsg) (s : P1) : (sendGuard m s).overrunRun = s.overrunRun := rfl
@[simp] theorem sendGuard_snapGrain (m : LinkMsg) (s : P1) : (sendGuard m s).snapGrain = s.snapGrain := rfl
@[simp] theorem sendGuard_lawMode (m : LinkMsg) (s : P1) : (sendGuard m s).lawMode = s.lawMode := rfl
@[simp] theorem sendGuard_blend (m : LinkMsg) (s : P1) : (sendGuard m s).blend = s.blend := rfl
@[simp] theorem sendGuard_springStep (m : LinkMsg) (s : P1) : (sendGuard m s).springStep = s.springStep := rfl
@[simp] theorem sendGuard_stuck (m : LinkMsg) (s : P1) : (sendGuard m s).stuck = s.stuck := rfl
@[simp] theorem sendGuard_startGrain (m : LinkMsg) (s : P1) : (sendGuard m s).startGrain = s.startGrain := rfl
@[simp] theorem sendGuard_recorder (m : LinkMsg) (s : P1) : (sendGuard m s).recorder = s.recorder := rfl
@[simp] theorem sendGuard_dma (m : LinkMsg) (s : P1) : (sendGuard m s).dma = s.dma := rfl
@[simp] theorem sendGuard_bankA (m : LinkMsg) (s : P1) : (sendGuard m s).bankA = s.bankA := rfl
@[simp] theorem sendGuard_bankB (m : LinkMsg) (s : P1) : (sendGuard m s).bankB = s.bankB := rfl
@[simp] theorem sendGuard_save (m : LinkMsg) (s : P1) : (sendGuard m s).save = s.save := rfl
@[simp] theorem sendGuard_saveHeld (m : LinkMsg) (s : P1) : (sendGuard m s).saveHeld = s.saveHeld := rfl
@[simp] theorem sendGuard_can (m : LinkMsg) (s : P1) : (sendGuard m s).can = s.can := rfl
@[simp] theorem sendGuard_net (m : LinkMsg) (s : P1) : (sendGuard m s).net = s.net := rfl
@[simp] theorem sendGuard_heartbeatAt (m : LinkMsg) (s : P1) : (sendGuard m s).heartbeatAt = s.heartbeatAt := rfl
@[simp] theorem sendGuard_serial (m : LinkMsg) (s : P1) : (sendGuard m s).serial = s.serial := rfl
@[simp] theorem sendGuard_red (m : LinkMsg) (s : P1) : (sendGuard m s).red = s.red := rfl
@[simp] theorem sendGuard_ctl (m : LinkMsg) (s : P1) : (sendGuard m s).ctl = s.ctl := rfl
@[simp] theorem sendGuard_alc (m : LinkMsg) (s : P1) : (sendGuard m s).alc = s.alc := rfl
@[simp] theorem sendGuard_acks (m : LinkMsg) (s : P1) : (sendGuard m s).acks = s.acks := rfl
@[simp] theorem sendGuard_ao (m : LinkMsg) (s : P1) : (sendGuard m s).ao = s.ao := rfl
@[simp] theorem sendGuard_next (m : LinkMsg) (s : P1) : (sendGuard m s).next = s.next := rfl
@[simp] theorem sendGuard_slots (m : LinkMsg) (s : P1) : (sendGuard m s).slots = s.slots := rfl
@[simp] theorem sendGuard_fus (m : LinkMsg) (s : P1) : (sendGuard m s).fus = s.fus := rfl
@[simp] theorem sendGuard_axes (m : LinkMsg) (s : P1) : (sendGuard m s).axes = s.axes := rfl
@[simp] theorem sendGuard_emu (m : LinkMsg) (s : P1) : (sendGuard m s).emu = s.emu := rfl
@[simp] theorem sendGuard_probes (m : LinkMsg) (s : P1) : (sendGuard m s).probes = s.probes := rfl
@[simp] theorem sendGuard_filt (m : LinkMsg) (s : P1) : (sendGuard m s).filt = s.filt := rfl
@[simp] theorem sendGuard_time (m : LinkMsg) (s : P1) : (sendGuard m s).time = s.time := rfl
@[simp] theorem sendGuard_solver (m : LinkMsg) (s : P1) : (sendGuard m s).solver = s.solver := rfl
@[simp] theorem sendGuard_linkOut (m : LinkMsg) (s : P1) : (sendGuard m s).linkOut = s.linkOut ++ [m] := rfl
@[simp] theorem sendGuard_entrySess (m : LinkMsg) (s : P1) : (sendGuard m s).entrySess = s.entrySess := rfl
@[simp] theorem sendGuard_fldLink (m : LinkMsg) (s : P1) : (sendGuard m s).fldLink = s.fldLink := rfl
@[simp] theorem sendGuard_supply (m : LinkMsg) (s : P1) : (sendGuard m s).supply = s.supply := rfl
@[simp] theorem sendGuard_owed (m : LinkMsg) (s : P1) : (sendGuard m s).owed = s.owed := rfl
@[simp] theorem sendGuard_linkTries (m : LinkMsg) (s : P1) : (sendGuard m s).linkTries = s.linkTries := rfl
@[simp] theorem sendGuard_snapDue (m : LinkMsg) (s : P1) : (sendGuard m s).snapDue = s.snapDue := rfl
@[simp] theorem sendGuard_crossings (m : LinkMsg) (s : P1) : (sendGuard m s).crossings = s.crossings := rfl
@[simp] theorem sendGuard_pllLost (m : LinkMsg) (s : P1) : (sendGuard m s).pllLost = s.pllLost := rfl
@[simp] theorem sendGuard_asleep (m : LinkMsg) (s : P1) : (sendGuard m s).asleep = s.asleep := rfl
@[simp] theorem sendGuard_served (m : LinkMsg) (s : P1) : (sendGuard m s).served = s.served := rfl
@[simp] theorem sendGuard_reports (m : LinkMsg) (s : P1) : (sendGuard m s).reports = s.reports := rfl
@[simp] theorem sendGuard_mailboxes (m : LinkMsg) (s : P1) : (sendGuard m s).mailboxes = s.mailboxes := rfl
@[simp] theorem sendGuard_before (m : LinkMsg) (s : P1) : (sendGuard m s).before = s.before := rfl
@[simp] theorem sendGuard_rd (m : LinkMsg) (s : P1) (j : Nat) : (sendGuard m s).rd j = s.rd j := rfl
@[simp] theorem sendGuard_octets (m : LinkMsg) (s : P1) (j : Nat) : (sendGuard m s).octets j = s.octets j := rfl

/-! The packages of a state with another core. -/

@[simp] theorem State.core_pending (s : State) (p : P1) : (s.core p).pending = s.pending := rfl
@[simp] theorem State.core_p2 (s : State) (p : P1) : (s.core p).p2 = s.p2 := rfl
@[simp] theorem State.core_p3 (s : State) (p : P1) : (s.core p).p3 = s.p3 := rfl
@[simp] theorem State.core_p1 (s : State) (p : P1) : (s.core p).p1 = p := rfl

/-! `P2.setChan` -/

@[simp] theorem P2.setChan_powered (p : P2) (c : Chan) (f : GuardChan → GuardChan) : (p.setChan c f).powered = p.powered := by
  cases c <;> rfl
@[simp] theorem P2.setChan_block (p : P2) (c : Chan) (f : GuardChan → GuardChan) : (p.setChan c f).block = p.block := by
  cases c <;> rfl
@[simp] theorem P2.setChan_haveBlock (p : P2) (c : Chan) (f : GuardChan → GuardChan) : (p.setChan c f).haveBlock = p.haveBlock := by
  cases c <;> rfl
@[simp] theorem P2.setChan_startDone (p : P2) (c : Chan) (f : GuardChan → GuardChan) : (p.setChan c f).startDone = p.startDone := by
  cases c <;> rfl
@[simp] theorem P2.setChan_confirmed (p : P2) (c : Chan) (f : GuardChan → GuardChan) : (p.setChan c f).confirmed = p.confirmed := by
  cases c <;> rfl
@[simp] theorem P2.setChan_confirmedValue (p : P2) (c : Chan) (f : GuardChan → GuardChan) : (p.setChan c f).confirmedValue = p.confirmedValue := by
  cases c <;> rfl
@[simp] theorem P2.setChan_swFault (p : P2) (c : Chan) (f : GuardChan → GuardChan) : (p.setChan c f).swFault = p.swFault := by
  cases c <;> rfl
@[simp] theorem P2.setChan_disagree (p : P2) (c : Chan) (f : GuardChan → GuardChan) : (p.setChan c f).disagree = p.disagree := by
  cases c <;> rfl
@[simp] theorem P2.setChan_hold (p : P2) (c : Chan) (f : GuardChan → GuardChan) : (p.setChan c f).hold = p.hold := by
  cases c <;> rfl
@[simp] theorem P2.setChan_seenLoads (p : P2) (c : Chan) (f : GuardChan → GuardChan) : (p.setChan c f).seenLoads = p.seenLoads := by
  cases c <;> rfl
@[simp] theorem P2.setChan_rotation (p : P2) (c : Chan) (f : GuardChan → GuardChan) : (p.setChan c f).rotation = p.rotation := by
  cases c <;> rfl
@[simp] theorem P2.setChan_slot (p : P2) (c : Chan) (f : GuardChan → GuardChan) : (p.setChan c f).slot = p.slot := by
  cases c <;> rfl
@[simp] theorem P2.setChan_pulse (p : P2) (c : Chan) (f : GuardChan → GuardChan) : (p.setChan c f).pulse = p.pulse := by
  cases c <;> rfl
@[simp] theorem P2.setChan_lastPass (p : P2) (c : Chan) (f : GuardChan → GuardChan) : (p.setChan c f).lastPass = p.lastPass := by
  cases c <;> rfl
@[simp] theorem P2.setChan_overdue (p : P2) (c : Chan) (f : GuardChan → GuardChan) : (p.setChan c f).overdue = p.overdue := by
  cases c <;> rfl
@[simp] theorem P2.setChan_skipped (p : P2) (c : Chan) (f : GuardChan → GuardChan) : (p.setChan c f).skipped = p.skipped := by
  cases c <;> rfl
@[simp] theorem P2.setChan_failed (p : P2) (c : Chan) (f : GuardChan → GuardChan) : (p.setChan c f).failed = p.failed := by
  cases c <;> rfl
@[simp] theorem P2.setChan_link (p : P2) (c : Chan) (f : GuardChan → GuardChan) : (p.setChan c f).link = p.link := by
  cases c <;> rfl
@[simp] theorem P2.setChan_reports (p : P2) (c : Chan) (f : GuardChan → GuardChan) : (p.setChan c f).reports = p.reports := by
  cases c <;> rfl
@[simp] theorem P2.setChan_lostReports (p : P2) (c : Chan) (f : GuardChan → GuardChan) : (p.setChan c f).lostReports = p.lostReports := by
  cases c <;> rfl
@[simp] theorem P2.setChan_clock (p : P2) (c : Chan) (f : GuardChan → GuardChan) : (p.setChan c f).clock = p.clock := by
  cases c <;> rfl
@[simp] theorem P2.setChan_key (p : P2) (c : Chan) (f : GuardChan → GuardChan) : (p.setChan c f).key = p.key := by
  cases c <;> rfl
@[simp] theorem P2.setChan_halted (p : P2) (c : Chan) (f : GuardChan → GuardChan) : (p.setChan c f).halted = p.halted := by
  cases c <;> rfl
@[simp] theorem P2.setChan_slotAt (p : P2) (c : Chan) (f : GuardChan → GuardChan) : (p.setChan c f).slotAt = p.slotAt := by
  cases c <;> rfl
@[simp] theorem P2.setChan_passed (p : P2) (c : Chan) (f : GuardChan → GuardChan) : (p.setChan c f).passed = p.passed := by
  cases c <;> rfl
@[simp] theorem P2.setChan_frameAt (p : P2) (c : Chan) (f : GuardChan → GuardChan) : (p.setChan c f).frameAt = p.frameAt := by
  cases c <;> rfl
@[simp] theorem P2.setChan_differ (p : P2) (c : Chan) (f : GuardChan → GuardChan) : (p.setChan c f).differ = p.differ := by
  cases c <;> rfl

/-! `setDo` -/

@[simp] theorem setDo_powered (n : Fin 16) (g : DoState → DoState) (f : P3) : (setDo n g f).powered = f.powered := by
  unfold setDo; split <;> rfl
@[simp] theorem setDo_doCmd (n : Fin 16) (g : DoState → DoState) (f : P3) : (setDo n g f).doCmd = f.doCmd := by
  unfold setDo; split <;> rfl
@[simp] theorem setDo_aoCmd (n : Fin 16) (g : DoState → DoState) (f : P3) : (setDo n g f).aoCmd = f.aoCmd := by
  unfold setDo; split <;> rfl
@[simp] theorem setDo_doSafe (n : Fin 16) (g : DoState → DoState) (f : P3) : (setDo n g f).doSafe = f.doSafe := by
  unfold setDo; split <;> rfl
@[simp] theorem setDo_aoSafe (n : Fin 16) (g : DoState → DoState) (f : P3) : (setDo n g f).aoSafe = f.aoSafe := by
  unfold setDo; split <;> rfl
@[simp] theorem setDo_timeout (n : Fin 16) (g : DoState → DoState) (f : P3) : (setDo n g f).timeout = f.timeout := by
  unfold setDo; split <;> rfl
@[simp] theorem setDo_silent (n : Fin 16) (g : DoState → DoState) (f : P3) : (setDo n g f).silent = f.silent := by
  unfold setDo; split <;> rfl
@[simp] theorem setDo_report (n : Fin 16) (g : DoState → DoState) (f : P3) : (setDo n g f).report = f.report := by
  unfold setDo; split <;> rfl
@[simp] theorem setDo_link (n : Fin 16) (g : DoState → DoState) (f : P3) : (setDo n g f).link = f.link := by
  unfold setDo; split <;> rfl
@[simp] theorem setDo_fld (n : Fin 16) (g : DoState → DoState) (f : P3) : (setDo n g f).fld = f.fld := by
  unfold setDo; split <;> rfl
@[simp] theorem setDo_low (n : Fin 16) (g : DoState → DoState) (f : P3) : (setDo n g f).low = f.low := by
  unfold setDo; split <;> rfl
@[simp] theorem setDo_lowRun (n : Fin 16) (g : DoState → DoState) (f : P3) : (setDo n g f).lowRun = f.lowRun := by
  unfold setDo; split <;> rfl
@[simp] theorem setDo_missing (n : Fin 16) (g : DoState → DoState) (f : P3) : (setDo n g f).missing = f.missing := by
  unfold setDo; split <;> rfl
@[simp] theorem setDo_missingRun (n : Fin 16) (g : DoState → DoState) (f : P3) : (setDo n g f).missingRun = f.missingRun := by
  unfold setDo; split <;> rfl
@[simp] theorem setDo_measured (n : Fin 16) (g : DoState → DoState) (f : P3) : (setDo n g f).measured = f.measured := by
  unfold setDo; split <;> rfl
@[simp] theorem setDo_lowCleared (n : Fin 16) (g : DoState → DoState) (f : P3) : (setDo n g f).lowCleared = f.lowCleared := by
  unfold setDo; split <;> rfl
@[simp] theorem setDo_missingCleared (n : Fin 16) (g : DoState → DoState) (f : P3) : (setDo n g f).missingCleared = f.missingCleared := by
  unfold setDo; split <;> rfl
@[simp] theorem setDo_di (n : Fin 16) (g : DoState → DoState) (f : P3) : (setDo n g f).di = f.di := by
  unfold setDo; split <;> rfl
@[simp] theorem setDo_diValid (n : Fin 16) (g : DoState → DoState) (f : P3) : (setDo n g f).diValid = f.diValid := by
  unfold setDo; split <;> rfl
@[simp] theorem setDo_sinceClear (n : Fin 16) (g : DoState → DoState) (f : P3) : (setDo n g f).sinceClear = f.sinceClear := by
  unfold setDo; split <;> rfl
@[simp] theorem setDo_readback (n : Fin 16) (g : DoState → DoState) (f : P3) : (setDo n g f).readback = f.readback := by
  unfold setDo; split <;> rfl
@[simp] theorem setDo_aos (n : Fin 16) (g : DoState → DoState) (f : P3) : (setDo n g f).aos = f.aos := by
  unfold setDo; split <;> rfl
@[simp] theorem setDo_down (n : Fin 16) (g : DoState → DoState) (f : P3) : (setDo n g f).down = f.down := by
  unfold setDo; split <;> rfl
@[simp] theorem setDo_clock (n : Fin 16) (g : DoState → DoState) (f : P3) : (setDo n g f).clock = f.clock := by
  unfold setDo; split <;> rfl
@[simp] theorem setDo_frameAt (n : Fin 16) (g : DoState → DoState) (f : P3) : (setDo n g f).frameAt = f.frameAt := by
  unfold setDo; split <;> rfl
@[simp] theorem setDo_drive (n : Fin 16) (g : DoState → DoState) (f : P3) : (setDo n g f).drive = f.drive := by
  unfold setDo; split <;> rfl
@[simp] theorem setDo_offAt (n : Fin 16) (g : DoState → DoState) (f : P3) : (setDo n g f).offAt = f.offAt := by
  unfold setDo; split <;> rfl
@[simp] theorem setDo_aoSeen (n : Fin 16) (g : DoState → DoState) (f : P3) : (setDo n g f).aoSeen = f.aoSeen := by
  unfold setDo; split <;> rfl
@[simp] theorem setDo_aoAt (n : Fin 16) (g : DoState → DoState) (f : P3) : (setDo n g f).aoAt = f.aoAt := by
  unfold setDo; split <;> rfl
@[simp] theorem setDo_shortAt (n : Fin 16) (g : DoState → DoState) (f : P3) : (setDo n g f).shortAt = f.shortAt := by
  unfold setDo; split <;> rfl

end Sys2Proof.Machine
end

