-- ==== Sys2Proof/Laws/Bits.lean ====
section
/-! SUPPORT. Bits and fields of a cell that holds a bit map: what a write of one leaves there and leaves alone. -/

namespace Sys2Proof.Machine

@[simp] theorem bitOf_withBit (v : Int) (n : Nat) (b : Bool) : bitOf (withBit v n b) n = b := by
  unfold withBit
  split
  · assumption
  · rename_i h
    unfold bitOf at h ⊢
    rw [Int.toNat_natCast, Nat.testBit_xor, Nat.testBit_two_pow_self]
    cases b <;> simp_all

theorem bitOf_withBit_other (v : Int) (n m : Nat) (b : Bool) (h : m ≠ n) : bitOf (withBit v n b) m = bitOf v m := by
  unfold withBit
  split
  · rfl
  · unfold bitOf
    rw [Int.toNat_natCast, Nat.testBit_xor, Nat.testBit_two_pow_of_ne (Ne.symm h), Bool.xor_false]

/-- A field that is written holds the value, cut to its width. -/
@[simp] theorem fieldOf_withField (v : Int) (lo width x : Nat) : fieldOf (withField v lo width x) lo width = x % 2 ^ width := by
  unfold fieldOf withField
  rw [Int.toNat_natCast]
  have hp : 0 < 2 ^ lo := Nat.two_pow_pos lo
  have e : v.toNat / 2 ^ (lo + width) * 2 ^ (lo + width) + x % 2 ^ width * 2 ^ lo + v.toNat % 2 ^ lo
      = v.toNat % 2 ^ lo + 2 ^ lo * (v.toNat / 2 ^ (lo + width) * 2 ^ width + x % 2 ^ width) := by
    rw [Nat.pow_add]; ring
  rw [e, Nat.add_mul_div_left _ _ hp, Nat.div_eq_of_lt (Nat.mod_lt _ hp), Nat.zero_add, Nat.mul_comm, Nat.mul_add_mod]
  exact Nat.mod_mod _ _

/-- Bits below a written field stay. -/
theorem bitOf_withField_below (v : Int) (lo width x n : Nat) (h : n < lo) : bitOf (withField v lo width x) n = bitOf v n := by
  unfold bitOf withField
  rw [Int.toNat_natCast]
  have e : v.toNat / 2 ^ (lo + width) * 2 ^ (lo + width) + x % 2 ^ width * 2 ^ lo + v.toNat % 2 ^ lo
      = 2 ^ lo * (v.toNat / 2 ^ (lo + width) * 2 ^ width + x % 2 ^ width) + v.toNat % 2 ^ lo := by
    rw [Nat.pow_add]; ring
  rw [e, Nat.testBit_two_pow_mul_add _ (Nat.mod_lt _ (Nat.two_pow_pos lo)), if_pos h, Nat.testBit_mod_two_pow]
  simp [h]

/-- Bits above a written field stay. -/
theorem bitOf_withField_above (v : Int) (lo width x n : Nat) (h : lo + width ≤ n) :
    bitOf (withField v lo width x) n = bitOf v n := by
  unfold bitOf withField
  rw [Int.toNat_natCast]
  have hl : x % 2 ^ width * 2 ^ lo + v.toNat % 2 ^ lo < 2 ^ (lo + width) := by
    have a : x % 2 ^ width + 1 ≤ 2 ^ width := Nat.mod_lt _ (Nat.two_pow_pos width)
    have b : v.toNat % 2 ^ lo < 2 ^ lo := Nat.mod_lt _ (Nat.two_pow_pos lo)
    calc x % 2 ^ width * 2 ^ lo + v.toNat % 2 ^ lo < (x % 2 ^ width + 1) * 2 ^ lo := by rw [Nat.add_mul]; omega
      _ ≤ 2 ^ width * 2 ^ lo := Nat.mul_le_mul_right _ a
      _ = 2 ^ (lo + width) := by rw [Nat.pow_add, Nat.mul_comm]
  rw [Nat.add_assoc, Nat.mul_comm, Nat.testBit_two_pow_mul_add _ hl, if_neg (by omega), Nat.testBit_div_two_pow]
  congr 1
  omega

/-- A field is settled by its bits. -/
theorem fieldOf_congr (a b : Int) (lo width : Nat) (h : ∀ i, lo ≤ i → i < lo + width → bitOf a i = bitOf b i) :
    fieldOf a lo width = fieldOf b lo width := by
  apply Nat.eq_of_testBit_eq
  intro i
  unfold fieldOf
  rw [Nat.testBit_mod_two_pow, Nat.testBit_mod_two_pow, Nat.testBit_div_two_pow, Nat.testBit_div_two_pow]
  by_cases hi : i < width
  · have := h (i + lo) (by omega) (by omega)
    unfold bitOf at this
    simp [hi, this]
  · simp [hi]

end Sys2Proof.Machine
end

