-- ==== Sys2Proof/Laws/Frames.lean ====
section
/-! SUPPORT. What the shared operations can touch. Each `but…` blanks the parts of P1 that a kind of operation may write; a
frame law says that the state is the same but for those parts. A field that is not blanked is then unchanged, by `congrArg`. -/

namespace Sys2Proof.Machine

/-- P1 but for its cells. -/
def P1.butCells (s : P1) : P1 := { s with od := [] }

/-- P1 but for what recording an event touches (R492–R494). -/
def P1.butRecord (s : P1) : P1 := { s with od := [], recorder := Recorder.reset }

/-- P1 but for what a CAN queue and its failure reports touch (R439–R441). -/
def P1.butCan (s : P1) : P1 := { s with od := [], dom := [], recorder := Recorder.reset, can := P1.reset.can }

/-- P1 but for what an alarm touches: the list, its objects, an EMCY and a snapshot (R554–R558). -/
def P1.butAlarm (s : P1) : P1 :=
  { s with od := [], dom := [], recorder := Recorder.reset, can := P1.reset.can, free := 0, snapGrain := none,
           snapDue := [], alarms := [], unlisted := [] }

/-- P1 but for what an answer touches (R434, R547, R549). -/
def P1.butAnswer (s : P1) : P1 :=
  { s with od := [], dom := [], recorder := Recorder.reset, can := P1.reset.can, net := Network.reset, reply := none,
           sessions := [] }

theorem P1.butRecord_of_cells {a b : P1} (h : b.butCells = a.butCells) : b.butRecord = a.butRecord :=
  show b.butCells.butRecord = a.butCells.butRecord by rw [h]

theorem P1.butCan_of_record {a b : P1} (h : b.butRecord = a.butRecord) : b.butCan = a.butCan :=
  show b.butRecord.butCan = a.butRecord.butCan by rw [h]

theorem P1.butAlarm_of_can {a b : P1} (h : b.butCan = a.butCan) : b.butAlarm = a.butAlarm :=
  show b.butCan.butAlarm = a.butCan.butAlarm by rw [h]

theorem P1.butAnswer_of_can {a b : P1} (h : b.butCan = a.butCan) : b.butAnswer = a.butAnswer :=
  show b.butCan.butAnswer = a.butCan.butAnswer by rw [h]

/-! ### Cells -/

/-- A fold of steps that change cells alone changes cells alone. -/
theorem foldl_butCells {α : Type} (f : P1 → α → P1) (hf : ∀ t a, (f t a).butCells = t.butCells) :
    ∀ (l : List α) (s : P1), (l.foldl f s).butCells = s.butCells
  | [], _ => rfl
  | a :: l, s => (foldl_butCells f hf l (f s a)).trans (hf s a)

theorem P1.wrs_butCells (l : List (Nat × Int)) (s : P1) : (s.wrs l).butCells = s.butCells :=
  foldl_butCells (fun (t : P1) (e : Nat × Int) => t.wr e.1 e.2) (fun _ _ => rfl) l s

theorem P1.setBits_butCells (k : Nat) (l : List (Nat × Bool)) (s : P1) : (s.setBits k l).butCells = s.butCells :=
  foldl_butCells (fun (t : P1) (e : Nat × Bool) => t.setBit k e.1 e.2) (fun _ _ => rfl) l s

theorem P1.clearSubs_butCells (i a b : Nat) (s : P1) : (s.clearSubs i a b).butCells = s.butCells :=
  foldl_butCells (fun (t : P1) (j : Nat) => t.wr (ob i (a + j)) 0) (fun _ _ => rfl) _ s

/-! ### Records and session events -/

/-- Recording an event writes the recorder and the counters of 6000h. -/
theorem record_butRecord (code param : Nat) (s : P1) : (record code param s).butRecord = s.butRecord := by
  unfold record
  dsimp only
  split <;> rfl

theorem closeSessions_butRecord (s : P1) : (closeSessions s).butRecord = s.butRecord := by
  unfold closeSessions
  dsimp only
  split <;> rfl

/-- Buffering a session event writes the recorder and 6000h:01. -/
theorem sessEvent_butRecord (e w d : Nat) (s : P1) : (sessEvent e w d s).butRecord = s.butRecord := by
  unfold sessEvent
  dsimp only
  split <;> split
  · exact closeSessions_butRecord _
  · rfl
  · exact closeSessions_butRecord _
  · rfl

/-! ### CAN queues -/

/-- A failure report counts, describes and records. -/
theorem canReportFailed_butCan (c : Fin 4) (prio : Nat) (f : TxFrame) (cause : Nat) (s : P1) :
    (canReportFailed c prio f cause s).butCan = s.butCan :=
  (P1.butCan_of_record (record_butRecord _ _ _)).trans (by simp [P1.butCan])

theorem canReportAll_butCan (c : Fin 4) (prio cause : Nat) :
    ∀ (l : List TxFrame) (s : P1), (canReportAll c prio cause l s).butCan = s.butCan
  | [], _ => rfl
  | f :: l, s => (canReportAll_butCan c prio cause l _).trans (canReportFailed_butCan c prio f cause s)

/-- Queueing a frame changes that channel's queue, or reports the frame failed. -/
theorem canQueue_butCan (c : Fin 4) (prio : Nat) (f : TxFrame) (s : P1) : (canQueue c prio f s).butCan = s.butCan := by
  unfold canQueue
  split
  · exact canReportFailed_butCan ..
  · split
    · exact canReportFailed_butCan ..
    · split
      · exact canReportFailed_butCan ..
      · rfl

/-- A step on each of the four channels that stays within CAN does so as a whole. -/
theorem eachCan_butCan (f : Fin 4 → P1 → P1) (hf : ∀ c t, (f c t).butCan = t.butCan) (s : P1) :
    (eachCan f s).butCan = s.butCan :=
  (hf 3 _).trans ((hf 2 _).trans ((hf 1 _).trans (hf 0 s)))

theorem emcy_butCan (e code param : Nat) (s : P1) : (emcy e code param s).butCan = s.butCan := by
  refine eachCan_butCan _ (fun c t => ?_) s
  split
  · exact canQueue_butCan ..
  · rfl

/-! ### Snapshots and alarms -/

/-- A snapshot trigger that waits for its place in the grain is noted alone (R17, R31). -/
theorem snapLater_butAlarm (src : Nat) (s : P1) : (snapLater src s).butAlarm = s.butAlarm := rfl

theorem classRise_butAlarm (cls code param : Nat) (s : P1) : (classRise cls code param s).butAlarm = s.butAlarm := by
  unfold classRise
  dsimp only
  split
  · exact (snapLater_butAlarm ..).trans (P1.butAlarm_of_can (emcy_butCan ..))
  · exact P1.butAlarm_of_can (emcy_butCan ..)

theorem raiseIn_butAlarm (cls code param : Nat) (s : P1) : (raiseIn cls code param s).butAlarm = s.butAlarm := by
  unfold raiseIn
  dsimp only
  split
  · rfl
  · split
    · exact (classRise_butAlarm ..).trans (by simp [P1.butAlarm, showAlarms])
    · split <;> exact (classRise_butAlarm ..).trans (by simp [P1.butAlarm, showAlarms])

/-- Raising an alarm touches the alarm list, its objects, EMCY frames and a snapshot. -/
theorem raise_butAlarm (code param : Nat) (s : P1) : (raise code param s).butAlarm = s.butAlarm := raiseIn_butAlarm ..

/-- The end of an alarm touches the alarm list, its objects and EMCY frames. -/
theorem lower_butAlarm (code param : Nat) (s : P1) : (lower code param s).butAlarm = s.butAlarm := by
  unfold lower
  dsimp only
  split
  · split
    · simp [P1.butAlarm, showAlarms]
    · exact (P1.butAlarm_of_can (emcy_butCan ..)).trans (by simp [P1.butAlarm, showAlarms])
  · rfl

theorem recordAlarm_butAlarm (bad : Bool) (code p q : Nat) (s : P1) :
    (recordAlarm bad code p q s).butAlarm = s.butAlarm := by
  unfold recordAlarm
  dsimp only
  split
  · exact (raise_butAlarm ..).trans (P1.butAlarm_of_can (P1.butCan_of_record (record_butRecord ..)))
  · exact (lower_butAlarm ..).trans (P1.butAlarm_of_can (P1.butCan_of_record (record_butRecord ..)))

/-! ### Answers -/

theorem sendResponse_butAnswer (i : Nat) (a : Answer) (s : P1) : (sendResponse i a s).butAnswer = s.butAnswer := by
  unfold sendResponse
  dsimp only
  repeat' split
  all_goals rfl

/-- An answer is kept in its session, sent on its interface, or queued on its CAN channel. -/
theorem answerWith_butAnswer (a : Answer) (s : P1) : (answerWith a s).butAnswer = s.butAnswer := by
  unfold answerWith
  dsimp only
  split
  · exact (P1.butAnswer_of_can (canQueue_butCan ..)).trans rfl
  · split
    · exact (sendResponse_butAnswer ..).trans rfl
    · rfl

/-- An answer leaves all but the response and what a CAN response that finds no room touches. -/
theorem answer_butAnswer (w k abort : Nat) (s : P1) : (answer w k abort s).butAnswer = s.butAnswer := by
  unfold answer
  split
  · rfl
  · exact answerWith_butAnswer ..

/-! ### Forwarding and staging -/

/-- Forwarding adds to the writes of the coming cycle alone (R468). -/
theorem forward_frame (w k : Nat) (x : Val) (s : P1) :
    forward w k x s = { s with red := { s.red with forward := (forward w k x s).red.forward } } := by
  unfold forward
  split
  · split <;> rfl
  · rfl

/-- Staging adds to the staged writes alone (R468). -/
theorem stage_frame (k : Nat) (x : Val) (s : P1) :
    stage k x s = { s with red := { s.red with staged := (stage k x s).red.staged } } := by
  cases x <;> rfl

/-- A write that P1 does not take is owed its answer or recorded. -/
theorem discard_frame (kind w d k : Nat) (s : P1) :
    { discard kind w d k s with od := [], recorder := Recorder.reset, owed := [] } =
      { s with od := [], recorder := Recorder.reset, owed := [] } := by
  unfold discard
  split
  · rfl
  · split
    · rfl
    · exact congrArg (fun t : P1 => { t with owed := [] }) (record_butRecord 0x0258 _ s)

end Sys2Proof.Machine
end

