-- ==== Sys2Proof/Laws/Cells.lean ====
section
/-! SUPPORT. The stored maps: the object map of numeric cells and the map of contents. -/

namespace Sys2Proof.Machine

/-! ### The object map -/

/-- A cell of a map with an inserted entry. -/
theorem odGet_odInsert (k j : Nat) (v : Int) :
    ∀ o : Od, odGet (odInsert k v o) j = if j = k then v else odGet o j
  | [] => by
    by_cases h : j = k
    · simp [odInsert, odGet, h]
    · simp [odInsert, odGet, h, Ne.symm h]
  | e :: r => by
    by_cases h : j = k
    · subst h
      simp only [odInsert]
      split
      · simp [odGet]
      · split
        · simp [odGet]
        · rename_i h1 h2
          simp [odGet, Ne.symm h2, odGet_odInsert j j v r]
    · simp only [odInsert]
      split
      · simp [odGet, Ne.symm h]
      · split
        · rename_i h1 h2
          subst h2
          simp [odGet, Ne.symm h]
        · simp [odGet, h, odGet_odInsert k j v r]

/-- A map that rises above a key does not list it. -/
theorem odGet_of_rising (k : Nat) : ∀ (lo : Nat) (o : Od), odRising lo o = true → k < lo → odGet o k = defaultOf k
  | _, [], _, _ => rfl
  | lo, e :: r, h, hk => by
    simp only [odRising, Bool.and_eq_true, decide_eq_true_eq] at h
    simp only [odGet]
    rw [if_neg (by omega)]
    exact odGet_of_rising k (e.1 + 1) r h.2 (by omega)

/-- A cell of a rising map with an entry erased. -/
theorem odGet_odErase (k j : Nat) : ∀ (lo : Nat) (o : Od), odRising lo o = true →
    odGet (odErase k o) j = if j = k then defaultOf k else odGet o j
  | _, [], _ => by by_cases h : j = k <;> simp [odErase, odGet, h]
  | lo, e :: r, hr => by
    simp only [odRising, Bool.and_eq_true, decide_eq_true_eq] at hr
    simp only [odErase]
    split
    · rename_i he
      by_cases h : j = k
      · subst h
        simp [odGet_of_rising j (e.1 + 1) r hr.2 (by omega)]
      · simp [odGet, h, he, Ne.symm h]
    · rename_i he
      have ih := odGet_odErase k j (e.1 + 1) r hr.2
      by_cases h : j = k
      · subst h
        simp [odGet, he, ih]
      · simp [odGet, ih, h]

theorem odRising_odInsert (k : Nat) (v : Int) : ∀ (lo : Nat) (o : Od), lo ≤ k → odRising lo o = true →
    odRising lo (odInsert k v o) = true
  | lo, [], hk, _ => by simp [odInsert, odRising, hk]
  | lo, e :: r, hk, h => by
    simp only [odRising, Bool.and_eq_true, decide_eq_true_eq] at h
    simp only [odInsert]
    split
    · simp only [odRising, Bool.and_eq_true, decide_eq_true_eq]
      exact ⟨hk, by omega, h.2⟩
    · split
      · rename_i h2
        simp only [odRising, Bool.and_eq_true, decide_eq_true_eq]
        exact ⟨hk, by rw [h2]; exact h.2⟩
      · simp only [odRising, Bool.and_eq_true, decide_eq_true_eq]
        exact ⟨h.1, odRising_odInsert k v (e.1 + 1) r (by omega) h.2⟩

theorem odRising_mono : ∀ (lo hi : Nat) (o : Od), lo ≤ hi → odRising hi o = true → odRising lo o = true
  | _, _, [], _, _ => rfl
  | lo, hi, e :: r, hl, h => by
    simp only [odRising, Bool.and_eq_true, decide_eq_true_eq] at h ⊢
    exact ⟨by omega, h.2⟩

theorem odRising_odErase (k : Nat) : ∀ (lo : Nat) (o : Od), odRising lo o = true → odRising lo (odErase k o) = true
  | _, [], _ => rfl
  | lo, e :: r, h => by
    simp only [odRising, Bool.and_eq_true, decide_eq_true_eq] at h
    simp only [odErase]
    split
    · exact odRising_mono lo (e.1 + 1) r (by omega) h.2
    · simp only [odRising, Bool.and_eq_true, decide_eq_true_eq]
      exact ⟨h.1, odRising_odErase k (e.1 + 1) r h.2⟩

/-- An inserted entry is listed beside those that were. -/
theorem mem_odInsert (k : Nat) (v : Int) (e : Nat × Int) : ∀ o : Od, e ∈ odInsert k v o → e = (k, v) ∨ e ∈ o
  | [], h => by simpa [odInsert] using h
  | x :: r, h => by
    simp only [odInsert] at h
    split at h
    · simpa using h
    · split at h
      · rcases List.mem_cons.mp h with h | h
        · exact .inl h
        · exact .inr (List.mem_cons_of_mem _ h)
      · rcases List.mem_cons.mp h with h | h
        · exact .inr (by simp [h])
        · exact (mem_odInsert k v e r h).imp id (List.mem_cons_of_mem _)

theorem mem_odErase (k : Nat) (e : Nat × Int) : ∀ o : Od, e ∈ odErase k o → e ∈ o
  | [], h => h
  | x :: r, h => by
    simp only [odErase] at h
    split at h
    · exact List.mem_cons_of_mem _ h
    · rcases List.mem_cons.mp h with h | h
      · simp [h]
      · exact List.mem_cons_of_mem _ (mem_odErase k e r h)

/-! ### Contents -/

theorem domGet_domInsert (k j : Nat) (v : DomVal) :
    ∀ o : Doms, domGet (domInsert k v o) j = if j = k then v else domGet o j
  | [] => by
    by_cases h : j = k
    · simp [domInsert, domGet, h]
    · simp [domInsert, domGet, h, Ne.symm h]
  | e :: r => by
    by_cases h : j = k
    · subst h
      simp only [domInsert]
      split
      · simp [domGet]
      · split
        · simp [domGet]
        · rename_i h1 h2
          simp [domGet, Ne.symm h2, domGet_domInsert j j v r]
    · simp only [domInsert]
      split
      · simp [domGet, Ne.symm h]
      · split
        · rename_i h1 h2
          subst h2
          simp [domGet, Ne.symm h]
        · simp [domGet, h, domGet_domInsert k j v r]

/-- A content reads back as written, with its generation one higher (R543). -/
@[simp] theorem P1.setOctets_octets (k : Nat) (b : List Byte) (s : P1) : (s.setOctets k b).octets k = b := by
  simp [P1.octets, P1.setOctets, domGet_domInsert]

@[simp] theorem P1.setOctets_gen (k : Nat) (b : List Byte) (s : P1) : (s.setOctets k b).gen k = s.gen k + 1 := by
  simp [P1.gen, P1.setOctets, domGet_domInsert]

/-- A write of a content leaves every other content alone. -/
theorem P1.setOctets_other (k j : Nat) (b : List Byte) (s : P1) (h : j ≠ k) : (s.setOctets k b).octets j = s.octets j := by
  simp [P1.octets, P1.setOctets, domGet_domInsert, h]

end Sys2Proof.Machine
end

