-- ==== Sys2Proof/Laws/Guard.lean ====
section
/-! SUPPORT. What the evaluation of P2's channels can touch (R393, R399, R405, R408). -/

namespace Sys2Proof.Machine

/-- P2 but for its reports to the core. -/
def P2.butReports (p : P2) : P2 := { p with reports := [], lostReports := 0 }

/-- A channel but for its switches and AWAIT_RESTART. -/
def GuardChan.butSwitches (c : GuardChan) : GuardChan :=
  { c with await := GuardChan.reset.await, closed := GuardChan.reset.closed }

/-- P2 but for what the evaluation of an event writes: switches and AWAIT_RESTART, the end of a disagreement, a test that
gives way, and the reports. -/
def P2.butEvaluation (p : P2) : P2 :=
  { p with reports := [], lostReports := 0, saf := p.saf.butSwitches, win := p.win.butSwitches,
           disagree := P2.reset.disagree, differ := P2.reset.differ, slot := none, pulse := none, passed := false, skipped := 0 }

theorem report_butReports (code param : Nat) (p : P2) : (report code param p).butReports = p.butReports := by
  unfold report
  split
  · rfl
  · split <;> rfl

theorem reportIf_butReports (b : Bool) (code param : Nat) (p : P2) : (reportIf b code param p).butReports = p.butReports := by
  unfold reportIf
  split
  · exact report_butReports ..
  · rfl

/-- A fold of reports changes reports alone. -/
theorem foldl_butReports {α : Type} (f : P2 → α → P2) (hf : ∀ t a, (f t a).butReports = t.butReports) :
    ∀ (l : List α) (p : P2), (l.foldl f p).butReports = p.butReports
  | [], _ => rfl
  | a :: l, p => (foldl_butReports f hf l (f p a)).trans (hf p a)

theorem reportDemands_butReports (old p : P2) : (reportDemands old p).butReports = p.butReports :=
  foldl_butReports _ (fun t _ => reportIf_butReports _ _ _ t) _ p

theorem reportInhibits_butReports (old p : P2) : (reportInhibits old p).butReports = p.butReports :=
  foldl_butReports _ (fun t _ => reportIf_butReports _ _ _ t) _ p

theorem reportClosed_butReports (old p : P2) : (reportClosed old p).butReports = p.butReports :=
  foldl_butReports _ (fun t _ => reportIf_butReports _ _ _ t) _ p

/-- The three reports of an event change reports alone. -/
theorem reports_butReports (old p : P2) :
    (reportClosed old (reportInhibits old (reportDemands old p))).butReports = p.butReports :=
  (reportClosed_butReports ..).trans ((reportInhibits_butReports ..).trans (reportDemands_butReports ..))

/-- A test that gives way changes the slot, the pulse, its count and the reports. -/
theorem abandonTest_butReports (old p : P2) :
    { (abandonTest old p).butReports with slot := none, pulse := none, passed := false, skipped := 0 } =
      { p.butReports with slot := none, pulse := none, passed := false, skipped := 0 } := by
  unfold abandonTest
  split
  · rfl
  · split
    · exact congrArg (fun q : P2 => { q with slot := none, pulse := none, passed := false, skipped := 0 }) (report_butReports 0x0C04 _ _)
    · rfl

/-- Settling an event leaves the block, the inputs, the regions, the results and the flags of P2 as the event left them. -/
theorem settle_butEvaluation (old new : P2) : (settle old new).butEvaluation = new.butEvaluation := by
  unfold settle
  have h := (abandonTest_butReports old (reportClosed old (reportInhibits old (reportDemands old (evaluate (compareRegions new))))))
  rw [reports_butReports] at h
  have k := congrArg P2.butEvaluation h
  generalize abandonTest old _ = q at k
  simpa [P2.butEvaluation, P2.butReports, evaluate, compareRegions, evalChan, GuardChan.butSwitches] using k

end Sys2Proof.Machine
end

