-- ==== Sys2Proof/Laws/Requests.lean ====
section
/-! SUPPORT. What a request can do: the verdict of a rule against the verdict of the general tests, and the outcome of an
accepted or refused write. -/

namespace Sys2Proof.Machine

/-- The abort of an object that Commissioning alone may write is never 0. -/
theorem modeAbort_ne (k : Nat) : modeAbort k ≠ 0 := by
  unfold modeAbort
  split <;> decide

/-- The verdict on an accepted write is that of its object's own tests, in their order (R538). -/
theorem verdict_own {w k : Nat} {x : Val} {r : Rule P1} {p : P1} (h : accepted w k x p) :
    verdict w k x r p = if r.mode p ≠ 0 then r.mode p else if r.check p ≠ 0 then r.check p else r.busy p := by
  have h0 := h.1
  unfold verdict at h0 ⊢
  by_cases e1 : (!indexExists (k / 256)) = true
  · rw [if_pos e1] at h0; cases h0
  rw [if_neg e1] at h0 ⊢
  cases e2 : rowOf k with
  | none => rw [e2] at h0; cases h0
  | some row =>
    rw [e2] at h0
    dsimp only at h0 ⊢
    by_cases f1 : row.acc = .ro
    · rw [if_pos f1] at h0; cases h0
    rw [if_neg f1] at h0 ⊢
    by_cases f2 : (!sizeOk row x) = true
    · rw [if_pos f2] at h0; cases h0
    rw [if_neg f2] at h0 ⊢
    by_cases f3 : (w ≠ 0 && row.acc = .rwc && p.mode ≠ 1) = true
    · rw [if_pos f3] at h0; exact absurd h0 (modeAbort_ne k)
    rw [if_neg f3] at h0 ⊢
    by_cases f4 : (w ≠ 0 && p.setSize ≠ 1 && p.role = 1 && forwarded k row.acc) = true
    · rw [if_pos f4] at h0; cases h0
    rw [if_neg f4] at h0 ⊢
    rw [if_neg (show ¬ (effRule (id : P1 → P1)).mode p ≠ 0 from fun c => c rfl)] at h0
    by_cases m : r.mode p ≠ 0
    · rw [if_pos m, if_pos m]
    rw [if_neg m, if_neg m]
    by_cases f5 : ((row.acc = .rwc || row.acc = .rwa) && !authorised w p) = true
    · rw [if_pos f5] at h0; cases h0
    rw [if_neg f5] at h0 ⊢
    by_cases f6 : (!row.rng.admits row.ty x) = true
    · rw [if_pos f6] at h0; cases h0
    rw [if_neg f6] at h0 ⊢
    rw [if_neg (show ¬ (effRule (id : P1 → P1)).check p ≠ 0 from fun c => c rfl)] at h0
    by_cases n : r.check p ≠ 0
    · rw [if_pos n, if_pos n]
    rw [if_neg n, if_neg n]
    by_cases f7 : heldByOther w k p = true
    · rw [if_pos f7] at h0; cases h0
    rw [if_neg f7] at h0 ⊢
    by_cases f8 : (p.red.staged.any fun g => g.key = k) = true
    · rw [if_pos f8] at h0; cases h0
    rw [if_neg f8] at h0 ⊢
    by_cases f9 : (row.ty ≠ .domain && noRoom w k row x p) = true
    · rw [if_pos f9] at h0; cases h0
    rw [if_neg f9]

/-- A write passes every test of R538 when it passes the general ones and those of its object. -/
theorem verdict_of_accepted {w k : Nat} {x : Val} {r : Rule P1} {p : P1} (h : accepted w k x p)
    (hm : r.mode p = 0) (hc : r.check p = 0) (hb : r.busy p = 0) : verdict w k x r p = 0 := by
  simp [verdict_own h, hm, hc, hb]

/-- The verdict of a write that its object's mode test refuses. -/
theorem verdict_modeRefused {w k a : Nat} {x : Val} {r : Rule P1} {p : P1} (h : accepted w k x p) (ha : a ≠ 0)
    (hm : r.mode p = a) : verdict w k x r p = a := by
  simp [verdict_own h, hm, ha]

/-- The verdict of a write that its object's content test refuses. -/
theorem verdict_checkRefused {w k a : Nat} {x : Val} {r : Rule P1} {p : P1} (h : accepted w k x p) (ha : a ≠ 0)
    (hm : r.mode p = 0) (hc : r.check p = a) : verdict w k x r p = a := by
  simp [verdict_own h, hm, hc, ha]

/-- The verdict of a write that its object's busy test refuses. -/
theorem verdict_busyRefused {w k a : Nat} {x : Val} {r : Rule P1} {p : P1} (h : accepted w k x p)
    (hm : r.mode p = 0) (hc : r.check p = 0) (hb : r.busy p = a) : verdict w k x r p = a := by
  simp [verdict_own h, hm, hc, hb]

/-- An accepted write that is not staged has its effect, is forwarded and answered. -/
theorem request_accepted {w k : Nat} {x : Val} {r : Rule P1} {p : P1} (h : accepted w k x p)
    (hm : r.mode p = 0) (hc : r.check p = 0) (hb : r.busy p = 0) :
    request w k x r p = answer w k 0 (forward w k x (r.eff p)) := by
  have e : takeEffect k x r.eff p = r.eff p := by
    unfold takeEffect
    rw [h.2.2]
    rfl
  simp [request, requestWith, verdict_of_accepted h hm hc hb, h.2.1, e]

/-- A refused write leaves what its rule says and is answered with its abort. -/
theorem request_refused {w k : Nat} {x : Val} {r : Rule P1} {p : P1} (h : verdict w k x r p ≠ 0) :
    request w k x r p = answer w k (verdict w k x r p) (r.refused (verdict w k x r p) p) := by
  simp [request, requestWith, h]

/-- The outcome of an accepted write of P1. -/
theorem onReq_accepted {w k : Nat} {x : Val} {r : Rule P1} {s : State} (hr : s.p1.serves = true)
    (h : accepted w k x s.p1) (hm : r.mode s.p1 = 0) (hc : r.check s.p1 = 0) (hb : r.busy s.p1 = 0) :
    onReq w k x r s = .next (written w k x r.eff s) := by
  simp [onReq, hr, request_accepted h hm hc hb, written]

/-- The outcome of an accepted write with an effect alone. -/
theorem onReq_eff {w k : Nat} {x : Val} {f : P1 → P1} {s : State} (hr : s.p1.serves = true)
    (h : accepted w k x s.p1) : onReq w k x (effRule f) s = .next (written w k x f s) :=
  onReq_accepted hr h rfl rfl rfl

/-- The outcome of an accepted write with a content test. -/
theorem onReq_check {w k : Nat} {x : Val} {c : P1 → Nat} {f : P1 → P1} {s : State} (hr : s.p1.serves = true)
    (h : accepted w k x s.p1) (hc : c s.p1 = 0) :
    onReq w k x (checkRule c f) s = .next (written w k x f s) :=
  onReq_accepted hr h rfl hc rfl

/-- A write that an object's own mode test refuses is answered with that abort. -/
theorem onReq_modeRefused {w k a : Nat} {x : Val} {r : Rule P1} {s : State} (hr : s.p1.serves = true)
    (h : accepted w k x s.p1) (ha : a ≠ 0) (hm : r.mode s.p1 = a) :
    onReq w k x r s = .next (s.core (answer w k a (r.refused a s.p1))) := by
  have e : verdict w k x r s.p1 = a := verdict_modeRefused h ha hm
  simp only [onReq, hr, if_true, request_refused (e ▸ ha), e, State.core]

/-- A write that an object's own content test refuses is answered with that abort. -/
theorem onReq_checkRefused {w k a : Nat} {x : Val} {r : Rule P1} {s : State} (hr : s.p1.serves = true)
    (h : accepted w k x s.p1) (ha : a ≠ 0) (hm : r.mode s.p1 = 0) (hc : r.check s.p1 = a) :
    onReq w k x r s = .next (s.core (answer w k a (r.refused a s.p1))) := by
  have e : verdict w k x r s.p1 = a := verdict_checkRefused h ha hm hc
  simp only [onReq, hr, if_true, request_refused (e ▸ ha), e, State.core]

/-- A write that an object's own busy test refuses is answered with that abort. -/
theorem onReq_busyRefused {w k a : Nat} {x : Val} {r : Rule P1} {s : State} (hr : s.p1.serves = true)
    (h : accepted w k x s.p1) (ha : a ≠ 0) (hm : r.mode s.p1 = 0) (hc : r.check s.p1 = 0) (hb : r.busy s.p1 = a) :
    onReq w k x r s = .next (s.core (answer w k a (r.refused a s.p1))) := by
  have e : verdict w k x r s.p1 = a := verdict_busyRefused h hm hc hb
  simp only [onReq, hr, if_true, request_refused (e ▸ ha), e, State.core]

/-- A write of the core leaves the other packages and the queue alone. -/
theorem onReq_coreOnly {w k : Nat} {x : Val} {r : Rule P1} {s t : State} (h : onReq w k x r s = .next t) :
    coreOnly s t := by
  simp only [onReq, Host.Outcome.next.injEq] at h
  subst h
  exact ⟨rfl, rfl, rfl⟩

/-- A measurement is taken while the core runs. -/
theorem onMeasured_run {hit : Fin 64 → P1 → Bool} {f : P1 → P1} {s : State} (h : s.p1.up = true) :
    onMeasured hit f s = .next { s with p1 := f s.p1 } := by
  simp [onMeasured, h]

/-- A measurement leaves the other packages and the queue alone. -/
theorem onMeasured_coreOnly {hit : Fin 64 → P1 → Bool} {f : P1 → P1} {s t : State} (h : onMeasured hit f s = .next t) :
    coreOnly s t := by
  simp only [onMeasured, Host.Outcome.next.injEq] at h
  subst h
  exact ⟨rfl, rfl, rfl⟩

/-- A request that SUP serves beside the writes of objects. -/
theorem onSup_run {f : P1 → P1} {s : State} (h : s.p1.serves = true) : onSup f s = .next { s with p1 := f s.p1 } := by
  simp [onSup, h]

/-- An event of the core acts while it runs. -/
theorem onP1_run {f : P1 → P1} {s : State} (h : s.p1.up = true) : onP1 f s = .next { s with p1 := f s.p1 } := by
  simp [onP1, h]

/-- An event of the core leaves the other packages and the queue alone. -/
theorem onP1_coreOnly {f : P1 → P1} {s t : State} (h : onP1 f s = .next t) : coreOnly s t := by
  unfold onP1 at h
  split at h <;> cases h <;> exact ⟨rfl, rfl, rfl⟩

end Sys2Proof.Machine
end

