-- ==== Sys2Proof/WellFormed.lean ====
section
/-! DEFINITION. Well-formed commands: every operand is one that the spec's encodings and units can carry. The machine has a
meaning for ill-formed ones too; no sender can present one. -/

namespace Sys2Proof.WellFormed

/-- A number of at most `n` bits. -/
def uN (n v : Nat) : Bool := v < 2 ^ n

/-- A number of 8 bits. -/
def u8 (v : Nat) : Bool := uN 8 v
/-- A number of 16 bits. -/
def u16 (v : Nat) : Bool := uN 16 v
/-- A CAN identifier of up to 29 bits (R437). -/
def u29 (v : Nat) : Bool := uN 29 v
/-- A number of 32 bits. -/
def u32 (v : Nat) : Bool := uN 32 v
/-- A MAC address. -/
def u48 (v : Nat) : Bool := uN 48 v
/-- A number of 64 bits. -/
def u64 (v : Nat) : Bool := uN 64 v

/-- A signed number of `n + 1` bits. -/
def iN (n : Nat) (v : Int) : Bool := -(2 : Int) ^ n ≤ v && v < (2 : Int) ^ n

/-- A signed number of 16 bits. -/
def i16 (v : Int) : Bool := iN 15 v
/-- A signed number of 32 bits. -/
def i32 (v : Int) : Bool := iN 31 v
/-- A signed number of 64 bits. -/
def i64 (v : Int) : Bool := iN 63 v

/-- A value of a numeric object: of the types of R534, none is wider than 64 bits. -/
def valueOk (v : Int) : Bool := -(2 : Int) ^ 63 ≤ v && v < (2 : Int) ^ 64

/-- A session: the module itself, AOA 1–16, the SDO servers 17–20 (R544, R549). -/
def sessOk (w : Sess) : Bool := w ≤ 20

/-- Where a mode command comes from. -/
def sourceOk : CmdSource → Bool
  | .panel _ => true
  | .session w => sessOk w

/-- A PGN of 18 bits (R446). -/
def pgnOk (v : Nat) : Bool := uN 18 v

/-- The length of an octet string fits a U32 (R543). -/
def lengthOk (b : List Byte) : Bool := u32 b.length

/-- The head of an AOA datagram (R432). -/
def headOk (h : AoaHead) : Bool := u32 h.ip && u16 h.port && u16 h.session && u16 h.seq

/-- A CAN frame of 11 or 29 identifier bits with at most 2,048 data octets, those of a CAN XL frame (R437). -/
def canOk (f : CanFrame) : Bool := uN (if f.extended then 29 else 11) f.ident && f.data.length ≤ 2048

/-- A job descriptor's fields fit their places (R178). -/
def jobOk (d : JobDesc) : Bool :=
  u32 d.id && u8 d.ty && u8 d.structureNo && u8 d.iterations && u32 d.warmTag && u32 d.deadline && u64 d.inputAddr
    && u32 d.inputLen && u32 d.deltaLen && u64 d.deltaAddr && u64 d.outputAddr && u32 d.outputLen

/-- The source of a template frame (R451). -/
def originOk : FrameSource → Bool
  | .serial _ => true
  | .can _ ident extended => uN (if extended then 29 else 11) ident
  | .udp _ port ip => u16 port && u32 ip

/-- A forwarded write of section 7 (R466). -/
def writeOk (f : ForwardedWrite) : Bool :=
  u16 f.index && u8 f.sub && lengthOk f.value && f.part.all fun p => u32 p.1 && u32 p.2

/-- A mirror has the parts of R466: three generators and degrees of freedom, 16 thrusters, 120 elements, 64 slots. -/
def mirrorOk (m : Mirror) : Bool :=
  u8 m.mode && u8 m.previousMode && u8 m.target && u8 m.grade && m.gens.length = 3 && m.setPoints.length = 7
    && m.law.length = 3 && m.lawOutput.length = 3 && m.lawOutput.all i32 && m.alloc.thrusters.length = 16
    && m.alloc.codes.length = 16 && m.alloc.codes.all (fun c => i16 c.1 && 0 ≤ c.2 && c.2 < 65536) && m.alloc.achieved.length = 3
    && m.estimate.x.length = 120 && m.estimate.diagonal.length = 120 && m.estimate.slots.length = 64 && m.writes.all writeOk

/-- A set message's numbers fit their fields (R464). -/
def messageOk (m : SetMessage) : Bool :=
  u8 m.source && u16 m.seq && u8 m.mode && u8 m.grade && u16 m.health && u8 m.heard && u32 m.setCheck && u64 m.leadSince
    && u8 m.nominee && u8 m.cls && m.mirror.all mirrorOk

/-- The item of a republication (R470). -/
def itemOk : RepubItem → Bool
  | .sentence _ b => lengthOk b
  | .template src b => originOk src && lengthOk b
  | .udpPayload _ b => lengthOk b
  | .datagram _ b => lengthOk b

/-- An event of the safety channel (R419). -/
def eventOk (e : SafetyEvent) : Bool := u16 e.code && u32 e.param

/-- An Announce (R308). -/
def announceOk (a : Announce) : Bool := u8 a.clockClass && u64 a.grandmaster && i16 a.utcOffset

/-- A read of an absolute encoder (R331). -/
def readOk (r : AbsRead) : Bool := u32 r.turn && u32 r.single

/-- A DP frame (R423). -/
def frameOk (f : DpFrame) : Bool := u48 f.source && u16 f.seq && (f.lanId.all fun n => uN 4 n)

/-- A time solution (R292). -/
def gnssTimeOk (g : Option GnssTime) : Bool := g.all fun x => u8 x.sats && u64 x.sigma && i64 x.error

/-- An epoch's fix (R140). -/
def epochOk (f : Option EpochFix) : Bool := f.all fun x => x.residuals.all fun e => u8 e.2.1

/-- Satellites in view (R311): an elevation lies between −π/2 and π/2 in µrad. -/
def viewOk (l : List SatView) : Bool := l.all fun x => u8 x.prn && -1570797 ≤ x.elevation && x.elevation ≤ 1570797

/-- The observables of an epoch (R314). -/
def obsOk (l : List (Fin 3 × ChannelObs)) : Bool :=
  l.all fun x => u16 x.2.cn0 && u64 x.2.pseudorange && u64 x.2.carrierPhase && u32 x.2.doppler && u32 x.2.sigma

/-- Baselines of an epoch (R316). -/
def baseOk (l : List BaselineObs) : Bool := l.all fun x => u32 x.ratioMilli && u32 x.lengthError

/-- Currents in mA. -/
def listOk (l : List Nat) : Bool := l.all u16

end Sys2Proof.WellFormed

namespace Sys2Proof

open WellFormed

/-- A command that a sender can present. -/
def Instr.wf : Instr → Bool
  | .stationCycleStart => true
  | .releaseOverrun => true
  | .servoTick => true
  | .inertialPropagation => true
  | .pllUnlock => true
  | .pllLockHeld => true
  | .stationCycleWrite w v => sessOk w && valueOk v
  | .cycleChangeEffect => true
  | .snapTriggerWrite w v => sessOk w && valueOk v
  | .snapProgrammedTime => true
  | .snapTimeWrite w v => sessOk w && valueOk v
  | .snapLockWrite w v => sessOk w && valueOk v
  | .clearRefusedCount w v => sessOk w && valueOk v
  | .clearCycleStatistics w v => sessOk w && valueOk v
  | .blockFault _ => true
  | .wrespLost _ => true
  | .linkCheckFail _ => true
  | .dieTemperatureAlarm _ tenths => i16 tenths
  | .dieHalt _ _ => true
  | .fieldLogicPowerFail _ => true
  | .coreBrownout => true
  | .supplyInputChange _ _ => true
  | .restartBlock w _ _ => sessOk w
  | .readStatusWordSelect w _ => sessOk w
  | .modeCommandDormant src => sourceOk src
  | .modeCommandCommissioning src => sourceOk src
  | .modeCommandStandby src => sourceOk src
  | .modeCommandManualLever src => sourceOk src
  | .modeCommandJoystick src => sourceOk src
  | .modeCommandJoystickAutoHeading src => sourceOk src
  | .modeCommandAutoPosition src => sourceOk src
  | .modeCommandAutoTrack src => sourceOk src
  | .modeCommandFollowTarget src => sourceOk src
  | .modeCommandWeathervane src => sourceOk src
  | .modeCommandCloseHold src => sourceOk src
  | .modeCommandWinter src => sourceOk src
  | .panelInputAssign w _ v => sessOk w && valueOk v
  | .springStepComplete _ => true
  | .resetInputRelease _ grains _ => u64 grains
  | .resetInputStuck _ => true
  | .resetStuckClear _ => true
  | .powerApplied => true
  | .selfTestComplete _ => true
  | .springStartComplete _ => true
  | .slotEnable w _ v => sessOk w && valueOk v
  | .nmeaSentence _ bytes => lengthOk bytes
  | .udpbcDatagram _ bytes => lengthOk bytes
  | .nmea2000Message _ _ pgnSource bytes => uN 26 pgnSource && lengthOk bytes
  | .fastPacketTimeout _ pgn source => pgnOk pgn && u8 source
  | .templateFrame src bytes => originOk src && lengthOk bytes
  | .lidarSegment _ udpPort ip bytes => u16 udpPort && u32 ip && lengthOk bytes
  | .lidarFrameTimeout _ => true
  | .landmarkPacket _ udpPort ip bytes => u16 udpPort && u32 ip && lengthOk bytes
  | .timeModelBlockEnd _ => true
  | .acceptRefined w _ v => sessOk w && valueOk v
  | .mountCommissionedWrite w _ _ v => sessOk w && valueOk v
  | .structureModelWrite w bytes => sessOk w && lengthOk bytes
  | .markerTableWrite w bytes => sessOk w && lengthOk bytes
  | .slotClearCounters w _ v => sessOk w && valueOk v
  | .disputeLimit => true
  | .headingDisputeLimit => true
  | .disputeSelection w v => sessOk w && valueOk v
  | .recaptureOrigin w v => sessOk w && valueOk v
  | .upgradeTime => true
  | .holdLimit => true
  | .alignIssue => true
  | .suspectClearTime _ => true
  | .clearSuspect w v => sessOk w && valueOk v
  | .jobIssue d => jobOk d
  | .jobStart _ => true
  | .jobComplete _ => true
  | .jobDeadline _ _ => true
  | .engineCheckJob _ _ => true
  | .structureLoad w _ bytes => sessOk w && lengthOk bytes
  | .structureSwap _ => true
  | .testJobDescriptor w bytes => sessOk w && lengthOk bytes
  | .solverClearStatistics w _ v => sessOk w && valueOk v
  | .positionSetpointWrite w _ v => sessOk w && valueOk v
  | .headingSetpointWrite w v => sessOk w && valueOk v
  | .relativeMove w _ v => sessOk w && valueOk v
  | .relativeTurn w v => sessOk w && valueOk v
  | .targetOffsetWrite w _ v => sessOk w && valueOk v
  | .weathervaneWrite w _ v => sessOk w && valueOk v
  | .waypointListWrite w bytes => sessOk w && lengthOk bytes
  | .waypointDwellEnd => true
  | .profileLimitWrite w _ v => sessOk w && valueOk v
  | .waveSample => true
  | .waveRefitIssue => true
  | .waveFitAgeExpiry => true
  | .waveExitTime => true
  | .clearSaturationFlags w v => sessOk w && valueOk v
  | .thrusterFeedbackFrame _ ident bytes => u29 ident && lengthOk bytes
  | .thrustCurveWrite w _ _ bytes => sessOk w && lengthOk bytes
  | .fallbackTableWrite w bytes => sessOk w && lengthOk bytes
  | .generateFallbackTables w v => sessOk w && valueOk v
  | .testThrusterStart w v => sessOk w && valueOk v
  | .testThrusterEnd w v => sessOk w && valueOk v
  | .testDurationExpiry => true
  | .allocationClearStatistics w v => sessOk w && valueOk v
  | .timeSecond gnss => gnssTimeOk gnss
  | .sourceLost _ => true
  | .holdoverLimit => true
  | .leapSecond => true
  | .timeSave => true
  | .ptpSync _ offset pathDelay => i64 offset && u64 pathDelay
  | .ptpAnnounceTimeout => true
  | .secondsRead w => sessOk w
  | .ppsPulse _ qErr => i32 qErr
  | .ppsOnceWrite w _ v => sessOk w && valueOk v
  | .ppsGridWrite w _ _ v => sessOk w && valueOk v
  | .evtEdge _ _ ns => u64 ns
  | .evtEventRead w _ => sessOk w
  | .channelAssignment _ view => viewOk view
  | .channelLockLoss _ _ _ _ => true
  | .gnssEpoch fix obs baselines => epochOk fix && obsOk obs && baseOk baselines
  | .antennaStateChange _ _ current => u16 current
  | .gnssWake => true
  | .gnssWakeEnd => true
  | .refWarm => true
  | .countEdge _ position ns => i32 position && u64 ns
  | .comparePulseEnd _ => true
  | .axisSignalFault _ _ => true
  | .absoluteReadStart _ => true
  | .absoluteReadDone _ r => readOk r
  | .speedWindowEnd _ => true
  | .compareListWrite w _ bytes => sessOk w && lengthOk bytes
  | .compareEntryWrite w _ bytes => sessOk w && lengthOk bytes
  | .compareEventRead w _ => sessOk w
  | .probeLatch _ _ ns _ => u64 ns
  | .probeRecordQueued _ => true
  | .probeRecordRead w _ => sessOk w
  | .indexPulse _ count => i32 count
  | .setPosition w _ v => sessOk w && valueOk v
  | .axisClearCounters w _ v => sessOk w && valueOk v
  | .emulationEnable w _ v => sessOk w && valueOk v
  | .filterOutput _ value _ => i32 value
  | .shuntRetry _ _ => true
  | .fieldFrame _ => true
  | .doCommandWrite w v => sessOk w && valueOk v
  | .aoCodeWrite w _ v => sessOk w && valueOk v
  | .fieldFrameConfirm _ => true
  | .fieldSilence _ => true
  | .fldMeasurement tenMillivolts => u16 tenMillivolts
  | .diEdge _ _ => true
  | .doReadback terminals loaded => u16 terminals && u16 loaded
  | .doShort _ => true
  | .shortRetry _ => true
  | .doThermal _ _ => true
  | .groupLimit _ milliamps => listOk milliamps
  | .clearLatchedFaults w v => sessOk w && valueOk v
  | .aoReadback _ code _ => i16 code
  | .safetyInputChange _ _ _ _ => true
  | .discrepancy _ _ => true
  | .restartPress _ _ drift => i32 drift
  | .restartWrite w v => sessOk w && valueOk v
  | .sectorPulse _ _ => true
  | .positionFrame _ position => i32 position
  | .sectorDisagree _ => true
  | .sectorHold _ => true
  | .channelSilence _ => true
  | .safClockFail => true
  | .testSlot => true
  | .testPulseEnd _ => true
  | .switchFault _ => true
  | .testOverdue _ => true
  | .safetyBlockTransfer => true
  | .startChecksDone _ _ _ => true
  | .safetyBlockWrite w index sub v => sessOk w && u16 index && u8 sub && valueOk v
  | .checkValueEntry w v => sessOk w && valueOk v
  | .confirm w v => sessOk w && valueOk v
  | .safetyReport ev ageMicros => eventOk ev && u64 ageMicros
  | .prpFrameReceived _ f => frameOk f
  | .prpSupervision => true
  | .lanFault _ => true
  | .linkChange _ _ rate => u32 rate
  | .sfpModuleChange _ _ rate => u32 rate
  | .nodeForget source => u48 source
  | .igmpQuery => true
  | .groupEnable w _ v => sessOk w && valueOk v
  | .aoaDatagramDiscard _ => true
  | .aoaRead h index sub => headOk h && u16 index && u8 sub
  | .aoaWrite h index sub data => headOk h && u16 index && u8 sub && lengthOk data
  | .aoaReadSegment h index sub offset length => headOk h && u16 index && u8 sub && u32 offset && u32 length
  | .aoaWriteSegment h index sub offset data _ => headOk h && u16 index && u8 sub && u32 offset && lengthOk data
  | .aoaInformation h index sub => headOk h && u16 index && u8 sub
  | .aoaOpen h identity => headOk h && lengthOk identity
  | .aoaClose h => headOk h
  | .sessionIdle _ => true
  | .receiveBufferTimeout w index sub => sessOk w && u16 index && u8 sub
  | .setMessageSegmentTimeout => true
  | .cycleMessage m => messageOk m
  | .relinquishMessage m => messageOk m
  | .vacancy => true
  | .switchOverRequest w v => sessOk w && valueOk v
  | .rejoinHoldEnd => true
  | .republication _ item arrival => itemOk item && u64 arrival
  | .redundancyClearCounters w v => sessOk w && valueOk v
  | .canFrameSent _ => true
  | .canAttemptFail _ _ => true
  | .canBusOffRecovery _ => true
  | .canFrameExpiry _ => true
  | .canFrameReceived _ f => canOk f
  | .canChannelWrite w _ sub v => sessOk w && u8 sub && valueOk v
  | .canClearCounters w _ v => sessOk w && valueOk v
  | .serialBreak _ => true
  | .serialOverrun _ => true
  | .serialClearCounters w _ v => sessOk w && valueOk v
  | .templateWrite w _ bytes => sessOk w && lengthOk bytes
  | .networkClearCounters w v => sessOk w && valueOk v
  | .periodBoundary => true
  | .recordCommit => true
  | .commitComplete => true
  | .cursorWrite w v => sessOk w && valueOk v
  | .cursorAdvance w v => sessOk w && valueOk v
  | .freeze w v => sessOk w && valueOk v
  | .freezeRelease w v => sessOk w && valueOk v
  | .freezeExpiry => true
  | .clearRequest w v => sessOk w && valueOk v
  | .confirmClear w v => sessOk w && valueOk v
  | .codeLimitWrite w _ v => sessOk w && valueOk v
  | .dmaEnable w _ v => sessOk w && valueOk v
  | .dmaEnqueue w _ bytes => sessOk w && lengthOk bytes
  | .dmaDescriptorStart _ => true
  | .dmaDescriptorComplete _ _ => true
  | .dmaPause w _ v bytesRead => sessOk w && valueOk v && u32 bytesRead
  | .dmaPaused _ => true
  | .dmaResume w _ v => sessOk w && valueOk v
  | .dmaReset w _ v => sessOk w && valueOk v
  | .dmaCompletionRead w _ => sessOk w
  | .storeSave w v => sessOk w && valueOk v
  | .saveStepComplete _ => true
  | .eraseStore w v => sessOk w && valueOk v
  | .parameterWrite w index sub data => sessOk w && u16 index && u8 sub && lengthOk data
  | .sdoDownload _ index sub data _ => u16 index && u8 sub && lengthOk data
  | .sdoUpload _ index sub _ => u16 index && u8 sub
  | .sdoBlockDownload _ index sub data _ _ => u16 index && u8 sub && lengthOk data
  | .sdoBlockUpload _ index sub _ => u16 index && u8 sub
  | .sdoAbort _ => true
  | .sdoTimeout _ => true
  | .sdoServerEnable w _ v => sessOk w && valueOk v
  | .challengeRead w => sessOk w
  | .authorisationResponse w bytes => sessOk w && lengthOk bytes
  | .lockoutEnd => true
  | .giveUpAuthorisation w v => sessOk w && valueOk v
  | .authorisationKeyWrite w bytes => sessOk w && lengthOk bytes
  | .alarmAcknowledge w v => sessOk w && valueOk v
  | .canopenHeartbeat => true
  | .heartbeatEdge _ drift => i32 drift
  | .channelLock _ _ _ _ _ => true
  | .canReceiveError _ increment => u8 increment
  | .ptpAnnounce _ a => announceOk a
  | .ptpMasterSync _ => true
  | .sensorPortDatagram _ _ => true
  | .crossBarrierLinkReturn _ => true
  | .checkValuePlaced _ => true
  | .templateFrameGap _ => true
  | .sentenceSyntaxDiscard _ => true
  | .serialCharacterError _ _ => true

end Sys2Proof
end

