-- ==== Sys2Proof/Tests/Slice0.lean ====
section
/-! SUPPORT. The model's own tests: ill-formed commands that the check refuses, results that the spec gives, and a witness of
the hypotheses of each statement. -/

namespace Sys2Proof.Tests

open Sys2Proof Sys2Proof.Machine

set_option maxRecDepth 20000
set_option Elab.async false

/-- An authorised session. -/
def crew : Session := ⟨1, [], true, 0, 0, 0, 0, 0, 0, 0, 0, 0, none, none, none, none⟩

/-- P1 in a mode, with an authorised session. -/
def inMode (m : Int) : P1 := { P1.reset with sessions := [crew] }.wr kMode m

/-- A state with a P1. -/
def withP1 (p : P1) : State := { State.reset with p1 := p }

/-! Ill-formed commands: one for each check of `Instr.wf`. -/

theorem test_wf_plain : (Instr.slotEnable 20 63 1).wf = true := by decide

theorem test_wf_session : (Instr.slotEnable 21 63 1).wf = false := by decide

theorem test_wf_source : (Instr.modeCommandDormant (.session 21)).wf = false := by decide

theorem test_wf_value : (Instr.slotEnable 1 63 (2 ^ 64)).wf = false := by decide

theorem test_wf_u8 : (Instr.fastPacketTimeout 0 0 256).wf = false := by decide

theorem test_wf_pgn : (Instr.fastPacketTimeout 0 (2 ^ 18) 0).wf = false := by decide

theorem test_wf_u16 : (Instr.lidarSegment 0 65536 0 []).wf = false := by decide

theorem test_wf_u29 : (Instr.thrusterFeedbackFrame 0 (2 ^ 29) []).wf = false := by decide

theorem test_wf_u32 : (Instr.lidarSegment 0 0 (2 ^ 32) []).wf = false := by decide

theorem test_wf_u48 : (Instr.nodeForget (2 ^ 48)).wf = false := by decide

theorem test_wf_u64 : (Instr.ptpSync .a 0 (2 ^ 64)).wf = false := by decide

theorem test_wf_i16 : (Instr.dieTemperatureAlarm .f1 (-32769)).wf = false := by decide

theorem test_wf_i32 : (Instr.ppsPulse 0 (2 ^ 31)).wf = false := by decide

theorem test_wf_i64 : (Instr.ptpSync .a (2 ^ 63) 0).wf = false := by decide

theorem test_wf_length (b : List Byte) (h : b.length = 4294967296) : (Instr.nmeaSentence 0 b).wf = false := by
  show WellFormed.lengthOk b = false
  simp [WellFormed.lengthOk, WellFormed.u32, WellFormed.uN, h]

theorem test_wf_head : (Instr.aoaClose ⟨.dp, 0, 65536, 1, 0⟩).wf = false := by decide

theorem test_wf_can : (Instr.canFrameReceived 0 ⟨0x800, false, []⟩).wf = false := by decide

theorem test_wf_job : (Instr.jobIssue ⟨0, 256, 0, 0, false, false, 0, 0, 0, 0, 0, 0, 0, 0⟩).wf = false := by decide

theorem test_wf_origin : (Instr.templateFrame (.udp 0 65536 0) []).wf = false := by decide

theorem test_wf_message :
    (Instr.cycleMessage ⟨256, 0, .lead, 2, 1, 0, true, true, false, false, 0, 0, 0, 0, 0, none⟩).wf = false := by decide

theorem test_wf_item : (Instr.republication 0 (.template (.can 0 0x800 false) []) 0).wf = false := by decide

theorem test_wf_event : (Instr.safetyReport ⟨65536, 0⟩ 0).wf = false := by decide

theorem test_wf_announce : (Instr.ptpAnnounce .a ⟨256, 0, 0, 0, false, false⟩).wf = false := by decide

theorem test_wf_read : (Instr.absoluteReadDone 0 ⟨true, false, false, true, 2 ^ 32, 0⟩).wf = false := by decide

theorem test_wf_frame : (Instr.prpFrameReceived .a ⟨0, some 16, 0, false, .other⟩).wf = false := by decide

theorem test_wf_gnss_time : (Instr.timeSecond (some ⟨256, true, 0, 0⟩)).wf = false := by decide

theorem test_wf_epoch : (Instr.gnssEpoch (some ⟨[(.gps, 256, 0)]⟩) [] []).wf = false := by decide

theorem test_wf_view : (Instr.channelAssignment 0 [⟨.gps, 1, 1570798⟩]).wf = false := by decide

theorem test_wf_observables : (Instr.gnssEpoch none [(0, ⟨0, false, false, 65536, 0, 0, 0, 0, 0⟩)] []).wf = false := by decide

theorem test_wf_baselines : (Instr.gnssEpoch none [] [⟨2 ^ 32, 0⟩]).wf = false := by decide

theorem test_wf_currents : (Instr.groupLimit 0 [65536]).wf = false := by decide

theorem witness_StepRunsFrontCommand :
    ({ State.reset with pending := [.testSlot, .pllUnlock] } : State).pending = .testSlot :: [.pllUnlock] := rfl

theorem witness_EmptyQueuePassesOneGrain : State.reset.pending = [] ∧ State.reset.p1.phase ≠ .off ∧ State.reset.p1.asleep = [] := by
  decide +kernel

theorem witness_CommandsKeepQueue : exec .pllLockHeld State.reset = .next { State.reset with
    p1 := State.reset.p1.setBits kClock [(0, true), (1, true)] } := rfl

theorem witness_CoreCommandsLeaveOtherPackages : coreCommand .pllUnlock = true ∧ coreCommand (.canFrameSent 3) = true := by
  decide +kernel

theorem witness_ClosedSwitchesKeepTheirGrounds : switchesSafe State.reset ∧ ∃ t, step State.reset = .next t :=
  ⟨fun g => ⟨fun h => absurd h (by revert g; decide), fun h => absurd h (by revert g; decide)⟩, _, rfl⟩

theorem witness_CellReadsBackWhatWasWritten : odWf P1.reset.od = true := by decide

theorem witness_AnswersTouchOnlyTheirCounters : odWf (answer 3 (ob 0x2000 1) 0 P1.reset).od = true := by decide

theorem witness_ForwardingTouchesNoCell : P1.reset.setSize = 1 ∨ P1.reset.role ≠ 2 := by decide

theorem witness_ClockWritesTakeEffect :
    accepted 1 (ob 0x2000 1) (.num 3) (inMode 1) ∧ accepted 1 (ob 0x2300 2) (.num 1) (inMode 2)
      ∧ accepted 1 (ob 0x2300 0x0D) (.num 1) (inMode 2) ∧ accepted 1 (ob 0x2001 5) (.num 1) (inMode 2)
      ∧ accepted 1 (ob 0x2300 0x0A) (.num 1000) (inMode 2) ∧ accepted 1 (ob 0x2300 1) (.num 1) (inMode 2)
      ∧ accepted 1 (ob 0x2300 0x0A) (.num 999) (inMode 2)
      ∧ snapRefused (inMode 2) = false ∧ (inMode 2).serves = true := by
  unfold accepted; decide +kernel

theorem witness_CycleAndSnapshotEvents :
    { inMode 1 with cyclePending := some (3, 0), elapsed := 1 }.cyclePending = some (3, 0) ∧ (inMode 1).grainIndex % 20000 = 0 ∧ (inMode 1).cyclePending = none
      ∧ ((inMode 1).wr (ob 0x2300 0x0A) 1000).rd (ob 0x2300 0x0A) ≠ 0 ∧ (inMode 1).rd (ob 0x2300 0x0A) = 0
      ∧ odWf (inMode 1).od = true ∧ snapRefused (inMode 1) = false ∧ (inMode 1).snapGrain ≠ some (inMode 1).elapsed := by
  decide

theorem witness_LockedSnapshotRefusesTriggers :
    accepted 1 (ob 0x2300 1) (.num 1) (((inMode 1).wr (ob 0x2300 2) 1).wr (ob 0x2300 3) 5)
      ∧ (((inMode 1).wr (ob 0x2300 2) 1).wr (ob 0x2300 3) 5).rd (ob 0x2300 3) ≠ 0 := by
  unfold accepted; decide +kernel

/-- A Lead with a cycle open at its G+900, and a running total of overruns. -/
def lateCycle (n : Nat) : P1 := { inMode 6 with alc := { P1.reset.alc with opened := true }, overrunRun := n, ns := 900000 }

/-- A Shadow in a set of two that has heard no Lead for 3 cycles. -/
def orphan : P1 := ((((inMode 6).wr kRole 1).wr (ob 0x6400 2) 2).wr (ob 0x6400 5) 40000).setField (ob 0x6400 1) 12 4 3

theorem witness_StationCycleRunsItsStages :
    (inMode 0).mode = 0 ∧ (inMode 6).mode ≠ 0 ∧ (timeStep (overrunWork (inMode 6))).2 = false ∧ (inMode 6).alc.opened = false
      ∧ (inMode 6).grainIndex % (inMode 6).cycleLen = 0
      ∧ (lateCycle 1).alc.opened = true ∧ (lateCycle 1).overrunRun < 2 ∧ 2 ≤ (lateCycle 2).overrunRun
      ∧ vacancyHere (inMode 6) = false ∧ vacancyHere orphan = true :=
  ⟨rfl, by decide, rfl, rfl, by decide, rfl, by decide, by decide, rfl, rfl⟩

theorem witness_ServoTickRunsSpeedsGeneratorsLoops :
    (inMode 3).up = true ∧ (inMode 3).grainIndex % 1000 = 0 ∧ (inMode 3).ctl.tickAt ≠ some (inMode 3).elapsed ∧ (inMode 3).mode ≠ 0 ∧ (inMode 3).stopped (ctlAddr 1) = false ∧ (inMode 0).mode = 0
      ∧ (inMode 3).rd (loopKey 31 1) = 0 ∧ ((inMode 3).wr (loopKey 31 1) 1).rd (loopKey 31 1) ≠ 0
      ∧ loopFed 31 ((inMode 3).wr (loopKey 31 1) 1) = false := ⟨rfl, by decide, by decide, by decide, rfl, rfl, by decide, by decide, rfl⟩

theorem witness_UnnamedUnitIsRefused : accepted 1 (ob 0x2200 7) (.num 0x7FFFFC00) (inMode 2) ∧ unitOf 0x7FFFFC00 = none
    ∧ accepted 1 (ob 0x2200 7) (.num 0x40000400) (inMode 2) ∧ (unitOf 0x40000400).isSome = true ∧ (inMode 2).serves = true
    ∧ odWf (inMode 2).od = true := by
  unfold accepted; decide +kernel

theorem witness_FaultsAreReportedOnceAtTheirBlock :
    (0x40000405 : Word32).toNat / 2 ^ 30 % 4 = 1 ∧ (inMode 2).stopped (blockOf 0x40000405) = false
      ∧ { inMode 2 with faults := [⟨0x3FFFFC0B, 0, 0⟩] }.stopped (blockOf 0x40000405) = false
      ∧ contained 0x40000405 { inMode 2 with faults := [⟨0x3FFFFC0B, 0, 0⟩] } = true
      ∧ contained 0x40000405 { inMode 2 with faults := [⟨0x47FFFC08, 0, 0⟩] } = true
      ∧ { inMode 2 with faults := [⟨0x47FFFC08, 0, 0⟩] }.stopped (blockOf 0x40000405) = true
      ∧ (0x3FFFFC0B : Word32).toNat / 2 ^ 30 % 4 = 0 ∧ contained 0x3FFFFC0B (inMode 2) = false
      ∧ contained 0x3FFFFC08 { inMode 2 with faults := [⟨0x3FFFFC0B, 0, 0⟩] } = true
      ∧ (onP2 (stopChannel .saf) State.reset).p1.phase = .run
      ∧ (onP2 (fun p => { p with powered := false, link := false }) State.reset).p1.phase = .run
      ∧ (syncField { State.reset with p3 := { State.reset.p3 with powered := false } }).p1.phase = .run :=
  ⟨by decide, rfl, rfl, rfl, rfl, rfl, by decide, rfl, rfl, rfl, rfl, rfl⟩

theorem witness_LinksHaltsAndSupplies :
    { inMode 2 with linkTries := Vector.replicate 7 (2, 0) }.linkTries[dieIdx .g] = (2, 0)
      ∧ { inMode 2 with linkTries := Vector.replicate 7 (3, 0) }.linkTries[dieIdx .f1] = (3, 0)
      ∧ dieState .f1 (inMode 2) = 0 ∧ (inMode 2).up = true ∧ dieState .f1 (raise 0x0015 6 (inMode 2)) = 1
      ∧ (inMode 2).supply[supplyIdx .pwrB] ≠ false ∧ (inMode 2).supply[1 - supplyIdx .pwrB] = true ∧ State.reset.p2.powered = true
      ∧ (onP2 (guardFault (dieBlock .w)) State.reset).p1.phase = .run
      ∧ (syncField { State.reset with p3 := fieldFault (dieBlock .f0) State.reset.p3 }).p1.phase = .run
      ∧ State.reset.p1.fldLink[(1 : Fin 2)] = true :=
  ⟨rfl, rfl, by decide, rfl, by decide +kernel, by decide, rfl, rfl, rfl, rfl, rfl⟩

theorem witness_BlockRestartRunsSelfTest :
    verdict 1 (ob 0x2200 5) (.num 0x40000400) (effRule id) (inMode 11) = 0 ∧ restartable 0x40000400 = true
      ∧ holdsEngine 0x40000400 = true ∧ (inMode 11).serves = true ∧ verdict 1 (ob 0x2200 5) (.num 0x80000000) (effRule id) (inMode 11) = 0
      ∧ restartable 0x80000000 = true ∧ stages 1 (ob 0x2200 5) (.num 0x80000000) (inMode 11) = false := by decide

theorem witness_ModeCommandsFollowTheTable :
    (inMode 6).role = 2 ∧ springing (inMode 6) = false
      ∧ (∀ n : Fin 12, (commandPairs.find? fun e => e.1 = n.val).isSome = true)
      ∧ conditionReason (inMode 6).mode 3 false (inMode 6) = 0 ∧ ((inMode 6).wr (ob 0x2101 4) 31).rdN (ob 0x2101 4) = 31
      ∧ accepted 1 (ob 0x2100 1) (.num 1) (inMode 2) ∧ conditionReason 2 1 (authorised 1 (inMode 2)) (inMode 2) = 0
      ∧ (inMode 11).mode = 11 ∧ ((inMode 11).wr (ob 0x2101 3) 0).rdN (ob 0x2101 3) = 0
      ∧ ((inMode 6).wr (ob 0x2101 7) 5).rdN (ob 0x2101 7) = 5 :=
  ⟨by decide, rfl, by decide, rfl, by decide, ⟨rfl, rfl, rfl⟩, rfl, by decide, by decide, by decide⟩

theorem witness_AcceptedModeChangeShowsItself :
    odWf (inMode 6).od = true ∧ (inMode 6).mode < 256 ∧ (inMode 6).rd kMode = (inMode 6).mode
      ∧ (inMode 6).bit kModeStatus 0 = false
      ∧ ((inMode 6).setBit kModeStatus 0 true).bit kModeStatus 0 = true := by decide

theorem witness_SpringStepsAndPanelInputs :
    springing { (inMode 11).setBit kModeStatus 2 true with springStep := 5 } = true
      ∧ feedbackHealthy { (inMode 11).setBit kModeStatus 2 true with springStep := 5 } = true
      ∧ (inMode 11).up = true ∧ (inMode 1).serves = true ∧ (inMode 11 |>.setBits kClock [(0, true), (1, true)]).bit kClock 1 = true
      ∧ springing (inMode 11) = false ∧ accepted 1 (ob 0x2101 12) (.num 31) (inMode 1)
      ∧ ∀ j : Fin 12, (inMode 1).rd (ob 0x2101 (j + 1)) ≠ 31 := ⟨by decide, rfl, rfl, rfl, by decide, by decide, ⟨rfl, rfl, rfl⟩, by decide⟩

theorem witness_ResetsAndStarts :
    State.reset.p1.phase ≠ .off ∧ State.reset.p1.stuck[resetIdx .resetN] = false
      ∧ { State.reset.p1 with phase := .off }.phase = .off ∧ { State.reset.p1 with phase := .spring }.phase = .spring
      ∧ { State.reset.p1 with stuck := Vector.replicate 2 true }.stuck[resetIdx .button] = true :=
  ⟨by decide, rfl, rfl, rfl, rfl⟩

theorem witness_ResetsLeaveSwitchesOpenOrUntouched :
    State.reset.p1.phase ≠ .off ∧ State.reset.p1.stuck[resetIdx .button] = false := ⟨by decide, rfl⟩

/-- A Lead in a mode, with every condition of the transition table met and mode n's input assigned. -/
def ready (m : Int) (n : Fin 12) : P1 :=
  ((((((((((inMode m).wr (ob 0x2101 (n + 1)) 7).wr kGrade 1).wr (ob 0x3300 0x11) 1).wr (ob 0x4200 1) 1).wr (ob 0x2000 2) 2500).setBit
    (ob 0x3300 3) 5 true).wr (thrKey 0 1) 1).wr (ob 0x6400 2) 1).wr (ob 0x2100 1) m)

theorem witness_EveryModeCommandCompletes :
    sessionTakes 1 1 (inMode 2) ∧ panelTakes 0 7 (ready 2 0) ∧ panelTakes 2 7 (ready 4 2) ∧ panelTakes 3 7 (ready 2 3)
      ∧ panelTakes 4 7 (ready 2 4) ∧ panelTakes 5 7 (ready 2 5) ∧ panelTakes 6 7 (ready 2 6) ∧ panelTakes 11 7 (ready 2 11)
      ∧ springing ((ready 11 11).setBit kModeStatus 2 true) = true ∧ (ready 11 2).rdN (ob 0x2101 3) = 7 := by
  unfold panelTakes sessionTakes accepted
  refine ⟨?_, ?_, ?_, ?_, ?_, ?_, ?_, ?_, ?_, ?_⟩ <;> decide +kernel

/-- A Standby module with every serial and CAN channel, sensor port and group on, and an open lidar frame in slot 63. -/
def listening : P1 :=
  { (((((((inMode 2).wr (ob 0x5707 1) 1).wr (ob 0x5900 3) 1).wr (ob 0x5603 1) 1).wr (ob 0x591F 1) 1).wr (ob 0x5933 1) 1).wr
      (slKey 0 1) 1).wrs [(slKey 0 2, 4), (slKey 0 3, 3), (slKey 0 6, 6)] with
    elapsed := 10000000
    slots := P1.reset.slots.set 63 { SlotState.reset with frame := some ⟨0, 0, 0, 0, 0, 0, [], 0, [], 0, 0⟩ }
    can := upd P1.reset.can 3 fun x => { x with fast := [⟨1, 2, 0, 0, 0, 0, [], 0⟩] } }

theorem witness_IntakeEventsReachTheirSlots :
    serialOn 0 (inMode 2) = false ∧ serialOn 7 listening = true ∧ sensorPortOn 3 listening = true
      ∧ sensorRoom 3 0 listening = true ∧ sensorRoom 3 1 listening = true ∧ sensorPortOn 0 listening = false
      ∧ sourceOn (.can 3 0 false) listening = true ∧ listening.rd (ob 0x591F 1) = 1 ∧ dpIp listening = true
      ∧ udpMatches 0 3 0 9 listening = true ∧ (∀ i : Fin 64, udpMatches i 3 5 9 listening = false) ∧ listening.up = true
      ∧ listening.rd (ob 0x5910 1) = 0 ∧ canHears 3 listening = true
      ∧ (listening.can[3].fast.find? fun f => f.pgn = 2 && f.source = 1) = some ⟨1, 2, 0, 0, 0, 0, [], 0⟩
      ∧ listening.slots[63].frame = some ⟨0, 0, 0, 0, 0, 0, [], 0, [], 0, 0⟩
      ∧ 2 * listening.rdN (slKey 63 0x0A) ≤ listening.elapsed - 0 := by decide

theorem witness_SerialLineErrorsAreCounted :
    serialOn 7 listening = true ∧ listening.rd (serKey 7 4) = 0 ∧ (listening.wr (serKey 7 4) 1).rd (serKey 7 4) = 1
      ∧ serialOn 7 (listening.wr (serKey 7 4) 1) = true ∧ serialOn 0 listening = false
      ∧ accepted 1 (serKey 7 0x0E) (.num 1) (inMode 2) :=
  ⟨by decide, by decide, by decide, by decide, by decide, ⟨rfl, rfl, rfl⟩⟩

/-- A Commissioning module whose slot 63 takes heading sentences of serial channel 7. -/
def bound : P1 :=
  (((((inMode 1).wr (slKey 63 2) 1).wr (slKey 63 3) 7).wr (slKey 63 6) 1).wr (slKey 63 7) 6).wr (ob 0x5707 1) 1

/-- Contents closed by their check (R128). -/
def closed (b : List Byte) : List Byte := b ++ le 4 (crc32c b)

theorem witness_checked_contents :
    modelOk (closed (le 2 0x5344 ++ le 2 1 ++ le 2 1 ++ zeros 98)) 0x5344 256 64 2 = true
      ∧ modelOk (closed (le 2 0x4D54 ++ le 2 1 ++ le 2 1 ++ zeros 66)) 0x4D54 1024 32 0 = true
      ∧ templateOk 15 (closed (le 2 0x4254 ++ le 2 0x0F01 ++ zeros 2 ++ le 2 4 ++ zeros 15 ++ le 1 1 ++ zeros 8
          ++ le 4 0x10000 ++ le 2 1 ++ zeros 10)) = true := by decide +kernel

theorem witness_SlotMountAndModelWrites :
    accepted 1 (slKey 63 1) (.num 1) bound ∧ accepted 1 (slKey 63 1) (.num 0) bound ∧ bound.rd (slKey 63 1) = 0
      ∧ configOk 0 (inMode 1) = false ∧ accepted 1 (slKey 0 1) (.num 1) (inMode 1)
      ∧ accepted 1 (mtKey 79 6) (.num 0) (inMode 1) ∧ accepted 1 (mtKey 79 0x10) (.num 1) (inMode 1)
      ∧ (inMode 1).rd (mtKey 79 0x0D) ≠ 1 ∧ ((inMode 1).wr (mtKey 79 0x0D) 1).rd (mtKey 79 0x0D) = 1
      ∧ accepted 1 (ob 0x3400 1) (.bytes []) (inMode 1) ∧ nextBusy (ob 0x3400 1) (inMode 1) = false
      ∧ accepted 1 (ob 0x3500 1) (.bytes []) (inMode 1) ∧ modelOk [] 0x4D54 1024 32 0 = false
      ∧ accepted 1 (ob 0x578F 1) (.bytes []) (inMode 1) ∧ accepted 1 (slKey 63 0x1F) (.num 1) (inMode 1)
      ∧ configOk 63 bound = true := by
  unfold accepted; decide +kernel

/-- A module that holds on inertia in G4, with a dispute of each kind and a clean slot. -/
def drifting : P1 :=
  let p := (inMode 6).wr kGrade 4
  let posVote := { Fusion.reset.pos with dispute := some ⟨0, 63, 0⟩ }
  let hdgVote := { Fusion.reset.hdg with dispute := some ⟨1, 2, 0⟩ }
  let trend := { SlotState.reset.trend with clean := some 0 }
  let slot := { SlotState.reset with trend := trend, origin := some (0, 0), pos := some ⟨0, 0, 1, none, 0, true⟩ }
  { p with elapsed := 700000000, fus := { Fusion.reset with hold := some 0, pos := posVote, hdg := hdgVote }, slots := P1.reset.slots.set 63 slot }

theorem witness_GradeAndDisputeEvents :
    (vote .pos drifting).dispute = some ⟨0, 63, 0⟩ ∧ (vote .hdg drifting).dispute = some ⟨1, 2, 0⟩
      ∧ disputeSpan .pos drifting ≤ drifting.elapsed ∧ disputeSpan .hdg drifting ≤ drifting.elapsed
      ∧ (vote .pos (inMode 6)).dispute = none ∧ (vote .hdg (inMode 6)).dispute = none ∧ inDispute 63 drifting = true
      ∧ inDispute 63 (inMode 6) = false ∧ dueUpgrade (inMode 6) = none ∧ holdReached drifting = true
      ∧ (reachHold drifting).grade = 4 ∧ drifting.rdN (ob 0x3010 9) * 1000000 ≤ drifting.elapsed
      ∧ fuState (slotNo 63) drifting ≠ 4 ∧ counts (slotNo 63) drifting = false := by decide +kernel

theorem witness_GradeAndDisputeEvents_writes :
    accepted 1 (ob 0x3000 0x0C) (.num 63) drifting ∧ accepted 1 (ob 0x3000 0x0C) (.num 63) (inMode 6)
      ∧ accepted 1 (ob 0x3000 0x0D) (.num 63) drifting ∧ accepted 1 (ob 0x3010 0x0C) (.num 63) drifting
      ∧ dueUpgrade { drifting with fus := { drifting.fus with upSince := Vector.replicate 4 (some 0) } } = some 1
      ∧ drifting.up = true ∧ drifting.serves = true ∧ atCycle drifting = true ∧ decides drifting = true ∧ drifting.mode ≠ 0
      ∧ selectionPending ⟨0, 63, 0⟩ drifting = false ∧ selectionPending ⟨1, 2, 0⟩ drifting = false
      ∧ atCycle { drifting with ns := 1000 } = false := by
  unfold accepted
  refine ⟨?_, ?_, ?_, ?_, ?_, ?_, ?_, ?_, ?_, ?_, ?_, ?_, ?_⟩ <;> decide +kernel

theorem witness_GradeChangeShowsAndAlarms : odWf (inMode 6).od = true ∧ (inMode 6).grade ≠ 6 ∧ drifting.grade = 4
    ∧ drifting.grade ≠ 1 := by decide +kernel

/-- A WAVE descriptor, and a module whose engine 3 has it queued, or runs it. -/
def waveDesc : JobDesc := ⟨7, 6, 5, 1, true, false, 0, 1000, 0, 0, 0, 0, 0, 65536⟩

def queued : P1 :=
  { inMode 6 with solver := { Solver.reset with engines := Solver.reset.engines.set 3 ⟨none, [], [⟨waveDesc, 0, 0, .samples [], [], none⟩]⟩ } }

def solving : P1 :=
  { inMode 6 with solver := { Solver.reset with
      engines := Solver.reset.engines.set 3 ⟨some ⟨⟨waveDesc, 0, 0, .samples [], [], none⟩, 0, false, true, [], (0, 0)⟩, [], []⟩ } }

theorem witness_SolverJobsRunToTheirResults :
    (typeEngine 6 (inMode 6)).isSome = true ∧ descOk waveDesc (inMode 6) = true ∧ queueFull 6 (inMode 6) = false
      ∧ descOk { waveDesc with iterations := 2 } (inMode 6) = false
      ∧ typeEngine 6 ((inMode 6).wr (ob 0x4400 2) 0xFFFFFFFF) = none
      ∧ canStart 3 queued = true ∧ engineTurn 3 queued = true
      ∧ startCheck ⟨waveDesc, 0, 0, .samples [], [], none⟩ (serve 0 3 (queued.setOctets (stKey 5 1) [0#8])) = 0
      ∧ startCheck ⟨waveDesc, 0, 0, .samples [], [], none⟩ (serve 0 3 queued) ≠ 0
      ∧ queued.solver.engines[3].next = some (⟨waveDesc, 0, 0, .samples [], [], none⟩, ⟨none, [], []⟩)
      ∧ canStart 3 (inMode 6) = false ∧ solving.solver.engines[3].run.isSome = true
      ∧ overdue ⟨waveDesc, 0, 0, .samples [], [], none⟩ solving = false
      ∧ overdue ⟨waveDesc, 0, 0, .samples [], [], none⟩ { solving with elapsed := 70000000 } = true
      ∧ queued.solver.engines[3].bg[0]? = some ⟨waveDesc, 0, 0, .samples [], [], none⟩
      ∧ (inMode 6).solver.engines[3] = ⟨none, [], []⟩ ∧ (inMode 6).fus.alignAt = none ∧ engineRuns 3 (inMode 6) = true
      ∧ (inMode 6).up = true := by
  refine ⟨?_, ?_, ?_, ?_, ?_, ?_, ?_, ?_, ?_, ?_, ?_, ?_, ?_, ?_, ?_, ?_, ?_, ?_, ?_⟩ <;> decide +kernel

theorem witness_StructuresTestJobsAndStatistics :
    accepted 1 (stKey 15 1) (.bytes []) (inMode 1) ∧ structureForm [] = false ∧ (inMode 1).up = true ∧ (inMode 1).serves = true
      ∧ (inMode 1).solver.res[15].swap = none ∧ structureBusy 15 (inMode 1) = false
      ∧ structureBusy 5 solving = true ∧ accepted 1 (ob 0x4430 1) (.bytes (zeros 64)) (inMode 1)
      ∧ (readJob (zeros 64)).ty ≠ 8 ∧ queueFull 8 (inMode 1) = false ∧ accepted 1 (jtKey 8 0x0D) (.num 1) (inMode 1) := by
  unfold accepted; decide +kernel

theorem witness_SetpointWritesFollowTheMode :
    accepted 1 (ob 0x4030 3) (.num 1000) (inMode 5) ∧ accepted 1 (ob 0x4030 6) (.num (-1000)) (inMode 10)
      ∧ accepted 1 (ob 0x4030 1) (.num 0) (inMode 6) ∧ accepted 1 (ob 0x4030 4) (.num 10000) (inMode 6)
      ∧ accepted 1 (ob 0x4030 5) (.num 10000) (inMode 10) ∧ accepted 1 (ob 0x4031 4) (.num 5) (inMode 8)
      ∧ accepted 1 (ob 0x4032 3) (.num 5) (inMode 9) ∧ accepted 1 (ob 0x4040 6) (.num 5) (inMode 2)
      ∧ accepted 1 (ob 0x4030 3) (.num 1000) (inMode 7) ∧ accepted 1 (ob 0x4030 2) (.num 0) (inMode 5)
      ∧ accepted 1 (ob 0x4031 2) (.num 5) (inMode 6) ∧ accepted 1 (ob 0x4032 3) (.num 5) (inMode 8) := by
  unfold accepted; decide +kernel

theorem witness_SetpointWritesFollowTheMode_factor : accepted 1 (ob 0x4032 4) (.num 100) (inMode 9) := by
  unfold accepted; decide +kernel

/-- A module on the last of one waypoint, and one before the first of two, each with its dwell running. -/
def resting (n : Nat) : P1 :=
  let p := ((inMode 7).wr (ob 0x4033 4) 0).setOctets (ob 0x4033 1) (le 2 0x4B54 ++ le 1 1 ++ le 1 0 ++ le 2 n ++ zeros 10)
  { p with lawMode := 7, elapsed := dwellSpan p, ctl := { p.ctl with track := ⟨0, 0, some 0⟩ } }

/-- A module whose wave window is full, with a fit in use that is about to end. -/
def waved : P1 :=
  let p := ((inMode 10).wr (ob 0x4304 2) 1).wr (ob 0x4300 3) 1
  { p with ctl := { p.ctl with wave := { p.ctl.wave with
      exitSince := some 0, samples := List.replicate 20 ⟨0, ⟨#[0, 0, 0], rfl⟩, none⟩ } }, elapsed := 1000000000, ns := 2 ^ 40 }

theorem witness_TracksWavesAndSaturation :
    trackCount (trackList (resting 2)) = 2 ∧ trackCount (trackList (resting 1)) = 1 ∧ (resting 1).rdN (ob 0x4033 4) = 0
      ∧ (resting 1).role ≠ 1 ∧ (resting 1).mode = 7 ∧ odWf (resting 1).od = true
      ∧ (inMode 6).ctl.track.dwellFrom = none ∧ (inMode 6).ctl.wave.samples.length < fitCount (inMode 6)
      ∧ waveReady waved = true ∧ waved.ctl.wave.exitSince = some 0 ∧ fitFresh waved = false ∧ trackOk [] = false
      ∧ nextBusy (ob 0x4033 1) (inMode 6) = false ∧ fitCount waved ≤ waved.ctl.wave.samples.length
      ∧ 1000 * waved.rdN (ob 0x4300 0x0B) ≤ waved.elapsed
      ∧ waved.ctl.wave.lastIssue + waved.rdN (ob 0x4300 2) * 1000000000 ≤ waved.ns
      ∧ (resting 1).up = true ∧ (resting 1).serves = true ∧ dwellSpan (resting 2) ≤ (resting 2).elapsed := by decide +kernel

/-- A waypoint list of one waypoint at the origin with a speed of 1 mm/s, and its check. -/
def oneWaypoint : List Byte :=
  let b := le 2 0x4B54 ++ le 1 1 ++ le 1 0 ++ le 2 1 ++ zeros 10 ++ zeros 20 ++ le 2 1 ++ zeros 10
  b ++ le 4 (crc32c b)

theorem witness_TracksWavesAndSaturation_writes :
    accepted 1 (ob 0x4033 1) (.bytes oneWaypoint) (inMode 6) ∧ trackOk oneWaypoint = true
      ∧ accepted 1 (ob 0x4033 1) (.bytes oneWaypoint) (inMode 7) ∧ accepted 1 (ob 0x4033 1) (.bytes []) (inMode 6)
      ∧ accepted 1 (ob 0x4000 4) (.num 1) (inMode 6) := by
  unfold accepted; decide +kernel

/-- A feedback frame of thruster 15 with its check, and a module in which that thruster answers on channel 0. -/
def feedback15 : List Byte :=
  let b := le 1 1 ++ le 1 3 ++ le 1 1 ++ le 1 15 ++ zeros 8
  b ++ le 4 (crc32c b)

def fedBack : P1 := ((inMode 6).wr (thrKey 15 1) 1).wr (thrKey 15 7) 0

theorem witness_ThrustersCurvesTablesAndTests :
    curveOk (zeros 36) 0 = true ∧ curveOk [] 0 = false ∧ tableOk [] (inMode 1) = false ∧ testIndex (inMode 1) = 255
      ∧ (inMode 1).setSize = 1 ∧ testIndex ((inMode 1).wr (ob 0x4200 0x1B) 15) = 15 ∧ odWf (inMode 1).od = true
      ∧ isFeedback 0 (fedBack.rdN (ob 0x4200 0x11) + 15) 15 fedBack = true ∧ feedbackOk 15 feedback15 = true
      ∧ odWf fedBack.od = true
      ∧ (∀ i : Fin 16, (isFeedback 0 0 i fedBack && feedbackOk i []) = false) := by decide +kernel

/-- A fallback table without an entry, and its check. -/
def noEntries : List Byte :=
  let b := le 2 0x4654 ++ le 1 1 ++ le 1 0 ++ zeros 12
  b ++ le 4 (crc32c b)

theorem witness_ThrustersCurvesTablesAndTests_writes :
    accepted 1 (thrKey 15 0x23) (.bytes (zeros 36)) (inMode 1) ∧ accepted 1 (thrKey 15 0x24) (.bytes (zeros 36)) (inMode 1)
      ∧ accepted 1 (ob 0x4210 1) (.bytes noEntries) (inMode 1) ∧ accepted 1 (ob 0x4200 0x1A) (.num 1) (inMode 1)
      ∧ accepted 1 (ob 0x4200 0x1B) (.num 15) (inMode 1) ∧ accepted 1 (ob 0x4200 0x1B) (.num 255) (inMode 1)
      ∧ accepted 1 (ob 0x4200 0x19) (.num 1) (inMode 6) := by
  unfold accepted; decide +kernel

theorem witness_TimeKeepingEvents :
    gnssQualifies ⟨255, true, 50, 0⟩ (inMode 6) = true ∧ gnssQualifies ⟨255, true, 51, 0⟩ (inMode 6) = false
      ∧ timeState ((inMode 6).setField kTime 0 3 2) = 2 ∧ timeState (inMode 6) ≠ 2 ∧ odWf (inMode 6).od = true
      ∧ ((inMode 6).wr (ob 0x5000 0x0E) 1).rd (ob 0x5000 0x0E) ≠ 0 ∧ (inMode 6).rd (ob 0x5000 0x0E) = 0
      ∧ ((inMode 6).wr (ob 0x5000 0x0F) 1).rd (ob 0x5000 0x0F) = 1 ∧ (inMode 6).grainIndex % 1000000 = 0
      ∧ (inMode 6).time.secondAt ≠ some (inMode 6).elapsed ∧ basebandOn (inMode 6) = true ∧ (inMode 6).up = true
      ∧ syncGone { inMode 6 with elapsed := 100000000 } = true
      ∧ ((inMode 6).rd (ob 0x5000 4) : Rat) ≤ holdSeconds { inMode 6 with elapsed := 100000000000 } := by decide +kernel

/-- A module with an Announce from a good master on port A that is its slave port, and one with pulse output 0 at its once
time and event input 0 enabled. -/
def synced : P1 := ((((inMode 6).wr (ob 0x5010 1) 1).wr (ob 0x5010 0x0D) 0).wr (ob 0x5010 9) 9)

def pulsing : P1 :=
  let p := (((((inMode 6).wr (ppsKey 0 1) 1).wr (ppsKey 0 4) 1000).wr (evtKey 0 1) 1).wr (evtKey 0 2) 2)
  { p with ns := 1000 }

theorem witness_PtpPulsesAndEventInputs :
    synced.rd (ob 0x5010 1) ≠ 0 ∧ (synced.wr (ob 0x5010 1) 0).rd (ob 0x5010 1) = 0 ∧ synced.rdN (ob 0x5010 0x0D) = (ptpIdx .a).val
      ∧ ptpHears .a synced = true ∧ syncGone { synced with elapsed := 100000000 } = true ∧ synced.time.syncAt = none
      ∧ synced.up = true ∧ synced.serves = true ∧ 1 < ptpGrains (synced.rd (ob 0x5010 7))
      ∧ synced.rd (ob 0x5010 9) = 9 ∧ odWf synced.od = true ∧ ptpMasterRole synced = true ∧ synced.rd (ob 0x5010 0x0D) ≠ 0xFF
      ∧ (synced.wr (ob 0x5010 0x0D) 0xFF).rd (ob 0x5010 0x0D) = 0xFF ∧ ppsInstant 0 pulsing = some 1000
      ∧ ppsInstant 1 pulsing = none ∧ odWf pulsing.od = true ∧ pulsing.rd (ppsKey 0 1) = 1 ∧ pulsing.rd (evtKey 0 1) ≠ 0
      ∧ pulsing.rd (evtKey 0 2) = 2 ∧ pulsing.time.evtLast[0] = none ∧ (pulsing.time.evt[0]).length < 64
      ∧ (inMode 6).rd (evtKey 0 1) = 0 ∧ (100 : Int) < pulsing.rd (ppsKey 0 2)
      ∧ 64 ≤ ({ pulsing with time := { pulsing.time with evt := pulsing.time.evt.set 0 (List.replicate 64 []) } }.time.evt[0]).length
      := by decide +kernel

theorem witness_PtpPulsesAndEventInputs_writes :
    accepted 1 (ppsKey 1 4) (.num 1000) pulsing ∧ accepted 1 (ppsKey 1 4) (.num 999) pulsing
      ∧ accepted 1 (ppsKey 0 2) (.num 1000) pulsing ∧ accepted 1 (ppsKey 1 3) (.num 100) pulsing
      ∧ accepted 1 (ppsKey 0 3) (.num 0) pulsing := by
  unfold accepted; decide +kernel

/-- A module whose baseband sleeps or is awake in Dormant, and one with a channel in track. -/
def asleep : P1 := (inMode 0).setBit kGnss 0 true

def tracking : P1 :=
  let p := (inMode 6).setBit kGnss 0 false
  { p with time := { p.time with chans := p.time.chans.set 191 ⟨some (.gps, 5, 1), true, true, false, false, false, 0⟩ } }

theorem witness_GnssChannelsEpochsAndAntennas :
    basebandOn asleep = false ∧ basebandOn tracking = true ∧ odWf tracking.od = true ∧ odWf asleep.od = true
      ∧ (tracking.time.chans[chanNo 2 63]).asg.isSome = true ∧ (tracking.time.chans[chanNo 0 0]).asg = none
      ∧ asleep.mode = 0 ∧ asleep.bit kGnss 0 = true ∧ tracking.mode ≠ 0
      ∧ { asleep with time := { asleep.time with wakeFrom := some 0 } }.time.wakeFrom.isSome = true
      ∧ ((inMode 6).wr (ob 0x5103 2) 1 |>.wr (ob 0x5103 1) 1).rdN (ob (0x5101 + (2 : Fin 3)) 2)
        = antennaCode 2 false 0 ((inMode 6).wr (ob 0x5103 1) 1)
      ∧ epochDue tracking = true ∧ tracking.time.assignAt[(2 : Fin 3)] = none ∧ tracking.up = true
      ∧ tracking.stopped (unitAddr 1 1 0 2 63) = false
      ∧ asleep.rdN (ob 0x5100 0x0A) * 1000000 ≤ { asleep with elapsed := 10000000000 }.elapsed - asleep.time.wakeLast := by
  decide +kernel

/-- A module whose axis 7 runs: incremental, or absolute with a read in progress and `n` failed reads. -/
def counting : P1 := ((inMode 1).wr (axKey 7 1) 1).wr (axKey 7 2) 1

/-- Axis 7 forms its speed in windows, and a compare pulse of it ends at grain 5. -/
def windowed (n : Nat) : P1 :=
  let p := counting.wrs [(axKey 7 0x0B, 1), (axKey 7 0x0F, 10)]
  { p with elapsed := n, axes := p.axes.set 7 { p.axes[7] with pulseEnd := some 5 } }

def reading (n : Nat) : P1 :=
  let p := ((inMode 1).wr (axKey 7 1) 1).wr (axKey 7 2) 4
  { p with axes := p.axes.set 7 { p.axes[7] with reading := some 0, failedReads := n } }

/-- A read without an answer. -/
def badRead : AbsRead := ⟨false, false, false, false, 0, 0⟩

theorem witness_AxesCountReferenceAndStop :
    axisRuns 7 (inMode 1) = false ∧ axisRuns 7 counting = true ∧ counting.rd (axKey 7 2) = 1 ∧ counting.rd (axKey 7 3) ≠ 1
      ∧ odWf counting.od = true ∧ (counting.wr (axKey 7 0x11) 1).field (axKey 7 0x11) 0 2 ≠ 0
      ∧ axisRuns 7 (counting.wr (axKey 7 0x11) 1) = true ∧ odWf (counting.wr (axKey 7 0x11) 1).od = true
      ∧ isAbsolute 7 counting = false ∧ counting.axes[7].anchor = none ∧ counting.bit (axKey 7 0x11) 2 = false
      ∧ expectedCount 0 (cprOf 7 counting) (3 * cprOf 7 counting) = 3 * cprOf 7 counting
      ∧ axisRuns 7 (reading 1) = true ∧ isAbsolute 7 (reading 1) = true ∧ (reading 2).axes[7].failedReads = 2
      ∧ (reading 1).axes[7].reading.isSome = true ∧ readFails 7 badRead (reading 1) = true
      ∧ (reading 0).grainIndex % readPeriod ((reading 0).rd (axKey 7 9)) = 0
      ∧ counting.up = true ∧ counting.serves = true ∧ (reading 0).up = true ∧ (windowed 5).up = true
      ∧ axisRuns 7 (windowed 5) = true ∧ (windowed 5).rd (axKey 7 0x0B) = 1
      ∧ (windowed 5).grainIndex % ((windowed 5).rdN (axKey 7 0x0F) * 1000) = 0
      ∧ (windowed 5).axes[7].windowAt ≠ some (windowed 5).elapsed ∧ (windowed 5).axes[7].pulseEnd = some 5
      ∧ (windowed 4).elapsed < 5 ∧ readFails 7 ⟨true, false, false, true, 0, 0⟩ (reading 1) = false
      ∧ counting.bit (axKey 7 0x1A) 21 = false := by decide +kernel

theorem witness_AxesCountReferenceAndStop_writes :
    accepted 1 (axKey 7 0x1B) (.num 5) counting ∧ accepted 1 (axKey 7 0x1B) (.num 5) (inMode 6)
      ∧ accepted 1 (axKey 7 0x2B) (.num 1) counting ∧ accepted 1 (ob (0x5210 + (1 : Fin 2)) 1) (.num 1) counting
      ∧ accepted 1 (axKey 7 0x1B) (.num 5) (counting.setBit (axKey 7 0x1A) 21 true) := by
  unfold accepted; decide +kernel

/-- An empty compare list and its check, and an entry with number 247. -/
def emptyCompare : List Byte :=
  let b := le 2 0x4350 ++ le 1 1 ++ zeros 13
  b ++ le 4 (crc32c b)

def entry247 : List Byte := le 4 247 ++ zeros 16

/-- A module whose probe 1 takes both edges, and one whose filter channel 31 runs. -/
def probing : P1 := ((inMode 6).wr (prKey 1 1) 1).wr (prKey 1 3) 2

def latchedProbe (n : Nat) : P1 :=
  { probing with elapsed := 2000000, probes := probing.probes.set 1 ⟨[latchNow 1 false 0 probing], List.replicate n []⟩ }

/-- A module whose filter channel 15 has given an output in grain `n`. -/
def outNow (n : Nat) : P1 := { inMode 6 with elapsed := n, filt := (inMode 6).filt.set 15 { (inMode 6).filt[15] with outAt := some n } }

/-- A probe has just latched a sine/cosine axis whose value at the edge is not bracketed. -/
def openLatch : ProbeLatch := latchNow 1 false 0 ((probing.wr (prKey 1 2) 128).wr (axKey 7 2) 2)

theorem witness_CompareListsProbesAndFilters :
    listOk emptyCompare = true ∧ listOk [] = false ∧ entry247.length = 20 ∧ leAt entry247 0 4 = 247
      ∧ probing.rd (prKey 1 1) = 1 ∧ (inMode 6).rd (prKey 1 1) ≠ 1 ∧ probing.stopped (unitAddr 1 1 2 0 (10 + (1 : Fin 2))) = false
      ∧ probing.rd (prKey 1 3) = 2 ∧ (latchedProbe 15).probes[1].records.length < 16
      ∧ latchComplete (latchNow 1 false 0 probing) (latchedProbe 15) = true
      ∧ latchComplete openLatch ((probing.wr (prKey 1 2) 128).wr (axKey 7 2) 2) = false
      ∧ 16 ≤ (latchedProbe 16).probes[1].records.length ∧ (probing.wr (prKey 1 4) 1).rd (prKey 1 4) ≠ 0 ∧ probing.probes[1].latched = []
      ∧ filtOn 15 (inMode 6) = false ∧ filtOn 15 ((inMode 6).wr (fiKey 15 1) 1) = true
      ∧ outputDue 15 ((inMode 6).wr (fiKey 15 1) 1) = true ∧ probing.up = true ∧ probing.serves = true
      ∧ outputDue 15 (outNow 0) = false
      ∧ (latchedProbe 0).filt[chanOf 15].shuntAt + 1000000 ≤ (latchedProbe 0).elapsed
      ∧ (putEntries 7 [] counting).axes[7].restage = true
      ∧ odWf ((inMode 6).wr (fiKey 15 1) 1).od = true ∧ (inMode 6).bit (ob 0x5504 ((15 : Fin 16).val + 1)) 2 = false
      ∧ ((inMode 6).wr (ob 0x5504 16) 4).bit (ob 0x5504 ((15 : Fin 16).val + 1)) 2 = true
      ∧ odWf ((inMode 6).wr (ob 0x5504 16) 4).od = true := by decide +kernel

theorem witness_CompareListsProbesAndFilters_writes :
    accepted 1 (axKey 7 0x21) (.bytes emptyCompare) counting ∧ accepted 1 (axKey 7 0x21) (.bytes []) counting
      ∧ accepted 1 (axKey 7 0x22) (.bytes entry247) counting ∧ accepted 1 (axKey 7 0x22) (.bytes (le 4 248 ++ zeros 16)) counting := by
  unfold accepted; decide +kernel

/-- A state in which both field links carry frames, with a field side that is powered, or silent. -/
def fielded (quiet : Bool) : State :=
  let p := inMode 6
  let q := { p with fldLink := Vector.replicate 2 true }
  let f := { State.reset.p3 with powered := true, link := Vector.replicate 2 true, silent := Vector.replicate 2 quiet, missing := false, down := [] }
  { State.reset with p1 := q, p3 := f }

theorem witness_FieldFramesSilenceAndInputs :
    fieldLink .f0 (fielded false) = true ∧ fieldLink .f1 (fielded false) = true ∧ pllDown (fielded false).p1 = false
      ∧ pllDown { (fielded false).p1.setBit kClock 0 false with pllLost := true } = true ∧ diSamples (fielded false) = true
      ∧ (fielded true).p3.frameAt[(1 : Fin 2)] + (fielded true).p3.timeout * 1000 ≤ { (fielded true).p3 with clock := 9000000 }.clock
      ∧ diSamples ((fielded false).core { (fielded false).p1 with ns := 1000 }) = false
      ∧ fieldLink .f0 { fielded false with p3 := { (fielded false).p3 with powered := false } } = false ∧ (fielded true).p3.powered = true ∧ (fielded true).p3.silent[(0 : Fin 2)] = true
      ∧ (fielded true).p3.silent[(1 : Fin 2)] = true ∧ (fielded true).p3.down = [] ∧ (fielded true).p3.missing = false
      ∧ (fielded true).p3.stopped (unitAddr 3 0 0 0 ((31 : Fin 32).val / 8)) = false
      ∧ (fielded true).p3.di.testBit 31 = false ∧ (fielded true).p1.up = true := by decide +kernel

/-- Both field links held, output 15 commanded on, axis 7 with compare output 3. -/
def driven : State :=
  let s := fielded false
  s.core (s.p1.wr (axKey 7 0x25) 3)

def linkless : P1 := { inMode 6 with fldLink := Vector.replicate 2 false }

theorem witness_OutputFaultsAndWrites :
    driven.p1.serves = true ∧ driven.p1.fldLink[(0 : Fin 2)] = true ∧ driven.p1.fldLink[(1 : Fin 2)] = true
      ∧ odWf driven.p1.od = true ∧ (compareOutput 3 driven.p1).isSome = true ∧ bitOf 8 3 ≠ driven.p1.bit (ob 0x5400 7) 3
      ∧ linkless.fldLink[(0 : Fin 2)] = false ∧ (∀ n, n < 16 → (compareOutput n linkless).isSome = false)
      ∧ aoAssigned 15 driven.p1 = false ∧ aoAssigned 15 (driven.p1.wr (thrKey 0 5) 15) = true
      ∧ driven.p3.powered = true ∧ driven.p3.missing = false ∧ doDriven { driven.p3 with doCmd := 32768 } 15 = true
      ∧ driven.p3.shortAt[15] + 1000000 ≤ { driven.p3 with clock := 2000000 }.clock
      ∧ (driven.p1.wr (ob 0x5400 0x0A) 1).rd (ob 0x5400 0x0A) = 1 ∧ (driven.p1.wr (ob 0x5400 0x0A) 0).rd (ob 0x5400 0x0A) ≠ 1
      ∧ fieldLink .f1 driven = true := by decide +kernel

theorem witness_OutputFaultsAndWrites_writes :
    accepted 1 (ob 0x5400 7) (.num 8) driven.p1 ∧ accepted 1 (ob 0x5400 7) (.num 1) linkless
      ∧ accepted 1 (ob 0x5505 ((15 : Fin 16).val + 1)) (.num (-5)) driven.p1
      ∧ accepted 1 (ob 0x5505 ((15 : Fin 16).val + 1)) (.num (-5)) (driven.p1.wr (thrKey 0 5) 15)
      ∧ accepted 1 (ob 0x5400 0x0B) (.num 1) driven.p1 := by
  unfold accepted; decide +kernel

/-- P2 with a confirmed block that names group 3, both channels running, and its switches closed after an evaluation. -/
def guarded : P2 :=
  let p := State.reset.p2
  let run (t : GuardChan) : GuardChan :=
    { t with st := .running, silent := false, await := Vector.replicate 4 false, inputs := Vector.replicate 8 ⟨true, true, false, false, none, none, none⟩ }
  settle p { p with
    powered := true, link := true, haveBlock := true, startDone := true, confirmed := true, confirmedValue := some 0,
    block := [(ob 0x6800 1, 8)], swFault := Vector.replicate 8 false, saf := run p.saf, win := run p.win }

theorem witness_SwitchesFollowTheSevenConditions :
    guarded.saf.closed[3] = true ∧ guarded.win.closed[3] = true ∧ guarded.saf.await[0] = true
      ∧ guarded.works .saf = true := by decide +kernel

/-- P2 with a sector axis 7 of two boundaries bound to thruster 0, in region 0 of both channels or in different ones. -/
def sectored (r : Nat) : P2 :=
  let b := [(ob 0x6800 1, 8), (ob 0x6801 8, 2), (ob 0x6827 1, 0), (ob 0x6827 2, 1), (ob 0x6827 3, 0), (ob 0x6827 4, 100)]
  { guarded with
    clock := 200000, differ := guarded.differ.set 7 (some 0), block := b, saf := { guarded.saf with inputs := guarded.saf.inputs.set 7 ⟨false, true, false, false, some 0, none, some 150000⟩, region := guarded.saf.region.set 7 (some 0), silent := true, good := 999 }
    win := { guarded.win with region := guarded.win.region.set 7 (some r) } }

theorem witness_SafetyEventsReachTheirChannel :
    (sectored 1).works .saf = true ∧ (sectored 1).works .winter = true ∧ 0 < boundaryCount (sectored 1) 7
      ∧ (sectored 1).win.region[7] = some 1 ∧ (sectored 1).saf.region[7] ≠ (sectored 1).win.region[7]
      ∧ (sectored 1).blk (ob 0x6801 ((7 : Fin 8).val + 1)) = 2 ∧ ((sectored 1).chan .saf).inputs[7].discrep = false
      ∧ demandsA (sectored 1).saf.inputs[7] ≠ demandsB (sectored 1) 7 (sectored 1).saf.inputs[7]
      ∧ (sectored 1).saf.inputs[7].alone = some 0 ∧ ((sectored 1).blk (ob 0x6800 5)).toNat * 1000 ≤ (sectored 1).clock
      ∧ (sectored 1).saf.inputs[7].press = some 150000 ∧ ownSpan 150000 (-50000) = 100000 ∧ ownSpan 150000 2850000 = 3000000 ∧ (sectored 1).differ[7] = some 0 ∧ (sectored 1).disagree[7] = false
      ∧ (sectored 1).hold[7] = false ∧ (sectored 1).blk (ob (0x6820 + (7 : Fin 8)) 1) ≠ 0xFF ∧ 750 ≤ (sectored 1).clock - (sectored 1).frameAt[7]
      ∧ 2000 ≤ (sectored 1).clock - (sectored 1).saf.edgeAt ∧ (inMode 6).up = true ∧ (inMode 6).serves = true
      ∧ ownSpan ({ (sectored 1) with clock := 1000 }.clock - (sectored 1).saf.edgeAt) (-500) = 500
      ∧ ((sectored 1).chan .saf).silent = true ∧ (sectored 1).link = true ∧ (inMode 6).linkOut = []
      ∧ restartConds guarded guarded.saf 3 = true
      ∧ ((inMode 6).setBit (axKey 7 0x1A) 21 true).bit (axKey 7 0x1A) 21 = true
      ∧ ({ P1.reset.axes[7] with loads := 1 } : AxisState).loads ≠ (sectored 1).seenLoads[7] := by decide +kernel

theorem witness_SafetyEventsReachTheirChannel_write : accepted 1 (ob 0x6888 1) (.num ((15 : Nat) : Int)) (inMode 6) := by
  unfold accepted; decide +kernel

/-- P2 with the next item HS3 of the closed group 3, under a pulse, and before its start. -/
def tested : P2 := { guarded with clock := 90000000000, rotation := 6, pulse := some 7, slot := none, reports := [⟨0x0C0A, 0⟩] }

/-- A slot whose item waits for the slot's end. -/
def itemTimed (n : Nat) : P2 := { tested with slot := some 7, pulse := none, passed := true, slotAt := n }

def beforeStart : P2 :=
  { guarded with haveBlock := false, startDone := false, confirmed := false, saf := { guarded.saf with st := .checking } }

/-- A confirmation that meets every condition of R414. -/
def agreed : P2 :=
  let c (t : GuardChan) : GuardChan := { t with check := 5, fresh := true }
  { guarded with saf := c guarded.saf, win := c guarded.win }

def entered : P1 := { (inMode 1).wr (ob 0x6881 1) 5 with entrySess := 1 }

theorem witness_SafetyTestsBlockAndConfirmation :
    tested.works .winter = true ∧ nextItem tested = some 6 ∧ groupClosed tested (itemGroup 6) = true ∧ tested.slot = none
      ∧ tested.pulse = some 7 ∧ tested.swFault[7] = false ∧ tested.slotAt + (tested.blk (ob 0x6800 3)).toNat * 1000 ≤ tested.clock
      ∧ tested.slotAt + pulseWidth tested ≤ tested.clock ∧ tested.lastPass[7] + 86400000000 ≤ tested.clock
      ∧ (itemTimed 1).slot = some 7 ∧ (itemTimed 1).passed = true ∧ (itemTimed 1).slotAt + pulseWidth (itemTimed 1) + 100 ≤ (itemTimed 1).clock
      ∧ entered.serves = true ∧ entered.up = true ∧ guarded.pulse = none ∧ beforeStart.haveBlock = false ∧ beforeStart.link = true
      ∧ beforeStart.saf.st = .checking ∧ beforeStart.powered = true ∧ inBlock (ob 0x687F 0xFF) = true ∧ guarded.haveBlock = true
      ∧ inBlock (ob 0x6800 1) = true ∧ confirmOk agreed 1 entered = true ∧ confirmOk guarded 1 (inMode 1) = false
      ∧ entered.linkOut = [] ∧ tested.reports.contains ⟨0x0C0A, 0⟩ = true ∧ guarded.reports.contains ⟨0x0C0F, 0⟩ = false
      ∧ groupClosed beforeStart (itemGroup 0) = false ∧ switchClosed beforeStart (itemChan 0) (itemGroup 0) = false
      ∧ nextItem { tested with block := [(ob 0x6800 1, 1)], rotation := 1 } = some 1
      ∧ groupClosed { tested with block := [(ob 0x6800 1, 1)] } (itemGroup 1) = false
      ∧ switchClosed { tested with block := [(ob 0x6800 1, 1)] } (itemChan 1) (itemGroup 1) = false := by decide +kernel

theorem witness_SafetyTestsBlockAndConfirmation_writes :
    accepted 1 (ob 0x6800 1) (.num 15) (inMode 1) ∧ accepted 1 (ob 0x6881 1) (.num 5) (inMode 1)
      ∧ accepted 1 (ob 0x6882 1) (.num 1) entered := by
  unfold accepted; decide +kernel

/-- A module with a node that has sent a frame, one joined group and an address, and sensor port 3 enabled. -/
def networked : P1 :=
  let p := ((inMode 6).wr (ob 0x5900 3) 0x0A000001).wr (ob 0x5933 1) 1
  let q := p.setBits kNet [(0, true), (2, false), (12, true)]
  { q with elapsed := 1000, net := { q.net with nodes := [⟨5, [(9, 900)], 900⟩], joined := [0xEF000001] } }

def prpFrameOf (source : Nat) : DpFrame := ⟨source, some 10, 9, false, .other⟩

theorem witness_NetworkLinksNodesAndGroups :
    portWorks .a networked = true ∧ portWorks .b networked = false ∧ networked.bit kNet (2 + dpIdx .a) = false
      ∧ networked.up = true ∧ networked.serves = true ∧ supervisionDue networked = true ∧ dpDown networked = false
      ∧ supervisionDue { networked with net := { networked.net with supervisedAt := some 1000 } } = false
      ∧ pktOn networked = true ∧ dpOn (dpIdx .b) networked = true ∧ lanFaulty .b networked = true ∧ sensorOn 3 networked = true
      ∧ sensorSpeed 3 1 (networked.wr (ob 0x5933 2) 1) = true ∧ serviceOn 1 networked = true ∧ serviceRoom 1 networked = true
      ∧ networked.net.serviceTx[(1 : Fin 2)].length < 256 ∧ dpIp networked = true
      ∧ (networked.net.nodes.any fun x => x.source = 5 && x.forgotten { networked with elapsed := 9000000000 }) = true
      ∧ (networked.net.nodes.any fun x => x.source = 5 && x.forgotten networked) = false
      ∧ (networked.net.nodes.find? fun n => n.source = (prpFrameOf 5).source).isSome = true
      ∧ Node.duplicate ⟨5, [(9, 900)], 900⟩ 9 networked.elapsed = true ∧ (prpFrameOf 5).payload ≠ .ptp
      ∧ (networked.net.nodes.find? fun n => n.source = (prpFrameOf 6).source) = none ∧ networked.net.nodes.length < 512
      ∧ networked.net.tx[(4 : Fin 8)].length < 1024 ∧ odWf networked.od = true ∧ networked.rd (ob 0x5900 3) ≠ 0
      ∧ (networked.wr (ob 0x5900 3) 0).rd (ob 0x5900 3) = 0 ∧ networked.rd (ob (0x5930 + (3 : Fin 4)) 1) ≠ 0
      ∧ sensorRoom 3 2 networked = true ∧ networked.net.sensorTx[(3 : Fin 4)].length < 4096
      ∧ (networked.wr (ob 0x5933 1) 0).rd (ob (0x5930 + (3 : Fin 4)) 1) = 0 := by decide +kernel

theorem witness_NetworkLinksNodesAndGroups_writes :
    accepted 1 (ob (0x5910 + (15 : Fin 16)) 1) (.num 1) (inMode 1) ∧ accepted 1 (ob (0x5910 + (15 : Fin 16)) 1) (.num 0) (inMode 1)
      ∧ accepted 1 (ob 0x5900 0x12) (.num 1) (inMode 6) := by
  unfold accepted; decide +kernel

/-- The head of the next, the repeated and a later request of the crew's session, and of an open. -/
def headOf (session : Sess) (seq : Nat) : AoaHead := ⟨.dp, 0x0A000002, 4000, session, seq⟩

def running : State := withP1 ((inMode 1).wr (ob 0x5900 3) 0x0A000001)

/-- The receive queue of service port 0 is full. -/
def crowded : P1 := { inMode 1 with net := { (inMode 1).net with serviceRx := Vector.replicate 2 256 } }

def opened16 : State :=
  withP1 { running.p1 with sessions := (List.range 16).map fun i => { crew with no := i + 1 } }

def asked : State := withP1 { inMode 1 with sessions := [{ crew with last := some ⟨1, crew.seq, 1, 0, 0, 0, 0, 0, 0, 0, [], false⟩ }] }

theorem witness_AoaRequestsReadAndWrite : nextRequest (headOf 1 (crew.seq + 1)) crew running.p1 running := by
  unfold nextRequest; decide +kernel

theorem witness_AoaRequestsReadAndWrite_more :
    readVerdict (keyOf 0x2100 2) = 0 ∧ isDomain (keyOf 0x2100 2) = false ∧ readVerdict (keyOf 0 0) ≠ 0
      ∧ isDomain (keyOf 0x4033 1) = true ∧ readVerdict (keyOf 0x4033 1) = 0 ∧ indexExists (keyOf 0x2100 2 / 256) = true
      ∧ (rowOf (keyOf 0x2100 2)).isSome = true ∧ (asked.p1.sessions.head?.bind (·.last)).isSome = true
      ∧ (headOf 1 crew.seq).seq % 65536 = crew.seq ∧ (headOf 1 (crew.seq + 2)).seq % 65536 ≠ crew.seq
      ∧ (headOf 1 (crew.seq + 2)).seq % 65536 ≠ (crew.seq + 1) % 65536 ∧ openedBefore (headOf 0 77) running.p1 = none
      ∧ freeSession running.p1 = some 2 ∧ freeSession opened16.p1 = none ∧ ifaceUp .dp opened16.p1 = true ∧ running.p1.serves = true ∧ running.p1.up = true
      ∧ admitAoa .dp running.p1 = some running.p1 ∧ admitAoa .svc0 crowded = none ∧ ifaceUp .svc0 crowded = true ∧ crowded.serves = true
      ∧ openedBefore (headOf 0 77) opened16.p1 = none := by decide +kernel

theorem witness_AoaRequestsReadAndWrite_segment :
    verdict 1 (keyOf 0x4033 1) (.bytes [1, 2])
      (segmentRule 1 (keyOf 0x4033 1) 0 false (ruleOf running.p2 1 (keyOf 0x4033 1) (.bytes [1, 2]) running.p1)) running.p1 = 0 := rfl

/-- A module whose save stands at a step, or whose session or buffer has been idle for long. -/
def saving (step : Nat) : P1 := { inMode 2 with elapsed := 9, save := some ⟨step, 1, ⟨1, 0, 0, []⟩, 8⟩ }

def idle : P1 := { inMode 2 with elapsed := 4000000000000, bufs := [⟨.session 1, keyOf 0x4033 1, [], 0⟩] }

theorem witness_ParameterWritesAndTheStore :
    (saving 3).up = true ∧ (saving 3).serves = true ∧ (saving 3).stopped (dmaAddr 1) = false ∧ (saving 3).elapsed ≠ 8
      ∧ heldDie (keyOf 0x4040 1) = none ∧ (inMode 2).linkOut = [] ∧ (inMode 2).save = none ∧ (inMode 2).mode ≠ 0
      ∧ (saving 3).save.isSome = true ∧ (saving 3).saveHeld = false ∧ odWf (saving 3).od = true := by decide +kernel

theorem witness_ParameterWritesAndTheStore_idle :
    (session? ((0 : Fin 16) + 1) idle).isSome = true := by decide +kernel

theorem witness_ParameterWritesAndTheStore_idle2 :
    idle.rdN (ob 0x6600 8) * 1000000 ≤ idle.elapsed - crew.lastGrain
      ∧ (inMode 2).elapsed - crew.lastGrain < (inMode 2).rdN (ob 0x6600 8) * 1000000 := by decide +kernel

theorem witness_ParameterWritesAndTheStore_writes :
    accepted 1 (ob 0x6500 1) (.num 1) (inMode 2) ∧ accepted 1 (ob 0x6500 1) (.num 1) (inMode 0)
      ∧ accepted 1 (ob 0x6500 1) (.num 1) (saving 2) ∧ accepted 1 (ob 0x6500 0x0B) (.num 1) (inMode 1)
      ∧ verdict 1 (keyOf 0x4040 1) (spelled (keyOf 0x4040 1) [1, 0, 0, 0])
          (ruleOf State.reset.p2 1 (keyOf 0x4040 1) (spelled (keyOf 0x4040 1) [1, 0, 0, 0]) (inMode 2)) (inMode 2) = 0
      ∧ verdict 1 (keyOf 0x4040 1) (spelled (keyOf 0x4040 1) [])
          (ruleOf State.reset.p2 1 (keyOf 0x4040 1) (spelled (keyOf 0x4040 1) []) (inMode 2)) (inMode 2) ≠ 0 := by
  unfold accepted; decide +kernel

/-- A locked-out module, and one whose crew has a challenge. -/
def lockedOutAt (g now : Nat) : P1 := { inMode 2 with lockout := ⟨[], some g⟩, elapsed := now }

def challenged : P1 := { inMode 2 with sessions := [{ crew with challenge := some (zeros 32, 0) }] }

def goodResponse : List Byte := expected State.reset.p2.key (zeros 32) 1

theorem witness_AuthorisationAlarmsAndServers :
    (session? 1 (inMode 2)).isSome = true ∧ responseGood State.reset.p2 1 [] (inMode 2) = false
      ∧ (lockedOutAt 0 60000000).lockout.since = some 0 ∧ (lockedOutAt 0 59999999).lockout.since = some 0
      ∧ authorised 1 (inMode 1) = true ∧ guarded.link = true ∧ (inMode 1).linkOut = [] ∧ (zeros 32).length = 32
      ∧ (session? 1 challenged).isSome = true := by decide +kernel

theorem witness_AuthorisationAlarmsAndServers_writes :
    accepted 1 (ob 0x6600 4) (.bytes (zeros 32)) (inMode 2) ∧ accepted 1 (ob 0x6600 5) (.num 1) (inMode 2)
      ∧ accepted 1 (ob 0x6600 6) (.bytes (zeros 32)) (inMode 1) ∧ accepted 1 (ob 0x6200 3) (.num 15) (inMode 2)
      ∧ accepted 1 (ob (0x6610 + (3 : Fin 4)) 1) (.num 1) (inMode 1)
      ∧ accepted 1 (ob (0x6610 + (3 : Fin 4)) 1) (.num 0) (inMode 1)
      ∧ accepted 1 (ob 0x6600 6) (.bytes (zeros 32)) (inMode 2) := by
  unfold accepted; decide +kernel

/-- Recorders: with a count record waiting, with a commit, frozen, and with a code issued to the crew. -/
def someRecord : Rec := ⟨3, 1, 1, 0, 0, 0, 0, []⟩

def recording (f : Recorder → Recorder) : P1 := { inMode 2 with recorder := f P1.reset.recorder }

def waiting : P1 := recording fun r => { r with counts := [someRecord], clears := [], sessions := [], freeze := none, commit := none }

def committing (stale : Bool) : P1 := recording fun r => { r with commit := some ⟨someRecord, 0, stale, 0⟩ }

def frozenSince (n : Nat) : P1 := { recording (fun r => { r with freeze := some (1, 0) }) with elapsed := n }

def coded : P1 := { inMode 2 with sessions := [{ crew with code := some ⟨5, 0⟩ }] }

theorem witness_RecorderCommitsInOrder :
    waiting.recorder.commit = none ∧ waiting.recorder.freeze = none ∧ waiting.stopped recorderAddr = false
      ∧ (waiting.recorder.take.map (·.1)) = some someRecord ∧ waiting.recorder.log.length < 32760
      ∧ (committing false).recorder.commit.isSome = true ∧ odWf (committing false).od = true
      ∧ deferredLeft waiting.recorder = false ∧ codeGood 1 5 coded = true ∧ codeGood 1 6 coded = false
      ∧ waiting.up = true ∧ waiting.serves = true ∧ mayCommit waiting = true ∧ mayCommit { waiting with alc := { waiting.alc with opened := true } } = false
      ∧ waiting.alc.opened = false ∧ waiting.stopped (dmaAddr 0) = false ∧ boundaryDue (recording fun r => { r with begun := false }) = true
      ∧ boundaryDue (recording fun r => { r with begun := true, periodLen := 60 }) = false
      ∧ (frozenSince 0).recorder.freeze = some (1, 0) ∧ 60000000 ≤ (frozenSince 60000000).elapsed - 0
      ∧ frozenByOther 1 coded = false ∧ codeLimitCheck 64 0 coded = 0 ∧ codeLimitCheck 64 1 coded = abRange := by decide +kernel

theorem witness_RecorderCommitsInOrder_full (l : List Rec) (h : l.length = 32760) :
    32760 ≤ (recording fun r => { r with log := l, commit := none }).recorder.log.length := h.ge

theorem witness_RecorderCommitsInOrder_writes :
    accepted 1 (ob 0x6100 1) (.num 3) (inMode 2) ∧ accepted 1 (ob 0x6100 3) (.num 1) (inMode 2)
      ∧ accepted 1 (ob 0x6100 5) (.num 1) waiting ∧ accepted 1 (ob 0x6100 5) (.num 0) waiting
      ∧ accepted 1 (ob 0x6110 1) (.num 1) coded ∧ accepted 1 (ob 0x6110 3) (.num 5) coded
      ∧ accepted 1 (ob 0x6031 ((63 : Fin 64).val + 1)) (.num 1) (inMode 1) := by
  unfold accepted; decide +kernel

theorem witness_RecorderCommitsInOrder_deferred :
    deferredLeft (recording fun r => { r with counts := [{ someRecord with flags := 2 }] }).recorder = true := by decide +kernel

/-- A descriptor of one octet within staging, and channels: with it in the ring, running with a lost source, bound. -/
def oneOctet : List Byte := zeros 4 ++ le 4 1 ++ zeros 24

def channelled (f : DmaChan → DmaChan) : P1 :=
  let p := ((inMode 2).wr (ob 0x580F 0x0B) 1).wr (ob 0x580F 2) 1
  { p with dma := p.dma.set 15 (f p.dma[15]) }

theorem witness_DmaChannelsRunTheirRings :
    (inMode 2).rdN (ob (0x5800 + (15 : Fin 16)) 0x0B) = 0 ∧ odWf (inMode 2).od = true
      ∧ (channelled id).rdN (ob (0x5800 + (15 : Fin 16)) 0x0B) = 1 ∧ odWf (channelled id).od = true
      ∧ (channelled id).stopped (dmaAddr 15) = false ∧ (channelled id).dma[15].ring.length < 16
      ∧ (channelled id).dma[15].run = none ∧ (channelled id).bufs = [] ∧ (channelled id).dma[15].pausing = false
      ∧ (channelled fun c => { c with run := some ⟨readDesc oneOctet, 0, false, false, some 5⟩ }).dma[15].run.isSome = true
      ∧ (channelled fun c => { c with run := some ⟨readDesc oneOctet, 0, false, false, none⟩ }).dma[15].run.isSome = true
      ∧ (channelled id).up = true ∧ (channelled id).serves = true ∧ (channelled fun c => { c with pausing := true }).dma[15].pausing = true := by decide +kernel

theorem witness_DmaChannelsRunTheirRings_writes :
    accepted 1 (ob (0x5800 + (15 : Fin 16)) 2) (.num 1) (inMode 2) ∧ accepted 1 (ob (0x5800 + (15 : Fin 16)) 2) (.num 0) (channelled id)
      ∧ accepted 1 (ob (0x5800 + (15 : Fin 16)) 5) (.bytes oneOctet) (channelled id)
      ∧ accepted 1 (ob (0x5800 + (15 : Fin 16)) 3) (.num 1) (channelled id)
      ∧ accepted 1 (ob (0x5800 + (15 : Fin 16)) 3) (.num 0) (channelled id)
      ∧ accepted 1 (ob (0x5800 + (15 : Fin 16)) 4) (.num 1) (channelled id) := by
  unfold accepted; decide +kernel

/-- A Shadow of a set of 3 with ID 1, and messages of its partner 2. -/
def shadowing : P1 :=
  (inMode 6).wrs [(kRole, 1), (kModuleId, 1), (ob 0x6400 2, 3), (ob 0x6400 5, 50000), (ob 0x5900 3, 0x0A000001)]

/-- Its slot 0 takes heading sentences, and module `home` is the slot's home. -/
def fedBy (home : Int) : P1 :=
  { shadowing.wrs [(slKey 0 2, 1), (slKey 0 6, 1), (slKey 0 7, 6), (ob 0x5700 1, 1), (slKey 0 1, 1), (ob 0x6410 1, home)] with
    elapsed := 9 }

def mirrorOf (mode : Nat) : Mirror :=
  { mode := mode, previousMode := 6, target := mode, pending := false, blendR := [], blendK := 0, blendKk := 0, grade := 1
    hold := 0, dispute := 0, changeStamp := 0, gens := [], setPoints := [], dwell := 0, law := [], lawOutput := []
    estNorth := 0, estEast := 0, estHeading := 0, alloc := ⟨[], [], 0, [], [], 0, [], 0, 0, 0, []⟩
    estimate := ⟨[], [], [], []⟩, close := ⟨[], 0, false, 0⟩, writes := [] }

def messageOf (role : Role) (nominee : Nat) (m : Option Mirror) : SetMessage :=
  ⟨2, 0, role, 6, 1, 65535, true, true, false, false, 1, 0, 0, nominee, 0, m⟩

theorem witness_RedundancyMessagesAndRequests :
    fromPartner (messageOf .lead 0 none) (inMode 6) = false ∧ fromPartner (messageOf .shadow 0 none) shadowing = true
      ∧ fromPartner (messageOf .lead 0 (some (mirrorOf 5))) shadowing = true ∧ (mirrorOf 5).writes = [] ∧ shadowing.role = 1
      ∧ shadowing.up = true ∧ shadowing.serves = true ∧ dpIp shadowing = true ∧ inSet shadowing = true
      ∧ odWf shadowing.od = true ∧ (messageOf .lead 1 none).nominee = shadowing.rdN kModuleId
      ∧ isEligible shadowing = true ∧ (∀ j : Fin 4, j.val ≠ 2 → shadowing.red.canLead[j] = 0)
      ∧ (messageOf .lead 3 none).nominee ≠ shadowing.rdN kModuleId ∧ shadowing.role ≠ 2 ∧ (inMode 6).setSize = 1
      ∧ slotTakes 0 true (fedBy 2) = true ∧ (fedBy 2).rd (ob 0x6410 1) ≠ 0 ∧ (fedBy 2).rd (ob 0x6410 1) ≠ (fedBy 2).rd kModuleId
      ∧ shadowing.setSize ≠ 1 ∧ shadowing.rd (ob 0x6410 ((63 : Fin 64).val + 1)) = 0 := by decide +kernel

/-- A Lead whose partner 2 is able to take over. -/
def leadWithPartner : P1 :=
  let p := { inMode 6 with sessions := [{ crew with no := 1 }] }
  let q := (((p.wr kRole 2).wr kModuleId 1).wr (ob 0x6400 2) 3).wr (ob 0x6400 5) 50000
  { q with red := { q.red with partners := [⟨2, 0, messageOf .shadow 0 none, 10, 10, 10⟩] } }

/-- Rejoin hold that began at 0, at a grain. -/
def rejoining (now : Nat) : P1 := { shadowing with elapsed := now, red := { shadowing.red with rejoinSince := some 0 } }

theorem witness_RedundancyMessagesAndRequests_hold :
    (rejoining 4000000000).rdN (ob 0x6400 8) * 1000000 ≤ 4000000000 - 0
      ∧ 0 - 0 < (rejoining 0).rdN (ob 0x6400 8) * 1000000 := by decide +kernel

theorem witness_RedundancyMessagesAndRequests_writes :
    accepted 1 (ob 0x6400 0x0D) (.num 2) (inMode 6) ∧ accepted 1 (ob 0x6400 0x0D) (.num 2) leadWithPartner
      ∧ accepted 1 (ob 0x6400 0x15) (.num 1) (inMode 6) := by
  unfold accepted; decide +kernel

theorem witness_RedundancyMessagesAndRequests_switch : leadWithPartner.role = 2 ∧ inSet leadWithPartner = true
    ∧ (∃ p ∈ recent leadWithPartner, (p.id : Int) = 2 ∧ ableInView p leadWithPartner = true) := by decide +kernel

/-- A module whose channel 3 works with a frame queued in priority 1 at a transmit error count. -/
def bussed (tec state : Nat) : P1 :=
  let p := ((inMode 1).wr (ob 0x5603 1) 1).wr (ob 0x5603 7) 0
  { p with can := p.can.set 3 { p.can[3] with q1 := [txFrame .canopen 0x701 [5]], tec := tec, errState := state } }

theorem witness_CanFramesAndErrorStates :
    (inMode 1).can[(3 : Fin 4)].head = none ∧ ((bussed 0 0).can[(3 : Fin 4)].head.map (·.1)) = some 1
      ∧ canOn 3 (bussed 0 0) = true ∧ listenOnly 3 (bussed 0 0) = false ∧ (bussed 0 0).can[(3 : Fin 4)].errState ≠ 2
      ∧ (bussed 0 0).can[(3 : Fin 4)].alone = false
      ∧ errStateOf (tecAfter (bussed 0 0).can[(3 : Fin 4)].tec 0 .otherError) (bussed 0 0).can[(3 : Fin 4)].rxErr ≠ 2
      ∧ 0 + 1 ≤ (bussed 0 0).rdN (ob (0x5600 + (3 : Fin 4)) (0x0A + 1))
      ∧ ((bussed 0 0).wr (ob 0x5603 0x0B) 0).rdN (ob (0x5600 + (3 : Fin 4)) (0x0A + 1)) ≤ 0
      ∧ 248 ≤ (bussed 248 1).can[(3 : Fin 4)].tec ∧ (bussed 256 2).can[(3 : Fin 4)].errState = 2
      ∧ (bussed 0 0).up = true ∧ (bussed 0 0).serves = true ∧ canOn 3 (bussed 256 2) = true ∧ (bussed 0 0).can[(3 : Fin 4)].writes = []
      ∧ (setCan 3 (fun x => { x with writes := [(7, 1)] }) (bussed 0 0)).can[(3 : Fin 4)].writes ≠ []
      ∧ canOn 3 ((inMode 1).wr (ob 0x5603 1) 0) = false ∧ canWriteCheck 3 9 8 (bussed 0 0) = 0
      ∧ canWriteCheck 3 9 9 (bussed 0 0) ≠ 0 := by decide +kernel

theorem witness_CanFramesAndErrorStates_writes :
    accepted 1 (ob (0x5600 + (3 : Fin 4)) 9) (.num 8) (bussed 0 0) ∧ accepted 1 (ob (0x5600 + (3 : Fin 4)) 9) (.num 9) (bussed 0 0)
      ∧ accepted 1 (ob (0x5600 + (3 : Fin 4)) 0x19) (.num 1) (bussed 0 0) := by
  unfold accepted; decide +kernel

/-- A module whose SDO server on channel 3 works, with or without a transfer, and a heartbeat time. -/
def serving (x : Option SdoXfer) (now : Nat) : P1 :=
  let p := ((((inMode 1).wr (ob 0x5603 1) 1).wr (ob 0x5603 7) 0).wr (ob 0x6613 1) 1).wr (ob 0x1017 0) 1000
  { p with sdo := p.sdo.set 3 x, elapsed := now, sessions := [{ crew with no := 20, lastGrain := 0 }] }

theorem witness_SdoTransfersAndHeartbeat :
    sdoWorks 3 (inMode 1) = false ∧ sdoWorks 3 (serving none 0) = true ∧ (serving none 0).sdo[(3 : Fin 4)] = none
      ∧ isDomain (keyOf 0x2100 2) = false ∧ readVerdict (keyOf 0x2100 2) = 0 ∧ readVerdict (keyOf 0 0) ≠ 0
      ∧ (session? (17 + (3 : Fin 4)) (serving none 0)).isSome = true
      ∧ (serving (some ⟨5, false, false, []⟩) 1000000).sdo[(3 : Fin 4)].isSome = true
      ∧ 1000000 ≤ (serving none 1000000).elapsed - 0 ∧ heartbeatDue (serving none 0) = true ∧ (serving none 0).serves = true
      ∧ (serving none 0).rd (ob (0x6610 + (3 : Fin 4)) 1) = 1 ∧ (serving none 0).stopped (canAddr 3) = false
      ∧ (serving none 0).rd (ob (0x5600 + (3 : Fin 4)) 1) ≠ 0 ∧ (serving none 0).rd (ob (0x5600 + (3 : Fin 4)) 7) ≠ 1
      ∧ (serving none 0).can[(3 : Fin 4)].q1.length < 64 ∧ heartbeatDue ((inMode 1).wr (ob 0x1017 0) 0) = false := by decide +kernel

theorem witness_SecondsReadLatchesNanoseconds :
    (inMode 2).serves = true ∧ session? 1 (inMode 2) = some crew
      ∧ (session? 2 { inMode 2 with sessions := [crew, { crew with no := 2 }] }).isSome = true ∧ crew.nanos = none := by
  decide +kernel

end Sys2Proof.Tests
end

section
/-! SUPPORT. What the core's view of P2 touches in P1 (R281, R388, R405), and one grain on an empty queue (R10, R13, R15). -/

namespace Sys2Proof.Machine

/-- P1 but for what the core's view of P2 touches: cells, analog output codes and what an alarm touches. -/
def P1.butGuardView (s : P1) : P1 := { s.butAlarm with ao := P1.reset.ao }

theorem P1.butGuardView_of_alarm {a b : P1} (h : b.butAlarm = a.butAlarm) : b.butGuardView = a.butGuardView :=
  congrArg (fun t : P1 => { t with ao := P1.reset.ao }) h

theorem P1.butGuardView_of_record {a b : P1} (h : b.butRecord = a.butRecord) : b.butGuardView = a.butGuardView :=
  P1.butGuardView_of_alarm (P1.butAlarm_of_can (P1.butCan_of_record h))

theorem P1.butGuardView_of_cells {a b : P1} (h : b.butCells = a.butCells) : b.butGuardView = a.butGuardView :=
  P1.butGuardView_of_record (P1.butRecord_of_cells h)

theorem aoSet_butGuardView (n : Nat) (code : Int) (safe : Bool) (s : P1) :
    (aoSet n code safe s).butGuardView = s.butGuardView := by
  unfold aoSet
  split
  · exact (P1.butGuardView_of_cells (P1.setBits_butCells ..)).trans rfl
  · rfl

/-- Taking a thruster's analog components to their safe codes writes output codes and their cells. -/
theorem analogSafe_butGuardView (i : Fin 16) (s : P1) : (analogSafe i s).butGuardView = s.butGuardView := by
  have put (sub : Nat) (t : P1) :
      (if t.rd (thrKey i sub) = 0xFF then t
        else aoSet (t.rdN (thrKey i sub)) (aoSafeCode (t.rdN (thrKey i sub)) t) true t).butGuardView = t.butGuardView := by
    split
    · rfl
    · exact aoSet_butGuardView ..
  exact (put 6 _).trans (put 5 s)

theorem endTest_butGuardView (s : P1) : (endTest s).butGuardView = s.butGuardView := by
  unfold endTest
  split
  · exact (analogSafe_butGuardView ..).trans (P1.butGuardView_of_record (record_butRecord ..))
  · rfl

theorem stopTest_butGuardView (s : P1) : (stopTest s).butGuardView = s.butGuardView := by
  unfold stopTest
  split
  · split
    · exact endTest_butGuardView s
    · rfl
  · rfl

theorem showStopped_butGuardView (p : P2) (s : P1) : (showStopped p s).butGuardView = s.butGuardView := by
  have shown (t : P1) (i : Fin 16) : (t.setBit (thrKey i 0x25) 5 (groupStops p i)).butCells = t.butCells := rfl
  unfold showStopped
  exact (stopTest_butGuardView _).trans (P1.butGuardView_of_cells (foldl_butCells _ shown _ s))

theorem lowerSafety_butGuardView (p : P2) (s : P1) : (lowerSafety p s).butGuardView = s.butGuardView := by
  unfold lowerSafety
  exact List.foldlRecOn (motive := fun t => t.butGuardView = s.butGuardView) _ _ rfl
    fun t ih _ _ => (P1.butGuardView_of_alarm (lower_butAlarm _ _ t)).trans ih

/-- The core's view of P2 leaves the other packages and the queue alone. -/
theorem syncGuard_coreOnly (s : State) : coreOnly s (syncGuard s) := by
  unfold syncGuard
  split <;> exact ⟨rfl, rfl, rfl⟩

theorem syncGuard_butGuardView (s : State) : (syncGuard s).p1.butGuardView = s.p1.butGuardView := by
  unfold syncGuard
  split
  · exact (lowerSafety_butGuardView ..).trans
      ((showStopped_butGuardView ..).trans (P1.butGuardView_of_cells (P1.wrs_butCells ..)))
  · rfl

/-- A grain brings P1's module time to the start of the next grain while its clocks run (R13, R15). -/
theorem tickP1_ns {s : P1} (h : s.phase ≠ .off) : (tickP1 s).ns = (s.ns / 1000 + 1) * 1000 % 2 ^ 64 := by
  simp only [tickP1, if_neg h]

/-- A grain counts one more grain since reset while P1's clocks run (R10). -/
theorem tickP1_elapsed {s : P1} (h : s.phase ≠ .off) : (tickP1 s).elapsed = s.elapsed + 1 := by
  simp only [tickP1, if_neg h]

theorem tickGuard_p2 (s : State) : (tickGuard s).p2 = closeSlot { s.p2 with clock := s.p2.clock + 1 } := by
  unfold tickGuard
  dsimp only
  split
  · exact (syncGuard_coreOnly _).1
  · rfl

theorem tickGuard_p3 (s : State) : (tickGuard s).p3 = s.p3 := by
  unfold tickGuard
  dsimp only
  split
  · exact (syncGuard_coreOnly _).2.1
  · rfl

theorem tickGuard_pending (s : State) : (tickGuard s).pending = s.pending := by
  unfold tickGuard
  dsimp only
  split
  · exact (syncGuard_coreOnly _).2.2
  · rfl

theorem tickGuard_butGuardView (s : State) : (tickGuard s).p1.butGuardView = s.p1.butGuardView := by
  unfold tickGuard
  dsimp only
  split
  · exact syncGuard_butGuardView _
  · rfl

/-- With no write that waits for the power of its unit, none takes effect (R47). -/
theorem wakeWrites_none {s : State} (h : s.p1.asleep = []) : wakeWrites s = s := by
  simp [wakeWrites, h]

/-- With nothing pending, one grain passes (assumption 2). -/
theorem step_of_empty {s : State} (h : s.pending = []) : step s = .next (tick s) := by
  simp only [step, h]

/-- Settles O2: a tick of P2 reaches P1 only through the core's view of P2, which touches neither module time nor the count
of grains. -/
theorem emptyQueuePassesOneGrain : Obligations.EmptyQueuePassesOneGrain := by
  intro s hq hon hasleep
  let m : State := { s with p1 := tickP1 s.p1, p3 := tickField s.p3 }
  have htick : tick s = tickGuard m := by simp only [tick, wakeWrites_none hasleep, m]
  have hview : (tickGuard m).p1.butGuardView = (tickP1 s.p1).butGuardView := tickGuard_butGuardView m
  refine ⟨tickGuard m, htick ▸ step_of_empty hq, ?_, ?_, tickGuard_p2 m, tickGuard_p3 m, (tickGuard_pending m).trans hq⟩
  · exact (congrArg P1.ns hview).trans (tickP1_ns hon)
  · exact (congrArg P1.elapsed hview).trans (tickP1_elapsed hon)

end Sys2Proof.Machine
end

section
/-! SUPPORT. Cells read back after a write, and what the rules and events of the clock chapter do (R12, R19, R30–R38). -/

namespace Sys2Proof.Machine

/-- A cell of a canonical map after a write. -/
theorem odGet_odPut {o : Od} (h : odWf o = true) (k j : Nat) (v : Int) :
    odGet (odPut o k v) j = if j = k then v else odGet o j := by
  have hrise : odRising 0 o = true := (Bool.and_eq_true _ _ ▸ h).1
  unfold odPut
  split
  · next hd => rw [odGet_odErase k j 0 o hrise, hd]
  · exact odGet_odInsert k j v o

/-- The canonical form is kept by a write. -/
theorem odWf_odPut {o : Od} (h : odWf o = true) (k : Nat) (v : Int) : odWf (odPut o k v) = true := by
  simp only [odWf, Bool.and_eq_true, List.all_eq_true, decide_eq_true_eq, ne_eq] at h ⊢
  obtain ⟨hrise, hlisted⟩ := h
  unfold odPut
  split
  · exact ⟨odRising_odErase k 0 o hrise, fun e he => hlisted e (mem_odErase k e o he)⟩
  · next hd =>
    refine ⟨odRising_odInsert k v 0 o (Nat.zero_le k) hrise, fun e he => ?_⟩
    rcases mem_odInsert k v e o he with rfl | he
    · exact hd
    · exact hlisted e he

/-- A cell reads back as written, and every other cell as before. -/
theorem P1.wr_rd {p : P1} (h : odWf p.od = true) (k j : Nat) (v : Int) :
    (p.wr k v).rd j = if j = k then v else p.rd j :=
  odGet_odPut h k j v

/-- 2300h:06 saturates at the largest 32-bit value (R36). -/
theorem inc_refusedCount (p : P1) :
    p.inc (ob 0x2300 6) = p.wr (ob 0x2300 6) (satAdd 0xFFFFFFFF (p.rd (ob 0x2300 6)) 1) := by
  have htop : topOf (ob 0x2300 6) = 0xFFFFFFFF := by decide +kernel
  simp only [P1.inc, P1.add, htop]

/-- A trigger that R35 refuses is counted alone. -/
theorem snapTrigger_refused {p : P1} (h : snapRefused p = true) (src : Nat) :
    snapTrigger src p = p.wr (ob 0x2300 6) (satAdd 0xFFFFFFFF (p.rd (ob 0x2300 6)) 1) := by
  rw [← inc_refusedCount, snapTrigger, if_pos h]

/-- A locked set refuses every trigger (R35). -/
theorem snapRefused_of_lock {p : P1} (hlock : p.rd (ob 0x2300 2) = 1) (hset : p.rd (ob 0x2300 3) ≠ 0) :
    snapRefused p = true := by
  simp [snapRefused, hlock, hset]

/-- Settles O15: the lock refuses the trigger in the effect and in the busy test of 2300h:01. -/
theorem lockedSnapshotRefusesTriggers : Obligations.LockedSnapshotRefusesTriggers := by
  intro s w src hserves hlock hset
  have href : snapRefused s.p1 = true := snapRefused_of_lock hlock hset
  refine ⟨snapTrigger_refused href src, fun hacc => ?_⟩
  have hbusy : snapTriggerRule.busy s.p1 = abBusy := if_pos href
  have hleft : snapTriggerRule.refused abBusy s.p1 = s.p1.inc (ob 0x2300 6) := by
    simp [snapTriggerRule]
  rw [← inc_refusedCount, ← hleft]
  exact onReq_busyRefused hserves hacc (by decide) rfl rfl hbusy

/-- A programmed time of 0, or not before the grain in progress, passes the test of 2300h:0A (R32). -/
theorem snapTimeRule_check {v : Int} {p : P1} (h : v = 0 ∨ (p.grainStart : Int) ≤ v) : (snapTimeRule v).check p = 0 :=
  if_neg (by simp only [Bool.and_eq_true, decide_eq_true_eq]; omega)

/-- A programmed time inside the grain in progress also fires at the end of the grain (R32). -/
theorem snapTimeRule_eff_now {v : Int} {p : P1} (hv : v ≠ 0) (h : inGrain v p = true) :
    (snapTimeRule v).eff p = snapLater 3 (p.wr (ob 0x2300 0x0A) v) :=
  if_pos (by simp [hv, h])

/-- A programmed time of 0, or outside the grain in progress, is stored alone (R32). -/
theorem snapTimeRule_eff_later {v : Int} {p : P1} (h : v = 0 ∨ inGrain v p = false) :
    (snapTimeRule v).eff p = p.wr (ob 0x2300 0x0A) v :=
  if_neg (by rcases h with h | h <;> simp [h])

/-- A write of 2300h:0A that passes its test has the effect of its rule (R32). -/
theorem execSnapTimeWrite_accepted {s : State} {w : Nat} {v : Int} (hserves : s.p1.serves = true)
    (hacc : accepted w (ob 0x2300 0x0A) (.num v) s.p1) (hv : v = 0 ∨ (s.p1.grainStart : Int) ≤ v) :
    execSnapTimeWrite w v s = .next (written w (ob 0x2300 0x0A) (.num v) (snapTimeRule v).eff s) :=
  onReq_accepted hserves hacc rfl (snapTimeRule_check hv) rfl

/-- Settles O13: every rule of the chapter has an effect alone but 2300h:0A and 2300h:01, whose tests the hypotheses pass. -/
theorem clockWritesTakeEffect : Obligations.ClockWritesTakeEffect := by
  intro s w v hserves
  refine ⟨fun h => onReq_eff hserves h, fun h => onReq_accepted hserves h rfl rfl rfl, fun h => onReq_eff hserves h,
    fun h => onReq_eff hserves h, fun h hv => ?later, fun h hv hlo hhi => ?now,
    fun h href => onReq_accepted hserves h rfl rfl (if_neg (by simp [href]))⟩
  case later =>
    have hout : v = 0 ∨ inGrain v s.p1 = false := by
      simp only [inGrain, decide_eq_false_iff_not]
      omega
    refine (execSnapTimeWrite_accepted hserves h (by unfold P1.grainStart; omega)).trans ?_
    rw [written, snapTimeRule_eff_later hout]
    rfl
  case now =>
    have hin : inGrain v s.p1 = true := by
      simp only [inGrain, decide_eq_true_eq]
      omega
    refine (execSnapTimeWrite_accepted hserves h (.inr (by unfold P1.grainStart; omega))).trans ?_
    rw [written, snapTimeRule_eff_now hv hin]
    rfl

/-- A pending change of the station cycle takes effect at its boundary (R19). -/
theorem cycleChangeEffect_due {p : P1} {c g : Nat} (hp : p.cyclePending = some (c, g)) (hg : g < p.elapsed)
    (hi : p.grainIndex % 20000 = 0) :
    cycleChangeEffect p =
      ({ p with cyclePending := none }.wr (ob 0x2000 2) (cycleGrains c)).setBit kClock bCyclePending false := by
  simp [cycleChangeEffect, hp, hg, hi]

/-- Without a pending change, or in another grain, the station cycle stays (R19). -/
theorem cycleChangeEffect_idle {p : P1} (h : p.cyclePending = none ∨ p.grainIndex % 20000 ≠ 0) :
    cycleChangeEffect p = p := by
  rcases h with h | h
  · simp [cycleChangeEffect, h]
  · unfold cycleChangeEffect
    split
    · simp [h]
    · rfl

/-- The cycle lengths of the codes of 2000h:01 (R19). -/
theorem cycleGrains_eq {c : Nat} (h : c < 4) :
    (cycleGrains c : Int) = ([2500, 5000, 10000, 20000] : List Int).getD c 0 := by
  interval_cases c <;> rfl

/-- P1 runs only with supply. -/
theorem phase_of_up {p : P1} (h : p.up = true) : p.phase = .run := by
  simp only [P1.up, Bool.and_eq_true, decide_eq_true_eq] at h
  exact h.1

/-- The first trigger of a grain makes the next set (R30–R37). -/
theorem snapTrigger_first {p : P1} (href : snapRefused p = false) (hfirst : p.snapGrain ≠ some p.elapsed) (src : Nat) :
    snapTrigger src p =
      { ((((((p.wr (ob 0x2300 3) (nextSet (p.rdN (ob 0x2300 3)) : Nat)).wr (ob 0x2300 4) (p.grainStart % 2 ^ 32 : Nat)).wr
          (ob 0x2300 5) (2 ^ src)).wr (ob 0x2300 0x0B) p.grainStart).setOctets (ob 0x2300 0x0C)
            (snapContent (nextSet (p.rdN (ob 0x2300 3))) p.grainStart (2 ^ src) (unitEntries p))).drawN snapDraws) with
        snapGrain := some p.elapsed } := by
  simp only [snapTrigger, href, if_neg hfirst]
  rfl

/-- The cells after the first trigger of a grain (R31, R34). -/
theorem snapTrigger_first_rd {p : P1} (hwf : odWf p.od = true) (href : snapRefused p = false)
    (hfirst : p.snapGrain ≠ some p.elapsed) (src k : Nat) :
    (snapTrigger src p).rd k =
      if k = ob 0x2300 0x0B then (p.grainStart : Int) else if k = ob 0x2300 5 then 2 ^ src
      else if k = ob 0x2300 4 then (p.grainStart % 2 ^ 32 : Nat)
      else if k = ob 0x2300 3 then (nextSet (p.rdN (ob 0x2300 3)) : Nat) else p.rd k := by
  have h3 := odWf_odPut hwf (ob 0x2300 3) (nextSet (p.rdN (ob 0x2300 3)) : Nat)
  have h4 := odWf_odPut h3 (ob 0x2300 4) (p.grainStart % 2 ^ 32 : Nat)
  have h5 := odWf_odPut h4 (ob 0x2300 5) (2 ^ src)
  rw [snapTrigger_first href hfirst]
  exact (P1.wr_rd h5 _ k _).trans (by rw [P1.wr_rd h4, P1.wr_rd h3, P1.wr_rd hwf])

/-- The content after the first trigger of a grain (R37). -/
theorem snapTrigger_first_octets {p : P1} (href : snapRefused p = false) (hfirst : p.snapGrain ≠ some p.elapsed)
    (src : Nat) :
    (snapTrigger src p).octets (ob 0x2300 0x0C) =
      snapContent (nextSet (p.rdN (ob 0x2300 3))) p.grainStart (2 ^ src) (unitEntries p) := by
  rw [snapTrigger_first href hfirst]
  exact P1.setOctets_octets ..

/-- Settles O14: the events act where their conditions hold, and the first trigger of a grain writes the objects of its set. -/
theorem cycleAndSnapshotEvents : Obligations.CycleAndSnapshotEvents := by
  intro s hup
  refine ⟨fun c g hc hp hg hi => ?_, fun h => ?_, fun hset hdue => ?_, fun hclear => ?_, ?_, fun src hwf href hfirst => ?_⟩
  · refine (onP1_run hup).trans ?_
    rw [cycleChangeEffect_due hp hg hi, cycleGrains_eq hc]
    rfl
  · refine (onP1_run hup).trans ?_
    rw [cycleChangeEffect_idle h]
  · refine (onP1_run hup).trans ?_
    have hnow : s.p1.rdN (ob 0x2300 0x0A) < s.p1.grainStart + 1000 := by unfold P1.grainStart; omega
    simp [snapProgrammedTime, hset, hnow, State.core]
  · refine (onP1_run hup).trans ?_
    simp [snapProgrammedTime, hclear]
  · have hon : s.p1.phase ≠ .off := by simp [phase_of_up hup]
    exact if_neg hon
  · have hrd := snapTrigger_first_rd hwf href hfirst src
    have hset : (snapTrigger src s.p1).rd (ob 0x2300 3) = (nextSet (s.p1.rdN (ob 0x2300 3)) : Nat) := by
      simpa using hrd (ob 0x2300 3)
    have hnum : (snapTrigger src s.p1).rdN (ob 0x2300 3) = nextSet (s.p1.rdN (ob 0x2300 3)) := by
      rw [P1.rdN, hset, Int.toNat_natCast]
    refine ⟨hset, by simpa [P1.grainStart] using hrd (ob 0x2300 4), by simpa using hrd (ob 0x2300 5),
      by simpa [P1.grainStart] using hrd (ob 0x2300 0x0B), ?_, fun k hk => ?_⟩
    · rw [snapTrigger_first_octets href hfirst, hnum]
      rfl
    · simp only [Bool.or_eq_false_iff, decide_eq_false_iff_not] at hk
      simp [hrd k, hk]

end Sys2Proof.Machine
end

section
/-! SUPPORT. The start and the overrun of a station cycle, a vacancy, and the servo tick (R20–R28, R47, R479). -/

namespace Sys2Proof.Machine

/-- An event of the core that changes nothing while it runs. -/
theorem onP1_idle {f : P1 → P1} {s : State} (hup : s.p1.up = true) (h : f s.p1 = s.p1) : onP1 f s = .next s := by
  rw [onP1_run hup, h]

/-! ### The servo tick -/

/-- In a servo tick the speeds come first; CTL1 then does its work where it runs (R27, R47). -/
theorem servoTick_due {p : P1} (hi : p.grainIndex % 250 = 0) (ht : p.ctl.tickAt ≠ some p.elapsed) :
    servoTick p = servoWork p :=
  if_neg (by simp [hi, ht])

/-- Another grain, or one that has had its tick, has none (R16, R27). -/
theorem servoTick_idle {p : P1} (h : p.grainIndex % 250 ≠ 0 ∨ p.ctl.tickAt = some p.elapsed) : servoTick p = p :=
  if_pos (by simpa using h)

/-- The axis speeds at a tick (R27). -/
def tickSpeeds (p : P1) : P1 :=
  (List.finRange 8).foldl (fun u (a : Fin 8) => tickSpeed a u) { p with ctl := { p.ctl with tickAt := some p.elapsed } }

/-- After the speeds CTL1 does its work where it runs (R27). -/
theorem servoWork_eq (p : P1) :
    servoWork p = if servoRuns (tickSpeeds p) then
        ((List.finRange 32).foldl (fun u (l : Fin 32) => servoLoop l u) (trackTick (gensTick (tickSpeeds p)))).drawN 32
      else tickSpeeds p := rfl

theorem servoRuns_of {p : P1} (hm : p.mode ≠ 0) (hs : p.stopped (ctlAddr 1) = false) : servoRuns p = true := by
  simp [servoRuns, hm, hs]

theorem servoRests_of {p : P1} (h : p.mode = 0 ∨ p.stopped (ctlAddr 1) = true) : servoRuns p = false := by
  rcases h with h | h <;> simp [servoRuns, h]

/-- A loop that is off is clear (R235). -/
theorem servoLoop_off {l : Fin 32} {p : P1} (h : p.rd (loopKey l 1) = 0) : servoLoop l p = setLoop l ⟨0, 0, false⟩ p :=
  if_pos h

/-- A loop without commands and without an output is forced, and this is recorded once (R236). -/
theorem servoLoop_unfed {l : Fin 32} {p : P1} (hon : p.rd (loopKey l 1) ≠ 0) (hfed : loopFed l p = false)
    (hout : 16 ≤ p.rdN (loopKey l 5)) (hforced : (p.ctl.loops[l]).forced = false) :
    servoLoop l p = record 0x0405 l.val (setLoop l ⟨0, 0, true⟩ p) := by
  simp only [servoLoop, if_neg hon, hfed, hforced, if_neg (Nat.not_lt.mpr hout), Bool.not_false, Bool.true_or, if_true,
    Bool.false_eq_true, if_false]

/-- Settles O17: the tick and the propagation act in their grains alone, each through the function that the rule names. -/
theorem servoTickRunsSpeedsGeneratorsLoops : Obligations.ServoTickRunsSpeedsGeneratorsLoops := by
  intro s hup
  refine ⟨fun t hi ht hspeeds => ?tick, fun h => onP1_idle hup (servoTick_idle h), fun hi => ?propagation,
    fun hi => onP1_idle hup (if_neg hi), fun l p => servoLoop_off, fun l p => servoLoop_unfed⟩
  case tick =>
    obtain rfl : t = tickSpeeds s.p1 := hspeeds
    have hwork : exec .servoTick s = .next (s.core (servoWork s.p1)) :=
      (onP1_run hup).trans (by rw [servoTick_due hi ht]; rfl)
    rw [hwork]
    exact ⟨fun hm hs => by rw [servoWork_eq, if_pos (servoRuns_of hm hs)]; rfl,
      fun hrest => by rw [servoWork_eq, servoRests_of hrest]; rfl⟩
  case propagation =>
    refine (onP1_run hup).trans ?_
    rw [propagate, if_pos hi]
    rfl

/-! ### The station cycle -/

/-- Dormant and grains between two G+0 have no cycle start (R16, R47). -/
theorem stationCycle_idle {s : State} (h : s.p1.mode = 0 ∨ s.p1.grainIndex % s.p1.cycleLen ≠ 0) : stationCycle s = s :=
  if_pos (by rcases h with h | h <;> simp [atCycle, h])

/-- P1 at a cycle start that no time step takes: the stamp of the latch (R20, R295). -/
def latched (p : P1) : P1 := { p with time := { p.time with broken := false }, alc := { p.alc with latch := p.ns } }

/-- A cycle start without a time step takes the staged writes, then does its work with the servo tick of its grain (R20, R468). -/
theorem stationCycle_starts {s : State} {p : P1} (hup : s.p1.up = true) (hm : s.p1.mode ≠ 0)
    (hi : s.p1.grainIndex % s.p1.cycleLen = 0) (hstep : timeStep (overrunWork s.p1) = (p, false)) :
    stationCycle s =
      { takeStaged { s with p1 := latched p } with
        p1 := cycleStart (servoTick (latchGains (takeStaged { s with p1 := latched p }).p1)) } := by
  rw [stationCycle, if_neg (by simp [hup, hm, hi, atCycle]), hstep]
  rfl

/-- Before G+900, or with no cycle open, none has overrun (R25). -/
theorem overrunWork_idle {p : P1} (h : p.alc.opened = false ∨ p.ns < p.alc.latch + 900000) : overrunWork p = p :=
  if_pos (by rcases h with h | h <;> simp [h])

/-- An overrun: counted, recorded and raised, with the commands of the cycle not released (R25). -/
def overran (p : P1) : P1 :=
  setRed (fun r => { r with overrun := true }) (sampleRelease (raise 0x0012 0 (record 0x0012 0
    ({ p with alc := { p.alc with due := false, queue := [], opened := false }
              overrunRun := p.overrunRun + 1 }.inc (ob 0x2001 3)))))

theorem overrunWork_due {p : P1} (ho : p.alc.opened = true) (hl : p.alc.latch + 900000 ≤ p.ns) :
    overrunWork p = afterRelease (if 3 ≤ p.overrunRun + 1 then moduleFault (overran p) else overran p) :=
  if_neg (by simp [ho, Nat.not_lt.mpr hl])

/-- Settles O16: each event of the cycle is its work where its condition holds, and nothing where it does not. -/
theorem stationCycleRunsItsStages : Obligations.StationCycleRunsItsStages := by
  intro s hup
  refine ⟨fun h => congrArg _ (stationCycle_idle h), fun p hm hi hstep => ?start,
    fun h => onP1_idle hup (overrunWork_idle h), fun u ho hl hu => ?overrun, fun hv => ?vacancy,
    fun hv => onP1_idle hup (if_neg (by simp [hv]))⟩
  case start =>
    exact ⟨takeStaged { s with p1 := latched p }, rfl, congrArg _ (stationCycle_starts hup hm hi hstep)⟩
  case overrun =>
    obtain rfl : u = overran s.p1 := hu
    refine ⟨fun hn => (onP1_run hup).trans ?_, fun hn => (onP1_run hup).trans ?_⟩
    · rw [overrunWork_due ho hl, if_neg (by omega)]
      rfl
    · rw [overrunWork_due ho hl, if_pos (by omega)]
      rfl
  case vacancy =>
    refine (onP1_run hup).trans ?_
    rw [vacancyWork, if_pos hv]
    rfl

end Sys2Proof.Machine
end

section
/-! SUPPORT. What a command of the core leaves alone (R46, R61): whatever shape a command of the core enters through, it
answers a state that differs in P1 alone. -/

namespace Sys2Proof.Machine

/-- A next state that differs in P1 alone leaves the other packages and the queue alone. -/
theorem coreOnly_of_next {s t : State} {p : P1} (h : (.next { s with p1 := p } : Out) = .next t) : coreOnly s t := by
  obtain rfl := Host.Outcome.next.inj h
  exact ⟨rfl, rfl, rfl⟩

/-- A command that acts on P1 alone on both sides of its condition leaves the other packages and the queue alone. -/
theorem coreOnly_of_ite {b : Prop} [Decidable b] {s t : State} {p q : P1}
    (h : (if b then .next { s with p1 := p } else .next { s with p1 := q } : Out) = .next t) : coreOnly s t := by
  split at h
  · exact coreOnly_of_next h
  · exact coreOnly_of_next h

/-- Every command of the core acts on P1 alone. The cases group the commands by the shape through which they enter: an event
of P1, a write, a measurement, an outcome without a condition, and one under a condition of P1. -/
theorem exec_coreOnly {c : Instr} {s t : State} (hc : coreCommand c = true) (h : exec c s = .next t) : coreOnly s t := by
  cases c with
  | releaseOverrun | servoTick | inertialPropagation | cycleChangeEffect | snapProgrammedTime |
    dieTemperatureAlarm | supplyInputChange | springStepComplete | fastPacketTimeout | lidarFrameTimeout |
    timeModelBlockEnd | disputeLimit | headingDisputeLimit | upgradeTime | holdLimit | alignIssue |
    suspectClearTime | structureSwap | waypointDwellEnd | waveRefitIssue | waveFitAgeExpiry | waveExitTime |
    thrusterFeedbackFrame | testDurationExpiry | timeSecond | sourceLost | holdoverLimit | leapSecond | timeSave
    | ptpSync | ptpAnnounceTimeout | ppsPulse | evtEdge | channelAssignment | channelLockLoss | gnssEpoch |
    antennaStateChange | gnssWake | gnssWakeEnd | countEdge | comparePulseEnd | axisSignalFault |
    absoluteReadStart | absoluteReadDone | speedWindowEnd | probeLatch | probeRecordQueued | indexPulse |
    filterOutput | shuntRetry | fieldFrameConfirm | prpFrameReceived | prpSupervision | sfpModuleChange |
    nodeForget | igmpQuery | aoaDatagramDiscard | setMessageSegmentTimeout | vacancy | rejoinHoldEnd |
    canFrameSent | canBusOffRecovery | canFrameExpiry | serialBreak | serialOverrun | periodBoundary |
    recordCommit | commitComplete | freezeExpiry | dmaDescriptorStart | dmaPaused | saveStepComplete |
    channelLock | canReceiveError | ptpAnnounce | ptpMasterSync | sensorPortDatagram | templateFrameGap |
    sentenceSyntaxDiscard | serialCharacterError => exact onP1_coreOnly h
  | stationCycleWrite | snapTriggerWrite | snapTimeWrite | snapLockWrite | clearRefusedCount |
    clearCycleStatistics | readStatusWordSelect | panelInputAssign | slotEnable | acceptRefined |
    mountCommissionedWrite | structureModelWrite | markerTableWrite | slotClearCounters | disputeSelection |
    recaptureOrigin | clearSuspect | structureLoad | testJobDescriptor | solverClearStatistics |
    positionSetpointWrite | headingSetpointWrite | relativeMove | relativeTurn | targetOffsetWrite |
    weathervaneWrite | waypointListWrite | profileLimitWrite | clearSaturationFlags | thrustCurveWrite |
    fallbackTableWrite | generateFallbackTables | testThrusterStart | testThrusterEnd |
    allocationClearStatistics | ppsOnceWrite | ppsGridWrite | compareListWrite | compareEntryWrite | setPosition
    | axisClearCounters | emulationEnable | checkValueEntry | groupEnable | switchOverRequest |
    redundancyClearCounters | canChannelWrite | canClearCounters | serialClearCounters | templateWrite |
    networkClearCounters | cursorWrite | cursorAdvance | freeze | freezeRelease | clearRequest | confirmClear |
    codeLimitWrite | dmaEnable | dmaEnqueue | dmaPause | dmaResume | dmaReset | storeSave | eraseStore |
    sdoServerEnable | authorisationResponse | giveUpAuthorisation | alarmAcknowledge => exact onReq_coreOnly h
  | nmeaSentence | udpbcDatagram | nmea2000Message | templateFrame | lidarSegment | landmarkPacket |
    republication | canFrameReceived => exact onMeasured_coreOnly h
  | modeCommandDormant | modeCommandCommissioning | modeCommandStandby | modeCommandManualLever |
    modeCommandJoystick | modeCommandJoystickAutoHeading | modeCommandAutoPosition | modeCommandAutoTrack |
    modeCommandFollowTarget | modeCommandWeathervane | modeCommandCloseHold | modeCommandWinter | coreBrownout |
    resetInputStuck | resetStuckClear | aoaOpen => exact coreOnly_of_next h
  | secondsRead | evtEventRead | compareEventRead | probeRecordRead | sessionIdle | receiveBufferTimeout |
    dmaCompletionRead | sdoUpload | sdoBlockUpload | sdoAbort | sdoTimeout | challengeRead | lockoutEnd |
    canopenHeartbeat | pllUnlock | pllLockHeld | jobIssue | jobStart | jobComplete | jobDeadline |
    engineCheckJob | waveSample | refWarm | lanFault | linkChange | canAttemptFail => exact coreOnly_of_ite h
  | _ => exact absurd hc Bool.false_ne_true

/-- Settles O5: a command of the core acts on P1 alone, whatever the state. -/
theorem coreCommandsLeaveOtherPackages : Obligations.CoreCommandsLeaveOtherPackages := by
  intro c s t hc h
  obtain ⟨hp2, hp3, -⟩ := exec_coreOnly hc h
  exact ⟨hp2, hp3⟩

end Sys2Proof.Machine
end

section
/-! SUPPORT. Faults by address (R51–R64): blocks and levels, which faults an operation can leave in force, what a report and a
fault at an address do, and the switches of P2 after an event. -/

namespace Sys2Proof.Machine

/-! ### Blocks and levels (R43, R51) -/

theorem blockOf_div (a : Nat) : blockOf a / 1024 = a / 1024 := Nat.mul_div_cancel _ (by decide)

/-- The span of a block does not depend on the cause (R51). -/
theorem blockSpan_congr {a b : Nat} (h : a / 1024 = b / 1024) : blockSpan a = blockSpan b := by
  have hpkg : a / 2 ^ 30 = b / 2 ^ 30 := by omega
  have hdie : a / 2 ^ 27 = b / 2 ^ 27 := by omega
  have hregion : a / 2 ^ 24 = b / 2 ^ 24 := by omega
  have hcluster : a / 2 ^ 18 = b / 2 ^ 18 := by omega
  have hunit : a / 2 ^ 10 = b / 2 ^ 10 := h
  simp only [blockSpan, hpkg, hdie, hregion, hcluster, hunit]

@[simp] theorem levelOf_blockOf (a : Nat) : levelOf (blockOf a) = levelOf a := by
  simp only [levelOf, blockSpan_congr (blockOf_div a)]

/-- A block leaves open at least the ten bits of the cause. -/
theorem ten_le_blockSpan (a : Nat) : 10 ≤ blockSpan a := by
  unfold blockSpan
  split_ifs <;> decide

/-- A fault address holds its own block. -/
theorem blockHolds_blockOf (a : Nat) : blockHolds a (blockOf a) = true := by
  obtain ⟨n, hn⟩ := Nat.exists_eq_add_of_le (ten_le_blockSpan a)
  have hdiv : blockOf a / 2 ^ blockSpan a = a / 2 ^ blockSpan a := by
    rw [hn, Nat.pow_add, ← Nat.div_div_eq_div_mul, ← Nat.div_div_eq_div_mul]
    exact congrArg (· / 2 ^ n) (blockOf_div a)
  simp [blockHolds, hdiv, blockSpan_congr (blockOf_div a)]

/-- A block with a cause is a fault of that block. -/
theorem blockOf_add (a : Nat) {c : Nat} (h : c < 1024) : blockOf (blockOf a + c) = blockOf a := by
  unfold blockOf
  omega

/-- An address of package 0 is the module as a whole (R52). -/
theorem levelOf_system {a : Nat} (h : a / 2 ^ 30 % 4 = 0) : levelOf a = 5 := by
  simp only [levelOf, blockSpan, if_pos h]

/-- An address of another package is at package level or below. -/
theorem levelOf_package {a : Nat} (h : a / 2 ^ 30 % 4 ≠ 0) : levelOf a ≠ 5 := by
  unfold levelOf blockSpan
  rw [if_neg h]
  split_ifs <;> decide

/-! ### Faults in force -/

/-- The faults in force, those reported and those that are not (R57). -/
def P1.inForce (s : P1) : List FaultRec × List FaultRec := (s.faults, s.unreported)

theorem P1.inForce_of_view {a b : P1} (h : b.butGuardView = a.butGuardView) : b.inForce = a.inForce :=
  show b.butGuardView.inForce = a.butGuardView.inForce by rw [h]

theorem P1.inForce_of_alarm {a b : P1} (h : b.butAlarm = a.butAlarm) : b.inForce = a.inForce :=
  show b.butAlarm.inForce = a.butAlarm.inForce by rw [h]

theorem P1.inForce_of_can {a b : P1} (h : b.butCan = a.butCan) : b.inForce = a.inForce :=
  show b.butCan.inForce = a.butCan.inForce by rw [h]

theorem P1.inForce_of_record {a b : P1} (h : b.butRecord = a.butRecord) : b.inForce = a.inForce :=
  show b.butRecord.inForce = a.butRecord.inForce by rw [h]

theorem P1.inForce_of_cells {a b : P1} (h : b.butCells = a.butCells) : b.inForce = a.inForce :=
  show b.butCells.inForce = a.butCells.inForce by rw [h]

/-- The dies' states and temperatures are cells (R64). -/
theorem showDies_butCells (s : P1) : (showDies s).butCells = s.butCells := by
  refine foldl_butCells _ (fun t d => ?_) allDies s
  dsimp only
  split <;> rfl

theorem P1.setField_butCells (k lo width x : Nat) (s : P1) : (s.setField k lo width x).butCells = s.butCells := rfl

theorem showSolver_butCells (s : P1) : (showSolver s).butCells = s.butCells := by
  unfold showSolver
  dsimp only
  exact (P1.setField_butCells ..).trans (P1.setField_butCells ..)

theorem showBlocks_butCells (s : P1) : (showBlocks s).butCells = s.butCells :=
  (showSolver_butCells _).trans (showDies_butCells s)

theorem showFaults_inForce (s : P1) : (showFaults s).inForce = s.inForce :=
  (P1.inForce_of_cells (showBlocks_butCells _)).trans rfl

/-! ### A module-level fault (R62) -/

theorem netSend_inForce (c : Fin 8) (x : NetItem) (s : P1) : (netSend c x s).inForce = s.inForce := by
  unfold netSend
  split_ifs <;> rfl

theorem canDropLead_butCan (c : Fin 4) (s : P1) : (canDropLead c s).butCan = s.butCan := canReportAll_butCan ..

theorem analogSafeAll_butGuardView (s : P1) : (analogSafeAll s).butGuardView = s.butGuardView :=
  List.foldlRecOn (motive := fun t => t.butGuardView = s.butGuardView) _ _ rfl
    fun t ih i _ => (analogSafe_butGuardView i t).trans ih

theorem stopLeading_inForce (s : P1) : (stopLeading s).inForce = s.inForce :=
  (P1.inForce_of_view (analogSafeAll_butGuardView _)).trans
    ((P1.inForce_of_can (eachCan_butCan canDropLead canDropLead_butCan _)).trans rfl)

theorem leadOutput_butCells (s : P1) : (leadOutput s).butCells = s.butCells := by
  unfold leadOutput
  dsimp only
  split <;> rfl

theorem setRole_butCells (r : Nat) (s : P1) : (setRole r s).butCells = s.butCells :=
  (leadOutput_butCells _).trans (P1.wrs_butCells _ s)

theorem recordGiveUp_butAlarm (code p : Nat) (s : P1) : (recordGiveUp code p s).butAlarm = s.butAlarm := by
  unfold recordGiveUp
  split
  · exact (lower_butAlarm ..).trans (recordAlarm_butAlarm ..)
  · exact P1.butAlarm_of_can (P1.butCan_of_record (record_butRecord ..))

/-- A relinquish sends, records and changes the role; it ends no fault (R476). -/
theorem relinquishAs_inForce (code p cls nominee newRole : Nat) (s : P1) :
    (relinquishAs code p cls nominee newRole s).inForce = s.inForce := by
  have hset (u : P1) : (setRole newRole u).inForce = u.inForce := P1.inForce_of_cells (setRole_butCells ..)
  have hgive (u : P1) : (recordGiveUp code p ((setRole newRole u).inc (ob 0x6400 0x0F))).inForce = u.inForce :=
    (P1.inForce_of_alarm (recordGiveUp_butAlarm ..)).trans (hset u)
  have hsend : (if canSend s then netSend 7 (.setMessage (buildMessage nominee cls (lastMirror s) s) true) (stopLeading s)
      else stopLeading s).inForce = s.inForce := by
    split
    · exact (netSend_inForce ..).trans (stopLeading_inForce s)
    · exact stopLeading_inForce s
  unfold relinquishAs
  dsimp only
  split
  · exact (hset _).trans (stopLeading_inForce s)
  · split
    · exact (hgive _).trans hsend
    · exact (hgive _).trans hsend

/-- A module-level fault gives up control; it ends no fault (R62). -/
theorem moduleFault_inForce (s : P1) : (moduleFault s).inForce = s.inForce := by
  unfold moduleFault
  dsimp only
  split
  · exact relinquishAs_inForce ..
  · split
    · exact (P1.inForce_of_record (record_butRecord ..)).trans
        ((stopLeading_inForce _).trans ((P1.inForce_of_cells (setRole_butCells ..)).trans rfl))
    · exact stopLeading_inForce _

/-! ### The report of a fault (R55, R57) -/

/-- A fault inside a block in fault is counted and shown in LAST_CAUSE of a unit (R57). -/
theorem addFault_contained {addr : Nat} {s : P1} (h : contained addr s = true) :
    addFault addr s = showBlocks (if levelOf (blockOf addr) = 0
      then setLastCause (blockOf addr) (causeOf addr) (holdFault addr (s.inc (ob 0x2200 6)))
      else holdFault addr (s.inc (ob 0x2200 6))) :=
  if_pos h

/-- A block that is stopped already, and the module, have no second fault beside the report (R57). -/
theorem holdFault_of_stopped {addr : Nat} {s : P1} (h : levelOf addr = 5 ∨ s.stopped (blockOf addr) = true) :
    holdFault addr s = s :=
  if_pos (by simpa using h)

theorem mem_insertFault (f : FaultRec) : ∀ l : List FaultRec, f ∈ insertFault f l
  | [] => List.mem_cons_self
  | g :: r => by
    unfold insertFault
    split
    · exact List.mem_cons_self
    · exact List.mem_cons_of_mem _ (mem_insertFault f r)

/-- A fault inside a block in fault is not listed, and raises and ends no alarm (R57). -/
theorem addFault_contained_lists {addr : Nat} {s : P1} (h : contained addr s = true) :
    (addFault addr s).faults = s.faults ∧ (addFault addr s).alarms = s.alarms := by
  have hheld (t : P1) : (holdFault addr t).faults = t.faults ∧ (holdFault addr t).alarms = t.alarms := by
    unfold holdFault
    dsimp only
    split <;> exact ⟨rfl, rfl⟩
  obtain ⟨hfaults, halarms⟩ := hheld (s.inc (ob 0x2200 6))
  have hshown (t : P1) : (showBlocks t).faults = t.faults ∧ (showBlocks t).alarms = t.alarms :=
    ⟨congrArg Prod.fst (P1.inForce_of_cells (showBlocks_butCells t)),
      show (showBlocks t).butCells.alarms = t.butCells.alarms by rw [showBlocks_butCells]⟩
  rw [addFault_contained h]
  split
  · exact ⟨(hshown _).1.trans hfaults, (hshown _).2.trans halarms⟩
  · exact ⟨(hshown _).1.trans hfaults, (hshown _).2.trans halarms⟩

/-- A fault outside every block in force is listed, whatever becomes of those inside its block (R57). -/
theorem addFault_listed {addr : Nat} {s : P1} (h : contained addr s = false) :
    ∃ t : P1, (addFault addr s).inForce = (insertFault ⟨addr, t.ns, t.elapsed⟩ t.faults, t.unreported) := by
  have hnot : ¬contained addr s = true := by simp [h]
  have hrecorded (v : P1) (l : List (Nat × Int)) :
      (recordAlarm true 0x0014 addr addr (showFaults (v.wrs l))).inForce = v.inForce :=
    (P1.inForce_of_alarm (recordAlarm_butAlarm ..)).trans
      ((showFaults_inForce _).trans (P1.inForce_of_cells (P1.wrs_butCells ..)))
  have hjudged (w : P1) : (if moduleLevel (blockOf addr) w then moduleFault w else w).inForce = w.inForce := by
    split
    · exact moduleFault_inForce w
    · rfl
  unfold addFault
  rw [if_neg hnot]
  dsimp only
  generalize List.foldl _ _ _ = t
  refine ⟨t, (hjudged _).trans ((hrecorded _ _).trans ?_)⟩
  split <;> rfl

/-- A second fault inside a fault of the module is in force beside it (R55, R57; assumption 46). -/
theorem addFault_held {addr : Nat} {s : P1} (hin : contained addr s = true) (hlevel : levelOf addr ≠ 5)
    (hworks : s.stopped (blockOf addr) = false) :
    (addFault addr s).inForce =
      (s.faults, ⟨addr, s.ns, s.elapsed⟩ :: s.unreported.filter fun f => !blockHolds (blockOf addr) f.addr) := by
  have hsame : (s.inc (ob 0x2200 6)).stopped (blockOf addr) = s.stopped (blockOf addr) := rfl
  have hnot : ¬(levelOf (blockOf addr) = 5 || (s.inc (ob 0x2200 6)).stopped (blockOf addr)) = true := by
    simp [hlevel, hsame, hworks]
  have hheld : holdFault addr (s.inc (ob 0x2200 6)) = { s.inc (ob 0x2200 6) with
      unreported := ⟨addr, s.ns, s.elapsed⟩ :: s.unreported.filter fun f => !blockHolds (blockOf addr) f.addr } :=
    if_neg hnot
  rw [addFault_contained hin, hheld]
  refine (P1.inForce_of_cells (showBlocks_butCells _)).trans ?_
  split <;> rfl

/-- A block stops when a fault of it is added (R55). -/
theorem addFault_stops {addr : Nat} {s : P1} (hlevel : levelOf addr ≠ 5) (hworks : s.stopped (blockOf addr) = false) :
    (addFault addr s).stopped (blockOf addr) = true := by
  have hmem : ∃ f ∈ (addFault addr s).faults ++ (addFault addr s).unreported, f.addr = addr := by
    change ∃ f ∈ (addFault addr s).inForce.1 ++ (addFault addr s).inForce.2, f.addr = addr
    cases hin : contained addr s with
    | true =>
      rw [addFault_held hin hlevel hworks]
      exact ⟨_, List.mem_append_right _ List.mem_cons_self, rfl⟩
    | false =>
      obtain ⟨t, ht⟩ := addFault_listed hin
      rw [ht]
      exact ⟨_, List.mem_append_left _ (mem_insertFault ..), rfl⟩
  obtain ⟨f, hf, haddr⟩ := hmem
  refine List.any_eq_true.mpr ⟨f, hf, ?_⟩
  simp [haddr, hlevel, blockHolds_blockOf]

/-- A fault inside a block that is stopped already, or at the module as a whole, is only counted and shown (R57). -/
theorem addFault_counted {addr : Nat} {s : P1} (hin : contained addr s = true)
    (hheld : levelOf addr = 5 ∨ s.stopped (blockOf addr) = true) :
    addFault addr s = showBlocks (if levelOf (blockOf addr) = 0
      then setLastCause (blockOf addr) (causeOf addr) (s.inc (ob 0x2200 6)) else s.inc (ob 0x2200 6)) := by
  rw [addFault_contained hin, holdFault_of_stopped (s := s.inc (ob 0x2200 6)) hheld]

/-! ### A fault of the core (R55, R62) -/

/-- A fault of a block that works stops it, item by item (R55, R56). -/
theorem coreFault_stops {addr : Nat} {s : P1} (hlevel : levelOf addr ≠ 5) (hworks : s.stopped (blockOf addr) = false) :
    coreFault addr s = judgeRelinquish (stopUnits addr (addFault addr s)) := by
  simp [coreFault, stopsAnew, hlevel, hworks]

/-- A fault of a block that is stopped already stops nothing anew (R57). -/
theorem coreFault_stopped {addr : Nat} {s : P1} (hlevel : levelOf addr ≠ 5) (hstopped : s.stopped (blockOf addr) = true) :
    coreFault addr s = addFault addr s := by
  simp [coreFault, stopsAnew, hlevel, hstopped]

/-- A fault of the module as a whole stops no unit (assumption 46). -/
theorem coreFault_system {addr : Nat} {s : P1} (hlevel : levelOf addr = 5) :
    coreFault addr s = if contained addr s then addFault addr s else judgeRelinquish (addFault addr s) := by
  cases h : contained addr s <;> simp [coreFault, stopsAnew, hlevel, h]

/-! ### A fault at an address (R55, R61, R63) -/

/-- A fault of the system or of P1 is one of the core while it runs. -/
theorem faultAt_core {addr : Nat} {s : State} (hpkg : addr / 2 ^ 30 % 4 = 0 ∨ addr / 2 ^ 30 % 4 = 1)
    (hrun : s.p1.phase = .run) : faultAt addr s = s.core (coreFault addr s.p1) := by
  unfold faultAt
  rcases hpkg with h | h <;> rw [h] <;> exact if_pos hrun

/-- A fault of P2 other than a failed link acts there, and the core reports it (R55, R61). -/
theorem faultAt_guard {addr : Nat} (s : State) (hpkg : addr / 2 ^ 30 % 4 = 2) (hcause : causeOf addr ≠ 6) :
    faultAt addr s = coreLinkDown (reportFault addr (onP2 (guardFault (blockOf addr)) s)) := by
  unfold faultAt
  rw [hpkg]
  exact if_neg (by simp [hcause])

/-- A fault of P3 other than a failed link acts there, and the core reports it (R55, R61). -/
theorem faultAt_field {addr : Nat} (s : State) (hpkg : addr / 2 ^ 30 % 4 = 3) (hcause : causeOf addr ≠ 6) :
    faultAt addr s = reportFault addr (syncField { s with p3 := fieldFault (blockOf addr) s.p3 }) := by
  unfold faultAt
  rw [hpkg]
  exact if_neg (by simp [hcause])

/-- The core reports a fault of another package while it has supply. -/
theorem reportFault_run (addr : Nat) {t : State} (h : t.p1.phase = .run) :
    reportFault addr t = { t with p1 := addFault addr t.p1 } :=
  if_neg (by simp [h])

/-- A fault of SAF, the unit, stops that channel alone. -/
theorem guardFault_saf : guardFault safAddr = stopChannel .saf := by
  funext p
  have hlevel : levelOf safAddr = 0 := by decide
  have hsaf : blockHolds safAddr safAddr = true := by decide
  have hwinter : blockHolds safAddr winterAddr = false := by decide
  simp [guardFault, hlevel, hsaf, hwinter]

/-- A fault of package P2 takes its supply and its link (R63). -/
theorem guardFault_package {b : Nat} (h : levelOf b = 4) :
    guardFault b = fun p => { p with powered := false, link := false } := by
  funext p
  exact if_pos h

/-- A fault of package P3 takes its supply (R63). -/
theorem fieldFault_package {b : Nat} (h : levelOf b = 4) (f : P3) : fieldFault b f = { f with powered := false } := if_pos h

/-- Loss of the logic supply of P2. -/
theorem fieldLogicPowerFail_p2 (s : State) :
    exec (.fieldLogicPowerFail .p2) s =
      .next (coreLinkDown (reportFault 0xBFFFFC09 (onP2 (fun p => { p with powered := false, link := false }) s))) := by
  have hpackage : guardFault (blockOf 0xBFFFFC09) = fun p => { p with powered := false, link := false } :=
    guardFault_package (by decide)
  rw [← hpackage, ← faultAt_guard s (by decide) (by decide)]
  rfl

/-- Loss of the logic supply of P3. -/
theorem fieldLogicPowerFail_p3 (s : State) :
    exec (.fieldLogicPowerFail .p3) s =
      .next (reportFault 0xFFFFFC09 (syncField { s with p3 := { s.p3 with powered := false } })) := by
  rw [← fieldFault_package (b := blockOf 0xFFFFFC09) (by decide) s.p3, ← faultAt_field s (by decide) (by decide)]
  rfl

/-- Settles O19: a fault goes to its package by its address, and in the core to one of four cases by its level and by what is
in force. -/
theorem faultsAreReportedOnceAtTheirBlock : Obligations.FaultsAreReportedOnceAtTheirBlock := by
  intro s hrun
  have hcore {a : Nat} (h : a / 2 ^ 30 % 4 = 0 ∨ a / 2 ^ 30 % 4 = 1) :
      (.next (faultAt a s) : Out) = .next (s.core (coreFault a s.p1)) := by rw [faultAt_core h hrun]
  refine ⟨fun a hpkg hworks => ?stops, fun a hpkg hstopped hin => ?counted, fun a hpkg hin => ?system,
    fun a hpkg hin => ?again, fun t ht hon => ?guardPower, fun t ht hon => ?fieldPower, fun t ht hon => ?clock,
    fun a hpkg hworks => ?response, fun e => congrArg _ (if_pos hrun)⟩
  case stops =>
    have hlevel : levelOf a.toNat ≠ 5 := levelOf_package (by omega)
    refine ⟨(hcore (.inr hpkg)).trans ?_, addFault_stops hlevel hworks, addFault_contained_lists⟩
    rw [coreFault_stops hlevel hworks]
  case counted =>
    refine (hcore (.inr hpkg)).trans ?_
    rw [coreFault_stopped (levelOf_package (by omega)) hstopped, addFault_counted hin (.inr hstopped)]
  case system =>
    refine (hcore (.inl hpkg)).trans ?_
    rw [coreFault_system (levelOf_system hpkg), hin]
    rfl
  case again =>
    have hlevel : levelOf a.toNat = 5 := levelOf_system hpkg
    refine (hcore (.inl hpkg)).trans ?_
    rw [coreFault_system hlevel, if_pos hin, addFault_counted hin (.inl hlevel), levelOf_blockOf, hlevel]
    rfl
  case guardPower => rw [fieldLogicPowerFail_p2, ← ht, reportFault_run _ hon]
  case fieldPower => rw [fieldLogicPowerFail_p3, ← ht, reportFault_run _ hon]
  case clock =>
    have hguard : faultAt (safAddr + 3) s = _ := faultAt_guard s (by decide) (by decide)
    have hblock : blockOf (safAddr + 3) = safAddr := by decide
    rw [hblock, guardFault_saf, ← ht, reportFault_run _ hon] at hguard
    exact congrArg _ hguard
  case response =>
    have hpkg' : (blockOf a.toNat + 5) / 2 ^ 30 % 4 = 1 := by unfold blockOf; omega
    have hblock : blockOf (blockOf a.toNat + 5) = blockOf a.toNat := blockOf_add a.toNat (by decide)
    refine (hcore (.inr hpkg')).trans ?_
    rw [coreFault_stops (levelOf_package (by omega)) (by rw [hblock, hworks])]

end Sys2Proof.Machine
end

section
/-! SUPPORT. The switches and outputs of a package that loses its supply (R63), and the events of links, dies, temperatures,
supplies and the PLL (R12, R59, R60, R405, R568). -/

namespace Sys2Proof.Machine

/-! ### Loss of supply (R63) -/

/-- What an event changes beside the evaluation of both channels is its test and its reports (R393, R405, R408). -/
theorem settle_channels (old new : P2) :
    (settle old new).powered = new.powered ∧ (settle old new).saf = evalChan (compareRegions new) new.saf
      ∧ (settle old new).win = evalChan (compareRegions new) new.win := by
  have htest := abandonTest_butReports old
    (reportClosed old (reportInhibits old (reportDemands old (evaluate (compareRegions new)))))
  rw [reports_butReports] at htest
  have hpowered := congrArg P2.powered htest
  have hsaf := congrArg P2.saf htest
  have hwin := congrArg P2.win htest
  exact ⟨hpowered, hsaf, hwin⟩

/-- A channel without supply closes no switch (R393). -/
theorem evalChan_unpowered {p : P2} (h : p.powered = false) (c : GuardChan) (g : Fin 4) :
    (evalChan p c).closed[g] = false := by
  simp [evalChan, mayClose, h]

/-- An event that leaves P2 without supply leaves every switch open (R63). -/
theorem settle_unpowered {old new : P2} (h : new.powered = false) (g : Fin 4) :
    (settle old new).saf.closed[g] = false ∧ (settle old new).win.closed[g] = false := by
  obtain ⟨-, hsaf, hwin⟩ := settle_channels old new
  have hcompared : (compareRegions new).powered = false := h
  rw [hsaf, hwin]
  exact ⟨evalChan_unpowered hcompared .., evalChan_unpowered hcompared ..⟩

theorem onP2_p2 (f : P2 → P2) (s : State) : (onP2 f s).p2 = settle s.p2 (f s.p2) := (syncGuard_coreOnly _).1

/-- The core's view of P3 leaves the other packages and the queue alone. -/
theorem syncField_coreOnly (s : State) : coreOnly s (syncField s) := by
  unfold syncField
  dsimp only
  split_ifs <;> exact ⟨rfl, rfl, rfl⟩

/-- A report of the core leaves the other packages and the queue alone. -/
theorem reportFault_coreOnly (addr : Nat) (s : State) : coreOnly s (reportFault addr s) := by
  unfold reportFault
  split_ifs <;> exact ⟨rfl, rfl, rfl⟩

theorem coreLinkDown_coreOnly (s : State) : coreOnly s (coreLinkDown s) := by
  unfold coreLinkDown
  split_ifs <;> exact ⟨rfl, rfl, rfl⟩

/-- A digital output of a package without supply is off (R63, assumption 40). -/
theorem doCommanded_unpowered {f : P3} (h : f.powered = false) (n : Nat) : doCommanded f n = false := by
  simp [doCommanded, h]

/-- An analog output of a package without supply has code 0 (R63, assumption 40). -/
theorem aoCommanded_unpowered {f : P3} (h : f.powered = false) (n : Fin 16) : aoCommanded f n = 0 := by
  simp [aoCommanded, h]

/-- Settles O20: the supply is a condition of every switch and of every output. -/
theorem poweredDownPackageOpensEverySwitch : Obligations.PoweredDownPackageOpensEverySwitch := by
  intro s _
  refine ⟨⟨_, fieldLogicPowerFail_p2 s, ?guard⟩, ⟨_, fieldLogicPowerFail_p3 s, ?field⟩⟩
  case guard =>
    have hp2 (u : State) : (coreLinkDown (reportFault 0xBFFFFC09 u)).p2 = u.p2 :=
      (coreLinkDown_coreOnly _).1.trans (reportFault_coreOnly ..).1
    rw [hp2, onP2_p2]
    exact ⟨(settle_channels ..).1, settle_unpowered rfl⟩
  case field =>
    have hp3 (u : State) : (reportFault 0xFFFFFC09 (syncField u)).p3 = u.p3 :=
      (reportFault_coreOnly ..).2.1.trans (syncField_coreOnly u).2.1
    rw [hp3]
    exact ⟨rfl, fun n => ⟨doCommanded_unpowered rfl n, aoCommanded_unpowered rfl n⟩⟩

/-! ### Link checks (R60) -/

/-- A failed check of the frame that is retransmitted counts, up to the third retransmission (R60). -/
theorem linkCheckFail_retried {s : State} {d : Die} {n g : Nat} (hrun : s.p1.phase = .run)
    (htries : s.p1.linkTries[dieIdx d] = (n, g)) (hframe : s.p1.elapsed ≤ g + 1) (hn : n < 3) :
    linkCheckFail d s =
      s.core { s.p1 with linkTries := s.p1.linkTries.set (dieIdx d) (n + 1, s.p1.elapsed) } := by
  have hfew : ¬3 ≤ n := by omega
  simp [linkCheckFail, hrun, htries, hframe, hfew, State.core]

/-- The fourth failed check of one frame declares the link failed (R60). -/
theorem linkCheckFail_declared {s : State} {d : Die} {g : Nat} (hrun : s.p1.phase = .run)
    (htries : s.p1.linkTries[dieIdx d] = (3, g)) (hframe : s.p1.elapsed ≤ g + 1) :
    linkCheckFail d s =
      linkFail d (s.core { s.p1 with linkTries := s.p1.linkTries.set (dieIdx d) (0, 0) }) := by
  simp [linkCheckFail, hrun, htries, hframe, State.core]

/-! ### Temperatures and supplies (R59, R568) -/

/-- An event of the core answers what it makes of P1 while the core runs. -/
theorem onP1_next {f : P1 → P1} {s : State} {p : P1} (hup : s.p1.up = true) (h : f s.p1 = p) : onP1 f s = .next (s.core p) :=
  h ▸ onP1_run hup

/-- The temperature of a die that shows one, with its alarm's edge (R59). -/
theorem dieTemperature_shown {d : Die} {x : Int} {p : P1} (hstate : dieState d p < 2) (hlo : -32767 ≤ x) (hhi : x ≤ 32767) :
    dieTemperature d x p =
      showDies (if dieState d p ≠ 1 ∧ 1100 ≤ x then
          raise 0x0015 (dieIdx d).val (record 0x0015 (dieIdx d).val (p.wr (ob 0x2201 (dieSub d)) x))
        else if dieState d p = 1 ∧ x ≤ 1050 then lower 0x0015 (dieIdx d).val (p.wr (ob 0x2201 (dieSub d)) x)
        else p.wr (ob 0x2201 (dieSub d)) x) := by
  have hclamp : clamp (-32767) 32767 x = x := by unfold clamp; omega
  have hshows : ¬2 ≤ dieState d p := by omega
  simp [dieTemperature, hclamp, hshows, recordAlarm]

/-- The change of a supply input is recorded, where the input returns or the other one feeds the module (R568). -/
theorem supplyChange_recorded {i : SupplyInput} {b : Bool} {p : P1} (hchange : p.supply[supplyIdx i] ≠ b)
    (hfed : b = true ∨ p.supply[1 - supplyIdx i] = true) :
    supplyChange i b p = record 0x0017 (packDetails [(8, (supplyIdx i).val), (8, if b then 0 else 1)])
      { p with supply := p.supply.set (supplyIdx i) b } := by
  have hsilent : ¬(!b && !p.supply[1 - supplyIdx i]) = true := by rcases hfed with h | h <;> simp [h]
  unfold supplyChange
  rw [if_neg hchange, if_neg hsilent]

/-- The loss of the last supply input is not recorded (R568). -/
theorem supplyChange_last {i : SupplyInput} {p : P1} (hon : p.supply[supplyIdx i] = true)
    (hother : p.supply[1 - supplyIdx i] = false) :
    supplyChange i false p = { p with supply := p.supply.set (supplyIdx i) false } := by
  unfold supplyChange
  rw [if_neg (by simp [hon]), if_pos (by simp [hother])]

/-- A supply input that does not change its state is no event (R568). -/
theorem execSupplyInputChange_same (i : SupplyInput) (s : State) :
    exec (.supplyInputChange i s.p1.supply[supplyIdx i]) s = .next s := by
  have hsame : supplyChange i s.p1.supply[supplyIdx i] s.p1 = s.p1 := if_pos rfl
  change onP1 (supplyChange i s.p1.supply[supplyIdx i]) s = .next s
  unfold onP1
  rw [hsame]
  exact ite_self _

/-- A brown-out of the core is a fault of its package, and P1 has no supply (R568). -/
theorem coreBrownout_run {p : P1} (hrun : p.phase = .run) :
    coreBrownout p = { coreFault 0x7FFFFC09 p with phase := .off, supply := Vector.replicate 2 false } := by
  have hon : p.phase ≠ .off := by simp [hrun]
  rw [coreBrownout, if_neg hon, if_pos hrun]

/-! ### Halts of dies (R59) -/

/-- The number of a halt cause in a fault address (R53, R59). -/
def haltNumber : HaltCause → Nat
  | .overtemp => 8
  | .powerGoodLost => 7

/-- A die is its own block, at the causes of a halt, in the package of R46. -/
theorem dieBlock_halt (d : Die) (c : HaltCause) :
    blockOf (dieBlock d + haltNumber c) = dieBlock d ∧ causeOf (dieBlock d + haltNumber c) ≠ 6
      ∧ (dieBlock d + haltNumber c) / 2 ^ 30 % 4 = (match d with | .c | .t | .n => 1 | .g | .w => 2 | .f0 | .f1 => 3) := by
  cases d <;> cases c <;> decide

/-- A halt is a fault of its die, but for the grain counter that die T's power-good breaks (R59, R584). -/
theorem execDieHalt_fault (d : Die) (c : HaltCause) (s : State) (h : d ≠ .t ∨ c ≠ .powerGoodLost) :
    exec (.dieHalt d c) s = .next (faultAt (dieBlock d + haltNumber c) s) := by
  have hnot : ¬(d = .t && c = .powerGoodLost) = true := by rcases h with h | h <;> simp [h]
  cases c <;> exact congrArg _ (if_neg hnot)

/-- A halt of a die of the core is a fault of it (R59). -/
theorem faultAt_coreDie {d : Die} (c : HaltCause) {s : State} (hd : d = .c ∨ d = .t ∨ d = .n) (hrun : s.p1.phase = .run) :
    faultAt (dieBlock d + haltNumber c) s = s.core (coreFault (dieBlock d + haltNumber c) s.p1) := by
  obtain ⟨-, -, hpkg⟩ := dieBlock_halt d c
  refine faultAt_core (.inr ?_) hrun
  rcases hd with rfl | rfl | rfl <;> exact hpkg

/-- A halt of a die of the core, but for die T's power-good (R59). -/
theorem execDieHalt_core {d : Die} {c : HaltCause} {s : State} (hd : d = .c ∨ d = .t ∨ d = .n) (hrun : s.p1.phase = .run)
    (h : d ≠ .t ∨ c ≠ .powerGoodLost) :
    exec (.dieHalt d c) s = .next (s.core (coreFault (dieBlock d + haltNumber c) s.p1)) := by
  rw [execDieHalt_fault d c s h, faultAt_coreDie c hd hrun]

/-- The loss of die T's power-good also breaks the grain counter (R584). -/
theorem execDieHalt_grains {s : State} {p : P1} (hrun : s.p1.phase = .run) (hp : p = coreFault (dieBlock .t + 7) s.p1) :
    exec (.dieHalt .t .powerGoodLost) s = .next (s.core { p with time := { p.time with broken := true } }) := by
  have hfault : faultAt (dieBlock .t + 7) s = s.core p := hp ▸ faultAt_coreDie (d := .t) .powerGoodLost (by simp) hrun
  change (.next (dieHalt .t .powerGoodLost s) : Out) = _
  simp only [dieHalt, hfault]
  rfl

/-- A halt of a die of P2 stops its channel there, and the core reports it (R59, R581). -/
theorem execDieHalt_guard {d : Die} (c : HaltCause) {s t : State} (hd : d = .g ∨ d = .w)
    (ht : t = onP2 (guardFault (dieBlock d)) s) (hon : t.p1.phase = .run) :
    exec (.dieHalt d c) s = .next (coreLinkDown { t with p1 := addFault (dieBlock d + haltNumber c) t.p1 }) := by
  obtain ⟨hblock, hcause, hpkg⟩ := dieBlock_halt d c
  have hpkg2 : (dieBlock d + haltNumber c) / 2 ^ 30 % 4 = 2 := by rcases hd with rfl | rfl <;> exact hpkg
  have hdie : d ≠ .t := by rcases hd with rfl | rfl <;> decide
  rw [execDieHalt_fault d c s (.inl hdie), faultAt_guard s hpkg2 hcause, hblock, ← ht, reportFault_run _ hon]

/-- A halt of a die of P3 stops its units there, and the core reports it (R59). -/
theorem execDieHalt_field {d : Die} (c : HaltCause) {s t : State} (hd : d = .f0 ∨ d = .f1)
    (ht : t = syncField { s with p3 := fieldFault (dieBlock d) s.p3 }) (hon : t.p1.phase = .run) :
    exec (.dieHalt d c) s = .next { t with p1 := addFault (dieBlock d + haltNumber c) t.p1 } := by
  obtain ⟨hblock, hcause, hpkg⟩ := dieBlock_halt d c
  have hpkg3 : (dieBlock d + haltNumber c) / 2 ^ 30 % 4 = 3 := by rcases hd with rfl | rfl <;> exact hpkg
  have hdie : d ≠ .t := by rcases hd with rfl | rfl <;> decide
  rw [execDieHalt_fault d c s (.inl hdie), faultAt_field s hpkg3 hcause, hblock, ← ht, reportFault_run _ hon]

/-! ### Links that return (R405) -/

/-- The guard link returns: the fault of its loss ends, and the core sees P2 again (R405). -/
theorem linkReturn_guard {s : State} (h : s.p2.powered = true) :
    linkReturn .g s = syncGuard { s with p2 := { s.p2 with link := true }, p1 := endLinkFault 0xBFFFFC06 s.p1 } :=
  if_neg (by simp [h])

/-- The link to die F0 returns while that to F1 is up: the package fault of the loss ends (R405). -/
theorem linkReturn_f0 {s : State} {p : P1} (hp : p = { s.p1 with fldLink := s.p1.fldLink.set (0 : Fin 2) true })
    (hother : s.p1.fldLink[(1 : Fin 2)] = true) :
    linkReturn .f0 s = linkBack .f0 { s with
      p3 := { s.p3 with link := s.p3.link.set (0 : Fin 2) true }, p1 := endLinkFault 0xFFFFFC06 p } := by
  have hup : (p.fldLink[(0 : Fin 2)] && p.fldLink[(1 : Fin 2)]) = true := by simpa [hp] using hother
  subst hp
  simp only [linkReturn, fieldIdx, if_true, hup]

/-- Settles O21: each event acts through the lemma of its rule; a halt goes to the package of its die. -/
theorem linksHaltsAndSupplies : Obligations.LinksHaltsAndSupplies := by
  intro s hrun
  have hon : s.p1.phase ≠ .off := by simp [hrun]
  refine ⟨fun d n g htries hframe hn => congrArg _ (linkCheckFail_retried hrun htries hframe hn),
    fun d g htries hframe => congrArg _ (linkCheckFail_declared hrun htries hframe),
    fun hup d x hlo hhi => ⟨fun h0 hhot => onP1_next hup ?hot, fun h0 hcool => onP1_next hup ?cool,
      fun h1 hends => onP1_next hup ?ends⟩,
    fun hup i b hchange hfed => onP1_next hup (supplyChange_recorded hchange hfed),
    fun hup i hlast hother => onP1_next hup (supplyChange_last hlast hother), fun i => execSupplyInputChange_same i s,
    if_neg hon, congrArg (fun p => Host.Outcome.next (s.core p)) (coreBrownout_run hrun),
    fun d hd => execDieHalt_core hd hrun (.inr (by decide)), fun d hd => ?power, fun p hp => execDieHalt_grains hrun hp,
    fun d t hd ht hrun' => ⟨execDieHalt_guard .overtemp hd ht hrun', execDieHalt_guard .powerGoodLost hd ht hrun'⟩,
    fun d t hd ht hrun' => ⟨execDieHalt_field .overtemp hd ht hrun', execDieHalt_field .powerGoodLost hd ht hrun'⟩,
    fun hpow => (if_neg hon).trans (congrArg _ (linkReturn_guard hpow)),
    fun p hp hother => (if_neg hon).trans (congrArg _ (linkReturn_f0 hp hother)), fun d hd => ?core⟩
  case hot => rw [dieTemperature_shown (by omega) hlo hhi, if_pos ⟨by omega, hhot⟩]
  case cool => rw [dieTemperature_shown (by omega) hlo hhi, if_neg (by omega), if_neg (by omega)]
  case ends => rw [dieTemperature_shown (by omega) hlo hhi, if_neg (by omega), if_pos ⟨h1, hends⟩]
  case power =>
    rcases hd with rfl | rfl
    · exact execDieHalt_core (.inl rfl) hrun (.inl (by decide))
    · exact execDieHalt_core (.inr (.inr rfl)) hrun (.inl (by decide))
  case core =>
    refine (if_neg hon).trans ?_
    rcases hd with rfl | rfl | rfl <;> rfl

end Sys2Proof.Machine
end

section
/-! SUPPORT. Restarts of blocks (R58, R582), and what a reset does to P2 and P3 (R61, R87, R88). -/

namespace Sys2Proof.Machine

/-! ### Restarts of blocks (R58, R582) -/

/-- The outcome of an accepted write whose effect reaches P2 or P3. -/
theorem onLinkReq_accepted {w k : Nat} {x : Val} {r : Rule P1} {s : State} (hr : s.p1.serves = true)
    (h : accepted w k x s.p1) (hm : r.mode s.p1 = 0) (hc : r.check s.p1 = 0) (hb : r.busy s.p1 = 0) :
    onLinkReq w k x r s = .next (flushLinks (written w k x r.eff s)) := by
  simp [onLinkReq, hr, request_accepted h hm hc hb, written]

/-- The mode test of 2200h:05: a block with an engine of die C restarts in Standby, Commissioning and Winter alone (R58). -/
theorem restartBlockRule_mode {g : P2} {a : Nat} {ok : Bool} {p : P1}
    (h : holdsEngine a = true → p.mode = 1 ∨ p.mode = 2 ∨ p.mode = 11) : (restartBlockRule g a ok).mode p = 0 := by
  refine if_neg fun hnot => ?_
  rw [Bool.and_eq_true] at hnot
  obtain ⟨hengine, hmode⟩ := hnot
  rcases h hengine with h | h | h <;> simp [h] at hmode

/-- A restart of a block of the core needs no link, and runs the self-test (R58). -/
theorem restartBlockRule_core {g : P2} {a : Nat} {ok : Bool} (h : a / 2 ^ 30 % 4 = 1) (p : P1) :
    (restartBlockRule g a ok).busy p = 0 ∧ (restartBlockRule g a ok).eff = restartEnds a ok := by
  simp only [restartBlockRule, h, and_self]

/-- A restart of a block of P2 is handed to P2 while its link is up (R582). -/
theorem restartBlockRule_guard {g : P2} {a : Nat} {ok : Bool} (h : a / 2 ^ 30 % 4 = 2) (hlink : g.link = true) (p : P1) :
    (restartBlockRule g a ok).busy p = 0 ∧ (restartBlockRule g a ok).eff = sendGuard (.channels a) := by
  simp only [restartBlockRule, h, hlink, if_true, true_and]

/-- A self-test that passes ends the faults inside the block and starts its units (R58). -/
theorem restartEnds_passed (a : Nat) : restartEnds a true = fun p => resumeUnits a (endFaultsIn a p) := rfl

/-- A self-test of a block of the core that fails is a fault of it with cause 00Ah (R58). -/
theorem restartEnds_failed {a : Nat} (h : a / 2 ^ 30 = 1) :
    restartEnds a false = fun p => coreFault (a + 0x00A) (endFaultsIn a p) :=
  funext fun _ => if_pos h

/-- Settles O22: the write passes the tests of its rule, whose effect the package of the block selects. -/
theorem blockRestartRunsSelfTest : Obligations.BlockRestartRunsSelfTest := by
  intro s w a hserves hacc hrestartable hengine
  have hrun {ok : Bool} {f : P1 → P1} (hrule : (restartBlockRule s.p2 a.toNat ok).busy s.p1 = 0
      ∧ (restartBlockRule s.p2 a.toNat ok).eff = f) :
      exec (.restartBlock w a ok) s = .next (flushLinks (written w (ob 0x2200 5) (.num a.toNat) f s)) := by
    obtain ⟨hbusy, rfl⟩ := hrule
    exact onLinkReq_accepted hserves hacc (restartBlockRule_mode hengine) (if_pos hrestartable) hbusy
  refine ⟨fun hpkg => ⟨?passed, ?failed⟩, fun ok hpkg hlink => hrun (restartBlockRule_guard hpkg hlink s.p1)⟩
  case passed =>
    rw [hrun (restartBlockRule_core hpkg s.p1), restartEnds_passed]
  case failed =>
    have hlt : a.toNat < 2 ^ 32 := a.isLt
    rw [hrun (restartBlockRule_core hpkg s.p1), restartEnds_failed (by omega)]

/-! ### Resets seen from P2 and P3 (R87, R88) -/

/-- A warm reset leaves P2 and P3 as they are (R87). -/
theorem restartModule_warm (spring : Bool) (k : KeptChecks) (s : State) :
    (restartModule 1 spring k s).p2 = s.p2 ∧ (restartModule 1 spring k s).p3 = s.p3 := by
  simp [restartModule]

/-- A full reset starts P2 anew over its non-volatile memory (R88, R410). -/
theorem restartModule_full (spring : Bool) (k : KeptChecks) (s : State) :
    (restartModule 2 spring k s).p2 = restartP2 s.p2 := rfl

/-- P2 at a start: every switch open and every group waiting for a restart (R393, R410). -/
theorem restartP2_open (p : P2) (g : Fin 4) :
    (restartP2 p).saf.closed[g] = false ∧ (restartP2 p).win.closed[g] = false ∧ (restartP2 p).saf.await[g] = true
      ∧ (restartP2 p).win.await[g] = true := by
  have hreset : ∀ i : Fin 4, P2.reset.saf.closed[i] = false ∧ P2.reset.win.closed[i] = false
      ∧ P2.reset.saf.await[i] = true ∧ P2.reset.win.await[i] = true := by decide
  exact hreset g

/-- A press of 200 ms to below 3 s is a warm reset (R85). -/
theorem resetRelease_warm {i : ResetInput} {n : Nat} {k : KeptChecks} {s : State} (hon : s.p1.phase ≠ .off)
    (hfree : s.p1.stuck[resetIdx i] = false) (hlo : 200000 ≤ n) (hhi : n < 3000000) :
    resetRelease i n k s = restartModule 1 (timeKept k s.p1) k s := by
  have hlong : ¬n < 200000 := by omega
  simp [resetRelease, hon, hfree, hlong, hhi]

/-- A press of 3 s to below 10 s is a full reset (R85). -/
theorem resetRelease_full {i : ResetInput} {n : Nat} {k : KeptChecks} {s : State} (hon : s.p1.phase ≠ .off)
    (hfree : s.p1.stuck[resetIdx i] = false) (hlo : 3000000 ≤ n) (hhi : n < 10000000) :
    resetRelease i n k s = restartModule 2 false keptNothing s := by
  have hpress : ¬n < 200000 := by omega
  have hlong : ¬n < 3000000 := by omega
  simp [resetRelease, hon, hfree, hpress, hlong, hhi]

/-- Settles O27: the length of the press selects the reset, and P2 sees a full one alone. -/
theorem resetsLeaveSwitchesOpenOrUntouched : Obligations.ResetsLeaveSwitchesOpenOrUntouched := by
  intro s i n k hon hfree
  refine ⟨fun hlo hhi => ⟨_, congrArg Host.Outcome.next (resetRelease_warm hon hfree hlo hhi), restartModule_warm ..⟩,
    fun hlo hhi => ⟨_, congrArg Host.Outcome.next (resetRelease_full hon hfree hlo hhi), ?_⟩⟩
  rw [restartModule_full]
  exact ⟨rfl, rfl, rfl, rfl, restartP2_open s.p2⟩

end Sys2Proof.Machine
end

section
/-! SUPPORT. The cells that an answer keeps (R434, R547, R549), and the status word select (R65). -/

namespace Sys2Proof.Machine

/-! ### Cells that an operation keeps -/

/-- An operation keeps the canonical form of the cells, and every cell but those that a test names. -/
structure CellsKept (but : Nat → Bool) (a b : P1) : Prop where
  canonical : odWf a.od = true → odWf b.od = true
  same : odWf a.od = true → sameCells but a b

theorem CellsKept.refl (but : Nat → Bool) (a : P1) : CellsKept but a a := ⟨id, fun _ _ _ => rfl⟩

/-- What leaves the cells alone keeps them. -/
theorem CellsKept.of_od {but : Nat → Bool} {a b : P1} (h : b.od = a.od) : CellsKept but a b :=
  ⟨fun hwf => h ▸ hwf, fun _ k _ => congrArg (odGet · k) h⟩

theorem CellsKept.trans {but : Nat → Bool} {a b c : P1} (hab : CellsKept but a b) (hbc : CellsKept but b c) :
    CellsKept but a c :=
  ⟨fun h => hbc.canonical (hab.canonical h),
    fun h k hk => (hbc.same (hab.canonical h) k hk).trans (hab.same h k hk)⟩

/-- A write of a cell that the test names. -/
theorem CellsKept.wr {but : Nat → Bool} {k : Nat} (hk : but k = true) (v : Int) (s : P1) : CellsKept but s (s.wr k v) :=
  ⟨fun h => odWf_odPut h k v,
    fun h j hj => (P1.wr_rd h k j v).trans (if_neg fun hjk => by simp [hjk, hk] at hj)⟩

theorem CellsKept.inc {but : Nat → Bool} {k : Nat} (hk : but k = true) (s : P1) : CellsKept but s (s.inc k) := .wr hk _ s

/-- The cells that an answer counts in: those of a CAN response that finds no room and of its record (R441, R493), and that of
a response that finds its transmit queue full (R427, R435). -/
def answerCounter (k : Nat) : Bool := answerCell k || k = ob 0x5900 0x11

/-- Recording an event counts in 6000h:06 to :08 (R493). -/
theorem record_cellsKept (code param : Nat) (s : P1) : CellsKept answerCounter s (record code param s) := by
  have hcount (r : Recorder) (b : Prop) [Decidable b] :
      CellsKept answerCounter s (({ s with recorder := r } : P1).inc (if b then ob 0x6000 6 else ob 0x6000 7)) := by
    have hkept : CellsKept answerCounter s { s with recorder := r } := .of_od rfl
    refine hkept.trans (.inc ?_ _)
    split <;> decide
  unfold record
  dsimp only
  split
  · exact hcount _ _
  · exact (hcount _ _).trans (.inc (by decide) _)

/-- A failure report counts in 5600h+c:12 and records (R441). -/
theorem canReportFailed_cellsKept (c : Fin 4) (prio : Nat) (f : TxFrame) (cause : Nat) (s : P1) :
    CellsKept answerCounter s (canReportFailed c prio f cause s) := by
  have hcounter : answerCounter (ob (0x5600 + c) 0x12) = true := by revert c; decide
  have hcounted := CellsKept.inc hcounter s
  unfold canReportFailed
  dsimp only
  exact (hcounted.trans (.of_od (P1.setOctets_od ..))).trans (record_cellsKept ..)

theorem canQueue_cellsKept (c : Fin 4) (prio : Nat) (f : TxFrame) (s : P1) :
    CellsKept answerCounter s (canQueue c prio f s) := by
  unfold canQueue
  split_ifs
  · exact canReportFailed_cellsKept ..
  · exact canReportFailed_cellsKept ..
  · exact canReportFailed_cellsKept ..
  · exact .of_od rfl

theorem sendResponse_cellsKept (i : Nat) (a : Answer) (s : P1) : CellsKept answerCounter s (sendResponse i a s) := by
  have hfull : CellsKept answerCounter s (s.inc (ob 0x5900 0x11)) := .inc (by decide) s
  unfold sendResponse
  extract_lets p
  split
  · split_ifs
    · exact .refl _ s
    · exact .of_od rfl
    · exact hfull
  · split_ifs
    · exact .refl _ s
    · exact .of_od rfl
    · exact hfull

/-- An answer counts where its response finds no room, and writes no other cell (R434, R547, R549). -/
theorem answerWith_cellsKept (a : Answer) (s : P1) : CellsKept answerCounter s (answerWith a s) := by
  unfold answerWith
  extract_lets keep t
  have hnoted : CellsKept answerCounter s t := .of_od rfl
  split
  · exact hnoted.trans (canQueue_cellsKept ..)
  · split
    · exact hnoted.trans (sendResponse_cellsKept ..)
    · exact hnoted

theorem answer_cellsKept (w k abort : Nat) (s : P1) : CellsKept answerCounter s (answer w k abort s) := by
  unfold answer
  split
  · exact .refl _ s
  · exact answerWith_cellsKept ..

/-! ### The status word select (R65) -/

/-- The content test of 2200h:07 refuses an address that names no unit (R65). -/
theorem statusSelectRule_unnamed {a : Nat} (h : unitOf a = none) (p : P1) : (statusSelectRule a).check p = abRange :=
  if_neg (by simp [h])

/-- Settles O18: the content test of the rule decides, and the answer to a refused write leaves 2200h:07. -/
theorem unnamedUnitIsRefused : Obligations.UnnamedUnitIsRefused := by
  intro s w a hserves hwf hacc
  refine ⟨fun hnone => ?_, fun hnamed => onReq_check hserves hacc (if_pos hnamed)⟩
  have hkept := (answer_cellsKept w (ob 0x2200 7) abRange s.p1).same hwf
  exact ⟨_, onReq_checkRefused hserves hacc (by decide) rfl (statusSelectRule_unnamed hnone s.p1), rfl,
    hkept (ob 0x2200 7) (by decide), rfl, rfl⟩

end Sys2Proof.Machine
end

section
/-! SUPPORT. The cells that records, answers and alarms leave alone, whatever the form of the object map (R434, R441, R493,
R555). -/

namespace Sys2Proof.Machine

/-! ### Cells beside a written one -/

theorem odGet_odErase_other {k j : Nat} (h : j ≠ k) : ∀ o : Od, odGet (odErase k o) j = odGet o j
  | [] => rfl
  | e :: r => by
    unfold odErase
    split
    · next he => exact (if_neg (he ▸ h.symm)).symm
    · simp only [odGet, odGet_odErase_other h r]

/-- A write leaves every other cell, in any form of the map. -/
theorem P1.wr_rd_other {k j : Nat} (h : j ≠ k) (v : Int) (p : P1) : (p.wr k v).rd j = p.rd j := by
  change odGet (odPut p.od k v) j = odGet p.od j
  unfold odPut
  split
  · exact odGet_odErase_other h p.od
  · rw [odGet_odInsert, if_neg h]

theorem sameCells.refl (but : Nat → Bool) (a : P1) : sameCells but a a := fun _ _ => rfl

/-- What leaves the object map alone leaves every cell. -/
theorem sameCells.of_od {but : Nat → Bool} {a b : P1} (h : b.od = a.od) : sameCells but a b :=
  fun k _ => congrArg (odGet · k) h

theorem sameCells.trans {but : Nat → Bool} {a b c : P1} (hab : sameCells but a b) (hbc : sameCells but b c) :
    sameCells but a c :=
  fun k hk => (hbc k hk).trans (hab k hk)

/-- A test that names more cells asks for less. -/
theorem sameCells.mono {but more : Nat → Bool} {a b : P1} (h : sameCells but a b)
    (hle : ∀ k, but k = true → more k = true) : sameCells more a b :=
  fun k hk => h k (Bool.eq_false_iff.mpr fun hbut => Bool.false_ne_true (hk.symm.trans (hle k hbut)))

/-- A write of a cell that the test names. -/
theorem sameCells.wr {but : Nat → Bool} {k : Nat} (hk : but k = true) (v : Int) (s : P1) : sameCells but s (s.wr k v) :=
  fun j hj => P1.wr_rd_other (fun hjk => by simp [hjk, hk] at hj) v s

theorem sameCells.inc {but : Nat → Bool} {k : Nat} (hk : but k = true) (s : P1) : sameCells but s (s.inc k) := .wr hk _ s

/-- The mode in force stays where its cell does. -/
theorem sameCells.mode {but : Nat → Bool} {a b : P1} (h : sameCells but a b) (hk : but kMode = false) : b.mode = a.mode :=
  congrArg Int.toNat (h kMode hk)

/-! ### Records (R493) -/

/-- The cells that recording an event counts in. -/
def recordCell (k : Nat) : Bool := k = ob 0x6000 6 || k = ob 0x6000 7 || k = ob 0x6000 8

theorem answerCounter_of_recordCell (k : Nat) (h : recordCell k = true) : answerCounter k = true := by
  simp only [recordCell, answerCounter, answerCell, Bool.or_eq_true] at h ⊢
  tauto

theorem record_sameCells (code param : Nat) (s : P1) : sameCells recordCell s (record code param s) := by
  have hcount (r : Recorder) (b : Prop) [Decidable b] :
      sameCells recordCell s (({ s with recorder := r } : P1).inc (if b then ob 0x6000 6 else ob 0x6000 7)) := by
    have hsame : sameCells recordCell s { s with recorder := r } := .of_od rfl
    refine hsame.trans (.inc ?_ _)
    split <;> decide
  unfold record
  dsimp only
  split
  · exact hcount _ _
  · exact (hcount _ _).trans (.inc (by decide) _)

theorem record_sameCounters (code param : Nat) (s : P1) : sameCells answerCounter s (record code param s) :=
  (record_sameCells code param s).mono answerCounter_of_recordCell

theorem record_mode (code param : Nat) (s : P1) : (record code param s).mode = s.mode :=
  (record_sameCells code param s).mode (by decide)

/-! ### Answers (R434, R441, R547, R549) -/

theorem canReportFailed_sameCells (c : Fin 4) (prio : Nat) (f : TxFrame) (cause : Nat) (s : P1) :
    sameCells answerCounter s (canReportFailed c prio f cause s) := by
  have hcounter : answerCounter (ob (0x5600 + c) 0x12) = true := by revert c; decide
  exact ((sameCells.inc hcounter s).trans (.of_od (P1.setOctets_od ..))).trans (record_sameCounters _ _ _)

theorem canQueue_sameCells (c : Fin 4) (prio : Nat) (f : TxFrame) (s : P1) :
    sameCells answerCounter s (canQueue c prio f s) := by
  unfold canQueue
  split_ifs
  · exact canReportFailed_sameCells _ _ _ _ _
  · exact canReportFailed_sameCells _ _ _ _ _
  · exact canReportFailed_sameCells _ _ _ _ _
  · exact .of_od rfl

theorem sendResponse_sameCells (i : Nat) (a : Answer) (s : P1) : sameCells answerCounter s (sendResponse i a s) := by
  have hfull : sameCells answerCounter s (s.inc (ob 0x5900 0x11)) := .inc (by decide) s
  unfold sendResponse
  extract_lets p
  split_ifs
  · exact .refl _ s
  · exact .of_od rfl
  · exact hfull
  · exact .refl _ s
  · exact .of_od rfl
  · exact hfull

theorem answerWith_sameCells (a : Answer) (s : P1) : sameCells answerCounter s (answerWith a s) := by
  unfold answerWith
  extract_lets keep t
  have hnoted : sameCells answerCounter s t := .of_od rfl
  split
  · exact hnoted.trans (canQueue_sameCells _ _ _ _)
  · split
    · exact hnoted.trans (sendResponse_sameCells _ _ _)
    · exact hnoted

theorem answer_sameCells (w k abort : Nat) (s : P1) : sameCells answerCounter s (answer w k abort s) := by
  unfold answer
  split
  · exact .refl _ s
  · exact answerWith_sameCells _ _

/-- An answer that follows a forwarded write leaves the mode (R66). -/
theorem answer_forward_mode (w k abort : Nat) (j : Nat) (x : Val) (s : P1) :
    (answer w k abort (forward w j x s)).mode = s.mode := by
  have hforward : sameCells answerCounter s (forward w j x s) := .of_od (by rw [forward_frame])
  exact (hforward.trans (answer_sameCells _ _ _ _)).mode (by decide)

/-! ### The end of an alarm (R554, R555, R558) -/

/-- The cells that the end of an alarm can touch: those that show the alarms, and the counters of an EMCY that finds no room. -/
def alarmCell (k : Nat) : Bool :=
  answerCounter k || k = ob 0x6200 1 || k = ob 0x6200 2 || k = ob 0x6200 5 || k = ob 0x1001 0

theorem emcy_sameCells (e code param : Nat) (s : P1) : sameCells answerCounter s (emcy e code param s) := by
  have hchannel (c : Fin 4) (t : P1) : sameCells answerCounter t
      (if t.rd (ob (0x6610 + c) 1) = 1 then
        canQueue c 1 (txFrame .canopen (0x80 + t.rdN (ob (0x6610 + c) 2))
          (le 2 e ++ le 1 (t.rdN (ob 0x1001 0)) ++ le 2 code ++ le 3 param)) t
      else t) := by
    split
    · exact canQueue_sameCells _ _ _ _
    · exact .refl _ t
  exact (((hchannel 0 s).trans (hchannel 1 _)).trans (hchannel 2 _)).trans (hchannel 3 _)

theorem showAlarms_sameCells (s : P1) : sameCells alarmCell s (showAlarms s) := by
  have hwrites (a b c d : Int) : sameCells alarmCell s
      ((((s.wr (ob 0x6200 1) a).wr (ob 0x6200 2) b).wr (ob 0x6200 5) c).wr (ob 0x1001 0) d) :=
    (((sameCells.wr (by decide) a s).trans (.wr (by decide) b _)).trans (.wr (by decide) c _)).trans (.wr (by decide) d _)
  exact (hwrites _ _ _ _).trans (.of_od (P1.setOctets_od ..))

theorem lower_sameCells (code param : Nat) (s : P1) : sameCells alarmCell s (lower code param s) := by
  have hshown (l m : List Alarm) : sameCells alarmCell s (showAlarms { s with alarms := l, unlisted := m }) :=
    (sameCells.of_od rfl).trans (showAlarms_sameCells _)
  unfold lower
  dsimp only
  split_ifs
  · exact hshown _ _
  · exact (hshown _ _).trans ((emcy_sameCells _ _ _ _).mono fun k hk => by simp [alarmCell, hk])
  · exact .refl _ s

end Sys2Proof.Machine
end

section
/-! SUPPORT. Mode commands from the panel and from sessions (R67–R74, R78, R84), and the change of mode (R69, R96, R97). -/

namespace Sys2Proof.Machine

/-! ### The transition table (R74) -/

/-- A pair that the list of the table gives is one of the transition table, and leads to another mode. -/
theorem pairAllowed_of_listed {n : Fin 12} {m : Nat}
    (h : (commandPairs.any fun e => e.1 = n.val && e.2.contains m) = true) : pairAllowed m n = true ∧ n.val ≠ m := by
  have hbound : ∀ e ∈ commandPairs, ∀ j ∈ e.2, j < 12 := by decide
  have htable : ∀ (n j : Fin 12), (commandPairs.any fun e => e.1 = n.val && e.2.contains j.val) = true →
      pairAllowed j n = true ∧ n.val ≠ j.val := by decide
  obtain ⟨e, he, hm⟩ := List.any_eq_true.mp h
  have hmem : m ∈ e.2 := List.contains_iff_mem.mp (Bool.and_eq_true _ _ ▸ hm).2
  have hlt : m < 12 := hbound e he m hmem
  exact htable n ⟨m, hlt⟩ h

theorem listed_of_mem {n : Fin 12} {l : List Nat} {m : Nat} (hl : (n.val, l) ∈ commandPairs) (hm : m ∈ l) :
    (commandPairs.any fun e => e.1 = n.val && e.2.contains m) = true :=
  List.any_eq_true.mpr ⟨_, hl, by simpa using hm⟩

/-- A pair that the list of the table leaves out is none of the transition table. -/
theorem pairAllowed_of_not_mem {n : Fin 12} {l : List Nat} {m : Nat} (hl : (n.val, l) ∈ commandPairs) (hm : m ∉ l)
    (hlt : m ≤ 11) : pairAllowed m n = false := by
  have htable : ∀ (n j : Fin 12), ∀ e ∈ commandPairs, e.1 = n.val → j.val ∉ e.2 → pairAllowed j n = false := by decide
  exact htable n ⟨m, by omega⟩ _ hl rfl hm

/-! ### Acceptance (R68, R71, R78) -/

/-- The role lets a command to mode n be taken: a Lead takes each, an isolated module those to Dormant, Commissioning, Standby
and Winter (R71). -/
def roleTakes (n : Fin 12) (p : P1) : Prop := p.role = 2 ∨ (p.role = 0 ∧ (n.val ≤ 2 ∨ n.val = 11))

theorem roleTakes.not_shadow {n : Fin 12} {p : P1} (h : roleTakes n p) : p.role ≠ 1 := by
  unfold roleTakes at h
  omega

/-- What refuses a command once the role takes it: the Spring sequence, then the pair, then the condition. -/
theorem refusalReason_of_role {n : Fin 12} {p : P1} (h : roleTakes n p) (auth : Bool) :
    refusalReason n auth p =
      if springing p then (if n.val = 11 then 0 else 11)
      else if n.val = p.mode then 0
      else if !pairAllowed p.mode n then 1
      else conditionReason p.mode n auth p := by
  have hisolated : ¬(p.role = 0 && !(n.val ≤ 2 || n.val = 11)) = true := by
    rcases h with h | ⟨-, h | h⟩ <;> simp [h]
  rw [refusalReason, if_neg h.not_shadow, if_neg hisolated]

theorem refusalReason_listed {n : Fin 12} {p : P1} {auth : Bool} (hrole : roleTakes n p) (hspring : springing p = false)
    (hpair : (commandPairs.any fun e => e.1 = n.val && e.2.contains p.mode) = true)
    (hcond : conditionReason p.mode n auth p = 0) : refusalReason n auth p = 0 := by
  obtain ⟨hallowed, hother⟩ := pairAllowed_of_listed hpair
  simp [refusalReason_of_role hrole, hspring, hother, hallowed, hcond]

theorem refusalReason_unlisted {n : Fin 12} {p : P1} {auth : Bool} (hrole : roleTakes n p) (hspring : springing p = false)
    (hother : n.val ≠ p.mode) (hpair : pairAllowed p.mode n = false) : refusalReason n auth p = 1 := by
  simp [refusalReason_of_role hrole, hspring, hother, hpair]

/-- A command to the mode in force is not refused (R74). -/
theorem refusalReason_inForce {n : Fin 12} {p : P1} {auth : Bool} (hrole : roleTakes n p) (hspring : springing p = false)
    (hmode : p.mode = n.val) : refusalReason n auth p = 0 := by
  simp [refusalReason_of_role hrole, hspring, hmode]

/-- Out of Winter the command to Standby has no condition (R74). -/
theorem refusalReason_winterStandby {p : P1} {auth : Bool} (hrole : roleTakes 2 p) (hspring : springing p = false)
    (hmode : p.mode = 11) : refusalReason 2 auth p = 0 :=
  (refusalReason_of_role hrole auth).trans (by simp [hspring, hmode, pairAllowed, conditionReason])

/-- While the Spring sequence runs, Winter is taken (R84). -/
theorem refusalReason_springWinter {p : P1} {auth : Bool} (hrole : roleTakes 11 p) (hspring : springing p = true) :
    refusalReason 11 auth p = 0 :=
  (refusalReason_of_role hrole auth).trans (by simp [hspring])

/-- Dormant is left over no service port; every other session command is judged as one of the panel (R74). -/
theorem sessionReason_eq {w n : Nat} {p : P1} (h : p.mode = 0 → overService w p = false) :
    sessionReason w n p = refusalReason n (authorised w p && w ≠ 0) p := by
  refine if_neg fun hnot => ?_
  simp only [Bool.and_eq_true, decide_eq_true_eq] at hnot
  obtain ⟨⟨hmode, -⟩, hservice⟩ := hnot
  simp [h hmode] at hservice

/-! ### The effect of an accepted command (R69, R74, R83, R84) -/

theorem acceptMode_transition {n : Fin 12} {p : P1} (hspring : springing p = false) (hother : n.val ≠ p.mode)
    (hwinter : p.mode ≠ 11) : acceptMode n p = transition false n (0x0200 + n) p := by
  simp [acceptMode, hspring, hother, hwinter]

/-- Out of Winter a command to another mode starts the Spring sequence (R83). -/
theorem acceptMode_winter {n : Fin 12} {p : P1} (hspring : springing p = false) (hmode : p.mode = 11) (hn : n.val ≠ 11) :
    acceptMode n p = startSpring p := by
  simp [acceptMode, hspring, hmode, hn]

theorem acceptMode_inForce {n : Fin 12} {p : P1} (hspring : springing p = false) (hmode : p.mode = n.val) :
    acceptMode n p = p := by
  simp [acceptMode, hspring, hmode]

theorem acceptMode_springing {n : Nat} {p : P1} (h : springing p = true) : acceptMode n p = endSpring p := if_pos h

/-- No power is switched where the mode stays (R47). -/
theorem switchPower_same {m : Nat} {p : P1} (h : p.mode = m) : switchPower m p = p := by
  unfold switchPower
  by_cases hm : m = 0 <;> simp [h, hm]

theorem startSpring_mode (p : P1) : (startSpring p).mode = p.mode := by
  have hstatus (v w x : Int) (q : P1) :
      sameCells (· = kModeStatus) q (((q.wr kModeStatus v).wr kModeStatus w).wr kModeStatus x) :=
    ((sameCells.wr (by simp) v q).trans (.wr (by simp) w _)).trans (.wr (by simp) x _)
  exact (record_mode ..).trans ((hstatus _ _ _ { p with springStep := 2 }).mode (by decide))

theorem endSpring_mode (p : P1) : (endSpring p).mode = p.mode :=
  (sameCells.wr (but := (· = kModeStatus)) (by simp) _ { p with springStep := 0 }).mode (by decide)

theorem refuseMode_mode (n r : Nat) (p : P1) : (refuseMode n r p).mode = p.mode :=
  (record_mode ..).trans ((sameCells.wr (but := (· = ob 0x2100 7)) (by simp) _ p).mode (by decide))

/-! ### Commands of the panel and of sessions (R67) -/

/-- Every mode command of the block is the command to its mode. -/
theorem exec_modeCmd (n : Fin 12) (src : CmdSource) (s : State) : exec (modeCmd n src) s = onMode n src s := by
  fin_cases n <;> rfl

/-- A panel command from the assigned input is judged by role, table and condition (R67, R71). -/
theorem exec_panel {n : Fin 12} {di : Fin 32} {s : State} (hserves : s.p1.serves = true) (hrole : roleTakes n s.p1)
    (hdi : s.p1.rdN (ob 0x2101 (n + 1)) = di.val) :
    exec (modeCmd n (.panel di)) s = .next (s.core (switchPower s.p1.mode
      (if refusalReason n false s.p1 = 0 then acceptMode n s.p1 else refuseMode n (refusalReason n false s.p1) s.p1))) := by
  have hpanel : modeCommand n (.panel di) s.p1 = panelMode di n s.p1 := if_pos hserves
  rw [exec_modeCmd, onMode, withPower, hpanel, panelMode, if_neg (not_not.mpr hdi), if_neg hrole.not_shadow]
  rfl

theorem exec_panel_accepted {n : Fin 12} {di : Fin 32} {s : State} (hserves : s.p1.serves = true) (hrole : roleTakes n s.p1)
    (hdi : s.p1.rdN (ob 0x2101 (n + 1)) = di.val) (h : refusalReason n false s.p1 = 0) :
    exec (modeCmd n (.panel di)) s = .next (s.core (switchPower s.p1.mode (acceptMode n s.p1))) := by
  rw [exec_panel hserves hrole hdi, if_pos h]

/-- A session's command that no test refuses takes effect, is forwarded and answered (R67, R468, R538). -/
theorem exec_session_accepted {n : Fin 12} {w : Nat} {s : State} (hserves : s.p1.serves = true)
    (hacc : accepted w (ob 0x2100 1) (.num n.val) s.p1) (h : sessionReason w n s.p1 = 0) :
    exec (modeCmd n (.session w)) s = .next (s.core (switchPower s.p1.mode
      (answer w (ob 0x2100 1) 0 (forward w (ob 0x2100 1) (.num n.val) (acceptMode n s.p1))))) := by
  have hrequest : modeCommand n (.session w) s.p1
      = answer w (ob 0x2100 1) 0 (forward w (ob 0x2100 1) (.num n.val) (acceptMode n s.p1)) :=
    (if_pos hserves).trans (request_accepted hacc rfl rfl (if_pos h))
  rw [exec_modeCmd, onMode, withPower, hrequest]
  rfl

/-- A panel command that the transition table takes is its transition (R74). -/
theorem exec_panelTakes {n : Fin 12} {di : Fin 32} {s : State} (h : panelTakes n di s.p1) :
    exec (modeCmd n (.panel di)) s = .next (entered n s) := by
  obtain ⟨hserves, hspring, hrole, hwinter, hpair, hdi, hcond⟩ := h
  rw [exec_panel_accepted hserves hrole hdi (refusalReason_listed hrole hspring hpair hcond),
    acceptMode_transition hspring (pairAllowed_of_listed hpair).2 hwinter, entered]

/-- A session's command that the transition table takes is its transition, forwarded and answered (R74). -/
theorem exec_sessionTakes {n : Fin 12} {w : Nat} {s : State} (h : sessionTakes n w s.p1) :
    exec (modeCmd n (.session w)) s = .next (enteredFor n w s) := by
  obtain ⟨hserves, hspring, hrole, hwinter, hpair, hacc, hcond, hservice⟩ := h
  have hreason : sessionReason w n s.p1 = 0 :=
    (sessionReason_eq hservice).trans (refusalReason_listed hrole hspring hpair hcond)
  rw [exec_session_accepted hserves hacc hreason,
    acceptMode_transition hspring (pairAllowed_of_listed hpair).2 hwinter, enteredFor]

/-- Out of Winter the Standby input starts the Spring sequence (R83). -/
theorem exec_panel_startsSpring {di : Fin 32} {s : State} (hserves : s.p1.serves = true) (hrole : roleTakes 2 s.p1)
    (hspring : springing s.p1 = false) (hmode : s.p1.mode = 11) (hdi : s.p1.rdN (ob 0x2101 3) = di.val) :
    exec (modeCmd 2 (.panel di)) s = .next (s.core (startSpring s.p1)) := by
  rw [exec_panel_accepted hserves hrole hdi (refusalReason_winterStandby hrole hspring hmode),
    acceptMode_winter hspring hmode (by decide), switchPower_same (startSpring_mode _)]

/-- Settles O28: each command is taken by the table from its source; out of Winter and while the Spring sequence runs the mode
stays, so that no power is switched. -/
theorem everyModeCommandCompletes : Obligations.EveryModeCommandCompletes := by
  intro s w di
  have hpanel (n : Fin 12) (h : panelTakes n di s.p1) : exec (modeCmd n (.panel di)) s = .next (entered n s) :=
    exec_panelTakes h
  have hsession (n : Fin 12) (h : sessionTakes n w s.p1) : exec (modeCmd n (.session w)) s = .next (enteredFor n w s) :=
    exec_sessionTakes h
  refine ⟨hpanel 0, hsession 0, hsession 1, hpanel 2, hsession 2, hpanel 3, hsession 3, hpanel 4, hsession 4, hpanel 5,
    hsession 5, hpanel 6, hsession 6, hpanel 7, hsession 7, hpanel 8, hsession 8, hpanel 9, hsession 9, hpanel 10,
    hsession 10, hpanel 11, hsession 11, fun hserves hrole hmode => ?winter⟩
  have hstandby : roleTakes 2 s.p1 := hrole.imp_right fun h => ⟨h, .inl (by decide)⟩
  have hwinter : roleTakes 11 s.p1 := hrole.imp_right fun h => ⟨h, .inr rfl⟩
  refine ⟨fun hspring hdi => exec_panel_startsSpring hserves hstandby hspring hmode hdi,
    fun hspring hacc => ?starts, fun hspring hdi => ?ends⟩
  case starts =>
    have hservice : s.p1.mode = 0 → overService w s.p1 = false := by simp [hmode]
    have hreason : sessionReason w 2 s.p1 = 0 :=
      (sessionReason_eq hservice).trans (refusalReason_winterStandby hstandby hspring hmode)
    refine (exec_session_accepted (n := 2) hserves hacc hreason).trans ?_
    rw [acceptMode_winter hspring hmode (by decide),
      switchPower_same ((answer_forward_mode ..).trans (startSpring_mode _))]
    rfl
  case ends =>
    refine (exec_panel_accepted (n := 11) hserves hwinter hdi (refusalReason_springWinter hwinter hspring)).trans ?_
    rw [acceptMode_springing hspring, switchPower_same (endSpring_mode _)]

/-- Settles O23: a command in the table is its transition, one to the mode in force is none, and one outside the table is
stored and recorded. -/
theorem modeCommandsFollowTheTable : Obligations.ModeCommandsFollowTheTable := by
  intro s n w di hserves hspring hrole
  refine ⟨fun l hl hm hwinter _ hdi hcond => ?_, fun l hl hm hwinter hacc hcond hservice => ?_, fun hmode hn hdi => ?_,
    fun hmode hdi => ?_, fun l hl hm hother hlt hdi => ?_⟩
  · exact exec_panelTakes ⟨hserves, hspring, hrole, hwinter, listed_of_mem hl hm, hdi, hcond⟩
  · exact exec_sessionTakes ⟨hserves, hspring, hrole, hwinter, listed_of_mem hl hm, hacc, hcond, hservice⟩
  · obtain rfl : n = 2 := Fin.ext hn
    exact exec_panel_startsSpring hserves hrole hspring hmode hdi
  · rw [exec_panel_accepted hserves hrole hdi (refusalReason_inForce hrole hspring hmode),
      acceptMode_inForce hspring hmode, switchPower_same rfl]
    rfl
  · have hreason : refusalReason n false s.p1 = 1 :=
      refusalReason_unlisted hrole hspring hother.symm (pairAllowed_of_not_mem hl hm hlt)
    rw [exec_panel hserves hrole hdi, hreason, if_neg (by decide), switchPower_same (refuseMode_mode ..)]
    rfl

/-! ### The change of mode (R69, R96, R97) -/

theorem P1.setBit_rd {p : P1} (h : odWf p.od = true) (k n j : Nat) (b : Bool) :
    (p.setBit k n b).rd j = if j = k then withBit (p.rd k) n b else p.rd j :=
  P1.wr_rd h k j _

theorem P1.setField_rd {p : P1} (h : odWf p.od = true) (k lo width x j : Nat) :
    (p.setField k lo width x).rd j = if j = k then withField (p.rd k) lo width x else p.rd j :=
  P1.wr_rd h k j _

/-- P1 once a target that has not governed is recorded as superseded (R77). -/
def superseded (p : P1) : P1 :=
  if p.bit kModeStatus 0 then record (0x0230 + p.field kModeStatus 16 8) 0 p else p

theorem superseded_sameCells (p : P1) : sameCells recordCell p (superseded p) := by
  unfold superseded
  split
  · exact record_sameCells _ _ _
  · exact .refl _ p

theorem odWf_superseded {p : P1} (h : odWf p.od = true) : odWf (superseded p).od = true := by
  unfold superseded
  split
  · exact (record_cellsKept ..).canonical h
  · exact h

/-- P1 once a change to mode n shows target, previous mode and stamp (R69, R96). -/
def modeShown (n : Nat) (p : P1) : P1 :=
  (((superseded p).wr (ob 0x2100 3) p.mode).wr kMode n).wr (ob 0x2100 8) p.stamp

theorem modeShown_recorder (n : Nat) (p : P1) : (modeShown n p).recorder = (superseded p).recorder := by
  rw [modeShown, P1.wr_recorder, P1.wr_recorder, P1.wr_recorder]

theorem odWf_modeShown {p : P1} (h : odWf p.od = true) (n : Nat) : odWf (modeShown n p).od = true :=
  odWf_odPut (odWf_odPut (odWf_odPut (odWf_superseded h) _ _) _ _) _ _

theorem modeShown_rd {p : P1} (h : odWf p.od = true) (n k : Nat) :
    (modeShown n p).rd k = if k = ob 0x2100 8 then (p.stamp : Int) else if k = kMode then (n : Int)
      else if k = ob 0x2100 3 then (p.mode : Int) else (superseded p).rd k := by
  have hprevious := odWf_odPut (odWf_superseded h) (ob 0x2100 3) p.mode
  rw [modeShown, P1.wr_rd (odWf_odPut hprevious kMode n), P1.wr_rd hprevious, P1.wr_rd (odWf_superseded h)]

/-- The mode status is written last, over what the change shows. -/
theorem changeMode_eq (n : Nat) (p : P1) :
    changeMode n p = ((modeShown n p).setField kModeStatus 16 8 n).setBit kModeStatus 0 true := rfl

theorem changeMode_recorder (n : Nat) (p : P1) : (changeMode n p).recorder = (superseded p).recorder := by
  rw [changeMode_eq, P1.setBit_recorder, P1.setField_recorder, modeShown_recorder]

/-- The mode status of R97 after a change: TARGET and PENDING. -/
def pendingStatus (n : Nat) (v : Int) : Int := withBit (withField v 16 8 n) 0 true

@[simp] theorem bitOf_pendingStatus (n : Nat) (v : Int) : bitOf (pendingStatus n v) 0 = true := bitOf_withBit ..

theorem fieldOf_pendingStatus {n : Nat} (h : n < 256) (v : Int) : fieldOf (pendingStatus n v) 16 8 = n := by
  have htarget : fieldOf (pendingStatus n v) 16 8 = fieldOf (withField v 16 8 n) 16 8 :=
    fieldOf_congr _ _ _ _ fun i hi _ => bitOf_withBit_other _ _ _ _ (by omega)
  rw [htarget, fieldOf_withField]
  exact Nat.mod_eq_of_lt h

/-- The cells after a change of mode. -/
theorem changeMode_rd {p : P1} (hwf : odWf p.od = true) (n k : Nat) :
    (changeMode n p).rd k =
      if k = kModeStatus then pendingStatus n (p.rd kModeStatus) else if k = ob 0x2100 8 then (p.stamp : Int)
      else if k = kMode then (n : Int) else if k = ob 0x2100 3 then (p.mode : Int) else (superseded p).rd k := by
  have hstatus : (modeShown n p).rd kModeStatus = p.rd kModeStatus :=
    (modeShown_rd hwf n kModeStatus).trans (superseded_sameCells p kModeStatus (by decide))
  have hshown := odWf_modeShown hwf n
  rw [changeMode_eq, P1.setBit_rd (odWf_odPut hshown _ _), P1.setField_rd hshown, P1.setField_rd hshown, hstatus]
  by_cases hk : k = kModeStatus
  · simp only [if_pos hk, if_true, pendingStatus]
  · simp only [if_neg hk, modeShown_rd hwf]

/-- Settles O24: the cells after the change are those that it writes over the record of a superseded target. -/
theorem acceptedModeChangeShowsItself : Obligations.AcceptedModeChangeShowsItself := by
  intro p n hwf _ _
  have hrd := changeMode_rd hwf n.val
  have hstatus : (changeMode n p).rd kModeStatus = pendingStatus n (p.rd kModeStatus) := (hrd _).trans (if_pos rfl)
  refine ⟨?mode, hrd (ob 0x2100 3), hrd (ob 0x2100 8), ?pending, ?target, fun k hk => ?frame,
    fun h => ?first, fun h => ?again⟩
  case mode =>
    exact (congrArg Int.toNat (hrd kMode)).trans (Int.toNat_natCast n.val)
  case pending => rw [P1.bit, hstatus, bitOf_pendingStatus]
  case target => rw [P1.field, hstatus, fieldOf_pendingStatus (by omega)]
  case frame =>
    simp only [Bool.or_eq_false_iff, decide_eq_false_iff_not] at hk
    have hrecord : recordCell k = false := by simp [recordCell, hk]
    rw [hrd k, superseded_sameCells p k hrecord]
    simp [hk]
  case first => rw [changeMode_recorder, superseded, if_neg (by simp [h])]
  case again => rw [changeMode_recorder, superseded, if_pos h]

end Sys2Proof.Machine
end

section
/-! SUPPORT. The Spring sequence (R83, R84) and the assignment of panel inputs (R73). -/

namespace Sys2Proof.Machine

/-! ### Steps of the Spring sequence (R83, R84) -/

/-- With no sequence the end of a step does nothing. -/
theorem springStepComplete_idle {p : P1} (h : springing p = false) (ok : Bool) : springStepComplete ok p = p :=
  if_pos (by simp [h])

/-- A step under way fails where its condition does, else leads to the next one; the fifth is the last (R83). -/
theorem springStepComplete_step {p : P1} (hspring : springing p = true) (hstep : p.springStep ≠ 0) (ok : Bool) :
    springStepComplete ok p =
      if springHolds p.springStep ok p = true then
        (if p.springStep < 5 then { p with springStep := p.springStep + 1 } else springPass p)
      else springFail p.springStep p := by
  have hruns : ¬(!springing p || p.springStep = 0) = true := by simp [hspring, hstep]
  rw [springStepComplete, if_neg hruns]
  cases springHolds p.springStep ok p <;> rfl

/-- Checks 2 and 3 are the operand of their event (R83). -/
theorem springHolds_check {n : Nat} (h : n = 2 ∨ n = 3) (ok : Bool) (p : P1) : springHolds n ok p = ok := by
  rcases h with rfl | rfl <;> rfl

/-- Step 4 asks for the PLL and the dividers (R83). -/
theorem springHolds_clock {p : P1} (hpll : p.bit kClock 0 = true) (hdiv : p.bit kClock 1 = true) (ok : Bool) :
    springHolds 4 ok p = true :=
  Bool.and_eq_true _ _ ▸ ⟨hpll, hdiv⟩

/-! ### Panel inputs (R73) -/

/-- An input that no other mode uses may serve a mode other than Commissioning. -/
theorem panelRule_check {m : Fin 12} {v : Int} {p : P1} (hm : m.val ≠ 1)
    (hfree : v = 0xFF ∨ ∀ j : Fin 12, j ≠ m → p.rd (ob 0x2101 (j + 1)) ≠ v) : (panelRule (m + 1) v).check p = 0 := by
  have hused : ¬(v ≠ 0xFF && (List.range 12).any fun j => j + 1 ≠ m.val + 1 && p.rd (ob 0x2101 (j + 1)) = v) = true := by
    intro h
    simp only [Bool.and_eq_true, List.any_eq_true, List.mem_range, decide_eq_true_eq] at h
    obtain ⟨hnone, j, hj, hother, hv⟩ := h
    exact hfree.elim hnone fun hfree => hfree ⟨j, hj⟩ (fun he => hother (by simp [← he])) hv
  exact (if_neg (by omega)).trans (if_neg hused)

/-- Settles O25: the condition of the step under way decides, and an assignment passes the content test of its rule. -/
theorem springStepsAndPanelInputs : Obligations.SpringStepsAndPanelInputs := by
  intro s
  refine ⟨fun hup hspring hstep => ?checks, fun ok hup hspring hstep hpll hdiv => ?clock,
    fun ok hup hspring hstep hhealthy => ?feedback, fun ok hidle => ?idle,
    fun w m v hserves hm hacc hfree => onReq_check hserves hacc (panelRule_check hm hfree)⟩
  case checks =>
    have hdone (ok : Bool) := springStepComplete_step hspring (by omega) ok
    refine ⟨(onP1_run hup).trans ?_, (onP1_run hup).trans ?_⟩
    · rw [hdone, springHolds_check hstep, if_pos rfl, if_pos (by omega)]
      rfl
    · rw [hdone, springHolds_check hstep, if_neg Bool.false_ne_true]
      rfl
  case clock =>
    refine (onP1_run hup).trans ?_
    rw [springStepComplete_step hspring (by omega), hstep, springHolds_clock hpll hdiv]
    rfl
  case feedback =>
    have hholds : springHolds 5 ok s.p1 = true := hhealthy
    refine (onP1_run hup).trans ?_
    rw [springStepComplete_step hspring (by omega), hstep, hholds]
    rfl
  case idle =>
    change onP1 (springStepComplete ok) s = .next s
    rw [onP1, springStepComplete_idle hidle, ite_self]

end Sys2Proof.Machine
end

section
/-! SUPPORT. Reset inputs and starts (R85–R95). -/

namespace Sys2Proof.Machine

/-! ### The end of a press (R85) -/

/-- A press of less than 200 ms is ignored. -/
theorem resetRelease_short {i : ResetInput} {n : Nat} {k : KeptChecks} {s : State} (h : n < 200000) :
    resetRelease i n k s = s :=
  if_pos (by simp [h])

/-- A press of 10 s or more declares its input stuck (R86). -/
theorem resetRelease_stuck {i : ResetInput} {n : Nat} {k : KeptChecks} {s : State} (hon : s.p1.phase ≠ .off)
    (hfree : s.p1.stuck[resetIdx i] = false) (h : 10000000 ≤ n) :
    resetRelease i n k s = { s with p1 := declareStuck i s.p1 } := by
  have hpress : ¬(s.p1.phase = .off || s.p1.stuck[resetIdx i] || n < 200000) = true := by
    simp only [hon, hfree, decide_false, Bool.false_or, decide_eq_true_eq]
    omega
  rw [resetRelease, if_neg hpress, if_neg (by omega), if_neg (by omega)]

/-! ### Stuck inputs (R86) -/

/-- Some input is stuck as soon as one is. -/
theorem stuck_or_of_set (v : Vector Bool 2) (i : ResetInput) :
    ((v.set (resetIdx i) true)[(0 : Fin 2)] || (v.set (resetIdx i) true)[(1 : Fin 2)]) = true := by
  cases i <;> simp [resetIdx]

/-- A module that runs records and raises a stuck input, and shows RESET_STUCK (R86). -/
theorem declareStuck_run {i : ResetInput} {p : P1} (hrun : p.phase = .run) (hfree : p.stuck[resetIdx i] = false) :
    declareStuck i p = raise 0x0254 0 (record 0x0254 0
      (({ p with stuck := p.stuck.set (resetIdx i) true } : P1).setBit kModeStatus 4 true)) := by
  have hstuck : showStuck { p with stuck := p.stuck.set (resetIdx i) true }
      = ({ p with stuck := p.stuck.set (resetIdx i) true } : P1).setBit kModeStatus 4 true :=
    congrArg (P1.setBit _ kModeStatus 4) (stuck_or_of_set p.stuck i)
  have hnew : ¬(p.phase = .off || p.stuck[resetIdx i]) = true := by simp [hrun, hfree]
  rw [← hstuck]
  exact (if_neg hnew).trans (if_pos hrun)

/-- RESET_STUCK says whether an input is stuck. -/
theorem showStuck_bit {p : P1} (hwf : odWf p.od = true) :
    (showStuck p).bit kModeStatus 4 = (p.stuck[(0 : Fin 2)] || p.stuck[(1 : Fin 2)]) := by
  rw [P1.bit, showStuck, P1.setBit_rd hwf, if_pos rfl, bitOf_withBit]

theorem P1.stuck_of_alarm {a b : P1} (h : b.butAlarm = a.butAlarm) : b.stuck = a.stuck :=
  show b.butAlarm.stuck = a.butAlarm.stuck by rw [h]

/-- P1 once the release of a stuck input is recorded and shown (R86). -/
def released (i : ResetInput) (p : P1) : P1 :=
  record 0x0255 0 (showStuck { p with stuck := p.stuck.set (resetIdx i) false })

/-- The release of a stuck input is recorded and shown, and may end the alarm (assumption 95). -/
theorem clearStuck_released {i : ResetInput} {p : P1} (hon : p.phase ≠ .off) (hstuck : p.stuck[resetIdx i] = true) :
    clearStuck i p = lower 0x0254 0 (released i p) ∨ clearStuck i p = released i p := by
  have hwas : ¬(p.phase = .off || !p.stuck[resetIdx i]) = true := by simp [hon, hstuck]
  rw [clearStuck, if_neg hwas]
  exact ite_eq_or_eq ..

theorem released_stuck (i : ResetInput) (p : P1) : (released i p).stuck = p.stuck.set (resetIdx i) false :=
  P1.stuck_of_alarm (P1.butAlarm_of_can (P1.butCan_of_record (record_butRecord ..)))

theorem released_bit {i : ResetInput} {p : P1} (hwf : odWf p.od = true) :
    (released i p).bit kModeStatus 4 = ((released i p).stuck[(0 : Fin 2)] || (released i p).stuck[(1 : Fin 2)]) := by
  have hcell := record_sameCells 0x0255 0 (showStuck { p with stuck := p.stuck.set (resetIdx i) false }) kModeStatus (by decide)
  rw [released_stuck]
  exact (congrArg (bitOf · 4) hcell).trans (showStuck_bit hwf)

/-- Once an input is released, RESET_STUCK shows whether the other one is stuck (R86). -/
theorem clearStuck_shows {i : ResetInput} {p : P1} (hon : p.phase ≠ .off) (hwf : odWf p.od = true)
    (hstuck : p.stuck[resetIdx i] = true) :
    (clearStuck i p).stuck = p.stuck.set (resetIdx i) false
      ∧ (clearStuck i p).bit kModeStatus 4 = ((clearStuck i p).stuck[(0 : Fin 2)] || (clearStuck i p).stuck[(1 : Fin 2)]) := by
  have hset := released_stuck i p
  have hbit := released_bit (i := i) hwf
  rcases clearStuck_released hon hstuck with h | h
  · rw [h]
    have hsame : (lower 0x0254 0 (released i p)).stuck = (released i p).stuck := P1.stuck_of_alarm (lower_butAlarm ..)
    have hcell := lower_sameCells 0x0254 0 (released i p) kModeStatus (by decide)
    rw [hsame, ← hbit]
    exact ⟨hset, congrArg (bitOf · 4) hcell⟩
  · rw [h]
    exact ⟨hset, hbit⟩

/-- Settles O26: the length of the press and the phase select the event, and the release of a stuck input leaves RESET_STUCK
to the other one. -/
theorem resetsAndStarts : Obligations.ResetsAndStarts := by
  intro s
  refine ⟨fun i n k hon hfree => ?press, fun hoff => if_pos hoff, fun hon => if_neg hon, fun o l hcold => ?selfTest,
    fun l hspring => if_pos hspring, fun i hrun hfree => ?declared, fun i hrun hwf hstuck => ?cleared⟩
  case press =>
    have hexec : exec (.resetInputRelease i n k) s = .next (resetRelease i n k s) := rfl
    rw [hexec]
    refine ⟨fun hn => ?_, fun hlo hhi => ?_, fun hlo hhi => ?_, fun hlo => ?_⟩
    · rw [resetRelease_short hn]
    · rw [resetRelease_warm hon hfree hlo hhi]
    · rw [resetRelease_full hon hfree hlo hhi]
    · rw [resetRelease_stuck hon hfree hlo]
      rfl
  case selfTest =>
    change execSelfTestComplete l s = .next (serveAgain l s)
    simp only [execSelfTestComplete, hcold]
  case declared =>
    change (.next (s.core (declareStuck i s.p1)) : Out) = _
    rw [declareStuck_run hrun hfree]
  case cleared =>
    obtain ⟨hset, hbit⟩ := clearStuck_shows (by simp [hrun]) hwf hstuck
    exact ⟨_, rfl, hset, hbit, rfl, rfl⟩

end Sys2Proof.Machine
end

section
/-! SUPPORT. Outcomes of accepted writes and of arriving items, by what their rule or event makes of P1 (R18, R48, R128, R538). -/

namespace Sys2Proof.Machine

/-- An accepted write has what its rule makes of P1 as its effect. -/
theorem onReq_effect {w k : Nat} {x : Val} {r : Rule P1} {f : P1 → P1} {s : State} (hr : s.p1.serves = true)
    (h : accepted w k x s.p1) (hm : r.mode s.p1 = 0) (hc : r.check s.p1 = 0) (hb : r.busy s.p1 = 0)
    (hf : r.eff s.p1 = f s.p1) : onReq w k x r s = .next (written w k x f s) := by
  rw [onReq_accepted hr h hm hc hb, written, hf, written]

/-- A content that passes its checks waits for its G+0 where none waits (R128). -/
theorem onReq_replace {w k : Nat} {b : List Byte} {mode : P1 → Nat} {ok : Bool} {s : State} (hr : s.p1.serves = true)
    (h : accepted w k (.bytes b) s.p1) (hm : mode s.p1 = 0) (hok : ok = true) (hfree : nextBusy k s.p1 = false) :
    onReq w k (.bytes b) (replaceRule k b mode ok) s = .next (written w k (.bytes b) (submitNext k b) s) :=
  onReq_accepted hr h hm (if_pos hok) (if_neg (by simp [hfree]))

/-- A content that fails its checks is refused (R128). -/
theorem onReq_replace_failed {w k : Nat} {b : List Byte} {mode : P1 → Nat} {ok : Bool} {s : State} (hr : s.p1.serves = true)
    (h : accepted w k (.bytes b) s.p1) (hm : mode s.p1 = 0) (hok : ok = false) :
    onReq w k (.bytes b) (replaceRule k b mode ok) s = .next (s.core (answer w k abRange s.p1)) :=
  onReq_checkRefused hr h (by decide) hm (if_neg (by simp [hok]))

/-- An item that arrives while the core runs has what it makes of P1 as its effect. -/
theorem onMeasured_next {hit : Fin 64 → P1 → Bool} {f : P1 → P1} {s : State} {p : P1} (hup : s.p1.up = true)
    (h : f s.p1 = p) : onMeasured hit f s = .next (s.core p) :=
  h ▸ onMeasured_run hup

/-- An item that changes nothing of P1 changes nothing. -/
theorem onMeasured_idle {hit : Fin 64 → P1 → Bool} {f : P1 → P1} {s : State} (hup : s.p1.up = true) (h : f s.p1 = s.p1) :
    onMeasured hit f s = .next s :=
  onMeasured_next hup h

end Sys2Proof.Machine
end

section
/-! SUPPORT. Slot enables, mounts and their refined values (R100, R125). -/

namespace Sys2Proof.Machine

/-! ### Slot enables (R100) -/

/-- A disable, or an enable of a consistent slot, passes the test of 3100h+s:01. -/
theorem slotEnableRule_check {i : Fin 64} {v : Int} {p : P1} (h : v = 1 → configOk i p = true) :
    (slotEnableRule i v).check p = 0 := by
  refine if_neg fun hbad => ?_
  obtain ⟨hv, hconf⟩ : v = 1 ∧ configOk i p = false := by simpa using hbad
  simp [h hv] at hconf

/-- An enable of an inconsistent slot fails it. -/
theorem slotEnableRule_check_inconsistent {i : Fin 64} {p : P1} (h : configOk i p = false) :
    (slotEnableRule i 1).check p = abRange :=
  if_pos (by simp [h])

/-- An enable to the value in force changes nothing. -/
theorem slotEnableRule_inForce {i : Fin 64} {v : Int} {p : P1} (h : p.rd (slKey i 1) = v) : (slotEnableRule i v).eff p = p :=
  if_pos h

/-- A slot that starts afresh with its fusion state qualifying; it keeps the date of its source. -/
def slotAfresh (i : Fin 64) (p : P1) : P1 :=
  let q := setSlot i (fun x => { SlotState.reset with since := p.elapsed, date := x.date }) (p.wr (slKey i 1) 1)
  refreshSlot i (((q.setField (slKey i 0x14) 16 16 1).setBits (slKey i 0x14)
    [(bTimeUnaligned, false), (bModelPending, p.rd (slKey i 9) = 4), (bUntagged, false)]).wrs
      [(slKey i 0x1C, 0), (slKey i 0x1D, 0)])

/-- An enable of a slot that is off starts it afresh. -/
theorem slotEnableRule_starts {i : Fin 64} {p : P1} (h : p.rd (slKey i 1) = 0) :
    (slotEnableRule i 1).eff p = slotAfresh i p :=
  (if_neg (by simp [h])).trans (if_neg (by decide))

/-- A slot that is off from this grain on. -/
def slotOff (i : Fin 64) (p : P1) : P1 :=
  refreshSlot i (setSlot i (fun x => { x with since := p.elapsed }) (p.wr (slKey i 1) 0))

/-- A disable of a slot that is on notes its grain. -/
theorem slotEnableRule_ends {i : Fin 64} {p : P1} (h : p.rd (slKey i 1) = 1) : (slotEnableRule i 0).eff p = slotOff i p :=
  (if_neg (by simp [h])).trans (if_pos rfl)

/-! ### Refined values (R125) -/

theorem acceptRule_check_valid {e : Fin 80} {p : P1} (h : p.rd (mtKey e 0x0D) = 1) : (acceptRule e).check p = 0 := if_pos h

theorem acceptRule_check_invalid {e : Fin 80} {p : P1} (h : p.rd (mtKey e 0x0D) ≠ 1) : (acceptRule e).check p = abRange :=
  if_neg h

/-- Settles O31: each write passes or fails the tests of its rule, and an enable has the effect that the value in force
selects. -/
theorem slotMountAndModelWrites : Obligations.SlotMountAndModelWrites := by
  intro s w hserves
  refine ⟨fun i v hacc hconf hsame => ?same, fun i hacc hconf hoff => ?starts, fun i hacc hon => ?ends,
    fun i hacc hconf => ?inconsistent, fun e k v hacc => onReq_eff hserves hacc,
    fun e v hacc hvalid => onReq_check hserves hacc (acceptRule_check_valid hvalid),
    fun e v hacc hvalid => onReq_checkRefused hserves hacc (by decide) rfl (acceptRule_check_invalid hvalid),
    fun b hacc hok hfree => onReq_replace hserves hacc rfl hok hfree,
    fun b hacc hok hfree => onReq_replace hserves hacc rfl hok hfree,
    fun b hacc hok => onReq_replace_failed hserves hacc rfl hok,
    fun t b hacc hok hfree => onReq_replace hserves hacc rfl hok hfree,
    fun i v hacc => onReq_eff hserves hacc⟩
  case same => exact onReq_effect hserves hacc rfl (slotEnableRule_check hconf) rfl (slotEnableRule_inForce hsame)
  case starts =>
    exact onReq_effect hserves hacc rfl (slotEnableRule_check fun _ => hconf) rfl (slotEnableRule_starts hoff)
  case ends =>
    have hcheck : (slotEnableRule i 0).check s.p1 = 0 := slotEnableRule_check fun h => absurd h (by decide)
    exact onReq_effect hserves hacc rfl hcheck rfl (slotEnableRule_ends hon)
  case inconsistent =>
    exact onReq_checkRefused hserves hacc (by decide) rfl (slotEnableRule_check_inconsistent hconf)

end Sys2Proof.Machine
end

section
/-! SUPPORT. Dwells of a track (R229, R230), refits of the wave model and the ends of WAVE_READY (R238, R240). -/

namespace Sys2Proof.Machine

/-! ### The end of a dwell (R229) -/

/-- No dwell, or one that is not over, has no end. -/
theorem waypointDwell_running {p : P1} (h : ∀ g, p.ctl.track.dwellFrom = some g → p.elapsed < g + dwellSpan p) :
    waypointDwell p = p := by
  unfold waypointDwell
  cases hfrom : p.ctl.track.dwellFrom with
  | none => simp
  | some g => simp [h g hfrom]

/-- A dwell that is over ends in Auto Track, but in a Shadow. -/
theorem waypointDwell_over {p : P1} {g : Nat} (hlaw : p.lawMode = 7) (hrole : p.role ≠ 1)
    (hfrom : p.ctl.track.dwellFrom = some g) (hover : g + dwellSpan p ≤ p.elapsed) :
    waypointDwell p =
      if (dwellEnd p).2 && (dwellEnd p).1.mode = 7 then trackEnd (dwellEnd p).1 else (dwellEnd p).1 := by
  simp only [waypointDwell, hfrom]
  exact if_pos (by simp [hlaw, hrole, hover])

/-- A leg that starts at the targets in force. -/
def legStart (p : P1) : P1 :=
  { p with ctl := { p.ctl with track := ⟨p.ctl.gens[0].target, p.ctl.gens[1].target, none⟩ } }

/-- Before the last waypoint a dwell's end is recorded and aims at the next one. -/
theorem dwellEnd_next {p : P1} (h : p.rdN (ob 0x4033 4) + 1 < trackCount (trackList p)) :
    dwellEnd p =
      (aimWaypoint (p.rdN (ob 0x4033 4) + 1) (legStart (record 0x0404 (p.rdN (ob 0x4033 4)) p)), false) :=
  if_pos h

/-- At the last waypoint a dwell's end is recorded and ends the track. -/
theorem dwellEnd_last {p : P1} (h : trackCount (trackList p) ≤ p.rdN (ob 0x4033 4) + 1) :
    dwellEnd p = (record 0x0404 (p.rdN (ob 0x4033 4)) p, true) :=
  if_neg (Nat.not_lt.mpr h)

/-- Aiming at a waypoint keeps the start of its leg and ends the dwell. -/
theorem aimWaypoint_track (j : Nat) (p : P1) : (aimWaypoint j p).ctl.track = { p.ctl.track with dwellFrom := none } := rfl

theorem aimWaypoint_mode (j : Nat) (p : P1) : (aimWaypoint j p).mode = p.mode :=
  congrArg Int.toNat (P1.wr_rd_other (by decide) (j : Int) p)

theorem record_ctl (code param : Nat) (p : P1) : (record code param p).ctl = p.ctl :=
  have hsame : (record code param p).butRecord.ctl = p.butRecord.ctl := congrArg P1.ctl (record_butRecord code param p)
  hsame

/-! ### The wave model (R238, R240) -/

/-- A window that is not full is not refitted. -/
theorem waveRefit_unfilled {p : P1} (h : p.ctl.wave.samples.length < fitCount p) : waveRefit p = p := by
  unfold waveRefit
  split
  · rfl
  · exact if_pos (by simp [h])

/-- A full window is refitted once the refit interval has passed. -/
theorem waveRefit_due {p : P1} {x : WaveSample} {r : List WaveSample} (hsamples : p.ctl.wave.samples = x :: r)
    (hfull : fitCount p ≤ p.ctl.wave.samples.length)
    (hdue : p.ctl.wave.lastIssue + p.rdN (ob 0x4300 2) * 1000000000 ≤ p.ns) :
    waveRefit p = withEnded (issueOwn 6 false (ownInput 6 p) none
      { p with ctl := { p.ctl with wave := { p.ctl.wave with lastIssue := x.ns } } }) := by
  have hissue : ¬(p.ctl.wave.samples.length < fitCount p
      || p.ns < p.ctl.wave.lastIssue + p.rdN (ob 0x4300 2) * 1000000000) = true := by
    simp only [Bool.or_eq_true, decide_eq_true_eq]
    omega
  unfold waveRefit
  split
  · next h => simp [h] at hsamples
  · next y l h =>
    obtain rfl : y = x := (List.cons.inj (h.symm.trans hsamples)).1
    exact if_neg hissue

theorem clearReady_ready {c : Nat} {p : P1} (h : waveReady p = true) :
    clearReady c p = record 0x0402 c (p.setBit (ob 0x4304 2) 0 false) :=
  if_pos h

theorem waveAge_fresh {p : P1} (h : fitFresh p = true) : waveAge p = p := if_pos h

theorem waveAge_old {p : P1} (h : fitFresh p = false) : waveAge p = judgeCloseHold (clearReady 1 p) := if_neg (by simp [h])

theorem waveExit_none {p : P1} (h : p.ctl.wave.exitSince = none) : waveExit p = p := by simp only [waveExit, h]

theorem waveExit_passed {p : P1} {g : Nat} (hsince : p.ctl.wave.exitSince = some g)
    (hpassed : g + 1000 * p.rdN (ob 0x4300 0x0B) ≤ p.elapsed) : waveExit p = judgeCloseHold (clearReady 3 p) := by
  simp only [waveExit, hsince, if_pos hpassed]

/-- Settles O37: the write passes or fails the tests of its rule, and the place in the list selects how a dwell ends. -/
theorem tracksWavesAndSaturation : Obligations.TracksWavesAndSaturation := by
  intro s w hserves hup
  refine ⟨fun b hacc hmode hok hfree => ⟨onReq_replace hserves hacc (if_neg hmode) hok hfree, rfl⟩,
    fun b hacc hmode => onReq_modeRefused hserves hacc (by decide) (if_pos hmode),
    fun b hacc hmode hok => onReq_replace_failed hserves hacc (if_neg hmode) hok,
    fun g hlaw hrole hfrom hover hnext => ?next, fun g hlaw hmode hrole hfrom hover hlast _ => ?last,
    fun hnone => onP1_idle hup (waypointDwell_running fun g hg => by simp [hnone] at hg),
    fun g hfrom hearly => onP1_idle hup (waypointDwell_running fun g' hg => ?early),
    onP1_next (f := fun p => judgeCloseHold (waveSample p)) hup rfl, fun h => onP1_idle hup (waveRefit_unfilled h),
    fun x r hsamples hfull hdue => onP1_next hup (waveRefit_due hsamples hfull hdue),
    fun h => onP1_idle hup (waveAge_fresh h),
    fun hold hready => onP1_next hup (by rw [waveAge_old hold, clearReady_ready hready]),
    fun g hready hsince hpassed => onP1_next hup (by rw [waveExit_passed hsince hpassed, clearReady_ready hready]),
    fun hnone => onP1_idle hup (waveExit_none hnone), fun v hacc => onReq_eff hserves hacc⟩
  case next =>
    let q := legStart (record 0x0404 (s.p1.rdN (ob 0x4033 4)) s.p1)
    have hend : waypointDwell s.p1 = aimWaypoint (s.p1.rdN (ob 0x4033 4) + 1) q := by
      rw [waypointDwell_over hlaw hrole hfrom hover, dwellEnd_next hnext]
      rfl
    refine ⟨_, onP1_next hup hend, ?_, ?_, ?_, ?_, rfl, rfl⟩
    · exact congrArg Track.dwellFrom (aimWaypoint_track _ q)
    · exact congrArg (fun c => c.gens[0].target) (record_ctl ..)
    · exact congrArg (fun c => c.gens[1].target) (record_ctl ..)
    · exact (aimWaypoint_mode _ q).trans (record_mode ..)
  case last =>
    refine ⟨_, onP1_run hup, ?_⟩
    have hauto : (record 0x0404 (s.p1.rdN (ob 0x4033 4)) s.p1).mode = 7 := (record_mode ..).trans hmode
    rw [waypointDwell_over hlaw hrole hfrom hover, dwellEnd_last hlast]
    exact if_pos (by simp [hauto])
  case early =>
    obtain rfl : g = g' := Option.some.inj (hfrom.symm.trans hg)
    exact hearly

end Sys2Proof.Machine
end

section
/-! SUPPORT. Items that arrive for the slots (R105–R118, R429, R430, R446, R449): what each source makes of an item, by whether
it is on and by the item's form. -/

namespace Sys2Proof.Machine

/-! ### Sentences of a serial channel (R105, R449) -/

/-- A sentence of a serial channel goes to each slot bound to the channel. -/
def sentenceToSlots (k : Fin 8) (b : List Byte) (p : P1) : P1 :=
  eachSlot (fun i v =>
    if onSerial i k 1 v then
      let w := republish i (.sentence k b) v
      if slotTakes i false w then slotSentence i w.ns b w else w
    else v) p

theorem serialSentence_off {k : Fin 8} {p : P1} (h : serialOn k p = false) (b : List Byte) : serialSentence k b p = p :=
  if_neg (by simp [h])

/-- A sentence of more than 82 characters is dropped. -/
theorem serialSentence_long {k : Fin 8} {b : List Byte} {p : P1} (hon : serialOn k p = true) (hfmt : p.rd (serKey k 4) = 0)
    (hlong : (tagBlock (nats b)).2.length > 82) : serialSentence k b p = dropSerial k 2 (heardChars k b.length p) :=
  (if_pos (by simp [hon, hfmt])).trans (if_pos (by simp [hlong]))

/-- A well-formed sentence is counted by its checksum and goes to its slots. -/
theorem serialSentence_wellFormed {k : Fin 8} {b : List Byte} {l : List Nat} {p : P1} (hon : serialOn k p = true)
    (hfmt : p.rd (serKey k 4) = 0) (hline : (tagBlock (nats b)).2 = l ++ [0x0D, 0x0A]) (hlength : l.length ≤ 80)
    (hchars : ((l.drop 1).any fun c => c < 0x20 || 0x7E < c || c = 0x24 || c = 0x21) = false)
    (hclean : p.serial[k].spoilt = false) :
    serialSentence k b p = sentenceToSlots k b (
      if (summed (l.drop 1)).2 then (heardChars k b.length p).incWrap (serKey k 0x0B)
      else (heardChars k b.length p).inc (serKey k 0x0C)) := by
  have hlen : (l ++ [0x0D, 0x0A]).length - 2 = l.length := by simp
  have hshort : ¬82 < (l ++ [0x0D, 0x0A]).length := by simp; omega
  have hform : ¬(p.serial[k].spoilt || 82 < (l ++ [0x0D, 0x0A]).length
      || (l ++ [0x0D, 0x0A]).drop l.length ≠ [0x0D, 0x0A]
      || (l.drop 1).any (fun c => c < 0x20 || 0x7E < c || c = 0x24 || c = 0x21)) = true := by
    rw [hclean, hchars, List.drop_left]
    simpa using hshort
  unfold serialSentence
  rw [if_pos (by simp [hon, hfmt])]
  dsimp only
  rw [hline, hlen, List.take_left, if_neg hform]
  rfl

/-! ### Datagrams of a sensor port (R101, R430) -/

/-- The slots that a datagram is for, in ascending number. -/
def udpHits (p : Fin 4) (port ip : Nat) (s : P1) : List (Fin 64) :=
  (List.finRange 64).filter fun (i : Fin 64) => udpMatches i p port ip s

/-- The queue that a datagram enters: the lidar's where one of its slots takes lidar segments. -/
def udpQueue (hits : List (Fin 64)) (s : P1) : Fin 3 := if hits.any fun i => s.rd (slKey i 6) = 6 then 0 else 1

theorem sensorDatagram_eq (p : Fin 4) (port ip : Nat) (b : List Byte) (s : P1) :
    sensorDatagram p port ip b s =
      if !sensorPortOn p s then s
      else if udpHits p port ip s = [] then s.inc (ob (0x5930 + p) 0x0B)
      else if sensorRoom p (udpQueue (udpHits p port ip s) s) s then
        offered p (udpQueue (udpHits p port ip s) s) (udpHits p port ip s) b s
      else turnedAway p (udpHits p port ip s) s := rfl

theorem sensorDatagram_off {p : Fin 4} {s : P1} (h : sensorPortOn p s = false) (port ip : Nat) (b : List Byte) :
    sensorDatagram p port ip b s = s := by
  simp [sensorDatagram_eq, h]

/-- A datagram that no slot matches is discarded and counted. -/
theorem sensorDatagram_unmatched {p : Fin 4} {port ip : Nat} {s : P1} (hon : sensorPortOn p s = true)
    (hnone : ∀ i : Fin 64, udpMatches i p port ip s = false) (b : List Byte) :
    sensorDatagram p port ip b s = s.inc (ob (0x5930 + p) 0x0B) := by
  have hempty : udpHits p port ip s = [] := by simp [udpHits, hnone]
  simp [sensorDatagram_eq, hon, hempty]

/-- A datagram whose queue has room is offered to its slots. -/
theorem sensorDatagram_offered {p : Fin 4} {port ip : Nat} {s : P1} (hon : sensorPortOn p s = true)
    (hsome : udpHits p port ip s ≠ []) (hroom : sensorRoom p (udpQueue (udpHits p port ip s) s) s = true) (b : List Byte) :
    sensorDatagram p port ip b s = offered p (udpQueue (udpHits p port ip s) s) (udpHits p port ip s) b s := by
  simp [sensorDatagram_eq, hon, hsome, hroom]

/-- A datagram whose queue is full is turned away. -/
theorem sensorDatagram_turnedAway {p : Fin 4} {port ip : Nat} {s : P1} (hon : sensorPortOn p s = true)
    (hsome : udpHits p port ip s ≠ []) (hfull : sensorRoom p (udpQueue (udpHits p port ip s) s) s = false) (b : List Byte) :
    sensorDatagram p port ip b s = turnedAway p (udpHits p port ip s) s := by
  simp [sensorDatagram_eq, hon, hsome, hfull]

/-- The three commands that present a datagram of a sensor port have one effect (R109, R112, R114). -/
theorem exec_sensorDatagram {p : Fin 4} {port ip : Nat} {b : List Byte} {s : State} {t : P1} (hup : s.p1.up = true)
    (h : sensorDatagram p port ip b s.p1 = t) :
    exec (.lidarSegment p port ip b) s = .next (s.core t) ∧ exec (.landmarkPacket p port ip b) s = .next (s.core t)
      ∧ exec (.templateFrame (.udp p port ip) b) s = .next (s.core t) :=
  ⟨onMeasured_next hup h, onMeasured_next hup h, onMeasured_next hup h⟩

/-! ### Frames of a CAN channel (R108, R109, R446) -/

/-- A template frame of a CAN channel goes to each slot that its identifier matches. -/
theorem templateFrame_can {c : Fin 4} {id : Nat} {x : Bool} {p : P1} (hon : sourceOn (.can c id x) p = true) (b : List Byte) :
    templateFrame (.can c id x) b p = eachSlot (fun i t =>
      if templateMatches i (.can c id x) t then
        let u := republish i (.template (.can c id x) b) t
        if slotTakes i false u then slotTemplateFrame i u.ns b u else u
      else t) p :=
  if_pos hon

theorem wholePgn_heard {c : Fin 4} {p : P1} (h : canHears c p = true) (ident : Nat) (b : List Byte) :
    wholePgn c ident b p =
      pgnMessage c ident b (if fastPgn (pgnOf ident) then p else republishPgn c ident b p) :=
  if_pos h

/-- A fast-packet message that has stood its time is dropped. -/
theorem fastTimeout_late {c : Fin 4} {pgn src : Nat} {f : FastPacket} {p : P1}
    (hopen : p.can[c].fast.find? (FastPacket.is pgn src) = some f) (hlate : 750000 ≤ p.elapsed - f.since) :
    fastTimeout c pgn src p = dropFast none c f.ident p := by
  simp only [fastTimeout, hopen]
  exact if_pos (decide_eq_true hlate)

theorem fastTimeout_early {c : Fin 4} {pgn src : Nat} {f : FastPacket} {p : P1}
    (hopen : p.can[c].fast.find? (FastPacket.is pgn src) = some f) (hearly : p.elapsed - f.since < 750000) :
    fastTimeout c pgn src p = p := by
  simp only [fastTimeout, hopen]
  exact if_neg (by simp [FastPacket.late, hearly])

/-! ### Datagrams of a group (R107, R429) -/

theorem groupDatagram_off {k : Fin 16} {p : P1} (h : p.rd (ob (0x5910 + k) 1) = 0) (b : List Byte) :
    groupDatagram k b p = p :=
  if_neg (by simp [h])

/-- A datagram without its header counts as such alone. -/
theorem groupDatagram_headerless {k : Fin 16} {b : List Byte} {p : P1} (hon : p.rd (ob (0x5910 + k) 1) = 1)
    (hip : dpIp p = true) (hhead : b.take 6 ≠ ascii "UdPbC" ++ [0#8]) :
    groupDatagram k b p = (p.inc (ob (0x5910 + k) 4)).inc (ob (0x5910 + k) 5) :=
  (if_pos (by simp [hon, hip])).trans (if_pos hhead)

/-- The lines of a datagram whose tag block fails its checksum. -/
def badTagBlocks (b : List Byte) : Nat :=
  (datagramLines (nats (b.drop 6))).countP fun line => match (tagBlock line).1 with
    | some x => !(summed x).2
    | none => false

/-- A datagram with its header goes to each slot of its group. -/
theorem groupDatagram_headed {k : Fin 16} {b : List Byte} {p : P1} (hon : p.rd (ob (0x5910 + k) 1) = 1)
    (hip : dpIp p = true) (hhead : b.take 6 = ascii "UdPbC" ++ [0#8]) :
    groupDatagram k b p = eachSlot (fun i u =>
      if u.rd (slKey i 2) = 3 && u.rd (slKey i 3) = k.val && u.rd (slKey i 6) = 2 then
        let v := republish i (.datagram k b) u
        if slotTakes i false v then slotDatagram i v.ns b v else v
      else u) ((p.inc (ob (0x5910 + k) 4)).add (ob (0x5910 + k) 5) (badTagBlocks b)) :=
  (if_pos (by simp [hon, hip])).trans (if_neg (by simp [hhead]))

/-! ### Lidar frames (R112) -/

/-- An open lidar frame closes two nominal periods after its first segment. -/
theorem frameTimeout_due {i : Fin 64} {f : LidarFrame} {p : P1} (hopen : p.slots[i].frame = some f)
    (hdue : 2 * p.rdN (slKey i 0x0A) ≤ p.elapsed - f.first) : frameTimeout i p = closeFrame i p := by
  simp only [frameTimeout, hopen, if_pos hdue]

/-- Settles O29: each item acts through the lemma of its source and of its form. -/
theorem intakeEventsReachTheirSlots : Obligations.IntakeEventsReachTheirSlots := by
  intro s hup
  refine ⟨fun k b hoff => onMeasured_idle hup (serialSentence_off hoff b),
    fun k b hon hfmt hlong => onMeasured_next hup (serialSentence_long hon hfmt hlong),
    fun k b l hon hfmt hline hlength hchars hclean =>
      onMeasured_next hup (serialSentence_wellFormed hon hfmt hline hlength hchars hclean),
    fun p port ip b hits q hon hhits hsome hq => ?datagram, fun p port ip b hon hnone => ?unmatched,
    fun p port ip b hoff => exec_sensorDatagram hup (sensorDatagram_off hoff port ip b),
    fun c id x b hon => onMeasured_next hup (templateFrame_can hon b),
    fun k b hon hip hhead => onMeasured_next hup (groupDatagram_headed hon hip hhead),
    fun k b hon hip hhead => onMeasured_next hup (groupDatagram_headerless hon hip hhead),
    fun k b hoff => onMeasured_idle hup (groupDatagram_off hoff b),
    fun c pr q b hon => onMeasured_next hup (wholePgn_heard hon _ b),
    fun c pgn src f hopen => ⟨fun hlate => onP1_next hup (fastTimeout_late hopen hlate),
      fun hearly => onP1_idle hup (fastTimeout_early hopen hearly)⟩,
    fun i f hopen hdue => onP1_next hup (frameTimeout_due hopen hdue), fun i => onP1_run hup⟩
  case datagram =>
    obtain rfl : hits = udpHits p port ip s.p1 := hhits
    obtain rfl : q = udpQueue (udpHits p port ip s.p1) s.p1 := hq
    exact ⟨fun hroom => exec_sensorDatagram hup (sensorDatagram_offered hon hsome hroom b),
      fun hfull => exec_sensorDatagram hup (sensorDatagram_turnedAway hon hsome hfull b)⟩
  case unmatched =>
    obtain ⟨hlidar, hlandmark, -⟩ := exec_sensorDatagram hup (sensorDatagram_unmatched hon hnone b)
    exact ⟨hlidar, hlandmark⟩

end Sys2Proof.Machine
end

section
/-! SUPPORT. The cells that a rising alarm leaves alone (R554, R555, R558), and the change of the grade (R162, R165). -/

namespace Sys2Proof.Machine

/-! ### The rise of an alarm (R554, R555, R558) -/

/-- The cells that a rising alarm can touch: those of its end, and the count of alarms that find the list full. -/
def raiseCell (k : Nat) : Bool := alarmCell k || k = ob 0x6200 6

theorem raiseCell_of_alarmCell (k : Nat) (h : alarmCell k = true) : raiseCell k = true := by simp [raiseCell, h]

theorem raiseCell_of_answerCounter (k : Nat) (h : answerCounter k = true) : raiseCell k = true := by
  simp [raiseCell, alarmCell, h]

theorem classRise_sameCells (cls code param : Nat) (s : P1) : sameCells answerCounter s (classRise cls code param s) := by
  have hemcy := emcy_sameCells (0xFF00 + cls) code param s
  unfold classRise
  extract_lets t
  split
  · exact hemcy.trans (.of_od rfl)
  · exact hemcy

theorem raiseIn_sameCells (cls code param : Nat) (s : P1) : sameCells raiseCell s (raiseIn cls code param s) := by
  have hshown (t : P1) : sameCells raiseCell t (classRise cls code param (showAlarms t)) :=
    ((showAlarms_sameCells t).mono raiseCell_of_alarmCell).trans
      ((classRise_sameCells cls code param _).mono raiseCell_of_answerCounter)
  have hlisted (l : List Alarm) : sameCells raiseCell s { s with alarms := l } := .of_od rfl
  have hunlisted (l : List Alarm) : sameCells raiseCell s { s with unlisted := l } := .of_od rfl
  unfold raiseIn
  extract_lets again a
  split_ifs
  · exact .refl _ s
  · exact (hlisted _).trans (hshown _)
  · exact (hlisted _).trans (hshown _)
  · exact ((hunlisted _).trans (.inc (by decide) _)).trans (hshown _)

/-! ### The estimator's state beside records and alarms -/

theorem record_fus (code param : Nat) (s : P1) : (record code param s).fus = s.fus :=
  have hsame : (record code param s).butRecord.fus = s.butRecord.fus := congrArg P1.fus (record_butRecord code param s)
  hsame

theorem raise_fus (code param : Nat) (s : P1) : (raise code param s).fus = s.fus :=
  have hsame : (raise code param s).butAlarm.fus = s.butAlarm.fus := congrArg P1.fus (raise_butAlarm code param s)
  hsame

theorem lower_fus (code param : Nat) (s : P1) : (lower code param s).fus = s.fus :=
  have hsame : (lower code param s).butAlarm.fus = s.butAlarm.fus := congrArg P1.fus (lower_butAlarm code param s)
  hsame

/-! ### The grade alarm (R165) -/

/-- The end of the grade alarm that stands. -/
def endGradeAlarm (s : P1) : P1 :=
  match s.fus.gradeParam with
  | some p => lower 0x0310 p s
  | none => s

theorem endGradeAlarm_sameCells (s : P1) : sameCells raiseCell s (endGradeAlarm s) := by
  unfold endGradeAlarm
  split
  · exact (lower_sameCells _ _ _).mono raiseCell_of_alarmCell
  · exact .refl _ s

theorem endGradeAlarm_fus (s : P1) : (endGradeAlarm s).fus = s.fus := by
  unfold endGradeAlarm
  split
  · exact lower_fus ..
  · rfl

/-- A grade of G3 or below raises the alarm of its change. -/
theorem gradeAlarm_low {new : Nat} (h : 3 ≤ new) (param : Nat) (s : P1) :
    gradeAlarm param new s = raise 0x0310 param (setFus (fun f => { f with gradeParam := some param }) (endGradeAlarm s)) :=
  if_pos h

/-- Above G3 no grade alarm stands. -/
theorem gradeAlarm_high {new : Nat} (h : new < 3) (param : Nat) (s : P1) :
    gradeAlarm param new s = setFus (fun f => { f with gradeParam := none }) (endGradeAlarm s) :=
  if_neg (Nat.not_le.mpr h)

theorem gradeAlarm_sameCells (param new : Nat) (s : P1) : sameCells raiseCell s (gradeAlarm param new s) := by
  have hended (f : Fusion → Fusion) : sameCells raiseCell s (setFus f (endGradeAlarm s)) :=
    (endGradeAlarm_sameCells s).trans (.of_od rfl)
  rcases Nat.lt_or_ge new 3 with hnew | hnew
  · exact gradeAlarm_high hnew param s ▸ hended _
  · exact gradeAlarm_low hnew param s ▸ (hended _).trans (raiseIn_sameCells _ _ _ _)

theorem gradeAlarm_fus (param new : Nat) (s : P1) :
    (gradeAlarm param new s).fus = { s.fus with gradeParam := if 3 ≤ new then some param else none } := by
  rcases Nat.lt_or_ge new 3 with hnew | hnew
  · rw [gradeAlarm_high hnew, setFus_fus, endGradeAlarm_fus, if_neg (Nat.not_le.mpr hnew)]
  · rw [gradeAlarm_low hnew, raise_fus, setFus_fus, endGradeAlarm_fus, if_pos hnew]

/-! ### The change of the grade (R162) -/

theorem changeGrade_same {n : Nat} {p : P1} (h : p.grade = n) : changeGrade n p = p := if_pos h

/-- The parameter of a change of the grade: the grade left and the grade entered. -/
def gradeChange (n : Nat) (p : P1) : Nat := packDetails [(8, p.grade), (8, n)]

/-- The cells that show a changed grade. -/
def gradeShown (n : Nat) (p : P1) : P1 := (p.wr kGrade n).wr (ob 0x3300 0x12) p.stamp

/-- Another grade is shown, recorded, held from this grain on, and its alarm follows. -/
theorem changeGrade_other {n : Nat} {p : P1} (h : p.grade ≠ n) :
    changeGrade n p = gradeAlarm (gradeChange n p) n (setFus (fun f => { f with gradeSince := p.elapsed })
      (record 0x0310 (gradeChange n p) (gradeShown n p))) :=
  if_neg h

theorem changeGrade_sameCells {n : Nat} {p : P1} (h : p.grade ≠ n) :
    sameCells raiseCell (gradeShown n p) (changeGrade n p) := by
  have hrecorded : sameCells raiseCell (gradeShown n p) (record 0x0310 (gradeChange n p) (gradeShown n p)) :=
    (record_sameCounters _ _ _).mono raiseCell_of_answerCounter
  have hheld := hrecorded.trans (.of_od (setFus_od (fun f => { f with gradeSince := p.elapsed }) _))
  exact changeGrade_other h ▸ hheld.trans (gradeAlarm_sameCells _ _ _)

theorem changeGrade_fus {n : Nat} {p : P1} (h : p.grade ≠ n) :
    (changeGrade n p).fus =
      { p.fus with gradeSince := p.elapsed, gradeParam := if 3 ≤ n then some (gradeChange n p) else none } := by
  rw [changeGrade_other h, gradeAlarm_fus, setFus_fus, record_fus]
  rfl

/-- Settles O33: the record and the alarm leave the shown cells, and the estimator's state follows the alarm. -/
theorem gradeChangeShowsAndAlarms : Obligations.GradeChangeShowsAndAlarms := by
  intro p n hwf _ _
  refine ⟨changeGrade_same, fun hother => ?_⟩
  have hcells := changeGrade_sameCells hother
  have hfus := changeGrade_fus hother
  have hshown (k : Nat) : (gradeShown n p).rd k = if k = ob 0x3300 0x12 then (p.stamp : Int)
      else if k = kGrade then (n : Int) else p.rd k :=
    (P1.wr_rd (odWf_odPut hwf kGrade n) _ k _).trans (by rw [P1.wr_rd hwf])
  refine ⟨?_, (hcells _ (by decide)).trans (hshown _), by rw [hfus], fun hlow => ?_, fun hhigh => ?_⟩
  · have hgrade : (changeGrade n p).rd kGrade = n := (hcells kGrade (by decide)).trans (hshown kGrade)
    exact (congrArg Int.toNat hgrade).trans (Int.toNat_natCast n)
  · simp only [hfus, if_pos hlow, gradeChange]
  · simp only [hfus, if_neg (Nat.not_le.mpr hhigh)]

end Sys2Proof.Machine
end

section
/-! SUPPORT. Disputes, selections, recaptured origins, upgrades, the hold limit and suspect slots (R143, R153–R165). -/

namespace Sys2Proof.Machine

/-! ### Events of the decision level (R148) -/

/-- The decision level works in this grain: a station cycle starts, EST3 runs and the module is not in Dormant. -/
def atWork (p : P1) : Prop := atCycle p = true ∧ decides p = true ∧ p.mode ≠ 0

theorem atDecision_atWork {f : P1 → P1} {p : P1} (h : atWork p) : atDecision f p = f p := by
  obtain ⟨hcycle, hdecides, hmode⟩ := h
  exact if_pos (by simp [hcycle, hdecides, hmode])

theorem atDecision_outside {f : P1 → P1} {p : P1} (h : atCycle p = false) : atDecision f p = p := if_neg (by simp [h])

/-- What changes nothing of P1 changes nothing, whether the core runs or not. -/
theorem onP1_unchanged {f : P1 → P1} {s : State} (h : f s.p1 = s.p1) : onP1 f s = .next s := by
  unfold onP1
  rw [h]
  exact ite_self _

theorem onP1_atDecision_next {f : P1 → P1} {s : State} {q : P1} (hup : s.p1.up = true) (hwork : atWork s.p1)
    (h : f s.p1 = q) : onP1 (atDecision f) s = .next (s.core q) :=
  onP1_next hup ((atDecision_atWork hwork).trans h)

theorem onP1_atDecision_idle {f : P1 → P1} {s : State} (hwork : atWork s.p1) (h : f s.p1 = s.p1) :
    onP1 (atDecision f) s = .next s :=
  onP1_unchanged ((atDecision_atWork hwork).trans h)

/-! ### Disputes (R153–R155) -/

theorem limitDispute_none {k : RefKind} {p : P1} (h : (vote k p).dispute = none) : limitDispute k p = p := by
  simp only [limitDispute, h]

/-- At its limit a dispute of which no slot is selected ends with its slots rejected. -/
theorem limitDispute_due {k : RefKind} {d : Dispute} {p : P1} (h : (vote k p).dispute = some d)
    (hlimit : disputeSpan k p ≤ p.elapsed - d.start) (hfree : selectionPending d p = false) :
    limitDispute k p = endDispute k (some 0x0318) ((disputed d p).foldl (fun t i => leaveSlot i 3 4 t) p) := by
  simp only [limitDispute, h]
  exact if_neg (by simpa [hfree] using hlimit)

theorem selectionRule_check {v : Int} {p : P1} (h : inDispute v.toNat p = true) : (selectionRule v).check p = 0 := if_pos h

theorem selectionRule_check_other {v : Int} {p : P1} (h : inDispute v.toNat p = false) :
    (selectionRule v).check p = abRange :=
  if_neg (by simp [h])

/-! ### Origins (R143) -/

/-- A slot passes the test of 3000h:0D that is not in dispute and is not the one position reference that counts. -/
theorem recaptureRule_check {v : Int} {p : P1} (hstate : fuState (slotNo v.toNat) p ≠ 4)
    (hother : counts (slotNo v.toNat) p = false ∨ (countGroups .pos p).length ≠ 1) : (recaptureRule v).check p = 0 := by
  refine if_neg fun hbad => ?_
  simp only [Bool.or_eq_true, Bool.and_eq_true, decide_eq_true_eq] at hbad
  rcases hbad with hdispute | ⟨hgroups, hcounts⟩
  · exact hstate hdispute
  · rcases hother with hnot | hmany
    · simp [hnot] at hcounts
    · simp [hgroups] at hmany

/-! ### Suspect slots (R159) -/

theorem suspectTime_due {i : Fin 64} {g : Nat} {p : P1} (h : p.slots[i].trend.clean = some g)
    (hpassed : p.rdN (ob 0x3010 9) * 1000000 ≤ p.elapsed - g) : suspectTime i p = clearSuspect i p := by
  simp only [suspectTime, h, if_pos hpassed]

/-- Settles O32: where the decision level works each event is its rule's change of P1, and the writes pass or fail the tests of
their rules. -/
theorem gradeAndDisputeEvents : Obligations.GradeAndDisputeEvents := by
  intro s hup hserves hcycle hdecides hmode
  have hwork : atWork s.p1 := ⟨hcycle, hdecides, hmode⟩
  refine ⟨fun d hd hlimit hfree => onP1_atDecision_next hup hwork (limitDispute_due hd hlimit hfree),
    fun d hd hlimit hfree => onP1_atDecision_next hup hwork (limitDispute_due hd hlimit hfree),
    fun hnone => onP1_atDecision_idle hwork (limitDispute_none hnone),
    fun hnone => onP1_atDecision_idle hwork (limitDispute_none hnone),
    fun w v hacc hin => onReq_check hserves hacc (selectionRule_check hin),
    fun w v hacc hout => onReq_checkRefused hserves hacc (by decide) rfl (selectionRule_check_other hout),
    fun w v o j hacc hstate hother ho hj => ?recapture, fun x hdue => onP1_atDecision_next hup hwork (by simp only [hdue]),
    fun hnone => onP1_atDecision_idle hwork (by simp only [hnone]), fun hhold hreached hgrade => ?hold,
    fun hnone => onP1_atDecision_idle hwork (by simp [hnone]), fun u hout c hc => ?outside,
    fun i g hclean hpassed => onP1_atDecision_next hup hwork (suspectTime_due hclean hpassed),
    fun w v hacc => onReq_eff hserves hacc⟩
  case recapture =>
    exact onReq_effect hserves hacc rfl (recaptureRule_check hstate hother) rfl
      (by simp only [recaptureRule, checkRule, ho, hj])
  case hold =>
    exact onP1_atDecision_next hup hwork (by simp [hhold, hreached, hgrade])
  case outside =>
    have hidle (f : P1 → P1) : onP1 (atDecision f) u = .next u := onP1_unchanged (atDecision_outside hout)
    simp only [List.mem_cons, List.not_mem_nil, or_false] at hc
    rcases hc with rfl | rfl | rfl | rfl <;> exact hidle _

end Sys2Proof.Machine
end

section
/-! SUPPORT. Jobs of the solver cluster (R172–R195): their issue, their start, the ways they end, and what each does to the
engines. -/

namespace Sys2Proof.Machine

/-! ### The engines beside an operation -/

@[simp] theorem setEng_engine (e : Fin 4) (f : SolverEngine → SolverEngine) (p : P1) :
    (setEng e f p).solver.engines[e] = f p.solver.engines[e] := by
  simp [setEng, upd]

theorem idleEngine_run (e : Fin 4) (p : P1) : (idleEngine e p).solver.engines[e].run = none :=
  congrArg SolverEngine.run (setEng_engine e (fun x => { x with run := none }) p)

theorem P1.solver_of_cells {a b : P1} (h : b.butCells = a.butCells) : b.solver = a.solver :=
  show b.butCells.solver = a.butCells.solver by rw [h]

theorem incIf_solver (c : Prop) [Decidable c] (k : Nat) (p : P1) : (if c then p.inc k else p).solver = p.solver := by
  split
  · exact P1.inc_solver k p
  · rfl

/-- A report writes a structure's solution, the statistics and the result record: no engine and no queue (R195, R210). -/
theorem reportJob_engines (j : Job) (start : Option Nat) (bits iters : Nat) (d : Option JobFound) (p : P1) :
    (reportJob j start bits iters d p).1.solver.engines = p.solver.engines := by
  unfold reportJob
  extract_lets k stop t r pivots status ty rec_ one u dur v inner w
  have ht : t.solver.engines = p.solver.engines := by
    cases d <;> rfl
  have hu : u.solver = t.solver := by
    simp only [u, one, incIf_solver]
  have hw : w.solver.engines = t.solver.engines := by
    change v.solver.engines = t.solver.engines
    rw [← hu]
    exact congrArg Solver.engines (P1.solver_of_cells (P1.wrs_butCells _ u))
  split
  · exact hw.trans ht
  · exact hw.trans ht

/-! ### Issue (R174, R179) -/

/-- A job as JOB_ISSUE takes it: issued in this grain, with the input block that the module keeps for its type and the delta list
that its descriptor names. -/
def issuedJob (d : JobDesc) (p : P1) : Job := ⟨d, p.elapsed, p.stamp, ownInput d.ty p, deltaNamed d p, none⟩

theorem issueDesc_unassigned {d : JobDesc} {p : P1} (h : typeEngine d.ty p = none) : issueDesc d p = (p.draw, none) :=
  have hnone : typeEngine d.ty p.draw = none := h
  if_pos (by simp [hnone])

/-- A descriptor of an assigned type is refused where it is invalid or finds its queue full, else queued. -/
theorem issueDesc_assigned {d : JobDesc} {p : P1} (h : (typeEngine d.ty p).isSome = true) :
    issueDesc d p = if !descOk d p || queueFull d.ty p then refuseJob (issuedJob d p) p.draw
      else (enqueueJob (issuedJob d p) p.draw, none) :=
  have hsome : ¬(typeEngine d.ty p).isNone = true := by simpa [← Option.isSome_iff_ne_none] using h
  if_neg hsome

theorem issueDesc_queued {d : JobDesc} {p : P1} (hassigned : (typeEngine d.ty p).isSome = true) (hok : descOk d p = true)
    (hroom : queueFull d.ty p = false) : issueDesc d p = (enqueueJob (issuedJob d p) p.draw, none) := by
  have htaken : ¬(!descOk d p || queueFull d.ty p) = true := by simp [hok, hroom]
  exact (issueDesc_assigned hassigned).trans (if_neg htaken)

theorem issueDesc_refused {d : JobDesc} {p : P1} (hassigned : (typeEngine d.ty p).isSome = true)
    (hbad : descOk d p = false ∨ queueFull d.ty p = true) : issueDesc d p = refuseJob (issuedJob d p) p.draw := by
  have hrefused : (!descOk d p || queueFull d.ty p) = true := by simpa using hbad
  exact (issueDesc_assigned hassigned).trans (if_pos hrefused)

/-! ### Start (R176, R187) -/

theorem jobStart_notFree {e : Fin 4} {p : P1} (h : canStart e p = false) : jobStart e p = (p, none) := if_pos (by simp [h])

/-- A free engine in its turn takes its oldest job: one that passes the start checks runs, another is reported. -/
theorem jobStart_takes {e : Fin 4} {j : Job} {x : SolverEngine} {p : P1} (hfree : canStart e p = true)
    (hturn : engineTurn e p = true) (hnext : p.solver.engines[e].next = some (j, x)) :
    jobStart e p =
      if startCheck j (serve 0 e.val p) ≠ 0 then
        let r := reportJob j (some p.stamp) (startCheck j (serve 0 e.val p)) 0 none (setEng e (fun _ => x) (serve 0 e.val p))
        (r.1, some r.2)
      else (beginJob e j x (serve 0 e.val p), none) := by
  unfold jobStart
  rw [if_neg (by simp [hfree, hturn]), hnext]
  rfl

/-- The run of a job that begins (R187, R191, R192). -/
def startedRun (j : Job) (p : P1) : JobRun :=
  let k := stNo j.desc.structureNo
  let sol := p.solver.res[k].solution
  let reject := j.desc.warm && (j.desc.warmTag ≠ p.rdN (stKey k 2) || sol.isNone)
  let warm := j.desc.warm && !reject
  ⟨j, p.stamp, reject, !warm, if warm then f64List (sol.getD []) else coldIterate j p, (p.rd (stKey k 5), p.rd (stKey k 6))⟩

theorem beginJob_engine (e : Fin 4) (j : Job) (x : SolverEngine) (p : P1) :
    (beginJob e j x p).solver.engines[e] = { x with run := some (startedRun j p) } := by
  have hset := setEng_engine e (fun _ => { x with run := some (startedRun j p) }) p
  unfold beginJob
  dsimp only
  split
  · exact hset
  · exact hset

theorem startedRun_cold {j : Job} (h : j.desc.warm = false) (p : P1) :
    (startedRun j p).cold = true ∧ (startedRun j p).warmReject = false := by
  simp [startedRun, h]

/-! ### Completion (R193, R195) -/

theorem jobComplete_inTime {e : Fin 4} {r : JobRun} {p : P1} (hrun : p.solver.engines[e].run = some r)
    (hdue : overdue r.job p = false) :
    jobComplete e p =
      let x := deliverRun e r stDone r.job.desc.iterations p
      (x.1, some x.2) := by
  unfold jobComplete
  rw [hrun]
  exact if_neg (by simp [hdue])

theorem jobComplete_overdue {e : Fin 4} {r : JobRun} {p : P1} (hrun : p.solver.engines[e].run = some r)
    (hdue : overdue r.job p = true) : jobComplete e p = (p, none) := by
  unfold jobComplete
  rw [hrun]
  exact if_pos hdue

/-- A delivery frees the engine. -/
theorem deliverRun_frees (e : Fin 4) (r : JobRun) (bit n : Nat) (p : P1) :
    (deliverRun e r bit n p).1.solver.engines[e].run = none := by
  unfold deliverRun
  dsimp only
  split
  all_goals
    rw [reportJob_engines]
    exact idleEngine_run e _

/-- A STALE end frees the engine. -/
theorem staleRun_frees (e : Fin 4) (r : JobRun) (x : Reached) (n : Nat) (p : P1) :
    (staleRun e r x n p).1.solver.engines[e].run = none := by
  unfold staleRun
  dsimp only
  rw [reportJob_engines]
  exact idleEngine_run e _

/-! ### Deadlines (R193, R194) -/

/-- The point is one that a running job has reached, not a place in a queue. -/
def pointOfRun : DeadlinePoint → Bool
  | .queuedForeground _ | .queuedBackground _ => false
  | .startChecks | .assembly _ | .factorisation _ | .solve _ => true

/-- The deadline of a running job acts in the phase where it falls, once its grain has come. -/
theorem jobDeadline_running {e : Fin 4} {x : DeadlinePoint} {r : JobRun} {p : P1} (hx : pointOfRun x = true)
    (hrun : p.solver.engines[e].run = some r) :
    jobDeadline e x p = if overdue r.job p then deadlineIn e r x p else (p, none) := by
  cases x with
  | queuedForeground | queuedBackground => cases hx
  | startChecks | assembly | factorisation | solve => simp only [jobDeadline, hrun]

/-- In the factorisation of an iteration the job ends STALE, with the values formed and no factor. -/
theorem deadlineIn_factorisation {e : Fin 4} {r : JobRun} {n : Nat} {p : P1} (h : n < r.job.desc.iterations) :
    deadlineIn e r (.factorisation n) p = staleRun e r .formed n p := by
  have hn : min n (r.job.desc.iterations - 1) = n := by omega
  simp only [deadlineIn, hn]

/-- In the solve of the first iteration it ends STALE, with a factor. -/
theorem deadlineIn_firstSolve (e : Fin 4) (r : JobRun) (p : P1) :
    deadlineIn e r (.solve 0) p = staleRun e r .factored 0 p := by
  simp [deadlineIn]

/-- In the assembly or the solve of a later iteration it delivers the iterations completed, TRUNCATED. -/
theorem deadlineIn_later {e : Fin 4} {r : JobRun} {n : Nat} {x : DeadlinePoint} {p : P1} (hpos : 0 < n)
    (h : n < r.job.desc.iterations) (hx : x = .solve n ∨ x = .assembly n) :
    deadlineIn e r x p =
      let y := deliverRun e r stTruncated n p
      (y.1, some y.2) := by
  have hn : min n (r.job.desc.iterations - 1) = n := by omega
  rcases hx with rfl | rfl
  all_goals
    simp only [deadlineIn, hn]
    exact if_neg (by omega)

/-- A queued job whose deadline grain has come expires in its queue. -/
theorem expireAt_overdue {e : Fin 4} {fg : Bool} {n : Nat} {j : Job} {p : P1}
    (hj : (p.solver.engines[e].queue fg)[n]? = some j) (hdue : overdue j p = true) :
    expireAt e fg n p =
      let x := reportJob j none (stStale + stExpired) 0 none
        (setEng e (fun y => y.setQueue fg ((p.solver.engines[e].queue fg).eraseIdx n)) p)
      (x.1, some x.2) := by
  unfold expireAt
  dsimp only
  rw [hj]
  exact if_pos hdue

/-! ### Engine checks (R177) and ALIGN runs (R157) -/

theorem engineCheck_agrees (e : Fin 4) (p : P1) : engineCheck e true p = (p, []) := if_neg (by simp)

theorem engineCheck_mismatch {e : Fin 4} {p : P1} (hruns : engineRuns e p = true)
    (hidle : p.solver.engines[e] = ⟨none, [], []⟩) : engineCheck e false p = engineFault e 0x100 p := by
  unfold engineCheck
  rw [hidle]
  exact if_pos (by simp [hruns])

theorem alignIssue_due {p : P1} (h : ∀ g, p.fus.alignAt = some g → g + 1000 * p.rdN (ob 0x3010 1) ≤ p.elapsed) :
    alignIssue p = withEnded (issueOwn 3 false .estimate none
      (takeSpacing { p with fus := { p.fus with alignAt := some p.elapsed } })) := by
  unfold alignIssue
  dsimp only
  split
  · next hat => exact if_pos (by simpa using h _ hat)
  · exact if_pos rfl

/-- An event of the cluster is what it makes of P1 while the core runs, with the end of a job at its issuer. -/
theorem onEnded_next (g : P1 → P1 × Option Ended) {s : State} {r : P1 × Option Ended} (hup : s.p1.up = true)
    (h : g s.p1 = r) : onP1 (fun p => withEnded (g p)) s = .next (s.core (withEnded r)) :=
  onP1_next hup (congrArg withEnded h)

/-- An engine check is what it makes of P1 while the core runs, with the ends of the jobs it stops. -/
theorem onEngineCheck_next {e : Fin 4} {agrees : Bool} {s : State} {r : P1 × List Ended} (hup : s.p1.up = true)
    (h : engineCheck e agrees s.p1 = r) :
    exec (.engineCheckJob e agrees) s = .next (s.core (judgeRelinquish (withAllEnded r))) :=
  onP1_next (f := fun p => judgeRelinquish (withAllEnded (engineCheck e agrees p))) hup (by rw [h])

/-- Settles O34: each event of the cluster is the change of P1 that its conditions select, and the end of a running job frees its
engine. -/
theorem solverJobsRunToTheirResults : Obligations.SolverJobsRunToTheirResults := by
  intro s hup
  refine ⟨fun d j hj hassigned => ?issue, fun d hnone => onEnded_next (issueDesc d) hup (issueDesc_unassigned hnone),
    fun e j x hfree hturn hnext => ?start, fun e hbusy => onEnded_next (jobStart e) hup (jobStart_notFree hbusy),
    fun e r hrun => ?running,
    fun e n j hj hdue => onEnded_next (jobDeadline e (.queuedBackground n)) hup (expireAt_overdue (fg := false) hj hdue),
    fun e n j hj hdue => onEnded_next (jobDeadline e (.queuedForeground n)) hup (expireAt_overdue (fg := true) hj hdue),
    fun e => onEngineCheck_next hup (engineCheck_agrees e s.p1),
    fun e hruns hidle => onEngineCheck_next hup (engineCheck_mismatch hruns hidle),
    fun hdue => onP1_next hup (alignIssue_due hdue)⟩
  case issue =>
    subst hj
    exact ⟨fun hok hroom => onEnded_next (issueDesc d) hup (issueDesc_queued hassigned hok hroom),
      fun hbad => onEnded_next (issueDesc d) hup (issueDesc_refused hassigned hbad)⟩
  case start =>
    have htakes := jobStart_takes hfree hturn hnext
    refine ⟨fun hpass => ⟨onEnded_next (jobStart e) hup (htakes.trans (if_neg (by simp [hpass]))), startedRun j _,
      beginJob_engine e j x _, rfl, rfl, fun hcold => startedRun_cold hcold _⟩, fun b hb hfail => ?_⟩
    subst hfail
    exact onEnded_next (jobStart e) hup (htakes.trans (if_pos hb))
  case running =>
    have hcomplete {q : P1 × Option Ended} (h : jobComplete e s.p1 = q) :=
      onEnded_next (jobComplete e) hup h
    have hdeadline (x : DeadlinePoint) {q : P1 × Option Ended} (h : jobDeadline e x s.p1 = q) :=
      onEnded_next (jobDeadline e x) hup h
    refine ⟨fun hearly => ⟨hcomplete (jobComplete_inTime hrun hearly), hdeadline .startChecks (q := (s.p1, none)) ?early⟩,
      fun hdue => ⟨hcomplete (jobComplete_overdue hrun hdue), ?overdue⟩,
      fun bit n => deliverRun_frees e r bit n s.p1, fun x n => staleRun_frees e r x n s.p1⟩
    case early => exact (jobDeadline_running rfl hrun).trans (if_neg (by simp [hearly]))
    case overdue =>
      have hphase {x : DeadlinePoint} {q : P1 × Option Ended} (hx : pointOfRun x = true) (h : deadlineIn e r x s.p1 = q) :=
        hdeadline x ((jobDeadline_running hx hrun).trans ((if_pos hdue).trans h))
      refine ⟨hphase (x := .startChecks) rfl rfl, fun n hn => hphase rfl (deadlineIn_factorisation hn),
        hphase rfl (deadlineIn_firstSolve e r s.p1), fun n hpos hn d hd => ?_⟩
      obtain rfl | rfl : d = .solve n ∨ d = .assembly n := by simpa using hd
      · exact hphase rfl (deadlineIn_later hpos hn (.inl rfl))
      · exact hphase rfl (deadlineIn_later hpos hn (.inr rfl))

end Sys2Proof.Machine
end

section
/-! SUPPORT. Structures of the user and their swap, and TEST jobs (R178–R184, R211). -/

namespace Sys2Proof.Machine

/-! ### Structures of the user (R180, R183) -/

theorem structureRule_check_fits {k : Fin 16} {b : List Byte} {p : P1} (hk : 12 ≤ k.val) (hform : structureForm b = true)
    (hroom : areaOf (leAt b 4 2) (leAt b 8 4) ≤ p.rdN (ob 0x4400 3)) : (structureRule k b).check p = 0 :=
  if_pos (by simp [hk, hform, hroom])

theorem structureRule_check_fails {k : Fin 16} {b : List Byte} {p : P1}
    (h : k.val < 12 ∨ structureForm b = false ∨ p.rdN (ob 0x4400 3) < areaOf (leAt b 4 2) (leAt b 8 4)) :
    (structureRule k b).check p = abRange := by
  refine if_neg fun hgood => ?_
  simp only [Bool.and_eq_true, decide_eq_true_eq] at hgood
  obtain ⟨⟨hk, hform⟩, hroom⟩ := hgood
  rcases h with hown | hbad | hfull
  · omega
  · simp [hform] at hbad
  · omega

/-! ### The swap (R184) -/

theorem structureSwap_none {k : Fin 16} {p : P1} (h : p.solver.res[k].swap = none) : structureSwap k p = p := by
  simp only [structureSwap, h]

theorem structureSwap_busy {k : Fin 16} {p : P1} (h : structureBusy k p = true) : structureSwap k p = p := by
  unfold structureSwap
  split
  · rfl
  · exact if_pos (by simp [h])

theorem structureSwap_installs {k : Fin 16} {b : List Byte} {p : P1} (hk : 12 ≤ k.val) (hmode : p.mode ≠ 0)
    (hswap : p.solver.res[k].swap = some b) (hfree : structureBusy k p = false) :
    structureSwap k p = installStructure k b p := by
  simp only [structureSwap, hswap]
  exact if_neg (by simp [hfree, hmode, hk])

theorem P1.octets_of_cells {a b : P1} (h : b.butCells = a.butCells) (j : Nat) : b.octets j = a.octets j :=
  show b.butCells.octets j = a.butCells.octets j by rw [h]

theorem P1.wr_butCells (k : Nat) (v : Int) (p : P1) : (p.wr k v).butCells = p.butCells := rfl

theorem showArea_butCells (p : P1) : (showArea p).butCells = p.butCells :=
  (P1.wr_butCells _ _ _).trans (showSolver_butCells p)

theorem showArea_solver (p : P1) : (showArea p).solver = p.solver := P1.solver_of_cells (showArea_butCells p)

@[simp] theorem setRes_resident (k : Fin 16) (f : Resident → Resident) (p : P1) :
    (setRes k f p).solver.res[k] = f p.solver.res[k] := by
  simp [setRes, upd]

/-- A structure that becomes the resident one waits no more and has no factor. -/
theorem installStructure_resident (k : Fin 16) (b : List Byte) (p : P1) :
    (installStructure k b p).solver.res[k].swap = none ∧ (installStructure k b p).solver.res[k].factor = none := by
  unfold installStructure
  dsimp only
  rw [showArea_solver, setRes_resident]
  split
  · exact ⟨rfl, rfl⟩
  · exact ⟨rfl, rfl⟩

/-- Its content is the one that waited. -/
theorem installStructure_octets (k : Fin 16) (b : List Byte) (p : P1) : (installStructure k b p).octets (stKey k 1) = b := by
  unfold installStructure
  dsimp only
  rw [P1.octets_of_cells (showArea_butCells _), setRes_octets, P1.octets_of_cells (P1.wrs_butCells _ _), P1.setOctets_octets]

/-! ### TEST jobs (R179, R211) -/

theorem testJobRule_busy_room {b : List Byte} {p : P1} (h : queueFull 8 p = false) : (testJobRule b).busy p = 0 :=
  if_neg (by simp [h])

theorem testJobRule_busy_full {b : List Byte} {p : P1} (h : queueFull 8 p = true) : (testJobRule b).busy p = abBusy := if_pos h

theorem testJobRule_check_otherType {b : List Byte} {p : P1} (h : (readJob b).ty ≠ 8) :
    (testJobRule b).check p = abRange :=
  if_neg (by simp [h])

/-- Settles O35: each write passes or fails the tests of its rule, and a swap installs the structure that waits unless none does
or a job runs on the resident one. -/
theorem structuresTestJobsAndStatistics : Obligations.StructuresTestJobsAndStatistics := by
  intro s w hserves
  refine ⟨fun k b hacc hk hform hroom => onReq_check hserves hacc (structureRule_check_fits hk hform hroom),
    fun k b hacc hbad => onReq_checkRefused hserves hacc (by decide) rfl (structureRule_check_fails hbad),
    fun k hnone => onP1_unchanged (structureSwap_none hnone), fun k b hup hk hmode hswap hfree => ?swap,
    fun k hbusy => onP1_unchanged (structureSwap_busy hbusy),
    fun b hacc hcheck hroom => onReq_accepted hserves hacc rfl hcheck (testJobRule_busy_room hroom),
    fun b hacc hcheck hfull => onReq_busyRefused hserves hacc (by decide) rfl hcheck (testJobRule_busy_full hfull),
    fun b hacc hty => onReq_checkRefused hserves hacc (by decide) rfl (testJobRule_check_otherType hty),
    fun t v hacc => ?clear⟩
  case swap =>
    obtain ⟨hnone, hfactor⟩ := installStructure_resident k b s.p1
    have hexec : exec (.structureSwap k) s = .next (s.core (installStructure k b s.p1)) :=
      onP1_next hup (structureSwap_installs hk hmode hswap hfree)
    obtain ⟨hp2, hp3, -⟩ := exec_coreOnly (c := .structureSwap k) rfl hexec
    exact ⟨_, hexec, hnone, hfactor, installStructure_octets k b s.p1, hp2, hp3⟩
  case clear =>
    have hindex : 0x4421 + t.val = 0x4420 + (t.val + 1) := by omega
    rw [hindex]
    exact onReq_eff hserves hacc

end Sys2Proof.Machine
end

section
/-! SUPPORT. Set-point writes by their mode (R226–R228, R234). -/

namespace Sys2Proof.Machine

/-- The mode test of a set-point object passes in the modes of the set-point table (R226). -/
theorem setpointMode_listed {ms : List Nat} {p : P1} (h : ms.contains p.mode = true) : setpointMode ms p = 0 := if_pos h

/-- In every other mode it gives the abort of R538 test 5. -/
theorem setpointMode_unlisted {ms : List Nat} {p : P1} (h : ms.contains p.mode = false) : setpointMode ms p = abMode :=
  if_neg (ne_true_of_eq_false h)

/-- The modes of the position set-points and of the relative moves (R226). -/
theorem positionModes_contains {n : Nat} (h : n = 6 ∨ n = 10) : [6, 10].contains n = true := by simpa using h

theorem positionModes_excludes {n : Nat} (h6 : n ≠ 6) (h10 : n ≠ 10) : [6, 10].contains n = false := by simp [h6, h10]

/-- A write of an object whose one test is the set-point table has its effect in the modes of the table. -/
theorem onReq_setpoint {w k : Nat} {x : Val} {ms : List Nat} {f : P1 → P1} {s : State} (hr : s.p1.serves = true)
    (h : accepted w k x s.p1) (hmode : ms.contains s.p1.mode = true) :
    onReq w k x { effRule f with mode := setpointMode ms } s = .next (written w k x f s) :=
  onReq_accepted hr h (setpointMode_listed hmode) rfl rfl

/-- In every other mode it is answered with "not in this mode" and P1 keeps the rest. -/
theorem onReq_setpoint_refused {w k : Nat} {x : Val} {ms : List Nat} {f : P1 → P1} {s : State} (hr : s.p1.serves = true)
    (h : accepted w k x s.p1) (hmode : ms.contains s.p1.mode = false) :
    onReq w k x { effRule f with mode := setpointMode ms } s = .next (s.core (answer w k abMode s.p1)) :=
  onReq_modeRefused hr h (by decide) (setpointMode_unlisted hmode)

/-- Settles O36: the set-point table decides each write but that of a profile limit, whose rule has no mode test. -/
theorem setpointWritesFollowTheMode : Obligations.SetpointWritesFollowTheMode := by
  intro s w hserves
  refine ⟨fun v hacc hmode => onReq_setpoint hserves hacc hmode, fun v hacc hmode => onReq_setpoint hserves hacc hmode,
    fun b v hacc hmode => onReq_setpoint hserves hacc (positionModes_contains hmode),
    fun v hacc hmode => onReq_setpoint hserves hacc (positionModes_contains hmode),
    fun v hacc hmode => onReq_setpoint hserves hacc (positionModes_contains hmode),
    fun a v hacc hmode => ?offset, fun b v hacc hmode => ?vane, fun k v hacc => onReq_eff hserves hacc,
    fun v hacc hmode => onReq_setpoint_refused hserves hacc hmode,
    fun b v hacc h6 h10 => onReq_setpoint_refused hserves hacc (positionModes_excludes h6 h10),
    fun b v hacc h6 h10 => onReq_setpoint_refused hserves hacc (positionModes_excludes h6 h10),
    fun a v hacc hmode => ?offsetRefused, fun b v hacc hmode => ?vaneRefused⟩
  case offset => exact onReq_setpoint (ms := [8]) hserves hacc (by simpa using hmode)
  case vane => exact onReq_setpoint (ms := [9]) hserves hacc (by simpa using hmode)
  case offsetRefused => exact onReq_setpoint_refused (ms := [8]) hserves hacc (by simpa using hmode)
  case vaneRefused => exact onReq_setpoint_refused (ms := [9]) hserves hacc (by simpa using hmode)

end Sys2Proof.Machine
end

section
/-! SUPPORT. The cells of the thrusters beside answers, records and analog outputs, thruster tests (R281), and feedback frames
(R280). -/

namespace Sys2Proof.Machine

/-! ### Cells of the allocation chapter -/

/-- The cells past those of the thrusters and of the allocation: answers, records and analog outputs write no other. -/
def pastAllocation (k : Nat) : Bool := ob 0x4300 0 ≤ k

theorem pastAllocation_of_answerCounter (k : Nat) (h : answerCounter k = true) : pastAllocation k = true := by
  simp only [answerCounter, answerCell, pastAllocation, ob, Bool.or_eq_true, decide_eq_true_eq] at h ⊢
  omega

theorem pastAllocation_thrKey (i : Fin 16) {sub : Nat} (h : sub < 256) : pastAllocation (thrKey i sub) = false :=
  decide_eq_false (by simp only [thrKey, ob]; omega)

@[simp] theorem thrKey_sub_inj (i : Fin 16) (a b : Nat) : thrKey i a = thrKey i b ↔ a = b := Nat.add_left_cancel_iff

/-- Cells of different subindices differ, whatever their thrusters. -/
theorem thrKey_ne (i j : Fin 16) {a b : Nat} (ha : a < 256) (hb : b < 256) (h : a ≠ b) : thrKey i a ≠ thrKey j b := by
  simp only [thrKey, ob]
  omega

/-- A thruster's cell is none of the allocation's. -/
theorem thrKey_ne_allocation (i : Fin 16) {a : Nat} (ha : a < 256) (b : Nat) : thrKey i a ≠ ob 0x4200 b := by
  simp only [thrKey, ob]
  omega

/-- The outcome of an accepted write holds the cells that its effect wrote. -/
theorem written_sameCells (w k : Nat) (x : Val) (f : P1 → P1) (s : State) :
    sameCells pastAllocation (f s.p1) (written w k x f s).p1 := by
  have hforward : sameCells answerCounter (f s.p1) (forward w k x (f s.p1)) := .of_od (by rw [forward_frame])
  exact (hforward.trans (answer_sameCells _ _ _ _)).mono pastAllocation_of_answerCounter

/-- Its allocation state is the one of its effect. -/
theorem written_alc (w k : Nat) (x : Val) (f : P1 → P1) (s : State) : (written w k x f s).p1.alc = (f s.p1).alc := by
  have hanswer : (written w k x f s).p1.butAnswer.alc = (forward w k x (f s.p1)).butAnswer.alc :=
    congrArg P1.alc (answer_butAnswer w k 0 _)
  have hforward : (forward w k x (f s.p1)).alc = (f s.p1).alc := by rw [forward_frame]
  exact hanswer.trans hforward

theorem record_alc (code param : Nat) (p : P1) : (record code param p).alc = p.alc :=
  have hsame : (record code param p).butRecord.alc = p.butRecord.alc := congrArg P1.alc (record_butRecord code param p)
  hsame

theorem record_sameAllocation (code param : Nat) (p : P1) : sameCells pastAllocation p (record code param p) :=
  (record_sameCounters code param p).mono pastAllocation_of_answerCounter

/-- An analog output shows its state in its own cell. -/
theorem aoSet_sameCells (n : Nat) (code : Int) (safe : Bool) (p : P1) :
    sameCells pastAllocation p (aoSet n code safe p) := by
  have hcell : pastAllocation (ob 0x5508 (n + 1)) = true := by
    simp only [pastAllocation, ob, decide_eq_true_eq]
    omega
  have hcode (h : n < 16) : sameCells pastAllocation p { p with ao := p.ao.set n code } := .of_od rfl
  unfold aoSet
  split
  · next h => exact ((hcode h).trans (.wr hcell _ _)).trans (.wr hcell _ _)
  · exact .refl _ p

theorem analogSafe_sameCells (i : Fin 16) (p : P1) : sameCells pastAllocation p (analogSafe i p) := by
  have hput (sub : Nat) (t : P1) : sameCells pastAllocation t
      (if t.rd (thrKey i sub) = 0xFF then t
        else aoSet (t.rdN (thrKey i sub)) (aoSafeCode (t.rdN (thrKey i sub)) t) true t) := by
    split
    · exact .refl _ t
    · exact aoSet_sameCells _ _ _ _
  exact (hput 5 p).trans (hput 6 _)

/-! ### The start of a thruster test (R281) -/

/-- The cells of a test that starts: its thruster, its status bit, and the commanded values at the feedback. -/
def testShown (i : Fin 16) (p : P1) : P1 :=
  (((p.wr (ob 0x4200 0x1B) i.val).setBit (thrKey i 0x25) 11 true).wr (thrKey i 0x26) (feedbackCommand i p).1).wr
    (thrKey i 0x27) (feedbackCommand i p).2

/-- P1 as a test starts: its grain and the force from which it moves are noted too. -/
def testBegun (i : Fin 16) (p : P1) : P1 :=
  { testShown i p with
    alc := { p.alc with
      thr := upd p.alc.thr i fun x => { x with fPrev := (curveThrust i (feedbackCommand i p).1 p, 0) }
      testStart := p.elapsed } }

theorem testShown_rd {i : Fin 16} {p : P1} (hwf : odWf p.od = true) (k : Nat) :
    (testShown i p).rd k =
      if k = thrKey i 0x27 then ((feedbackCommand i p).2 : Int) else if k = thrKey i 0x26 then (feedbackCommand i p).1
      else if k = thrKey i 0x25 then withBit (p.rd (thrKey i 0x25)) 11 true
      else if k = ob 0x4200 0x1B then (i.val : Int) else p.rd k := by
  have hindex := odWf_odPut hwf (ob 0x4200 0x1B) i.val
  have hbit := odWf_odPut hindex (thrKey i 0x25) (withBit ((p.wr (ob 0x4200 0x1B) i.val).rd (thrKey i 0x25)) 11 true)
  have hstatus : (p.wr (ob 0x4200 0x1B) i.val).rd (thrKey i 0x25) = p.rd (thrKey i 0x25) :=
    P1.wr_rd_other (thrKey_ne_allocation i (by decide) 0x1B) _ p
  rw [testShown, P1.wr_rd (odWf_odPut hbit _ _), P1.wr_rd hbit, P1.setBit_rd hindex, hstatus, P1.wr_rd hwf]

/-- P1 with the start of a test recorded. -/
def testStarted (i : Fin 16) (p : P1) : P1 := record 0x050A i.val (testBegun i p)

theorem testStarted_sameCells (i : Fin 16) (p : P1) : sameCells pastAllocation (testShown i p) (testStarted i p) :=
  record_sameAllocation 0x050A i.val (testBegun i p)

theorem testStarted_testStart (i : Fin 16) (p : P1) : (testStarted i p).alc.testStart = p.elapsed :=
  congrArg Alloc.testStart (record_alc 0x050A i.val (testBegun i p))

/-- The write of an index starts the test of that thruster. -/
theorem testRule_eff_start (i : Fin 16) (p : P1) : (testRule (i.val : Nat)).eff p = testStarted i p := dif_pos i.isLt

/-- The write of a number past the thrusters ends the test in progress. -/
theorem testRule_eff_end {v : Int} (h : 16 ≤ v.toNat) (p : P1) : (testRule v).eff p = endTest p := dif_neg (Nat.not_lt.mpr h)

/-- A module without a set hears no Lead. -/
theorem testRule_mode_alone {v : Int} {p : P1} (h : p.setSize = 1) : (testRule v).mode p = 0 := if_neg (by simp [h])

theorem testRule_busy_free {v : Int} {p : P1} (h : 16 ≤ testIndex p) : (testRule v).busy p = 0 :=
  if_neg (by simp [Nat.not_lt.mpr h])

/-- A test that runs makes another start busy. -/
theorem testRule_busy_running (i : Fin 16) {p : P1} (h : testIndex p < 16) :
    (testRule (i.val : Nat)).busy p = abBusy := by
  have hindex : ((i.val : Nat) : Int) ≠ 0xFF := by omega
  exact if_pos (by simp [h, hindex])

/-! ### The end of a thruster test (R281) -/

/-- The cells of a test that ends. -/
def testEnded (i : Fin 16) (p : P1) : P1 := (p.wr (ob 0x4200 0x1B) 0xFF).setBit (thrKey i 0x25) 11 false

theorem testEnded_index (i : Fin 16) {p : P1} (hwf : odWf p.od = true) : testIndex (testEnded i p) = 255 := by
  have hstatus : ob 0x4200 0x1B ≠ thrKey i 0x25 := (thrKey_ne_allocation i (by decide) _).symm
  have hcell : (testEnded i p).rd (ob 0x4200 0x1B) = 0xFF :=
    (P1.wr_rd_other hstatus _ _).trans ((P1.wr_rd hwf _ _ _).trans (if_pos rfl))
  exact congrArg Int.toNat hcell

theorem testEnded_bit (i : Fin 16) {p : P1} (hwf : odWf p.od = true) : (testEnded i p).bit (thrKey i 0x25) 11 = false := by
  have hindex := odWf_odPut hwf (ob 0x4200 0x1B) 0xFF
  rw [P1.bit, testEnded, P1.setBit_rd hindex, if_pos rfl, bitOf_withBit]

/-- The end of the test in progress is recorded, with the thruster's analog outputs at their safe codes. -/
theorem endTest_running {p : P1} (h : testIndex p < 16) :
    endTest p = analogSafe ⟨testIndex p, h⟩ (record 0x050A (testIndex p) (testEnded ⟨testIndex p, h⟩ p)) :=
  dif_pos h

theorem endTest_none {p : P1} (h : 16 ≤ testIndex p) : endTest p = p := dif_neg (Nat.not_lt.mpr h)

theorem endTest_sameCells {p : P1} (h : testIndex p < 16) :
    sameCells pastAllocation (testEnded ⟨testIndex p, h⟩ p) (endTest p) :=
  endTest_running h ▸ (record_sameAllocation _ _ _).trans (analogSafe_sameCells _ _)

/-! ### Feedback frames (R280) -/

theorem setThr_thruster (i : Fin 16) (f : Thruster → Thruster) (p : P1) :
    (setThr i f p).alc.thr[i] = f p.alc.thr[i] := by
  simp [setThr, upd]

theorem setThr_otherThruster {i j : Fin 16} (h : j ≠ i) (f : Thruster → Thruster) (p : P1) :
    (setThr i f p).alc.thr[j] = p.alc.thr[j] := by
  have hval : i.val ≠ j.val := fun he => h (Fin.ext he.symm)
  simp [setThr, upd, hval]

/-- P1 with a frame as the feedback of its thruster, in state and cells. -/
def feedbackShown (i : Fin 16) (b : List Byte) (p : P1) : P1 :=
  (((setThr i (fun x => { x with fb := ⟨0, leAt b 1 1, leAt b 2 1 % 4, true, p.elapsed⟩ }) p).wr
    (thrKey i 0x2A) (ofBits 16 (leAt b 6 2))).wr (thrKey i 0x2B) (leAt b 8 2)).wr (thrKey i 0x2C) (leAt b 10 2)

/-- A frame that names this module as lead also ends LEAD_MISMATCH (R277). -/
theorem takeFeedback_cases (i : Fin 16) (b : List Byte) (p : P1) :
    takeFeedback i b p = setThr i (fun x => { x with mismatch := 0 }) ((feedbackShown i b p).setBit (thrKey i 0x25) 9 false)
      ∨ takeFeedback i b p = feedbackShown i b p :=
  ite_eq_or_eq ..

theorem takeFeedback_fb (i : Fin 16) (b : List Byte) (p : P1) :
    (takeFeedback i b p).alc.thr[i].fb = ⟨0, leAt b 1 1, leAt b 2 1 % 4, true, p.elapsed⟩ := by
  have hshown : (feedbackShown i b p).alc.thr[i].fb = ⟨0, leAt b 1 1, leAt b 2 1 % 4, true, p.elapsed⟩ :=
    congrArg Thruster.fb (setThr_thruster i _ p)
  rcases takeFeedback_cases i b p with h | h
  · rw [h, setThr_thruster]
    exact hshown
  · rw [h, hshown]

theorem takeFeedback_otherThruster {i j : Fin 16} (hj : j ≠ i) (b : List Byte) (p : P1) :
    (takeFeedback i b p).alc.thr[j] = p.alc.thr[j] := by
  have hshown : (feedbackShown i b p).alc.thr[j] = p.alc.thr[j] := setThr_otherThruster hj _ p
  rcases takeFeedback_cases i b p with h | h
  · rw [h, setThr_otherThruster hj]
    exact hshown
  · rw [h, hshown]

/-- The status cell of the thruster is the only one that LEAD_MISMATCH shows in. -/
theorem takeFeedback_rd_shown {i : Fin 16} {k : Nat} (hk : k ≠ thrKey i 0x25) (b : List Byte) (p : P1) :
    (takeFeedback i b p).rd k = (feedbackShown i b p).rd k := by
  rcases takeFeedback_cases i b p with h | h
  · rw [h, setThr_rd]
    exact P1.wr_rd_other hk _ _
  · rw [h]

theorem feedbackShown_rd {p : P1} (hwf : odWf p.od = true) (i : Fin 16) (b : List Byte) (k : Nat) :
    (feedbackShown i b p).rd k =
      if k = thrKey i 0x2C then (leAt b 10 2 : Int) else if k = thrKey i 0x2B then (leAt b 8 2 : Int)
      else if k = thrKey i 0x2A then ofBits 16 (leAt b 6 2) else p.rd k := by
  have hthrust := odWf_odPut hwf (thrKey i 0x2A) (ofBits 16 (leAt b 6 2))
  have hangle := odWf_odPut hthrust (thrKey i 0x2B) (leAt b 8 2)
  rw [feedbackShown, P1.wr_rd hangle, P1.wr_rd hthrust, P1.wr_rd (by simpa using hwf), setThr_rd]

/-- A frame that governs writes no cell but the status and the feedback of its thruster. -/
theorem takeFeedback_rd_other {i : Fin 16} {k : Nat} (hstatus : k ≠ thrKey i 0x25) (hthrust : k ≠ thrKey i 0x2A)
    (hangle : k ≠ thrKey i 0x2B) (hload : k ≠ thrKey i 0x2C) (b : List Byte) (p : P1) :
    (takeFeedback i b p).rd k = p.rd k := by
  rw [takeFeedback_rd_shown hstatus, feedbackShown, P1.wr_rd_other hload, P1.wr_rd_other hangle, P1.wr_rd_other hthrust,
    setThr_rd]

/-- A frame that governs leaves the configuration by which frames find their thrusters. -/
theorem isFeedback_takeFeedback (c : Fin 4) (id : Nat) (i j : Fin 16) (b : List Byte) (p : P1) :
    isFeedback c id j (takeFeedback i b p) = isFeedback c id j p := by
  have hconfig (sub : Nat) (hsub : sub < 0x25) : (takeFeedback i b p).rd (thrKey j sub) = p.rd (thrKey j sub) := by
    have hne (shown : Nat) (hlow : 0x25 ≤ shown) (hhigh : shown < 256) : thrKey j sub ≠ thrKey i shown :=
      thrKey_ne j i (by omega) hhigh (by omega)
    exact takeFeedback_rd_other (hne 0x25 (by decide) (by decide)) (hne 0x2A (by decide) (by decide))
      (hne 0x2B (by decide) (by decide)) (hne 0x2C (by decide) (by decide)) b p
  have hbase : (takeFeedback i b p).rd (ob 0x4200 0x11) = p.rd (ob 0x4200 0x11) := by
    have hne (shown : Nat) (hhigh : shown < 256) : ob 0x4200 0x11 ≠ thrKey i shown := (thrKey_ne_allocation i hhigh _).symm
    exact takeFeedback_rd_other (hne 0x25 (by decide)) (hne 0x2A (by decide)) (hne 0x2B (by decide)) (hne 0x2C (by decide)) b p
  unfold isFeedback P1.rdN
  rw [hconfig 1 (by decide), hconfig 7 (by decide), hconfig 4 (by decide), hbase]

/-- An identifier names one thruster at most. -/
theorem isFeedback_unique {c : Fin 4} {id : Nat} {i j : Fin 16} {p : P1} (hi : isFeedback c id i p = true)
    (hj : isFeedback c id j p = true) : j = i := by
  simp only [isFeedback, Bool.and_eq_true, decide_eq_true_eq] at hi hj
  omega

/-- A step that changes nothing for every thruster but one acts as that one's. -/
theorem eachThr_single {f : Fin 16 → P1 → P1} {i : Fin 16} {p : P1} (hbefore : ∀ j, j ≠ i → f j p = p)
    (hafter : ∀ j, j ≠ i → f j (f i p) = f i p) : eachThr f p = f i p := by
  obtain ⟨before, after, hsplit⟩ := List.append_of_mem (List.mem_finRange i)
  have hnodup : (before ++ i :: after).Nodup := hsplit ▸ List.nodup_finRange 16
  have hstays {l : List (Fin 16)} {q : P1} (hl : i ∉ l) (hq : ∀ j, j ≠ i → f j q = q) :
      l.foldl (fun t j => f j t) q = q :=
    List.foldlRecOn (motive := (· = q)) l _ rfl fun t ht j hj => ht ▸ hq j fun hji => hl (hji ▸ hj)
  obtain ⟨-, hrest, hdisjoint⟩ := List.nodup_append.mp hnodup
  have hibefore : i ∉ before := fun hi => hdisjoint i hi i List.mem_cons_self rfl
  rw [eachThr, hsplit, List.foldl_append, List.foldl_cons, hstays hibefore hbefore,
    hstays (List.nodup_cons.mp hrest).1 hafter]

/-- A frame that is no thruster's feedback changes nothing. -/
theorem feedbackFrame_none {c : Fin 4} {id : Nat} {b : List Byte} {p : P1}
    (h : ∀ i : Fin 16, (isFeedback c id i p && feedbackOk i b) = false) : feedbackFrame c id b p = p :=
  List.foldl_fixed' (fun i => if_neg (by simp [h i])) _

/-- What a frame does at one thruster. -/
def frameTo (c : Fin 4) (id : Nat) (b : List Byte) (i : Fin 16) (p : P1) : P1 :=
  if isFeedback c id i p && feedbackOk i b then takeFeedback i b p else p

theorem frameTo_named {c : Fin 4} {id : Nat} {b : List Byte} {i : Fin 16} {p : P1} (hnamed : isFeedback c id i p = true)
    (hcheck : feedbackOk i b = true) : frameTo c id b i p = takeFeedback i b p :=
  if_pos (by simp [hnamed, hcheck])

theorem frameTo_unnamed {c : Fin 4} {id : Nat} {b : List Byte} {i : Fin 16} {p : P1}
    (h : isFeedback c id i p = false) : frameTo c id b i p = p :=
  if_neg (by simp [h])

/-- A frame with a correct check governs the thruster that its channel and identifier name, and no other. -/
theorem feedbackFrame_governs {c : Fin 4} {id : Nat} {b : List Byte} {i : Fin 16} {p : P1}
    (hnamed : isFeedback c id i p = true) (hcheck : feedbackOk i b = true) :
    feedbackFrame c id b p = takeFeedback i b p := by
  have hother (j : Fin 16) (hj : j ≠ i) : isFeedback c id j p = false :=
    Bool.eq_false_iff.mpr fun h => hj (isFeedback_unique hnamed h)
  have hself : frameTo c id b i p = takeFeedback i b p := frameTo_named hnamed hcheck
  rw [← hself]
  refine eachThr_single (f := frameTo c id b) (fun j hj => frameTo_unnamed (hother j hj)) fun j hj => ?_
  rw [hself]
  exact frameTo_unnamed ((isFeedback_takeFeedback c id i j b p).trans (hother j hj))

/-! ### Generation (R272) -/

/-- The masks that are skipped are those of the wanted ones that are not generated. -/
theorem skippedMasks_cast (p : P1) :
    (((wantedMasks p).length - ((wantedMasks p).filter fun m => generable m p).length : Nat) : Int)
      = (wantedMasks p).length - ((wantedMasks p).filter fun m => generable m p).length :=
  Int.ofNat_sub (List.length_filter_le ..)

/-! ### The statement -/

/-- Settles O38: each write passes or fails the tests of its rule, the cells of a test stand beside its record and answer, and
an identifier names the one thruster that a frame governs. -/
theorem thrustersCurvesTablesAndTests : Obligations.ThrustersCurvesTablesAndTests := by
  intro s w hserves hup
  refine ⟨fun i a b hacc hcurve => onReq_check hserves hacc (if_pos hcurve),
    fun i a b hacc hcurve => onReq_checkRefused hserves hacc (by decide) rfl (if_neg (by simp [hcurve])),
    fun b hacc htable hfree => onReq_accepted hserves hacc rfl (if_pos htable) (if_neg (by simp [hfree])),
    fun b hacc htable => onReq_checkRefused hserves hacc (by decide) rfl (if_neg (by simp [htable])),
    fun v hacc hmode => onReq_effect (r := generateRule) hserves hacc (if_pos hmode) rfl rfl ?generated,
    fun v hacc hmode => onReq_modeRefused hserves hacc (by decide) (if_neg hmode),
    fun i hacc halone hfree hwf => ?start,
    fun i hacc halone hrun =>
      onReq_busyRefused hserves hacc (by decide) (testRule_mode_alone halone) rfl (testRule_busy_running i hrun),
    fun hacc => onReq_effect hserves hacc rfl rfl rfl (testRule_eff_end (by decide) s.p1),
    fun hover => onP1_next hup (if_pos hover), fun hearly => onP1_idle hup (if_neg (Nat.not_le.mpr hearly)),
    fun hrun hwf => ?ended, fun hnone => endTest_none hnone,
    fun c id b hnone => onP1_idle hup (feedbackFrame_none fun i => ?none),
    fun c id b i hnamed hcheck hwf => ?feedback, fun v hacc => onReq_eff hserves hacc⟩
  case start =>
    have hexec : exec (.testThrusterStart w (i.val : Nat)) s
        = .next (written w (ob 0x4200 0x1B) (.num (i.val : Nat)) (testStarted i) s) :=
      onReq_effect hserves hacc (testRule_mode_alone halone) rfl (testRule_busy_free hfree) (testRule_eff_start i s.p1)
    have hcells := (testStarted_sameCells i s.p1).trans
      (written_sameCells w (ob 0x4200 0x1B) (.num (i.val : Nat)) (testStarted i) s)
    have halc := written_alc w (ob 0x4200 0x1B) (.num (i.val : Nat)) (testStarted i) s
    refine ⟨_, hexec, by rw [halc, testStarted_testStart], ?bit, ?index, ?thrust, rfl, rfl⟩
    case bit =>
      rw [P1.bit, hcells _ (pastAllocation_thrKey i (by decide)), testShown_rd hwf]
      simp
    case index =>
      have hne (sub : Nat) (hsub : sub < 256) : ob 0x4200 0x1B ≠ thrKey i sub := (thrKey_ne_allocation i hsub _).symm
      rw [testIndex, P1.rdN, hcells _ (by decide), testShown_rd hwf, if_neg (hne 0x27 (by decide)),
        if_neg (hne 0x26 (by decide)), if_neg (hne 0x25 (by decide)), if_pos rfl, Int.toNat_natCast]
    case thrust =>
      rw [hcells _ (pastAllocation_thrKey i (by decide)), testShown_rd hwf]
      simp
  case generated =>
    dsimp only
    rw [← skippedMasks_cast]
    rfl
  case ended =>
    have hcells := endTest_sameCells hrun
    refine ⟨?_, ?_⟩
    · exact (congrArg Int.toNat (hcells (ob 0x4200 0x1B) (by decide))).trans (testEnded_index _ hwf)
    · exact (congrArg (bitOf · 11) (hcells _ (pastAllocation_thrKey _ (by decide)))).trans (testEnded_bit _ hwf)
  case none =>
    -- In the statement `= false` binds tighter than `&&`: the hypothesis has the check of every thruster wrong.
    obtain ⟨-, hcheck⟩ := Bool.and_eq_true _ _ ▸ hnone i
    simp [of_decide_eq_true hcheck]
  case feedback =>
    have hframe := feedbackFrame_governs hnamed hcheck
    have hcell (k : Nat) (hk : k ≠ thrKey i 0x25) := (takeFeedback_rd_shown hk b s.p1).trans (feedbackShown_rd hwf i b k)
    refine ⟨_, onP1_next hup hframe, takeFeedback_fb i b s.p1, (hcell _ (by simp)).trans (by simp),
      (hcell _ (by simp)).trans (by simp), (hcell _ (by simp)).trans (by simp),
      fun j hj => takeFeedback_otherThruster hj b s.p1⟩

end Sys2Proof.Machine
end

section
/-! SUPPORT. The nanoseconds that a session has latched (R290): what answers and reads make of them. -/

namespace Sys2Proof.Machine

/-! ### Answers and the sessions (R434, R547) -/

theorem sendResponse_sessions (i : Nat) (a : Answer) (s : P1) : (sendResponse i a s).sessions = s.sessions := by
  unfold sendResponse
  extract_lets p
  split_ifs <;> rfl

theorem canQueue_sessions (c : Fin 4) (prio : Nat) (f : TxFrame) (s : P1) : (canQueue c prio f s).sessions = s.sessions :=
  have hsame : (canQueue c prio f s).butCan.sessions = s.butCan.sessions := congrArg P1.sessions (canQueue_butCan c prio f s)
  hsame

/-- The session that an answer goes to keeps it for repeats. -/
def keepAnswer (a : Answer) (x : Session) : Session := if x.no = a.sess then { x with last := some a } else x

theorem answerWith_sessions (a : Answer) (s : P1) : (answerWith a s).sessions = s.sessions.map (keepAnswer a) := by
  unfold answerWith
  extract_lets keep t
  split
  · exact canQueue_sessions ..
  · split
    · exact sendResponse_sessions ..
    · rfl

/-! ### Latched nanoseconds -/

/-- The nanoseconds that the session of a number has latched. -/
def latchedNanos (w : Nat) (l : List Session) : Option Nat := (l.find? fun x => x.no = w).bind (·.nanos)

/-- A change that leaves the numbers of the sessions finds the session changed. -/
theorem latchedNanos_map {f : Session → Session} (hno : ∀ x, (f x).no = x.no) (w : Nat) (l : List Session) :
    latchedNanos w (l.map f) = (l.find? fun x => x.no = w).bind fun x => (f x).nanos := by
  simp only [latchedNanos, List.find?_map, Function.comp_def, hno]
  cases l.find? fun x => decide (x.no = w) <;> rfl

theorem latchedNanos_keepAnswer (w : Nat) (a : Answer) (l : List Session) :
    latchedNanos w (l.map (keepAnswer a)) = latchedNanos w l := by
  have hno (x : Session) : (keepAnswer a x).no = x.no := by
    unfold keepAnswer
    split <;> rfl
  have hnanos (x : Session) : (keepAnswer a x).nanos = x.nanos := by
    unfold keepAnswer
    split <;> rfl
  rw [latchedNanos_map hno]
  simp only [hnanos]
  rfl

/-- An answer with data leaves what the sessions have latched. -/
theorem latchedNanos_answerData (v w k : Nat) (b : List Byte) (s : P1) :
    latchedNanos v (answerData w k b s).sessions = latchedNanos v s.sessions := by
  unfold answerData
  split
  · rfl
  · rw [answerWith_sessions, latchedNanos_keepAnswer]

/-- The nanoseconds given to a session are what it has latched then, and every other session keeps its own. -/
theorem latchedNanos_setSession (v w : Nat) (n : Option Nat) (s : P1) :
    latchedNanos v (setSession w (fun x => { x with nanos := n }) s).sessions =
      if v = w then (session? w s).bind fun _ => n else latchedNanos v s.sessions := by
  have hno (x : Session) : (if x.no = w then { x with nanos := n } else x).no = x.no := by split <;> rfl
  refine (latchedNanos_map hno v s.sessions).trans ?_
  unfold latchedNanos session?
  split
  · next h =>
    subst h
    cases hfind : s.sessions.find? fun x => decide (x.no = v) with
    | none => rfl
    | some x =>
      have hfound : x.no = v := by simpa using List.find?_some hfind
      simp [hfound]
  · next h =>
    cases hfind : s.sessions.find? fun x => decide (x.no = v) with
    | none => rfl
    | some x =>
      have hfound : x.no = v := by simpa using List.find?_some hfind
      simp [hfound, h]

/-- A read of 5001h:03 consumes what its session has latched (log entry 62). -/
theorem latchedNanos_afterRead (w : Nat) (s : P1) : latchedNanos w (afterRead w (ob 0x5001 3) s).sessions = none :=
  (latchedNanos_setSession w w none s).trans ((if_pos rfl).trans (Option.bind_fun_none _))

/-- What a read of the nanoseconds returns: those latched, else those of its grain. -/
theorem showNum_nanoseconds (w : Nat) (g : P2) (p : P1) :
    showNum w g (ob 0x5001 3) p = (((latchedNanos w p.sessions).getD (p.ns % 1000000000) : Nat) : Int) := rfl

/-- Settles O58: the read of the seconds latches for its session alone, its answer leaves what is latched, and a read of the
nanoseconds returns it once. -/
theorem secondsReadLatchesNanoseconds : Obligations.SecondsReadLatchesNanoseconds := by
  intro s w x hserves hopen
  refine ⟨_, onSup_run hserves, rfl, rfl, fun p hp => ?_⟩
  have hlatched (v : Nat) : latchedNanos v p.sessions =
      latchedNanos v (setSession w (fun y => { y with nanos := some (s.p1.ns % 1000000000) }) s.p1).sessions :=
    hp ▸ latchedNanos_answerData v w (ob 0x5001 2) _ _
  refine ⟨?own, fun v y hv hy hnone => ?other, fun q hq => ?again⟩
  case own =>
    rw [showNum_nanoseconds, hlatched, latchedNanos_setSession, if_pos rfl, hopen]
    rfl
  case other =>
    have hfresh : latchedNanos v s.p1.sessions = none := by
      have hfind : (s.p1.sessions.find? fun z => z.no = v) = some y := hy
      rw [latchedNanos, hfind, Option.bind_some, hnone]
    rw [showNum_nanoseconds, hlatched, latchedNanos_setSession, if_neg hv, hfresh, Option.getD_none]
  case again => rw [showNum_nanoseconds, hq, latchedNanos_afterRead, Option.getD_none]

end Sys2Proof.Machine
end

section
/-! SUPPORT. The time state, its sources and its alarms (R292–R299): which cells they write and what they leave of the time. -/

namespace Sys2Proof.Machine

/-! ### Several cells written -/

theorem odWf_wrs {p : P1} (h : odWf p.od = true) (l : List (Nat × Int)) : odWf (p.wrs l).od = true :=
  List.foldlRecOn (motive := fun t : P1 => odWf t.od = true) l _ h fun _ ht e _ => odWf_odPut ht e.1 e.2

theorem P1.wrs_rd_other {k : Nat} {l : List (Nat × Int)} (h : ∀ e ∈ l, k ≠ e.1) (p : P1) : (p.wrs l).rd k = p.rd k :=
  List.foldlRecOn (motive := fun t : P1 => t.rd k = p.rd k) l _ rfl fun t ht e he =>
    (P1.wr_rd_other (h e he) e.2 t).trans ht

theorem sameCells.wrs {but : Nat → Bool} {l : List (Nat × Int)} (h : ∀ e ∈ l, but e.1 = true) (s : P1) :
    sameCells but s (s.wrs l) :=
  fun _ hk => P1.wrs_rd_other (fun e he hke => Bool.false_ne_true (hk.symm.trans ((congrArg but hke).trans (h e he)))) s

/-! ### The time beside alarms, records and cells -/

theorem P1.time_of_alarm {a b : P1} (h : b.butAlarm = a.butAlarm) : b.time = a.time :=
  have hsame : b.butAlarm.time = a.butAlarm.time := congrArg P1.time h
  hsame

theorem P1.time_of_record {a b : P1} (h : b.butRecord = a.butRecord) : b.time = a.time :=
  P1.time_of_alarm (P1.butAlarm_of_can (P1.butCan_of_record h))

theorem P1.time_of_cells {a b : P1} (h : b.butCells = a.butCells) : b.time = a.time :=
  P1.time_of_record (P1.butRecord_of_cells h)

/-! ### What the time state leaves alone -/

/-- The time part but for the source in use, its holdover and the step that waits. -/
def TimeState.butSource (x : TimeState) : TimeState := { x with source := 0, holdFrom := 0, u0 := 0, stepDue := false }

/-- P1 but for what a change of the time state or of the source touches (R292–R294). -/
def P1.butSource (s : P1) : P1 := { s.butAlarm with time := s.time.butSource }

theorem P1.butSource_of_alarm {a b : P1} (h : b.butAlarm = a.butAlarm) : b.butSource = a.butSource :=
  congrArg (fun t : P1 => { t with time := t.time.butSource }) h

theorem P1.butSource_of_record {a b : P1} (h : b.butRecord = a.butRecord) : b.butSource = a.butSource :=
  P1.butSource_of_alarm (P1.butAlarm_of_can (P1.butCan_of_record h))

theorem P1.butSource_of_cells {a b : P1} (h : b.butCells = a.butCells) : b.butSource = a.butSource :=
  P1.butSource_of_record (P1.butRecord_of_cells h)

theorem P1.ns_of_source {a b : P1} (h : b.butSource = a.butSource) : b.ns = a.ns :=
  have hsame : b.butSource.ns = a.butSource.ns := congrArg P1.ns h
  hsame

theorem P1.time_of_source {a b : P1} (h : b.butSource = a.butSource) : b.time.butSource = a.time.butSource :=
  have hsame : b.butSource.time = a.butSource.time := congrArg P1.time h
  hsame

theorem showTime_butCells (s : P1) : (showTime s).butCells = s.butCells := by
  unfold showTime
  dsimp only
  exact (P1.setField_butCells ..).trans ((P1.setField_butCells ..).trans (P1.wrs_butCells _ s))

theorem setTimeState_butSource (st code param : Nat) (s : P1) : (setTimeState st code param s).butSource = s.butSource := by
  have hrecorded : (record code param (s.setField kTime 0 3 st)).butSource = s.butSource :=
    (P1.butSource_of_record (record_butRecord ..)).trans rfl
  unfold setTimeState
  extract_lets t
  split
  · exact (P1.butSource_of_cells (showTime_butCells _)).trans hrecorded
  · exact (P1.butSource_of_cells (showTime_butCells _)).trans ((P1.butSource_of_alarm (lower_butAlarm ..)).trans hrecorded)

theorem converge_butSource (s : P1) : (converge s).butSource = s.butSource := setTimeState_butSource ..

/-- What holds before the sources are judged, and is kept by each thing that judging them can do, holds after it. -/
theorem judgeSource_induction {C : P1 → Prop} {s : P1} (hs : C s) (hshow : ∀ t, C t → C (showTime t))
    (hstate : ∀ st code param t, C t → C (setTimeState st code param t))
    (hrecord : ∀ code param t, C t → C (record code param t)) (hbit : ∀ t, C t → C (t.setBit kTime 5 true))
    (htime : ∀ f t, (∀ x, (f x).butSource = x.butSource) → C t → C (setTime f t)) : C (judgeSource s) := by
  have hsource (b : Nat) : C (setTime (fun x => { x with source := b }) s) := htime _ s (fun _ => rfl) hs
  unfold judgeSource
  dsimp only
  split
  · have hheld : C (setTime (fun x => { x with source := 0, holdFrom := s.elapsed, u0 := uncertainty s }) s) :=
      htime _ s (fun _ => rfl) hs
    split
    · exact hshow s hs
    · split
      · exact hstate _ _ _ _ hheld
      · exact hshow _ hheld
  · next b _ =>
    split
    · exact hshow s hs
    · split
      · exact hshow _ (hrecord _ _ _ (htime _ _ (fun _ => rfl) (hbit _ (hsource b))))
      · split
        · split
          · exact hshow _ (hsource b)
          · exact hstate _ _ _ _ (hsource b)
        · split
          · exact hstate _ _ _ _ (hrecord _ _ _ (hsource b))
          · exact hshow _ (hrecord _ _ _ (hsource b))

/-- The source in use follows the qualified ones, and nothing else of the time does. -/
theorem judgeSource_butSource (s : P1) : (judgeSource s).butSource = s.butSource :=
  judgeSource_induction (C := fun t => t.butSource = s.butSource) rfl
    (fun t h => (P1.butSource_of_cells (showTime_butCells t)).trans h)
    (fun st code param t h => (setTimeState_butSource st code param t).trans h)
    (fun code param t h => (P1.butSource_of_record (record_butRecord code param t)).trans h)
    (fun _ h => h)
    fun _ t hf h => (congrArg (fun x : TimeState => { t.butAlarm with time := x }) (hf t.time)).trans h

/-- The cells that the time state and its sources show in: those of an alarm that ends, and of 5000h and the clock status. -/
def sourceCell (k : Nat) : Bool := alarmCell k || k / 256 = 0x5000 || k = kClock

theorem sourceCell_of_alarmCell (k : Nat) (h : alarmCell k = true) : sourceCell k = true := by simp [sourceCell, h]

theorem sourceCell_of_recordCell (k : Nat) (h : recordCell k = true) : sourceCell k = true :=
  sourceCell_of_alarmCell k (by simp [alarmCell, answerCounter_of_recordCell k h])

theorem record_sourceCells (code param : Nat) (s : P1) : sameCells sourceCell s (record code param s) :=
  (record_sameCells code param s).mono sourceCell_of_recordCell

theorem showTime_sameCells (s : P1) : sameCells sourceCell s (showTime s) := by
  have hwrites {l : List (Nat × Int)} (h : ∀ e ∈ l, sourceCell e.1 = true) (b : Bool) (src : Nat) :
      sameCells sourceCell s ((((s.wrs l).setBit kTime 10 b).setField kTime 3 2 src).setField kClock 2 2 src) :=
    (((sameCells.wrs h s).trans (.wr (by decide) _ _)).trans (.wr (by decide) _ _)).trans (.wr (by decide) _ _)
  unfold showTime
  dsimp only
  exact hwrites (by simp only [List.forall_mem_cons]; decide) _ _

theorem setTimeState_sameCells (st code param : Nat) (s : P1) :
    sameCells sourceCell s (setTimeState st code param s) := by
  have hfield : sameCells sourceCell s (s.setField kTime 0 3 st) := .wr (by decide) _ s
  have hrecorded := hfield.trans (record_sourceCells code param _)
  unfold setTimeState
  extract_lets t
  split
  · exact hrecorded.trans (showTime_sameCells _)
  · exact (hrecorded.trans ((lower_sameCells _ _ _).mono sourceCell_of_alarmCell)).trans (showTime_sameCells _)

theorem converge_sameCells (s : P1) : sameCells sourceCell s (converge s) := setTimeState_sameCells _ _ _ _

theorem judgeSource_sameCells (s : P1) : sameCells sourceCell s (judgeSource s) :=
  judgeSource_induction (C := sameCells sourceCell s) (.refl _ s) (fun t h => h.trans (showTime_sameCells t))
    (fun st code param t h => h.trans (setTimeState_sameCells st code param t))
    (fun code param t h => h.trans (record_sourceCells code param t))
    (fun t h => h.trans (.wr (by decide) _ t)) fun f t _ h => h.trans (.of_od (setTime_od f t))

/-! ### The time state read back (R293) -/

/-- The objects that follow the time state leave the state itself. -/
theorem showTime_timeState {p : P1} (hwf : odWf p.od = true) : timeState (showTime p) = timeState p := by
  have hwrites {l : List (Nat × Int)} (h : ∀ e ∈ l, kTime ≠ e.1) (b : Bool) (src : Nat) :
      timeState ((((p.wrs l).setBit kTime 10 b).setField kTime 3 2 src).setField kClock 2 2 src) = timeState p := by
    have hcells : odWf (p.wrs l).od = true := odWf_wrs hwf l
    have hbit : odWf ((p.wrs l).setBit kTime 10 b).od = true := odWf_odPut hcells _ _
    have hstatus : ((((p.wrs l).setBit kTime 10 b).setField kTime 3 2 src).setField kClock 2 2 src).rd kTime =
        withField (withBit (p.rd kTime) 10 b) 3 2 src := by
      rw [P1.setField, P1.wr_rd_other (by decide), P1.setField_rd hbit, if_pos rfl, P1.setBit_rd hcells, if_pos rfl,
        P1.wrs_rd_other h]
    rw [timeState, P1.field, hstatus]
    refine fieldOf_congr _ _ 0 3 fun i _ hi => ?_
    rw [bitOf_withField_below _ _ _ _ _ (by omega), bitOf_withBit_other _ _ _ _ (by omega)]
  unfold showTime
  dsimp only
  exact hwrites (by simp only [List.forall_mem_cons]; decide) _ _

/-- The unqualified state reads back. -/
theorem setTimeState_unqualified {p : P1} (hwf : odWf p.od = true) (code param : Nat) :
    timeState (setTimeState 0 code param p) = 0 := by
  have hset : odWf (p.setField kTime 0 3 0).od = true := odWf_odPut hwf _ _
  have hrecorded : CellsKept answerCounter _ (record code param (p.setField kTime 0 3 0)) := record_cellsKept _ _ _
  have hstate : timeState (record code param (p.setField kTime 0 3 0)) = 0 := by
    rw [timeState, P1.field, hrecorded.same hset kTime (by decide), P1.setField_rd hwf, if_pos rfl, fieldOf_withField,
      Nat.zero_mod]
  exact (showTime_timeState (hrecorded.canonical hset)).trans hstate

/-! ### A whole second (R292, R293, R297) -/

/-- What follows the intake of a whole second, in its order. -/
def secondJudged (x : TimeState) (p : P1) : P1 :=
  updateCorrection (judgeLock (slewedStep (judgeSource { p with time := x })))

theorem timeSecond_due {p : P1} (hi : p.grainIndex % 1000000 = 0) (hnew : p.time.secondAt ≠ some p.elapsed)
    (g : Option GnssTime) : timeSecond g p = secondWork (if basebandOn p then g else none) p :=
  if_neg (by simp [hi, hnew])

/-- A grain without a whole second has none to work. -/
theorem timeSecond_idle {p : P1} (hi : p.grainIndex % 1000000 ≠ 0) (g : Option GnssTime) : timeSecond g p = p :=
  if_pos (by simp [hi])

theorem secondWork_qualifying {g : GnssTime} {p : P1} (h : gnssQualifies g p = true) :
    secondWork (some g) p =
      secondJudged { p.time with
        gnssRun := min 10 (p.time.gnssRun + 1), gnssOk := p.time.gnssOk || 10 ≤ min 10 (p.time.gnssRun + 1)
        gnss := (g.error, g.sigma), gnssLast := p.elapsed, secondAt := some p.elapsed } p := by
  simp only [secondWork, h]
  rfl

theorem secondWork_unqualified {g : GnssTime} {p : P1} (h : gnssQualifies g p = false) :
    secondWork (some g) p =
      secondJudged { p.time with gnssRun := 0, gnss := (g.error, g.sigma), secondAt := some p.elapsed } p := by
  simp only [secondWork, h, setTime, Bool.false_eq_true, if_false]
  simp [secondJudged]

theorem secondWork_none (p : P1) :
    secondWork none p = secondJudged { p.time with gnssRun := 0, secondAt := some p.elapsed } p := by
  simp [secondWork, setTime, secondJudged]

/-! ### Sources, holdover and the offset in use (R288, R292, R299) -/

theorem sourceLost_gnss_late {p : P1} (hok : p.time.gnssOk = true) (hlate : 3000000 ≤ p.elapsed - p.time.gnssLast) :
    sourceLost .gnss p = loseSource 1 p :=
  if_pos (by simp [hok, hlate])

theorem sourceLost_gnss_early {p : P1} (h : p.elapsed - p.time.gnssLast < 3000000) : sourceLost .gnss p = p :=
  if_neg (by simp [h])

theorem sourceLost_ptp_late {p : P1} (hok : p.time.ptpOk = true) (hgone : syncGone p = true) :
    sourceLost .ptp p = loseSource 2 p :=
  if_pos (by simp [hok, hgone])

theorem holdoverLimit_reached {p : P1} (hstate : timeState p = 2) (hover : (p.rd (ob 0x5000 4) : Rat) ≤ holdSeconds p) :
    holdoverLimit p = raise 0x0903 0 (setTimeState 0 0x0903 0 p) :=
  if_pos (by simp [hstate, hover])

theorem holdoverLimit_otherState {p : P1} (h : timeState p ≠ 2) : holdoverLimit p = p := if_neg (by simp [h])

theorem raise_timeState (code param : Nat) (p : P1) : timeState (raise code param p) = timeState p :=
  congrArg (fieldOf · 0 3) (raiseIn_sameCells _ _ _ _ kTime (by decide))

/-- The offset in use after an announced leap second. -/
def leapOffset (p : P1) : Int := ofBits 16 (toBits 16 (p.rd (ob 0x5000 0x0C) + p.rd (ob 0x5000 0x0E)))

/-- The cells after a leap second: its offset is in use, and none is announced. -/
def leapShown (p : P1) : P1 :=
  (setTime (fun x => { x with navUtc := x.navUtc.map fun _ => leapOffset p }) p).wrs
    [(ob 0x5000 0x0C, leapOffset p), (ob 0x5000 0x0E, 0), (ob 0x5000 0x0F, 0)]

theorem leapSecond_due {p : P1} (hleap : p.rd (ob 0x5000 0x0E) ≠ 0) (hset : 0 < p.rd (ob 0x5000 0x0F))
    (hcome : p.rd (ob 0x5000 0x0F) ≤ p.ns) :
    leapSecond p = record 0x0907 (packDetails [(16, leapOffset p)]) (leapShown p) :=
  if_neg (by simp [hleap, hset, hcome])

theorem leapSecond_none {p : P1} (h : p.rd (ob 0x5000 0x0E) = 0 ∨ (p.ns : Int) < p.rd (ob 0x5000 0x0F)) :
    leapSecond p = p :=
  if_pos (by rcases h with h | h <;> simp [h])

theorem leapShown_rd {p : P1} (hwf : odWf p.od = true) (k : Nat) :
    (leapShown p).rd k = if k = ob 0x5000 0x0F then 0 else if k = ob 0x5000 0x0E then 0
      else if k = ob 0x5000 0x0C then leapOffset p else p.rd k := by
  have hoffset := odWf_odPut hwf (ob 0x5000 0x0C) (leapOffset p)
  have hleap := odWf_odPut hoffset (ob 0x5000 0x0E) 0
  have hcells : (leapShown p).od =
      odPut (odPut (odPut p.od (ob 0x5000 0x0C) (leapOffset p)) (ob 0x5000 0x0E) 0) (ob 0x5000 0x0F) 0 := rfl
  rw [P1.rd, hcells, odGet_odPut hleap, odGet_odPut hoffset, odGet_odPut hwf, P1.rd]

theorem leapShown_ns (p : P1) : (leapShown p).ns = p.ns := rfl

theorem record_ns (code param : Nat) (p : P1) : (record code param p).ns = p.ns :=
  P1.ns_of_source (P1.butSource_of_record (record_butRecord code param p))

theorem timeSave_due {p : P1} (h : 60000000 ≤ p.elapsed - p.time.savedAt) : timeSave p = saveTime p := if_pos h

theorem timeSave_early {p : P1} (h : p.elapsed - p.time.savedAt < 60000000) : timeSave p = p := if_neg (Nat.not_le.mpr h)

/-- Settles O39: each event is its work where its condition holds and nothing where it does not, and the time state and the
offset in use read back beside records and alarms. -/
theorem timeKeepingEvents : Obligations.TimeKeepingEvents := by
  intro s hup hserves
  refine ⟨fun hi hnew => ⟨fun g hon hg => ?qualifying, fun g hon hg => ?unqualified, ?without⟩,
    fun g hi => onP1_idle hup (timeSecond_idle hi g), fun hok hlate => onP1_next hup (sourceLost_gnss_late hok hlate),
    fun hok hgone => onP1_next hup (sourceLost_ptp_late hok hgone), fun h => onP1_idle hup (sourceLost_gnss_early h),
    fun hstate hwf hover => ?holdover, fun h => onP1_idle hup (holdoverLimit_otherState h),
    fun v hv hleap hset hcome hwf => ?leap, fun h => onP1_idle hup (leapSecond_none h),
    fun h => onP1_next hup (timeSave_due h), fun h => onP1_idle hup (timeSave_early h),
    ?warm, fun w => ⟨_, onSup_run hserves, rfl⟩⟩
  case qualifying =>
    exact onP1_next hup (by rw [timeSecond_due hi hnew, if_pos hon, secondWork_qualifying hg]; rfl)
  case unqualified =>
    exact onP1_next hup (by rw [timeSecond_due hi hnew, if_pos hon, secondWork_unqualified hg]; rfl)
  case without =>
    exact onP1_next hup (by rw [timeSecond_due hi hnew, ite_self, secondWork_none]; rfl)
  case warm => exact onP1_next (f := fun p => showTime (p.setBit kTime 8 true)) hup rfl
  case holdover =>
    have hraised : (raise 0x0903 0 (setTimeState 0 0x0903 0 s.p1)).butSource = s.p1.butSource :=
      (P1.butSource_of_alarm (raise_butAlarm ..)).trans (setTimeState_butSource ..)
    exact ⟨_, onP1_next hup (holdoverLimit_reached hstate hover),
      (raise_timeState ..).trans (setTimeState_unqualified hwf 0x0903 0), P1.ns_of_source hraised, rfl, rfl⟩
  case leap =>
    obtain rfl : v = leapOffset s.p1 := hv
    have hrecorded := record_sameCells 0x0907 (packDetails [(16, leapOffset s.p1)]) (leapShown s.p1)
    refine ⟨_, onP1_next hup (leapSecond_due hleap hset hcome), ?_, ?_, ?_, (record_ns ..).trans (leapShown_ns s.p1), rfl,
      rfl⟩
    · exact (hrecorded _ (by decide)).trans ((leapShown_rd hwf _).trans (by simp))
    · exact (hrecorded _ (by decide)).trans ((leapShown_rd hwf _).trans (by simp))
    · exact (hrecorded _ (by decide)).trans ((leapShown_rd hwf _).trans (by simp))

end Sys2Proof.Machine
end

section
/-! SUPPORT. PTP messages and their port (R292, R306–R308), pulse outputs (R300–R302) and event inputs (R304). -/

namespace Sys2Proof.Machine

/-! ### The port of PTP (R292, R308) -/

/-- P1 but for what judging the PTP port touches before PTP is lost: the grain of the last Sync, and what a change of the time
state touches. -/
def P1.butPort (s : P1) : P1 := { s.butSource with time := { s.time.butSource with ptpLast := 0 } }

theorem P1.butPort_of_source {a b : P1} (h : b.butSource = a.butSource) : b.butPort = a.butPort :=
  congrArg (fun t : P1 => { t with time := { t.time with ptpLast := 0 } }) h

theorem judgeUtc_butCells (s : P1) : (judgeUtc s).butCells = s.butCells := by
  unfold judgeUtc
  dsimp only
  split <;> exact (P1.wr_butCells ..).trans (P1.wr_butCells ..)

theorem setTime_ptpLast_butPort (g : Nat) (s : P1) : (setTime (fun x => { x with ptpLast := g }) s).butPort = s.butPort := rfl

/-- Judging the port shows it and its master; where PTP is lost by it, the source is judged after that. -/
theorem judgePort_cases (s : P1) :
    ∃ v, v.butPort = s.butPort ∧ (judgePort s = loseSource 2 v ∨ judgePort s = v) := by
  unfold judgePort
  extract_lets old new st t gm u v lost
  refine ⟨v, ?_, ite_eq_or_eq _ _ _⟩
  have hshown : (s.wrs [(ob 0x5010 9, (st : Int)), (ob 0x5010 0x0D, (new : Int))]).butPort = s.butPort :=
    P1.butPort_of_source (P1.butSource_of_cells (P1.wrs_butCells _ s))
  have hport : t.butPort = s.butPort := (setTime_ptpLast_butPort _ _).trans hshown
  have hutc : u.butPort = s.butPort :=
    (P1.butPort_of_source (P1.butSource_of_cells (judgeUtc_butCells _))).trans hport
  simp only [v]
  split
  · exact (P1.butPort_of_source (converge_butSource u)).trans hutc
  · exact hutc

/-- P1 counts no Sync of a master that qualifies. -/
def ptpGone (s : P1) : Prop := s.time.ptpOk = false ∧ s.time.ptpRun = 0

theorem ptpGone_of_port {a b : P1} (h : b.butPort = a.butPort) (ha : ptpGone a) : ptpGone b :=
  have hok : b.butPort.time.ptpOk = a.butPort.time.ptpOk := congrArg (fun t : P1 => t.time.ptpOk) h
  have hrun : b.butPort.time.ptpRun = a.butPort.time.ptpRun := congrArg (fun t : P1 => t.time.ptpRun) h
  ⟨hok.trans ha.1, hrun.trans ha.2⟩

theorem P1.ns_of_port {a b : P1} (h : b.butPort = a.butPort) : b.ns = a.ns :=
  have hsame : b.butPort.ns = a.butPort.ns := congrArg P1.ns h
  hsame

/-- PTP without a qualification, before the source is judged. -/
def withoutPtp (s : P1) : P1 := setTime (fun x => { x with ptpOk := false, ptpRun := 0 }) s

theorem loseSource_ptp (s : P1) : loseSource 2 s = judgeSource (withoutPtp s) := rfl

theorem loseSource_ptpGone (s : P1) : ptpGone (loseSource 2 s) := by
  rw [loseSource_ptp]
  exact ptpGone_of_port (P1.butPort_of_source (judgeSource_butSource (withoutPtp s))) ⟨rfl, rfl⟩

theorem loseSource_ptp_ns (s : P1) : (loseSource 2 s).ns = s.ns := by
  rw [loseSource_ptp]
  exact (P1.ns_of_source (judgeSource_butSource (withoutPtp s))).trans rfl

theorem judgePort_ptpGone {s : P1} (h : ptpGone s) : ptpGone (judgePort s) := by
  obtain ⟨v, hport, hlost | hkept⟩ := judgePort_cases s
  · exact hlost ▸ loseSource_ptpGone v
  · exact hkept ▸ ptpGone_of_port hport h

theorem judgePort_ns (s : P1) : (judgePort s).ns = s.ns := by
  obtain ⟨v, hport, hlost | hkept⟩ := judgePort_cases s
  · rw [hlost, loseSource_ptp_ns, P1.ns_of_port hport]
  · rw [hkept, P1.ns_of_port hport]

/-! ### Messages of a master (R292, R308) -/

theorem ptpHears_disabled {p : DpPort} {s : P1} (h : s.rd (ob 0x5010 1) = 0) : ptpHears p s = false := by
  simp [ptpHears, h]

theorem ptpAnnounce_unheard {p : DpPort} {s : P1} (h : ptpHears p s = false) (a : Announce) : ptpAnnounce p a s = s :=
  if_pos (by simp [h])

theorem ptpAnnounce_heard {p : DpPort} {s : P1} (h : ptpHears p s = true) (a : Announce) :
    ptpAnnounce p a s = judgePort (setTime (fun x => { x with masters := x.masters.set (ptpIdx p) (some a) }) s) :=
  if_neg (by simp [h])

/-- A Sync of another port than the slave one, or on a port that is no slave, says nothing. -/
theorem ptpSync_elsewhere {p : DpPort} {s : P1}
    (h : s.rdN (ob 0x5010 0x0D) ≠ (ptpIdx p).val ∨ s.rd (ob 0x5010 9) ≠ 9) (o : Int) (d : Nat) : ptpSync p o d s = s :=
  if_pos (by rcases h with h | h <;> simp [h])

/-- P1 with the offset and path delay of a Sync and a run of qualifying ones, before the source is judged. -/
def syncTaken (o : Int) (d run : Nat) (s : P1) : P1 :=
  setTime (fun x => { x with
    ptpRun := run, ptpOk := x.ptpOk || 16 ≤ run, ptpLast := s.elapsed, ptp := (o, Config.freeNat s.free) })
    (s.draw.wrs [(ob 0x5010 0x0B, sat32 o), (ob 0x5010 0x0C, (min 0xFFFFFFFF d : Nat))])

/-- A Sync on the slave port is taken; its run counts to 16 and starts again at an offset above 1 µs. -/
theorem ptpSync_slave {p : DpPort} {s : P1} (hears : ptpHears p s = true) (hport : s.rdN (ob 0x5010 0x0D) = (ptpIdx p).val)
    (hslave : s.rd (ob 0x5010 9) = 9) (o : Int) (d : Nat) :
    ∃ run, run ≤ 16 ∧ (1000 < o.natAbs → run = 0) ∧ (ptpSync p o d s = converge (judgeSource (syncTaken o d run s))
      ∨ ptpSync p o d s = judgeSource (syncTaken o d run s)) := by
  have htaken : ¬(!ptpHears p s || decide (s.rdN (ob 0x5010 0x0D) ≠ (ptpIdx p).val)
      || decide (s.rd (ob 0x5010 9) ≠ 9)) = true := by
    simp [hears, hport, hslave]
  unfold ptpSync
  rw [if_neg htaken]
  extract_lets cls run t
  refine ⟨run, ?_, fun hfar => ?_, ite_eq_or_eq _ _ _⟩
  · simp only [run]
    split <;> omega
  · exact if_neg (by simp [Nat.not_le.mpr hfar])

theorem syncTaken_rd {s : P1} (hwf : odWf s.od = true) (o : Int) (d run k : Nat) :
    (syncTaken o d run s).rd k = if k = ob 0x5010 0x0C then ((min 0xFFFFFFFF d : Nat) : Int)
      else if k = ob 0x5010 0x0B then sat32 o else s.rd k := by
  have hoffset := odWf_odPut hwf (ob 0x5010 0x0B) (sat32 o)
  have hcells : (syncTaken o d run s).od =
      odPut (odPut s.od (ob 0x5010 0x0B) (sat32 o)) (ob 0x5010 0x0C) (min 0xFFFFFFFF d : Nat) := rfl
  rw [P1.rd, hcells, odGet_odPut hoffset, odGet_odPut hwf, P1.rd]

/-- Judging the source, and converging after it, leave the cells of PTP and its part of the time. -/
theorem sync_judged {x t : P1} (h : t = converge (judgeSource x) ∨ t = judgeSource x) :
    sameCells sourceCell x t ∧ t.butSource = x.butSource := by
  rcases h with rfl | rfl
  · exact ⟨(judgeSource_sameCells x).trans (converge_sameCells _), (converge_butSource _).trans (judgeSource_butSource x)⟩
  · exact ⟨judgeSource_sameCells x, judgeSource_butSource x⟩

/-! ### The timeout, and what a master sends (R292, R306, R307) -/

theorem ptpTimeout_due {s : P1} (hport : s.rdN (ob 0x5010 0x0D) < 2) (hgone : syncGone s = true) :
    ptpTimeout s = judgePort (loseSource 2
      (setTime (fun x => { x with masters := x.masters.set (s.rdN (ob 0x5010 0x0D)) none }) s)) :=
  (dif_pos hport).trans (if_pos hgone)

theorem ptpMaster_silent {s : P1} (h : ptpMasterRole s = false ∨ s.rd (ob 0x5010 0x0D) ≠ 0xFF) (b : Bool) :
    ptpMaster b s = s :=
  if_pos (by rcases h with h | h <;> simp [h])

theorem intervalDone_since (n : Int) (g : Nat) (s : P1) :
    intervalDone n (some g) s = decide (ptpGrains n ≤ s.elapsed - g) := rfl

/-- A first Sync is sent at once. -/
theorem ptpMaster_sync {s : P1} (hrole : ptpMasterRole s = true) (hport : s.rd (ob 0x5010 0x0D) = 0xFF)
    (hfirst : s.time.syncAt = none) :
    ptpMaster false s =
      netSend 6 .ptpSync (setTime (fun x => { x with syncAt := some s.elapsed }) (s.wr (ob 0x5010 9) 6)) := by
  have hmaster : ¬(!ptpMasterRole s || decide (s.rd (ob 0x5010 0x0D) ≠ 0xFF)) = true := by simp [hrole, hport]
  unfold ptpMaster
  rw [if_neg hmaster]
  dsimp only
  rw [P1.wr_time, hfirst]
  rfl

/-- Between two Syncs an Announce is sent once its interval is over. -/
theorem ptpMaster_announce {s : P1} {g h : Nat} (hrole : ptpMasterRole s = true) (hport : s.rd (ob 0x5010 0x0D) = 0xFF)
    (hsync : s.time.syncAt = some g) (hannounce : s.time.announceAt = some h)
    (hearly : s.elapsed - g < ptpGrains (s.rd (ob 0x5010 7))) (hdue : ptpGrains (s.rd (ob 0x5010 8)) ≤ s.elapsed - h) :
    ptpMaster true s = netSend 6 (.ptpAnnounce (ownQuality (s.wr (ob 0x5010 9) 6)))
      (setTime (fun x => { x with announceAt := some s.elapsed }) (s.wr (ob 0x5010 9) 6)) := by
  have hmaster : ¬(!ptpMasterRole s || decide (s.rd (ob 0x5010 0x0D) ≠ 0xFF)) = true := by simp [hrole, hport]
  have hcell (sub : Nat) (hsub : ob 0x5010 sub ≠ ob 0x5010 9) :
      (s.wr (ob 0x5010 9) 6).rd (ob 0x5010 sub) = s.rd (ob 0x5010 sub) :=
    P1.wr_rd_other hsub 6 s
  have hnosync : ¬intervalDone ((s.wr (ob 0x5010 9) 6).rd (ob 0x5010 7)) (s.wr (ob 0x5010 9) 6).time.syncAt
      (s.wr (ob 0x5010 9) 6) = true := by
    rw [hcell 7 (by decide), P1.wr_time, hsync, intervalDone_since]
    exact fun hover => Nat.not_le.mpr hearly (of_decide_eq_true hover)
  have hdone : intervalDone ((s.wr (ob 0x5010 9) 6).rd (ob 0x5010 8)) (s.wr (ob 0x5010 9) 6).time.announceAt
      (s.wr (ob 0x5010 9) 6) = true := by
    rw [hcell 8 (by decide), P1.wr_time, hannounce, intervalDone_since]
    exact decide_eq_true hdue
  unfold ptpMaster
  rw [if_neg hmaster]
  dsimp only
  rw [if_neg hnosync, hdone]
  rfl

end Sys2Proof.Machine
end

section
/-! SUPPORT. Pulse outputs (R300–R302) and event inputs (R304), with what they leave of the time. -/

namespace Sys2Proof.Machine

/-! ### Pulse outputs (R300–R302) -/

theorem ppsPulse_idle {n : Fin 2} {s : P1} (h : ppsInstant n s = none) (q : Int) : ppsPulse n q s = s := by
  simp only [ppsPulse, h]

/-- The cells of a pulse of `s` written in `u`: its count, of the suppressed or of the driven ones, and its once time, which is
spent. -/
def pulseCells (n : Fin 2) (s u : P1) : P1 :=
  let counted := if suppressing n s then u.inc (ob (0x5022 + n) 2) else u.incWrap (ppsKey n 8)
  if s.rd (ppsKey n 1) = 1 then counted.wr (ppsKey n 4) 0 else counted

/-- The time part after a pulse: its sequence number, that it is no first one, and its end where it is driven. -/
def pulseTime (n : Fin 2) (s : P1) (x : TimeState) : TimeState :=
  { x with
    ppsSeq := x.ppsSeq.set n ((x.ppsSeq[n] + 1) % 2 ^ 32), ppsFirst := x.ppsFirst.set n false
    ppsAt := x.ppsAt.set n (some s.elapsed)
    ppsEnd := if suppressing n s then x.ppsEnd else x.ppsEnd.set n (s.elapsed + s.rdN (ppsKey n 5)) }

/-- P1 with the report of a pulse at an instant. -/
def pulseReported (n : Fin 2) (i : Nat) (q : Int) (s : P1) : P1 :=
  s.setOctets (ob (0x5022 + n) 1) (pulseReport n i q (suppressing n s) s)

theorem ppsPulse_at {n : Fin 2} {i : Nat} {s : P1} (h : ppsInstant n s = some i) (q : Int) :
    ppsPulse n q s = setTime (pulseTime n s) (pulseCells n s (pulseReported n i q s)) := by
  simp only [ppsPulse, h]
  rfl

theorem pulseCells_butCells (n : Fin 2) (s u : P1) : (pulseCells n s u).butCells = u.butCells := by
  have hcounted : (if suppressing n s then u.inc (ob (0x5022 + n) 2) else u.incWrap (ppsKey n 8)).butCells = u.butCells := by
    split <;> exact P1.wr_butCells ..
  unfold pulseCells
  dsimp only
  split
  · exact (P1.wr_butCells ..).trans hcounted
  · exact hcounted

/-- A once time is spent by its pulse. -/
theorem pulseCells_once {n : Fin 2} {s u : P1} (hwf : odWf u.od = true) (h : s.rd (ppsKey n 1) = 1) :
    (pulseCells n s u).rd (ppsKey n 4) = 0 := by
  have hspent {t : P1} (ht : odWf t.od = true) : (t.wr (ppsKey n 4) 0).rd (ppsKey n 4) = 0 :=
    (P1.wr_rd ht _ _ _).trans (if_pos rfl)
  unfold pulseCells
  dsimp only
  rw [if_pos h]
  split
  · exact hspent (odWf_odPut hwf _ _)
  · exact hspent (odWf_odPut hwf _ _)

/-- A once time that has not passed, or 0, passes the test of 5020h+n:04. -/
theorem ppsOnceRule_check {n : Fin 2} {v : Int} {p : P1} (h : v = 0 ∨ (p.ns : Int) ≤ v) : (ppsOnceRule n v).check p = 0 :=
  if_neg (by simp only [Bool.and_eq_true, decide_eq_true_eq]; omega)

theorem ppsOnceRule_check_past {n : Fin 2} {v : Int} {p : P1} (hv : v ≠ 0) (h : v < p.ns) :
    (ppsOnceRule n v).check p = abRange :=
  if_pos (by simp [hv, h])

/-- A phase below the period passes the test of 5020h+n:03. -/
theorem ppsGridRule_check {n : Fin 2} {v : Int} {p : P1} (h : v < p.rd (ppsKey n 2)) :
    (ppsGridRule n true v).check p = 0 :=
  if_neg (by simp [h])

theorem ppsGridRule_check_high {n : Fin 2} {v : Int} {p : P1} (h : p.rd (ppsKey n 2) ≤ v) :
    (ppsGridRule n true v).check p = abRange :=
  if_pos (by simp [h])

/-! ### Event inputs (R304) -/

theorem evtEdge_off {n : Fin 2} {s : P1} (h : s.rd (evtKey n 1) = 0) (f : Bool) (ns : Nat) : evtEdge n f ns s = s :=
  if_pos (by simp [h])

/-- The edge that P1 saw last on an event input. -/
def edgeSeen (n : Fin 2) (ns : Nat) (s : P1) : P1 := setTime (fun x => { x with evtLast := x.evtLast.set n (some ns) }) s

/-- P1 with the event of an edge in its queue. -/
def edgeQueued (n : Fin 2) (falling : Bool) (ns : Nat) (s : P1) : P1 :=
  let event := le 8 (ns - s.rdN (evtKey n 6)) ++ le 1 (if falling then 1 else 0) ++ zeros 7
  setTime (fun x => { x with evt := x.evt.set n (x.evt[n] ++ [event]) }) (edgeSeen n ns s)

/-- With both kinds of edges selected, one that follows none is queued where the queue has room. -/
theorem evtEdge_queued {n : Fin 2} {s : P1} (hon : s.rd (evtKey n 1) ≠ 0) (hsel : s.rd (evtKey n 2) = 2)
    (hfirst : s.time.evtLast[n] = none) (hroom : (s.time.evt[n]).length < 64) (f : Bool) (ns : Nat) :
    evtEdge n f ns s =
      (edgeQueued n f ns s).wr (evtKey n 3) ((edgeQueued n f ns s).time.evt[n]).length := by
  have hfull : ¬64 ≤ (s.time.evt[n]).length := Nat.not_le.mpr hroom
  simp only [evtEdge, hsel, hon, hfirst, hfull, decide_true, decide_false, Bool.true_or, Bool.not_true, Bool.or_self,
    Bool.false_eq_true, if_false]
  rfl

/-- One that finds the queue full is counted as lost. -/
theorem evtEdge_full {n : Fin 2} {s : P1} (hon : s.rd (evtKey n 1) ≠ 0) (hsel : s.rd (evtKey n 2) = 2)
    (hfull : 64 ≤ (s.time.evt[n]).length) (f : Bool) (ns : Nat) :
    evtEdge n f ns s = (edgeSeen n ns s).inc (evtKey n 5) := by
  simp only [evtEdge, hsel, hon, hfull, decide_true, decide_false, Bool.true_or, Bool.not_true, Bool.or_self, Bool.or_true,
    Bool.false_eq_true, if_false, if_true]
  rfl

theorem edgeQueued_evt (n : Fin 2) (f : Bool) (ns : Nat) (s : P1) : (edgeQueued n f ns s).time.evt[n] =
    s.time.evt[n] ++ [le 8 (ns - s.rdN (evtKey n 6)) ++ le 1 (if f then 1 else 0) ++ zeros 7] := by
  simp [edgeQueued, edgeSeen]

theorem edgeQueued_evtLast (n : Fin 2) (f : Bool) (ns : Nat) (s : P1) :
    (edgeQueued n f ns s).time.evtLast[n] = some ns := by
  simp [edgeQueued, edgeSeen]

theorem answerWith_time (a : Answer) (s : P1) : (answerWith a s).time = s.time :=
  have hsame : (answerWith a s).butAnswer.time = s.butAnswer.time := congrArg P1.time (answerWith_butAnswer a s)
  hsame

/-- An answer with data leaves the time. -/
theorem answerData_time (w k : Nat) (b : List Byte) (s : P1) : (answerData w k b s).time = s.time := by
  unfold answerData
  split
  · rfl
  · exact answerWith_time ..

/-- A read of the events takes the oldest one. -/
theorem popEvt_evt (n : Fin 2) (s : P1) : (popEvt n s).time.evt[n] = (s.time.evt[n]).drop 1 := by
  simp [popEvt]

/-- Settles O40: each message, pulse and edge acts through the lemma of its case, and judging the source and the port leaves
the cells and counts of PTP that the statement names. -/
theorem ptpPulsesAndEventInputs : Obligations.PtpPulsesAndEventInputs := by
  intro s w hup hserves
  refine ⟨fun p a hoff => onP1_idle hup (ptpAnnounce_unheard (ptpHears_disabled hoff) a),
    fun p a hears => onP1_next hup (ptpAnnounce_heard hears a),
    fun p o d hother => onP1_idle hup (ptpSync_elsewhere hother o d), fun p o d hears hport hslave hwf => ?sync,
    fun hgone hport => ?timeout, fun b hsilent => onP1_idle hup (ptpMaster_silent hsilent b),
    fun hrole hport hfirst => onP1_next hup (ptpMaster_sync hrole hport hfirst),
    fun g h hrole hport hsync hannounce hearly hdue =>
      onP1_next hup (ptpMaster_announce hrole hport hsync hannounce hearly hdue),
    fun n q hnone => onP1_idle hup (ppsPulse_idle hnone q), fun n q i hat => ?pulse,
    fun n v hacc hv => onReq_check hserves hacc (ppsOnceRule_check (n := n) hv),
    fun n v hacc hv hpast => onReq_checkRefused hserves hacc (by decide) rfl (ppsOnceRule_check_past hv hpast),
    fun n v hacc => onReq_effect (r := ppsGridRule n false v) hserves hacc rfl rfl rfl rfl,
    fun n v hacc hlow => onReq_effect (r := ppsGridRule n true v) hserves hacc rfl (ppsGridRule_check hlow) rfl rfl,
    fun n v hacc hhigh => onReq_checkRefused hserves hacc (by decide) rfl (ppsGridRule_check_high hhigh),
    fun n f ns hoff => onP1_idle hup (evtEdge_off hoff f ns), fun n f ns hon hsel hfirst hroom => ?queued,
    fun n f ns hon hsel hfull => ⟨_, onP1_next hup (evtEdge_full hon hsel hfull f ns), rfl⟩,
    fun n => ?read⟩
  case sync =>
    obtain ⟨run, hle, hfar, hjudged⟩ := ptpSync_slave hears hport hslave o d
    obtain ⟨hcells, hsame⟩ := sync_judged hjudged
    have htime := P1.time_of_source hsame
    have hrun : (ptpSync p o d s.p1).time.ptpRun = run := congrArg TimeState.ptpRun htime
    have hoffset : (ptpSync p o d s.p1).time.ptp = (o, Config.freeNat s.p1.free) := congrArg TimeState.ptp htime
    have hns : (ptpSync p o d s.p1).ns = (syncTaken o d run s.p1).ns := P1.ns_of_source hsame
    refine ⟨_, onP1_next hup rfl, ?_, ?_, congrArg Prod.fst hoffset, hrun ▸ hle, fun h => hrun.trans (hfar h), hns, rfl,
      rfl⟩
    · exact (hcells _ (by decide)).trans ((syncTaken_rd hwf o d run _).trans (by simp))
    · exact (hcells _ (by decide)).trans ((syncTaken_rd hwf o d run _).trans (by simp))
  case timeout =>
    obtain ⟨hok, hrun⟩ := judgePort_ptpGone (loseSource_ptpGone
      (setTime (fun x => { x with masters := x.masters.set (s.p1.rdN (ob 0x5010 0x0D)) none }) s.p1))
    exact ⟨_, onP1_next hup (ptpTimeout_due hport hgone), hok, hrun, (judgePort_ns _).trans (loseSource_ptp_ns _)⟩
  case pulse =>
    have hcells := pulseCells_butCells n s.p1 (pulseReported n i q s.p1)
    have htime : (pulseCells n s.p1 (pulseReported n i q s.p1)).time = s.p1.time :=
      (P1.time_of_cells hcells).trans rfl
    have hns : (pulseCells n s.p1 (pulseReported n i q s.p1)).ns = s.p1.ns :=
      (P1.ns_of_source (P1.butSource_of_cells hcells)).trans rfl
    refine ⟨_, onP1_next hup (ppsPulse_at hat q), (P1.octets_of_cells hcells _).trans (P1.setOctets_octets ..), ?_, ?_,
      fun hwf honce => pulseCells_once (u := pulseReported n i q s.p1) hwf honce, hns⟩
    · simp [State.core, pulseTime, htime]
    · simp [State.core, pulseTime]
  case queued =>
    exact ⟨_, onP1_next hup (evtEdge_queued hon hsel hfirst hroom f ns), edgeQueued_evt n f ns s.p1,
      edgeQueued_evtLast n f ns s.p1⟩
  case read =>
    have hread := onSup_run (f := fun t => answerData w (evtKey n 4) (nextEvt n t) (popEvt n t)) hserves
    exact ⟨_, hread, (congrArg (fun x : TimeState => x.evt[n]) (answerData_time ..)).trans (popEvt_evt n s.p1)⟩

end Sys2Proof.Machine
end

section
/-! SUPPORT. GNSS channels (R310–R312): the channel that a command changes, what the display of tracking touches, and what an
assignment leaves on an antenna. -/

namespace Sys2Proof.Machine

/-! ### One channel (R312) -/

theorem chanNo_inj {a b : Fin 3} {c d : Fin 64} (h : chanNo a c = chanNo b d) : a = b ∧ c = d := by
  have hval : 64 * a.val + c.val = 64 * b.val + d.val := congrArg Fin.val h
  exact ⟨Fin.ext (by omega), Fin.ext (by omega)⟩

theorem setChan_same (a : Fin 3) (c : Fin 64) (f : GnssChan → GnssChan) (s : P1) :
    (setChan a c f s).time.chans[chanNo a c] = f s.time.chans[chanNo a c] := by
  simp [setChan, upd]

theorem setChan_other {a : Fin 3} {c : Fin 64} {j : Fin 192} (h : j ≠ chanNo a c) (f : GnssChan → GnssChan) (s : P1) :
    (setChan a c f s).time.chans[j] = s.time.chans[j] := by
  have hval : (chanNo a c).val ≠ j.val := fun he => h (Fin.ext he.symm)
  simp [setChan, upd, hval]

/-- A change that leaves the channel leaves them all. -/
theorem setChan_unchanged {a : Fin 3} {c : Fin 64} {f : GnssChan → GnssChan} {s : P1}
    (h : f s.time.chans[chanNo a c] = s.time.chans[chanNo a c]) : (setChan a c f s).time.chans = s.time.chans := by
  change s.time.chans.set (chanNo a c) (f s.time.chans[chanNo a c]) = s.time.chans
  rw [h]
  simp

/-! ### What the display of tracking touches (R316, R324, R325) -/

theorem setBaseline_butRecord (k : Fin 3) (on : Bool) (s : P1) : (setBaseline k on s).butRecord = s.butRecord :=
  (record_butRecord ..).trans rfl

theorem dropBaselines_butRecord (s : P1) : (dropBaselines s).butRecord = s.butRecord :=
  List.foldlRecOn (motive := fun t : P1 => t.butRecord = s.butRecord) _ _ rfl fun t ht k _ => by
    split
    · exact (setBaseline_butRecord k false t).trans ht
    · exact ht

theorem showTrack_butRecord (s : P1) : (showTrack s).butRecord = s.butRecord := by
  unfold showTrack
  dsimp only
  refine List.foldlRecOn (motive := fun t : P1 => t.butRecord = s.butRecord) _ _ ?_ fun t ht a _ => ?_
  · exact (P1.butRecord_of_cells (P1.setField_butCells ..)).trans (dropBaselines_butRecord s)
  · exact (P1.butRecord_of_cells (P1.wr_butCells ..)).trans ht

theorem showTrack_time (s : P1) : (showTrack s).time = s.time := P1.time_of_record (showTrack_butRecord s)

/-! ### Locks (R312) -/

/-- A channel that gains locks: one with an assignment gains those it shows. -/
def gainLocks (code carrier pll : Bool) (now : Nat) (x : GnssChan) : GnssChan :=
  if x.asg.isNone then x
  else { x with code := x.code || code, carrier := x.carrier || carrier, fll := if carrier || x.carrier then !pll else x.fll
                since := if carrier && !x.carrier then now else x.since }

/-- A channel that loses locks. -/
def dropLocks (code carrier : Bool) (x : GnssChan) : GnssChan :=
  let y := if code then { x with code := false } else x
  if carrier then { y with carrier := false, fll := false, half := false, slip := x.slip || x.carrier } else y

theorem channelLock_off {a : Fin 3} {c : Fin 64} {s : P1} (h : basebandOn s = false) (x y z : Bool) :
    channelLock a c x y z s = s :=
  if_neg (by simp [h])

theorem channelLock_on {a : Fin 3} {c : Fin 64} {s : P1} (hon : basebandOn s = true)
    (hworks : s.stopped (unitAddr 1 1 0 a c) = false) (x y z : Bool) :
    channelLock a c x y z s = showTrack (setChan a c (gainLocks x y z s.elapsed) s) :=
  if_pos (by simp [hon, hworks])

theorem channelLoss_eq (a : Fin 3) (c : Fin 64) (x y : Bool) (s : P1) :
    channelLoss a c x y s = showTrack (setChan a c (dropLocks x y) s) := rfl

theorem gainLocks_unassigned {v : GnssChan} (h : v.asg = none) (x y z : Bool) (now : Nat) : gainLocks x y z now v = v :=
  if_pos (by simp [h])

theorem gainLocks_assigned {v : GnssChan} (h : v.asg.isSome = true) (x y z : Bool) (now : Nat) :
    (gainLocks x y z now v).code = (v.code || x) ∧ (gainLocks x y z now v).carrier = (v.carrier || y) := by
  have hasg : ¬v.asg.isNone = true := by simpa [Option.isSome_iff_ne_none] using h
  unfold gainLocks
  rw [if_neg hasg]
  exact ⟨rfl, rfl⟩

theorem dropLocks_locks (x y : Bool) (v : GnssChan) :
    (dropLocks x y v).code = (v.code && !x) ∧ (dropLocks x y v).carrier = (v.carrier && !y)
      ∧ (dropLocks x y v).slip = (v.slip || (y && v.carrier)) := by
  cases x <;> cases y <;> simp [dropLocks]

/-! ### Assignments (R311) -/

theorem channelAssign_off {a : Fin 3} {s : P1} (h : basebandOn s = false) (v : List SatView) : channelAssign a v s = s :=
  if_pos (by simp [h])

/-- A channel keeps a pair of the plan. -/
def keepPlanned (plan : List (Constellation × Nat × Nat)) (c : GnssChan) : GnssChan :=
  match c.asg with
  | some g => if plan.contains g then c else idleChan
  | none => c

/-- A channel holds no pair outside the plan. -/
def inPlan (plan : List (Constellation × Nat × Nat)) (c : GnssChan) : Prop := ∀ g, c.asg = some g → plan.contains g = true

theorem keepPlanned_inPlan (plan : List (Constellation × Nat × Nat)) (c : GnssChan) : inPlan plan (keepPlanned plan c) := by
  intro g hg
  unfold keepPlanned at hg
  split at hg
  · next h hasg =>
    split at hg
    · next hin =>
      obtain rfl : h = g := Option.some.inj (hasg.symm.trans hg)
      exact hin
    · cases hg
  · next hasg => exact absurd (hasg.symm.trans hg) (by simp)

/-- The channels of an antenna with the pairs outside the plan given up. -/
def giveUpUnplanned (a : Fin 3) (plan : List (Constellation × Nat × Nat)) (l : List (Fin 64)) (s : P1) : P1 :=
  l.foldl (fun t (c : Fin 64) => setChan a c (keepPlanned plan) t) s

theorem giveUpUnplanned_inPlan {a : Fin 3} {plan : List (Constellation × Nat × Nat)} :
    ∀ (l : List (Fin 64)) (s : P1) (c : Fin 64), c ∈ l ∨ inPlan plan s.time.chans[chanNo a c] →
      inPlan plan (giveUpUnplanned a plan l s).time.chans[chanNo a c]
  | [], _, _, h => h.resolve_left (by simp)
  | d :: l, s, c, h => by
    refine giveUpUnplanned_inPlan l (setChan a d (keepPlanned plan) s) c ?_
    by_cases hcd : c = d
    · subst hcd
      exact .inr (setChan_same a c _ s ▸ keepPlanned_inPlan plan _)
    · have hother : chanNo a c ≠ chanNo a d := fun he => hcd (chanNo_inj he).2
      exact h.imp (fun hmem => (List.mem_cons.mp hmem).resolve_left hcd) fun hin => (setChan_other hother _ s).symm ▸ hin

/-- A new pair of the plan goes to a channel of its antenna. -/
theorem assignPair_cases (a : Fin 3) (g : Constellation × Nat × Nat) (s : P1) :
    (∃ c, assignPair a g s = setChan a c (fun _ => { idleChan with asg := some g }) s) ∨ assignPair a g s = s := by
  unfold assignPair
  split
  · exact .inl ⟨_, rfl⟩
  · exact .inr rfl

theorem assignPair_inPlan {a : Fin 3} {plan : List (Constellation × Nat × Nat)} {g : Constellation × Nat × Nat} {s : P1}
    (hg : g ∈ plan) (hs : ∀ c, inPlan plan s.time.chans[chanNo a c]) (c : Fin 64) :
    inPlan plan (assignPair a g s).time.chans[chanNo a c] := by
  rcases assignPair_cases a g s with ⟨d, h⟩ | h
  · rw [h]
    by_cases hcd : c = d
    · subst hcd
      rw [setChan_same]
      intro x hx
      obtain rfl : g = x := Option.some.inj hx
      exact List.contains_iff_mem.mpr hg
    · rw [setChan_other fun he => hcd (chanNo_inj he).2]
      exact hs c
  · rw [h]
    exact hs c

/-- P1 with the channels of an antenna assigned by a plan. -/
def planAssigned (a : Fin 3) (plan : List (Constellation × Nat × Nat)) (s : P1) : P1 :=
  let t := giveUpUnplanned a plan (List.finRange 64) s
  (plan.filter fun g => !((antennaChans a t).filterMap fun e => e.2.asg).contains g).foldl (fun u g => assignPair a g u) t

theorem channelAssign_due {a : Fin 3} {s : P1} (hon : basebandOn s = true)
    (hdue : ∀ g, s.time.assignAt[a] = some g → 1000000 ≤ s.elapsed - g) (v : List SatView) :
    channelAssign a v s = showTrack (planAssigned a (channelPlan v s)
      (setTime (fun x => { x with assignAt := x.assignAt.set a (some s.elapsed) }) s)) := by
  refine if_neg ?_
  cases hat : s.time.assignAt[a] with
  | none => simp [hon]
  | some g => simp [hon, hdue g hat]

theorem planAssigned_inPlan (a : Fin 3) (plan : List (Constellation × Nat × Nat)) (s : P1) (c : Fin 64) :
    inPlan plan (planAssigned a plan s).time.chans[chanNo a c] :=
  List.foldlRecOn (motive := fun t : P1 => ∀ c, inPlan plan t.time.chans[chanNo a c]) _ _
    (fun c => giveUpUnplanned_inPlan _ s c (.inl (List.mem_finRange c)))
    (fun _ ht g hg => assignPair_inPlan (List.mem_of_mem_filter hg) ht) c

/-- The channels of another antenna stay. -/
theorem planAssigned_otherAntenna {a b : Fin 3} (h : b ≠ a) (plan : List (Constellation × Nat × Nat)) (s : P1) (c : Fin 64) :
    (planAssigned a plan s).time.chans[chanNo b c] = s.time.chans[chanNo b c] := by
  have hother (d : Fin 64) (f : GnssChan → GnssChan) (t : P1) :
      (setChan a d f t).time.chans[chanNo b c] = t.time.chans[chanNo b c] :=
    setChan_other (fun he => h (chanNo_inj he).1) f t
  have hkept : (giveUpUnplanned a plan (List.finRange 64) s).time.chans[chanNo b c] = s.time.chans[chanNo b c] :=
    List.foldlRecOn (motive := fun t : P1 => t.time.chans[chanNo b c] = s.time.chans[chanNo b c]) _ _ rfl
      fun t ht d _ => (hother d _ t).trans ht
  refine List.foldlRecOn (motive := fun t : P1 => t.time.chans[chanNo b c] = s.time.chans[chanNo b c]) _ _ hkept
    fun t ht g _ => ?_
  rcases assignPair_cases a g t with ⟨d, hd⟩ | hd
  · exact hd ▸ (hother d _ t).trans ht
  · rwa [hd]

end Sys2Proof.Machine
end

section
/-! SUPPORT. GNSS epochs (R313–R316), antennas (R317), and the sleep of the baseband (R318, R319). -/

namespace Sys2Proof.Machine

/-! ### A bit of the GNSS status beside an operation (R325) -/

/-- An operation keeps the canonical form of the cells and a bit of the GNSS status. -/
def GnssBitKept (n : Nat) (a b : P1) : Prop := odWf a.od = true → odWf b.od = true ∧ b.bit kGnss n = a.bit kGnss n

theorem GnssBitKept.of_od {n : Nat} {a b : P1} (h : b.od = a.od) : GnssBitKept n a b :=
  fun hwf => ⟨h ▸ hwf, congrArg (fun o => bitOf (odGet o kGnss) n) h⟩

theorem GnssBitKept.trans {n : Nat} {a b c : P1} (hab : GnssBitKept n a b) (hbc : GnssBitKept n b c) : GnssBitKept n a c :=
  fun hwf => ⟨(hbc (hab hwf).1).1, (hbc (hab hwf).1).2.trans (hab hwf).2⟩

theorem GnssBitKept.of_cells {n : Nat} {but : Nat → Bool} {a b : P1} (h : CellsKept but a b) (hk : but kGnss = false) :
    GnssBitKept n a b :=
  fun hwf => ⟨h.canonical hwf, congrArg (bitOf · n) (h.same hwf kGnss hk)⟩

/-- A write of another cell. -/
theorem GnssBitKept.wr {n k : Nat} (hk : kGnss ≠ k) (v : Int) (s : P1) : GnssBitKept n s (s.wr k v) :=
  fun hwf => ⟨odWf_odPut hwf k v, congrArg (bitOf · n) (P1.wr_rd_other hk v s)⟩

/-- A write of another bit. -/
theorem GnssBitKept.setBit {n m : Nat} (h : n ≠ m) (b : Bool) (s : P1) : GnssBitKept n s (s.setBit kGnss m b) :=
  fun hwf => ⟨odWf_odPut hwf _ _, by rw [P1.bit, P1.setBit_rd hwf, if_pos rfl, bitOf_withBit_other _ _ _ _ h, P1.bit]⟩

/-- A write of a field above. -/
theorem GnssBitKept.setField {n lo : Nat} (h : n < lo) (width x : Nat) (s : P1) :
    GnssBitKept n s (s.setField kGnss lo width x) :=
  fun hwf => ⟨odWf_odPut hwf _ _, by rw [P1.bit, P1.setField_rd hwf, if_pos rfl, bitOf_withField_below _ _ _ _ _ h, P1.bit]⟩

theorem GnssBitKept.record {n : Nat} (code param : Nat) (s : P1) : GnssBitKept n s (record code param s) :=
  .of_cells (record_cellsKept code param s) (by decide)

/-- Writes of other cells. -/
theorem GnssBitKept.wrs {n : Nat} {l : List (Nat × Int)} (h : ∀ e ∈ l, kGnss ≠ e.1) (s : P1) : GnssBitKept n s (s.wrs l) :=
  fun hwf => ⟨odWf_wrs hwf l, congrArg (bitOf · n) (P1.wrs_rd_other h s)⟩

/-- A fold of operations that each keep the bit. -/
theorem GnssBitKept.foldl {n : Nat} {α : Type} {f : P1 → α → P1} (hf : ∀ t a, GnssBitKept n t (f t a)) (l : List α)
    (s : P1) : GnssBitKept n s (l.foldl f s) :=
  List.foldlRecOn (motive := GnssBitKept n s) l f (.of_od rfl) fun t ht a _ => ht.trans (hf t a)

theorem setBaseline_bitKept {n : Nat} (h : n < 3) (k : Fin 3) (on : Bool) (s : P1) : GnssBitKept n s (setBaseline k on s) :=
  (GnssBitKept.setBit (by omega) on s).trans (.record _ _ _)

theorem dropBaselines_bitKept {n : Nat} (h : n < 3) (s : P1) : GnssBitKept n s (dropBaselines s) :=
  GnssBitKept.foldl (fun t k => by
    split
    · exact setBaseline_bitKept h k false t
    · exact .of_od rfl) _ s

/-- The display of tracking leaves the sleep, the start and the fix shown. -/
theorem showTrack_bitKept {n : Nat} (h : n < 3) (s : P1) : GnssBitKept n s (showTrack s) := by
  have hcell (a : Fin 3) : kGnss ≠ ob (0x5101 + a) 4 := by revert a; decide
  unfold showTrack
  dsimp only
  exact ((dropBaselines_bitKept h s).trans (.setField (by omega) _ _ _)).trans
    (GnssBitKept.foldl (fun t a => .wr (hcell a) _ t) _ _)

theorem clearChans_bitKept {n : Nat} (h : n < 3) (s : P1) : GnssBitKept n s (clearChans s) :=
  (GnssBitKept.of_od (setTime_od _ s)).trans (showTrack_bitKept h _)

theorem clearChans_time (s : P1) :
    (clearChans s).time = { s.time with chans := Vector.replicate 192 idleChan, baseRun := Vector.replicate 3 0 } :=
  showTrack_time _

/-! ### Starts and sleep of the baseband (R318, R319) -/

/-- The bits of the GNSS status that sleep, a start and the end of the fix write. -/
def powerShown (asleep starting : Bool) (s : P1) : P1 := s.setBits kGnss [(0, asleep), (1, starting), (2, false)]

theorem powerShown_rd {p : P1} (hwf : odWf p.od = true) (asleep starting : Bool) :
    odWf (powerShown asleep starting p).od = true ∧ (powerShown asleep starting p).bit kGnss 0 = asleep
      ∧ (powerShown asleep starting p).bit kGnss 1 = starting := by
  have hasleep := odWf_odPut hwf kGnss (withBit (p.rd kGnss) 0 asleep)
  have hstart : odWf ((p.setBit kGnss 0 asleep).setBit kGnss 1 starting).od = true := odWf_odPut hasleep _ _
  have hcell : (powerShown asleep starting p).rd kGnss =
      withBit (withBit (withBit (p.rd kGnss) 0 asleep) 1 starting) 2 false := by
    change (((p.setBit kGnss 0 asleep).setBit kGnss 1 starting).setBit kGnss 2 false).rd kGnss = _
    rw [P1.setBit_rd hstart, if_pos rfl, P1.setBit_rd hasleep, if_pos rfl, P1.setBit_rd hwf, if_pos rfl]
  refine ⟨odWf_odPut hstart _ _, ?_, ?_⟩
  · rw [P1.bit, hcell, bitOf_withBit_other _ _ _ _ (by decide), bitOf_withBit_other _ _ _ _ (by decide), bitOf_withBit]
  · rw [P1.bit, hcell, bitOf_withBit_other _ _ _ _ (by decide), bitOf_withBit]

/-- A start leaves the baseband awake and starting. -/
theorem gnssStart_bits {p : P1} (hwf : odWf p.od = true) (kind : Nat) :
    (gnssStart kind p).bit kGnss 0 = false ∧ (gnssStart kind p).bit kGnss 1 = true := by
  obtain ⟨hshown, hasleep, hstarting⟩ := powerShown_rd hwf false true
  have hkept {n : Nat} (h : n < 3) : GnssBitKept n (powerShown false true p) (gnssStart kind p) :=
    ((GnssBitKept.setField (by omega) 2 kind _).trans (clearChans_bitKept h _)).trans (.of_od (setTime_od _ _))
  exact ⟨(hkept (by decide) hshown).2.trans hasleep, (hkept (by decide) hshown).2.trans hstarting⟩

theorem gnssWake_due {s : P1} (hmode : s.mode = 0) (hasleep : s.bit kGnss 0 = true)
    (hdue : s.rdN (ob 0x5100 0x0A) * 1000000 ≤ s.elapsed - s.time.wakeLast) :
    gnssWake s = setTime (fun x => { x with wakeFrom := some s.elapsed, wakeLast := s.elapsed }) (gnssStart 0 s) :=
  if_pos (by simp [hmode, hasleep, hdue])

theorem gnssWake_bits {s : P1} (hwf : odWf s.od = true) (f : TimeState → TimeState) :
    (setTime f (gnssStart 0 s)).bit kGnss 0 = false ∧ (setTime f (gnssStart 0 s)).bit kGnss 1 = true := by
  rw [P1.bit, P1.bit, setTime_rd]
  exact gnssStart_bits hwf 0

theorem gnssWake_elsewhere {s : P1} (h : s.mode ≠ 0) : gnssWake s = s := if_neg (by simp [h])

theorem gnssWakeEnd_due {s : P1} (hmode : s.mode = 0) (hwake : s.time.wakeFrom.isSome = true) :
    gnssWakeEnd s = gnssSleep s :=
  if_pos (by simp [hmode, hwake])

theorem gnssWakeEnd_elsewhere {s : P1} (h : s.mode ≠ 0) : gnssWakeEnd s = s := if_neg (by simp [h])

/-- The baseband asleep, before the source is judged: no wake, no start, no channel, and GNSS not qualified. -/
def fallenAsleep (s : P1) : P1 :=
  setTime (fun x => { x with gnssOk := false, gnssRun := 0 })
    (setTime (fun x => { x with startFrom := none, wakeFrom := none }) (clearChans (powerShown true false s)))

theorem gnssSleep_eq (s : P1) : gnssSleep s = judgeSource (fallenAsleep s) := congrArg judgeSource rfl

theorem fallenAsleep_time (s : P1) : (fallenAsleep s).time.wakeFrom = none
    ∧ (fallenAsleep s).time.chans = Vector.replicate 192 idleChan :=
  ⟨rfl, congrArg TimeState.chans (clearChans_time (powerShown true false s))⟩

theorem TimeState.wake_of_source {x y : TimeState} (h : y.butSource = x.butSource) :
    y.wakeFrom = x.wakeFrom ∧ y.chans = x.chans :=
  have hwake : y.butSource.wakeFrom = x.butSource.wakeFrom := congrArg TimeState.wakeFrom h
  have hchans : y.butSource.chans = x.butSource.chans := congrArg TimeState.chans h
  ⟨hwake, hchans⟩

theorem gnssSleep_time (s : P1) : (gnssSleep s).time.wakeFrom = none
    ∧ (gnssSleep s).time.chans = Vector.replicate 192 idleChan := by
  obtain ⟨hwake, hchans⟩ := fallenAsleep_time s
  rw [gnssSleep_eq, ← hwake, ← hchans]
  exact TimeState.wake_of_source (P1.time_of_source (judgeSource_butSource (fallenAsleep s)))

theorem gnssSleep_asleep {p : P1} (hwf : odWf p.od = true) : (gnssSleep p).bit kGnss 0 = true := by
  obtain ⟨hshown, hasleep, -⟩ := powerShown_rd hwf true false
  have hkept : GnssBitKept 0 (powerShown true false p) (fallenAsleep p) :=
    ((clearChans_bitKept (by decide) _).trans (.of_od (setTime_od _ _))).trans (.of_od (setTime_od _ _))
  have hjudged : (judgeSource (fallenAsleep p)).bit kGnss 0 = (fallenAsleep p).bit kGnss 0 :=
    congrArg (bitOf · 0) (judgeSource_sameCells (fallenAsleep p) kGnss (by decide))
  rw [gnssSleep_eq]
  exact hjudged.trans ((hkept hshown).2.trans hasleep)

/-! ### Antennas (R317) -/

/-- The cells of an antenna that show its state and its current. -/
def antennaShown (a : Fin 3) (limited : Bool) (current : Nat) (s : P1) : P1 :=
  s.wrs [(ob (0x5101 + a) 2, antennaCode a limited current s), (ob (0x5101 + a) 3, (min 65535 current : Nat))]

theorem antennaState_same {a : Fin 3} {limited : Bool} {current : Nat} {s : P1}
    (h : s.rdN (ob (0x5101 + a) 2) = antennaCode a limited current s) :
    antennaState a limited current s = antennaShown a limited current s :=
  if_pos h

theorem antennaShown_rd {p : P1} (hwf : odWf p.od = true) (a : Fin 3) (limited : Bool) (current k : Nat) :
    (antennaShown a limited current p).rd k = if k = ob (0x5101 + a) 3 then ((min 65535 current : Nat) : Int)
      else if k = ob (0x5101 + a) 2 then (antennaCode a limited current p : Int) else p.rd k := by
  have hcode := odWf_odPut hwf (ob (0x5101 + a) 2) (antennaCode a limited current p)
  exact (P1.wr_rd hcode _ k _).trans (by rw [← P1.wr_rd hwf])

theorem antennaShown_time (a : Fin 3) (limited : Bool) (current : Nat) (s : P1) :
    (antennaShown a limited current s).time = s.time :=
  P1.time_of_cells (P1.wrs_butCells _ s)

/-- A rising alarm leaves the cells of an antenna. -/
theorem raiseCell_antenna (a : Fin 3) :
    raiseCell (ob (0x5101 + a) 2) = false ∧ raiseCell (ob (0x5101 + a) 3) = false := by
  revert a
  decide

/-- A changed state is recorded, and the alarm of the antenna follows it. -/
theorem antennaState_touches (a : Fin 3) (limited : Bool) (current : Nat) (s : P1) :
    sameCells raiseCell (antennaShown a limited current s) (antennaState a limited current s)
      ∧ (antennaState a limited current s).butAlarm = (antennaShown a limited current s).butAlarm := by
  have hrecorded (p q : Nat) (t : P1) : sameCells raiseCell t (record 0x090A p (lower 0x090A q t))
      ∧ (record 0x090A p (lower 0x090A q t)).butAlarm = t.butAlarm :=
    ⟨((lower_sameCells _ _ t).mono raiseCell_of_alarmCell).trans
      ((record_sameCounters _ _ _).mono raiseCell_of_answerCounter),
      (P1.butAlarm_of_can (P1.butCan_of_record (record_butRecord ..))).trans (lower_butAlarm ..)⟩
  unfold antennaState
  extract_lets old n p t
  split
  · exact ⟨.refl _ _, rfl⟩
  · obtain ⟨hcells, hsame⟩ := hrecorded (p n) (p old) t
    split
    · exact ⟨hcells.trans (raiseIn_sameCells _ _ _ _), (raise_butAlarm ..).trans hsame⟩
    · exact ⟨hcells, hsame⟩

/-! ### Epochs (R313–R316) -/

/-- The time part but for what the results of an epoch touch: baselines, the offset of a navigation message, and the end of a
start. -/
def TimeState.butResults (x : TimeState) : TimeState :=
  { x with baseRun := Vector.replicate 3 0, navUtc := none, startFrom := none, almanac := false }

/-- P1 but for what the results of an epoch touch beside its channels and contents. -/
def P1.butResults (s : P1) : P1 := { s with od := [], recorder := Recorder.reset, free := 0, time := s.time.butResults }

theorem setTime_butResults {f : TimeState → TimeState} (h : ∀ x, (f x).butResults = x.butResults) (s : P1) :
    (setTime f s).butResults = s.butResults :=
  congrArg (fun x : TimeState => { s with od := [], recorder := Recorder.reset, free := 0, time := x }) (h s.time)

theorem P1.butResults_of_record {a b : P1} (h : b.butRecord = a.butRecord) : b.butResults = a.butResults :=
  have hsame : b.butRecord.butResults = a.butRecord.butResults := congrArg P1.butResults h
  hsame

theorem P1.butResults_of_cells {a b : P1} (h : b.butCells = a.butCells) : b.butResults = a.butResults :=
  P1.butResults_of_record (P1.butRecord_of_cells h)

theorem judgeBaseline_touches {n : Nat} (hn : n < 3) (k : Fin 3) (o : BaselineObs) (s : P1) :
    (judgeBaseline k o s).butResults = s.butResults ∧ GnssBitKept n s (judgeBaseline k o s) := by
  have hset (on : Bool) (f : TimeState → TimeState) : (setBaseline k on (setTime f s)).butResults = (setTime f s).butResults
      ∧ GnssBitKept n s (setBaseline k on (setTime f s)) :=
    ⟨P1.butResults_of_record (setBaseline_butRecord ..),
      (GnssBitKept.of_od (setTime_od f s)).trans (setBaseline_bitKept hn _ _ _)⟩
  unfold judgeBaseline
  extract_lets common good run t on
  split
  · exact hset _ _
  · split
    · exact hset _ _
    · exact ⟨rfl, .of_od rfl⟩

theorem judgeUtc_bitKept (n : Nat) (s : P1) : GnssBitKept n s (judgeUtc s) := by
  have hwrites (v : Int) (b : Bool) : GnssBitKept n s ((s.wr (ob 0x5000 0x0C) v).setBit kTime 9 b) :=
    (GnssBitKept.wr (by decide) v s).trans (.wr (by decide) _ _)
  unfold judgeUtc
  dsimp only
  split
  · exact hwrites _ _
  · exact hwrites _ _
  · exact hwrites _ _

theorem readNavigation_touches (n : Nat) (s : P1) :
    (readNavigation s).butResults = s.butResults ∧ GnssBitKept n s (readNavigation s) := by
  unfold readNavigation
  extract_lets m t
  split
  · exact ⟨rfl, .of_od rfl⟩
  · refine ⟨(P1.butResults_of_cells (judgeUtc_butCells _)).trans ((P1.butResults_of_cells (P1.wrs_butCells _ _)).trans
      ((setTime_butResults (fun _ => rfl) t).trans rfl)), ?_⟩
    exact ((GnssBitKept.of_od (setTime_od _ t)).trans (.wrs (by simp only [List.forall_mem_cons]; decide) (setTime _ t))).trans
      (judgeUtc_bitKept n _)

theorem startEnds_touches (s : P1) : (startEnds s).butResults = s.butResults ∧ GnssBitKept 2 s (startEnds s) := by
  have hset : (s.setBit kGnss 1 false).butCells = s.butCells := P1.wr_butCells ..
  have hended (f : TimeState → TimeState) (hf : ∀ x, (f x).butResults = x.butResults) (v : Int) :
      ((setTime f (s.setBit kGnss 1 false)).wr (ob 0x5100 0x0C) v).butResults = s.butResults
        ∧ GnssBitKept 2 s ((setTime f (s.setBit kGnss 1 false)).wr (ob 0x5100 0x0C) v) :=
    ⟨(P1.butResults_of_cells (P1.wr_butCells ..)).trans
      ((setTime_butResults hf _).trans (P1.butResults_of_cells hset)),
      ((GnssBitKept.setBit (by decide) false s).trans (.of_od (setTime_od f _))).trans (.wr (by decide) v _)⟩
  unfold startEnds
  split
  · exact ⟨rfl, .of_od rfl⟩
  · refine hended _ ?_ _
    exact fun _ => rfl

end Sys2Proof.Machine
end

section
/-! SUPPORT. The stages of an epoch (R313–R316) and what each leaves of the channels, the contents and the GNSS status. -/

namespace Sys2Proof.Machine

/-- P1 with the content of each antenna, before anything of the epoch is judged. -/
def epochReported (o : List (Fin 3 × ChannelObs)) (s : P1) : P1 :=
  (List.finRange 3).foldl (fun t (a : Fin 3) => t.setOctets (ob 0x5110 (a + 1)) (epochContent a o s)) s

/-- What an observation says of the half cycle of its channel. -/
def noteHalf (t : P1) (o : Fin 3 × ChannelObs) : P1 :=
  setChan o.1 o.2.channel (fun c => { c with half := c.carrier && o.2.halfCycle }) t

/-- P1 with an epoch latched: its observations are noted, and the slips that it has shown are cleared. -/
def epochLatched (o : List (Fin 3 × ChannelObs)) (s : P1) : P1 :=
  setTime (fun x => { x with chans := x.chans.map fun c => { c with slip := false }, epochAt := some s.elapsed })
    (o.foldl noteHalf ((epochReported o s).drawN 1536))

/-- P1 with the baselines of an epoch judged. -/
def baselinesJudged (b : List BaselineObs) (s : P1) : P1 :=
  (List.finRange 3).foldl (fun t (k : Fin 3) => match b[k.val]? with
    | some x => judgeBaseline k x t
    | none => t) s

/-- P1 with an epoch latched and judged, and whether it has a fix shown. -/
def epochJudged (fixed : Bool) (o : List (Fin 3 × ChannelObs)) (b : List BaselineObs) (s : P1) : P1 :=
  let t := (baselinesJudged b (epochLatched o s)).setBit kGnss 2 fixed
  if o.any fun x => decodesUtc x s then readNavigation t else t

theorem gnssEpoch_off {s : P1} (h : basebandOn s = false) (f : Option EpochFix) (o : List (Fin 3 × ChannelObs))
    (b : List BaselineObs) : gnssEpoch f o b s = s :=
  if_pos (by simp [h])

theorem gnssEpoch_withoutFix {s : P1} (hon : basebandOn s = true) (hdue : epochDue s = true)
    (o : List (Fin 3 × ChannelObs)) (b : List BaselineObs) : gnssEpoch none o b s = epochJudged false o b s :=
  if_neg (by simp [hon, hdue])

theorem gnssEpoch_withFix {s : P1} (hon : basebandOn s = true) (hdue : epochDue s = true) (f : EpochFix)
    (o : List (Fin 3 × ChannelObs)) (b : List BaselineObs) :
    gnssEpoch (some f) o b s = deliverEpoch f (startEnds (epochJudged true o b s)) :=
  if_neg (by simp [hon, hdue])

/-! ### The latch of an epoch (R313, R314) -/

theorem noteHalf_fold (o : List (Fin 3 × ChannelObs)) (s : P1) :
    (o.foldl noteHalf s).od = s.od ∧ (o.foldl noteHalf s).dom = s.dom ∧ (o.foldl noteHalf s).slots = s.slots :=
  List.foldlRecOn (motive := fun t : P1 => t.od = s.od ∧ t.dom = s.dom ∧ t.slots = s.slots) _ _ ⟨rfl, rfl, rfl⟩
    fun _ ht _ _ => ht

theorem epochReported_octets (o : List (Fin 3 × ChannelObs)) (s : P1) (a : Fin 3) :
    (epochReported o s).octets (ob 0x5110 (a + 1)) = epochContent a o s := by
  have hthree : epochReported o s = ((s.setOctets (ob 0x5110 1) (epochContent 0 o s)).setOctets (ob 0x5110 2)
      (epochContent 1 o s)).setOctets (ob 0x5110 3) (epochContent 2 o s) := rfl
  rw [hthree]
  match a with
  | 0 => exact (P1.setOctets_other _ _ _ _ (by decide)).trans ((P1.setOctets_other _ _ _ _ (by decide)).trans
      (P1.setOctets_octets ..))
  | 1 => exact (P1.setOctets_other _ _ _ _ (by decide)).trans (P1.setOctets_octets ..)
  | 2 => exact P1.setOctets_octets ..

theorem epochLatched_od (o : List (Fin 3 × ChannelObs)) (s : P1) : (epochLatched o s).od = s.od :=
  (noteHalf_fold o _).1

theorem epochLatched_octets (o : List (Fin 3 × ChannelObs)) (s : P1) (a : Fin 3) :
    (epochLatched o s).octets (ob 0x5110 (a + 1)) = epochContent a o s := by
  obtain ⟨-, hdom, -⟩ := noteHalf_fold o ((epochReported o s).drawN 1536)
  rw [← epochReported_octets]
  exact congrArg (fun d => (domGet d (ob 0x5110 (a + 1))).bytes) hdom

theorem epochLatched_slots (o : List (Fin 3 × ChannelObs)) (s : P1) : (epochLatched o s).slots = s.slots :=
  (noteHalf_fold o _).2.2

theorem epochLatched_slip (o : List (Fin 3 × ChannelObs)) (s : P1) (j : Fin 192) :
    (epochLatched o s).time.chans[j].slip = false := by
  simp [epochLatched]

/-! ### What is judged and delivered (R140, R288, R316) -/

theorem baselinesJudged_touches {n : Nat} (hn : n < 3) (b : List BaselineObs) (s : P1) :
    (baselinesJudged b s).butResults = s.butResults ∧ GnssBitKept n s (baselinesJudged b s) :=
  List.foldlRecOn (motive := fun t : P1 => t.butResults = s.butResults ∧ GnssBitKept n s t) _ _ ⟨rfl, .of_od rfl⟩
    fun t ht k _ => by
      split
      · next x _ =>
        obtain ⟨hsame, hkept⟩ := judgeBaseline_touches hn k x t
        exact ⟨hsame.trans ht.1, ht.2.trans hkept⟩
      · exact ht

theorem epochJudged_butResults (fixed : Bool) (o : List (Fin 3 × ChannelObs)) (b : List BaselineObs) (s : P1) :
    (epochJudged fixed o b s).butResults = (epochLatched o s).butResults := by
  obtain ⟨hbase, -⟩ := baselinesJudged_touches (n := 2) (by decide) b (epochLatched o s)
  have hshown : ((baselinesJudged b (epochLatched o s)).setBit kGnss 2 fixed).butResults = (epochLatched o s).butResults :=
    (P1.butResults_of_cells (P1.wr_butCells ..)).trans hbase
  unfold epochJudged
  dsimp only
  split
  · exact (readNavigation_touches 2 _).1.trans hshown
  · exact hshown

/-- The status shows whether the epoch has a fix. -/
theorem epochJudged_fixed {s : P1} (hwf : odWf s.od = true) (fixed : Bool) (o : List (Fin 3 × ChannelObs))
    (b : List BaselineObs) :
    odWf (epochJudged fixed o b s).od = true ∧ (epochJudged fixed o b s).bit kGnss 2 = fixed := by
  obtain ⟨-, hbase⟩ := baselinesJudged_touches (n := 2) (by decide) b (epochLatched o s)
  have hjudged : odWf (baselinesJudged b (epochLatched o s)).od = true := (hbase (epochLatched_od o s ▸ hwf)).1
  have hshown : odWf ((baselinesJudged b (epochLatched o s)).setBit kGnss 2 fixed).od = true := odWf_odPut hjudged _ _
  have hbit : ((baselinesJudged b (epochLatched o s)).setBit kGnss 2 fixed).bit kGnss 2 = fixed := by
    rw [P1.bit, P1.setBit_rd hjudged, if_pos rfl, bitOf_withBit]
  unfold epochJudged
  dsimp only
  split
  · obtain ⟨hread, hkept⟩ := (readNavigation_touches 2 _).2 hshown
    exact ⟨hread, hkept.trans hbit⟩
  · exact ⟨hshown, hbit⟩

theorem deliver_touches (f : Fix) (s : P1) : (deliver f s).od = s.od ∧ (deliver f s).time = s.time := by
  unfold deliver
  dsimp only
  split <;> exact ⟨rfl, rfl⟩

theorem arriveAt_touches {n : Nat} (i : Fin 64) (ta tm : Int) (m : Meas) (factor : Nat) (sigma : Option Rat) (s : P1) :
    (arriveAt i ta tm m factor sigma s).2.time = s.time ∧ GnssBitKept n s (arriveAt i ta tm m factor sigma s).2 := by
  have hcell (sub : Nat) (hsub : sub < 256) : kGnss ≠ slKey i sub := by
    simp only [kGnss, slKey, ob]
    omega
  have hcounted : GnssBitKept n s (s.inc (slKey i 0x15)) := .wr (hcell _ (by decide)) _ s
  have hstamped : GnssBitKept n (s.inc (slKey i 0x15))
      ((s.inc (slKey i 0x15)).wrs [(slKey i 0x1A, toBits 32 ta), (slKey i 0x1B, toBits 32 tm)]) :=
    (GnssBitKept.wr (hcell 0x1A (by decide)) _ _).trans (.wr (hcell 0x1B (by decide)) _ _)
  exact ⟨rfl, (hcounted.trans hstamped).trans (.of_od rfl)⟩

/-- The delivery of a fix leaves the time and the GNSS status. -/
theorem deliverEpoch_touches {n : Nat} (f : EpochFix) (s : P1) :
    (deliverEpoch f s).time = s.time ∧ GnssBitKept n s (deliverEpoch f s) := by
  have hseen (l : List (Fin 64)) (t : P1) :
      (l.foldl (fun u j => setSlot j (fun x => { x with lastSeen := some s.elapsed }) u) t).time = t.time
        ∧ (l.foldl (fun u j => setSlot j (fun x => { x with lastSeen := some s.elapsed }) u) t).od = t.od :=
    List.foldlRecOn (motive := fun u : P1 => u.time = t.time ∧ u.od = t.od) _ _ ⟨rfl, rfl⟩ fun _ hu _ _ => hu
  unfold deliverEpoch
  dsimp only
  split
  · exact ⟨rfl, .of_od rfl⟩
  · next i rest _ =>
    obtain ⟨harrived, hkept⟩ := arriveAt_touches (n := n) i s.ns s.grainStart (.raw (epochResiduals f s)) 100 none s
    obtain ⟨htime, hod⟩ := hseen rest (arriveAt i s.ns s.grainStart (.raw (epochResiduals f s)) 100 none s).2
    obtain ⟨hdod, hdtime⟩ := deliver_touches (arriveAt i s.ns s.grainStart (.raw (epochResiduals f s)) 100 none s).1
      (rest.foldl (fun u j => setSlot j (fun x => { x with lastSeen := some s.elapsed }) u)
        (arriveAt i s.ns s.grainStart (.raw (epochResiduals f s)) 100 none s).2)
    exact ⟨hdtime.trans (htime.trans harrived), hkept.trans (.of_od (hdod.trans hod))⟩

/-- What the results of an epoch leave of its latch. -/
theorem P1.latch_of_results {a b : P1} (h : b.butResults = a.butResults) :
    b.dom = a.dom ∧ b.slots = a.slots ∧ b.time.chans = a.time.chans ∧ b.time.epochAt = a.time.epochAt :=
  have hdom : b.butResults.dom = a.butResults.dom := congrArg P1.dom h
  have hslots : b.butResults.slots = a.butResults.slots := congrArg P1.slots h
  have hchans : b.butResults.time.chans = a.butResults.time.chans := congrArg (fun t : P1 => t.time.chans) h
  have hepoch : b.butResults.time.epochAt = a.butResults.time.epochAt := congrArg (fun t : P1 => t.time.epochAt) h
  ⟨hdom, hslots, hchans, hepoch⟩

/-- Settles O41: a command changes its own channel or antenna, an epoch is its latch and what is judged of it, and each bit of
the GNSS status that the statement names stands beside what follows it. -/
theorem gnssChannelsEpochsAndAntennas : Obligations.GnssChannelsEpochsAndAntennas := by
  intro s hup
  refine ⟨fun hoff a v c x y z f o b => ⟨onP1_idle hup (channelAssign_off hoff v), onP1_idle hup (channelLock_off hoff x y z),
      onP1_idle hup (gnssEpoch_off hoff f o b)⟩,
    fun hon a v hdue => ?assignment, fun a c x y z hon hworks => ?lock, fun a c x y => ?loss,
    fun hon hdue o b hwf => ?withoutFix, fun hon hdue f o b hwf => ?withFix,
    fun a l n hsame => onP1_next hup (antennaState_same hsame), fun a l n hwf => ?antenna,
    fun hmode hasleep hdue hwf => ⟨_, onP1_next hup (gnssWake_due hmode hasleep hdue), rfl, rfl, gnssWake_bits hwf _⟩,
    fun hmode => ⟨onP1_idle hup (gnssWake_elsewhere hmode), onP1_idle hup (gnssWakeEnd_elsewhere hmode)⟩,
    fun hmode hwake hwf => ?wakeEnd⟩
  case assignment =>
    refine ⟨_, onP1_next hup (channelAssign_due hon hdue v), fun c => ?_, fun a' c ha => ?_, rfl, rfl⟩
    · exact (showTrack_time _).symm ▸ planAssigned_inPlan a (channelPlan v s.p1) _ c
    · exact (showTrack_time _).symm ▸ planAssigned_otherAntenna ha (channelPlan v s.p1) _ c
  case lock =>
    refine ⟨_, onP1_next hup (channelLock_on hon hworks x y z), fun hnone => ?_, fun hsome => ?_, fun j hj => ?_⟩
    · exact (showTrack_time _).symm ▸ setChan_unchanged (gainLocks_unassigned hnone x y z _)
    · have hgained := gainLocks_assigned hsome x y z s.p1.elapsed
      rw [← setChan_same a c (gainLocks x y z s.p1.elapsed) s.p1] at hgained
      exact (showTrack_time _).symm ▸ hgained
    · exact (showTrack_time _).symm ▸ setChan_other hj _ s.p1
  case loss =>
    have hlost := dropLocks_locks x y s.p1.time.chans[chanNo a c]
    rw [← setChan_same a c (dropLocks x y) s.p1] at hlost
    obtain ⟨hcode, hcarrier, hslip⟩ := hlost
    refine ⟨_, onP1_next hup (channelLoss_eq a c x y s.p1), ?_, ?_, ?_, fun j hj => ?_⟩
    · exact (showTrack_time _).symm ▸ hcode
    · exact (showTrack_time _).symm ▸ hcarrier
    · exact (showTrack_time _).symm ▸ hslip
    · exact (showTrack_time _).symm ▸ setChan_other hj _ s.p1
  case withoutFix =>
    obtain ⟨hdom, hslots, hchans, -⟩ := P1.latch_of_results (epochJudged_butResults false o b s.p1)
    refine ⟨_, onP1_next hup (gnssEpoch_withoutFix hon hdue o b), (epochJudged_fixed hwf false o b).2, fun a => ?_, fun j => ?_,
      hslots.trans (epochLatched_slots o s.p1)⟩
    · exact (congrArg (fun d => (domGet d (ob 0x5110 (a + 1))).bytes) hdom).trans (epochLatched_octets o s.p1 a)
    · exact (congrArg (fun v : Vector GnssChan 192 => v[j].slip) hchans).trans (epochLatched_slip o s.p1 j)
  case withFix =>
    obtain ⟨htime, hdelivered⟩ := deliverEpoch_touches (n := 2) f (startEnds (epochJudged true o b s.p1))
    obtain ⟨hended, hended2⟩ := startEnds_touches (epochJudged true o b s.p1)
    obtain ⟨hjudged, hfixed⟩ := epochJudged_fixed hwf true o b
    obtain ⟨-, -, hchans, hepoch⟩ := P1.latch_of_results (hended.trans (epochJudged_butResults true o b s.p1))
    refine ⟨_, onP1_next hup (gnssEpoch_withFix hon hdue f o b), ((hended2.trans hdelivered) hjudged).2.trans hfixed,
      fun j => ?_, ?_⟩
    · exact (congrArg (fun x : TimeState => x.chans[j].slip) htime).trans
        ((congrArg (fun v : Vector GnssChan 192 => v[j].slip) hchans).trans (epochLatched_slip o s.p1 j))
    · exact (congrArg TimeState.epochAt htime).trans hepoch
  case antenna =>
    obtain ⟨hcells, hsame⟩ := antennaState_touches a l n s.p1
    obtain ⟨hcode, hcurrent⟩ := raiseCell_antenna a
    refine ⟨_, onP1_run hup, ?_⟩
    dsimp only
    refine ⟨?_, ?_, (P1.time_of_alarm hsame).trans (antennaShown_time a l n s.p1)⟩
    · exact (congrArg Int.toNat ((hcells _ hcode).trans (antennaShown_rd hwf a l n _))).trans (by simp)
    · exact (hcells _ hcurrent).trans ((antennaShown_rd hwf a l n _).trans (by simp))
  case wakeEnd =>
    obtain ⟨hwakeFrom, hchans⟩ := gnssSleep_time s.p1
    refine ⟨_, onP1_next hup (gnssWakeEnd_due hmode hwake), ?_⟩
    rw [State.core_p1]
    exact ⟨hwakeFrom, gnssSleep_asleep hwf, hchans⟩

end Sys2Proof.Machine
end

section
/-! SUPPORT. Alarms and faults of a unit as operations on the cells (R55–R58, R554–R558): they keep the canonical form, every
cell but those of alarms and faults, and all of P1 but the alarms and the faults in force. -/

namespace Sys2Proof.Machine

/-! ### Cells that an operation keeps -/

theorem CellsKept.mono {but more : Nat → Bool} {a b : P1} (h : CellsKept but a b)
    (hle : ∀ k, but k = true → more k = true) : CellsKept more a b :=
  ⟨h.canonical, fun hwf => (h.same hwf).mono hle⟩

/-- A fold of operations that each keep the cells. -/
theorem CellsKept.foldl {but : Nat → Bool} {α : Type} {f : P1 → α → P1} (hf : ∀ t a, CellsKept but t (f t a)) (l : List α)
    (s : P1) : CellsKept but s (l.foldl f s) :=
  List.foldlRecOn (motive := CellsKept but s) l f (.refl but s) fun t ht a _ => ht.trans (hf t a)

/-! ### Alarms (R554, R555, R558) -/

theorem odWf_emcy {s : P1} (h : odWf s.od = true) (e code param : Nat) : odWf (emcy e code param s).od = true := by
  have hchannel (c : Fin 4) (t : P1) (ht : odWf t.od = true) :
      odWf (if t.rd (ob (0x6610 + c) 1) = 1 then
        canQueue c 1 (txFrame .canopen (0x80 + t.rdN (ob (0x6610 + c) 2))
          (le 2 e ++ le 1 (t.rdN (ob 0x1001 0)) ++ le 2 code ++ le 3 param)) t
      else t).od = true := by
    split
    · exact (canQueue_cellsKept ..).canonical ht
    · exact ht
  exact hchannel 3 _ (hchannel 2 _ (hchannel 1 _ (hchannel 0 s h)))

theorem odWf_showAlarms {s : P1} (h : odWf s.od = true) : odWf (showAlarms s).od = true :=
  odWf_odPut (odWf_odPut (odWf_odPut (odWf_odPut h _ _) _ _) _ _) _ _

theorem odWf_classRise {s : P1} (h : odWf s.od = true) (cls code param : Nat) :
    odWf (classRise cls code param s).od = true := by
  unfold classRise
  dsimp only
  split <;> exact odWf_emcy h _ _ _

/-- A rising alarm writes its own cells (R554). -/
theorem raiseIn_cellsKept (cls code param : Nat) (s : P1) : CellsKept raiseCell s (raiseIn cls code param s) := by
  refine ⟨fun hwf => ?_, fun _ => raiseIn_sameCells cls code param s⟩
  have hshown (t : P1) (ht : odWf t.od = true) : odWf (classRise cls code param (showAlarms t)).od = true :=
    odWf_classRise (odWf_showAlarms ht) cls code param
  unfold raiseIn
  extract_lets again a
  split_ifs
  · exact hwf
  · exact hshown _ hwf
  · exact hshown _ hwf
  · exact hshown _ (odWf_odPut hwf _ _)

/-- The end of an alarm writes its own cells (R554). -/
theorem lower_cellsKept (code param : Nat) (s : P1) : CellsKept raiseCell s (lower code param s) := by
  refine ⟨fun hwf => ?_, fun _ => (lower_sameCells code param s).mono raiseCell_of_alarmCell⟩
  have hshown (l m : List Alarm) : odWf (showAlarms { s with alarms := l, unlisted := m }).od = true :=
    odWf_showAlarms (s := { s with alarms := l, unlisted := m }) hwf
  unfold lower
  dsimp only
  split_ifs
  · exact hshown _ _
  · exact odWf_emcy (hshown _ _) _ _ _
  · exact hwf

theorem recordAlarm_cellsKept (bad : Bool) (code p q : Nat) (s : P1) :
    CellsKept raiseCell s (recordAlarm bad code p q s) := by
  have hrecorded := (record_cellsKept code p s).mono raiseCell_of_answerCounter
  unfold recordAlarm
  dsimp only
  split
  · exact hrecorded.trans (raiseIn_cellsKept _ _ _ _)
  · exact hrecorded.trans (lower_cellsKept _ _ _)

/-! ### A fault of a unit (R55–R58) -/

/-- The cells that a fault below module level can touch: those of its alarm, of the faults, and of what shows which blocks
work. -/
def faultCell (k : Nat) : Bool :=
  raiseCell k || k / 256 = 0x2200 || k / 256 = 0x2201 || k / 256 = 0x2202 || k = ob 0x4400 1

theorem faultCell_of_raiseCell (k : Nat) (h : raiseCell k = true) : faultCell k = true := by simp [faultCell, h]

theorem showBlocks_cellsKept (s : P1) : CellsKept faultCell s (showBlocks s) := by
  have hdie (d : Die) : faultCell (ob 0x2201 (dieSub d)) = true ∧ faultCell (ob 0x2202 (dieSub d)) = true := by
    cases d <;> decide
  have hdies : CellsKept faultCell s (showDies s) := by
    refine CellsKept.foldl (fun t d => ?_) allDies s
    dsimp only
    split
    · exact (CellsKept.wr (hdie d).1 _ t).trans (.wr (hdie d).2 _ _)
    · exact .wr (hdie d).2 _ t
  have hsolver (t : P1) (x y : Nat) :
      CellsKept faultCell t ((t.setField (ob 0x4400 1) 0 4 x).setField (ob 0x4400 1) 16 16 y) :=
    (CellsKept.wr (by decide) _ t).trans (.wr (by decide) _ _)
  exact hdies.trans (hsolver _ _ _)

/-- An operation keeps the cells but those that a test names, and what a blanking leaves of P1. -/
structure Kept (but : Nat → Bool) (rest : P1 → P1) (a b : P1) : Prop where
  cells : CellsKept but a b
  same : rest b = rest a

theorem Kept.refl (but : Nat → Bool) (rest : P1 → P1) (a : P1) : Kept but rest a a := ⟨.refl but a, rfl⟩

theorem Kept.trans {but : Nat → Bool} {rest : P1 → P1} {a b c : P1} (hab : Kept but rest a b) (hbc : Kept but rest b c) :
    Kept but rest a c :=
  ⟨hab.cells.trans hbc.cells, hbc.same.trans hab.same⟩

theorem Kept.mono {but more : Nat → Bool} {rest : P1 → P1} {a b : P1} (h : Kept but rest a b)
    (hle : ∀ k, but k = true → more k = true) : Kept more rest a b :=
  ⟨h.cells.mono hle, h.same⟩

/-- A fold of operations that each keep the cells and the rest. -/
theorem Kept.foldl {but : Nat → Bool} {rest : P1 → P1} {α : Type} {f : P1 → α → P1} (hf : ∀ t a, Kept but rest t (f t a))
    (l : List α) (s : P1) : Kept but rest s (l.foldl f s) :=
  List.foldlRecOn (motive := Kept but rest s) l f (.refl but rest s) fun t ht a _ => ht.trans (hf t a)

/-- P1 but for what a fault below module level touches. -/
def P1.butFault (s : P1) : P1 := { s.butAlarm with faults := [], unreported := [], lastCauses := [] }

theorem P1.butFault_of_alarm {a b : P1} (h : b.butAlarm = a.butAlarm) : b.butFault = a.butFault :=
  show b.butAlarm.butFault = a.butAlarm.butFault by rw [h]

theorem P1.butFault_of_cells {a b : P1} (h : b.butCells = a.butCells) : b.butFault = a.butFault :=
  show b.butCells.butFault = a.butCells.butFault by rw [h]

/-- An operation touches no more than a fault below module level does. -/
abbrev FaultKept (a b : P1) : Prop := Kept faultCell P1.butFault a b

theorem showBlocks_kept (s : P1) : FaultKept s (showBlocks s) :=
  ⟨showBlocks_cellsKept s, P1.butFault_of_cells (showBlocks_butCells s)⟩

theorem recordAlarm_kept (bad : Bool) (code p q : Nat) (s : P1) :
    FaultKept s (recordAlarm bad code p q s) :=
  ⟨(recordAlarm_cellsKept bad code p q s).mono faultCell_of_raiseCell,
    P1.butFault_of_alarm (recordAlarm_butAlarm bad code p q s)⟩

/-- A fault inside a block that is stopped by a later one is counted, and its alarm ends (R57). -/
theorem withdrawFault_kept (addr : Nat) (s : P1) :
    FaultKept s (lower 0x0014 addr (s.inc (ob 0x2200 6))) :=
  ⟨(CellsKept.inc (by decide) s).trans ((lower_cellsKept _ _ _).mono faultCell_of_raiseCell),
    (P1.butFault_of_alarm (lower_butAlarm ..)).trans rfl⟩

theorem holdFault_kept (addr : Nat) (s : P1) : FaultKept s (holdFault addr s) := by
  unfold holdFault
  dsimp only
  split
  · exact .refl _ _ s
  · exact ⟨.of_od rfl, rfl⟩

theorem showFaults_kept (s : P1) : FaultKept s (showFaults s) := by
  have hlist (n : Int) (b : List Byte) :
      FaultKept s ((s.wr (ob 0x2200 3) n).setOctets (ob 0x2200 4) b) :=
    ⟨(CellsKept.wr (by decide) n s).trans (.of_od rfl), rfl⟩
  exact (hlist _ _).trans (showBlocks_kept _)

/-- A fault below module level touches the cells and the parts of P1 that show and hold faults. -/
theorem addFault_kept {addr : Nat} (h : ∀ w, moduleLevel (blockOf addr) w = false) (s : P1) :
    FaultKept s (addFault addr s) := by
  have hcause (n c : Nat) (b : Prop) [Decidable b] (t : P1) :
      FaultKept t (if b then setLastCause n c t else t) := by
    split
    · exact ⟨.of_od rfl, rfl⟩
    · exact .refl _ _ t
  have hcounted : FaultKept s (s.inc (ob 0x2200 6)) := ⟨.inc (by decide) s, rfl⟩
  have hnoted (a b : Int) (t : P1) : FaultKept t (t.wrs [(ob 0x2200 1, a), (ob 0x2200 2, b)]) :=
    ⟨(CellsKept.wr (k := ob 0x2200 1) (by decide) a t).trans (.wr (k := ob 0x2200 2) (by decide) b _), rfl⟩
  have hlists (t : P1) (l m : List FaultRec) : FaultKept t { t with faults := l, unreported := m } :=
    ⟨.of_od rfl, rfl⟩
  have hlisted (t : P1) (l : List FaultRec) : FaultKept t { t with faults := l } := ⟨.of_od rfl, rfl⟩
  unfold addFault
  split
  · exact ((hcounted.trans (holdFault_kept _ _)).trans (hcause _ _ _ _)).trans (showBlocks_kept _)
  · dsimp only
    rw [if_neg (by simp [h])]
    exact ((((((hlists s _ _).trans (Kept.foldl (fun t (f : FaultRec) => withdrawFault_kept f.addr t) _ _)).trans
      (hlisted _ _)).trans (hcause _ _ _ _)).trans (hnoted _ _ _)).trans (showFaults_kept _)).trans
      (recordAlarm_kept _ _ _ _ _)

end Sys2Proof.Machine
end

section
/-! SUPPORT. What a motion of an axis touches (R330, R333, R337–R342, R347): the cells that follow it, the axis itself but for
its reads and windows, the emulated outputs, records, alarms and faults. -/

namespace Sys2Proof.Machine

/-! ### The cells and parts that follow a motion -/

/-- The cells of the emulated outputs. -/
def emulationCell (k : Nat) : Bool := k / 256 = 0x5210 || k / 256 = 0x5211

/-- The cells that follow a motion beside the position: those of faults and emulated outputs, and every other cell of an
axis. -/
def motionCell (k : Nat) : Bool :=
  faultCell k || emulationCell k || (0x5200 ≤ k / 256 && k / 256 < 0x5208 && k % 256 ≠ 0x16)

/-- The cells that a motion can touch, the position with them. -/
def axisCell (k : Nat) : Bool := motionCell k || (0x5200 ≤ k / 256 && k / 256 < 0x5208)

theorem motionCell_of_faultCell (k : Nat) (h : faultCell k = true) : motionCell k = true := by simp [motionCell, h]

theorem motionCell_of_answerCounter (k : Nat) (h : answerCounter k = true) : motionCell k = true :=
  motionCell_of_faultCell k (faultCell_of_raiseCell k (raiseCell_of_answerCounter k h))

theorem axisCell_of_motionCell (k : Nat) (h : motionCell k = true) : axisCell k = true := by simp [axisCell, h]

theorem motionCell_axKey (a : Fin 8) {sub : Nat} (h : sub < 256) (hpos : sub ≠ 0x16) : motionCell (axKey a sub) = true := by
  have hindex : axKey a sub / 256 = 0x5200 + a := by simp only [axKey, ob]; omega
  have hsub : axKey a sub % 256 = sub := by simp only [axKey, ob]; omega
  have ha := a.isLt
  simp only [motionCell, hindex, hsub, Bool.or_eq_true, Bool.and_eq_true, decide_eq_true_eq]
  omega

theorem axisCell_axKey (a : Fin 8) {sub : Nat} (h : sub < 256) : axisCell (axKey a sub) = true := by
  have hindex : axKey a sub / 256 = 0x5200 + a := by simp only [axKey, ob]; omega
  have ha := a.isLt
  simp only [axisCell, hindex, Bool.or_eq_true, Bool.and_eq_true, decide_eq_true_eq]
  omega

/-- The position follows no other work of an axis. -/
theorem motionCell_position (a : Fin 8) : motionCell (axKey a 0x16) = false := by
  revert a
  decide

theorem motionCell_of_emulationCell (k : Nat) (h : emulationCell k = true) : motionCell k = true := by simp [motionCell, h]

theorem emulationCell_ob {o sub : Nat} (ho : o < 2) (h : sub < 256) : emulationCell (ob (0x5210 + o) sub) = true := by
  simp only [emulationCell, ob, Bool.or_eq_true, decide_eq_true_eq]
  omega

/-- An axis but for what a motion touches: what stays are its index, its reads, the marks of its speed, and its staged
entries. -/
def AxisState.butMotion (x : AxisState) : AxisState :=
  { x with
    entries := [], sectors := [], up := 0, down := 0, loads := 0, anchor := none, edges := [], errors := [], travel := 0
    pulseEnd := none, events := [], lost := false, coarse := [], outs := [], valueAt := 0, badOuts := 0 }

/-- P1 but for what a motion of an axis touches. -/
def P1.butMotion (a : Fin 8) (s : P1) : P1 :=
  { s.butFault with emu := P1.reset.emu, axes := upd s.axes a AxisState.butMotion }

/-- An operation touches no more than a motion of an axis does, the position apart. -/
abbrev MotionKept (a : Fin 8) (s t : P1) : Prop := Kept motionCell (P1.butMotion a) s t

theorem upd_upd {α : Type} {n : Nat} (v : Vector α n) (i : Fin n) (f g : α → α) :
    upd (upd v i f) i g = upd v i (g ∘ f) := by
  simp [upd]

theorem upd_get {α : Type} {n : Nat} (v : Vector α n) (i : Fin n) (f : α → α) : (upd v i f)[i] = f v[i] := by
  simp [upd]

theorem upd_get_other {α : Type} {n : Nat} {i j : Fin n} (h : j ≠ i) (v : Vector α n) (f : α → α) :
    (upd v i f)[j] = v[j] := by
  have hval : i.val ≠ j.val := fun he => h (Fin.ext he.symm)
  simp [upd, hval]

theorem P1.butMotion_of_fault {a : Fin 8} {x y : P1} (h : y.butFault = x.butFault) : y.butMotion a = x.butMotion a :=
  show y.butFault.butMotion a = x.butFault.butMotion a by rw [h]

/-- A motion leaves the other axes. -/
theorem P1.otherAxis_of_motion {a b : Fin 8} {x y : P1} (h : y.butMotion a = x.butMotion a) (hb : b ≠ a) :
    y.axes[b] = x.axes[b] := by
  have haxes : upd y.axes a AxisState.butMotion = upd x.axes a AxisState.butMotion := congrArg P1.axes h
  rw [← upd_get_other hb y.axes AxisState.butMotion, haxes, upd_get_other hb]

/-- A motion leaves the part of its axis that it does not touch. -/
theorem P1.axis_of_motion {a : Fin 8} {x y : P1} (h : y.butMotion a = x.butMotion a) :
    (y.axes[a]).butMotion = (x.axes[a]).butMotion := by
  have haxes : upd y.axes a AxisState.butMotion = upd x.axes a AxisState.butMotion := congrArg P1.axes h
  rw [← upd_get y.axes a AxisState.butMotion, haxes, upd_get]

/-- A motion leaves the filter channels. -/
theorem P1.filt_of_motion {a : Fin 8} {x y : P1} (h : y.butMotion a = x.butMotion a) : y.filt = x.filt :=
  have hfilt : (y.butMotion a).filt = (x.butMotion a).filt := congrArg P1.filt h
  hfilt

section
variable {a : Fin 8}

theorem Kept.motion_of_fault {s t : P1} (h : FaultKept s t) : MotionKept a s t :=
  ⟨h.cells.mono motionCell_of_faultCell, P1.butMotion_of_fault h.same⟩

theorem wr_motion {k : Nat} (hk : motionCell k = true) (v : Int) (s : P1) : MotionKept a s (s.wr k v) :=
  ⟨.wr hk v s, rfl⟩

theorem setBits_motion {k : Nat} (hk : motionCell k = true) (l : List (Nat × Bool)) (s : P1) :
    MotionKept a s (s.setBits k l) :=
  Kept.foldl (fun t (e : Nat × Bool) => wr_motion hk (withBit (t.rd k) e.1 e.2) t) l s

theorem record_motion (code param : Nat) (s : P1) : MotionKept a s (record code param s) :=
  ⟨(record_cellsKept code param s).mono motionCell_of_answerCounter,
    P1.butMotion_of_fault (P1.butFault_of_alarm (P1.butAlarm_of_can (P1.butCan_of_record (record_butRecord code param s))))⟩

/-- A change of what a motion touches of its axis. -/
theorem setAxis_motion (s : P1) {f : AxisState → AxisState} (h : ∀ x, (f x).butMotion = x.butMotion := by intro x; rfl) :
    MotionKept a s (setAxis a f s) := by
  have haxes : upd (setAxis a f s).axes a AxisState.butMotion = upd s.axes a AxisState.butMotion := by
    rw [setAxis_axes, upd_upd, show AxisState.butMotion ∘ f = AxisState.butMotion from funext h]
  exact ⟨.of_od rfl, congrArg (fun v => { s.butMotion a with axes := v }) haxes⟩

/-! ### The stop of an axis (R333, R347) -/

theorem holdEmulation_cells (s : P1) :
    CellsKept emulationCell s (holdEmulation a s) ∧ (holdEmulation a s).butCells = s.butCells :=
  List.foldlRecOn (motive := fun t : P1 => CellsKept emulationCell s t ∧ t.butCells = s.butCells) _ _ ⟨.refl _ s, rfl⟩
    fun t ht o ho => by
      have hcell := emulationCell_ob (sub := 5) (List.mem_range.mp ho) (by decide)
      split
      · exact ⟨ht.1.trans ((CellsKept.wr hcell _ t).trans (.wr hcell _ _)), ht.2⟩
      · exact ht

theorem holdEmulation_motion (s : P1) : MotionKept a s (holdEmulation a s) :=
  ⟨(holdEmulation_cells s).1.mono motionCell_of_emulationCell,
    P1.butMotion_of_fault (P1.butFault_of_cells (holdEmulation_cells s).2)⟩

/-- An axis as its stop leaves it (R333). -/
def AxisState.halted (x : AxisState) : AxisState := { x with sectors := [], up := 0, down := 0, anchor := none, edges := [] }

theorem axisStop_eq (a : Fin 8) (s : P1) : axisStop a s =
    holdEmulation a (setAxis a AxisState.halted (s.setBits (axKey a 0x1A) [(16, false), (21, false)])) := rfl

theorem axisStop_motion (s : P1) : MotionKept a s (axisStop a s) := by
  have hstatus : motionCell (axKey a 0x1A) = true := motionCell_axKey a (by decide) (by decide)
  rw [axisStop_eq]
  exact ((setBits_motion hstatus _ s).trans (setAxis_motion _)).trans (holdEmulation_motion _)

theorem blockOf_axisFault (a : Fin 8) {c : Nat} (h : c < 1024) : blockOf (axisAddr a + c) = axisAddr a := by
  have hblock : blockOf (axisAddr a) = axisAddr a := by revert a; decide
  rw [← hblock, blockOf_add _ h]

/-- A fault of one axis is below module level (R62). -/
theorem moduleLevel_axis (a : Fin 8) (w : P1) : moduleLevel (axisAddr a) w = false := by
  have hpackage : axisAddr a / 2 ^ 30 = 1 := by revert a; decide
  have hlevel : levelOf (axisAddr a) = 0 := by revert a; decide
  have hctl : ((List.range 3).any fun e => blockHolds (axisAddr a) (ctlAddr e)) = false := by revert a; decide
  have hest : ((List.range 4).any fun e => blockHolds (axisAddr a) (estAddr e)) = false := by revert a; decide
  have hslv : ((List.range 4).any fun e => blockHolds (axisAddr a) (slvAddr e)) = false := by revert a; decide
  simp [moduleLevel, hpackage, hlevel, hctl, hest, hslv, -Nat.reducePow]

/-- A fault of an axis, recorded and added (R333). -/
def axisFaultAdded (a : Fin 8) (cause : Nat) (s : P1) : P1 :=
  addFault (axisAddr a + cause) (recordAlarm true 0x0A00 (axisFaultParam a cause) (axisFaultParam a cause) s)

theorem axisFault_running {cause : Nat} {s : P1} (h : s.stopped (axisAddr a) = false) :
    axisFault a cause s = axisStop a (axisFaultAdded a cause s) :=
  if_neg (by simp [h])

theorem axisFaultAdded_motion {cause : Nat} (h : cause < 1024) (s : P1) :
    MotionKept a s (axisFaultAdded a cause s) := by
  have hunit (w : P1) : moduleLevel (blockOf (axisAddr a + cause)) w = false := by
    rw [blockOf_axisFault a h, moduleLevel_axis]
  exact (Kept.motion_of_fault (recordAlarm_kept _ _ _ _ s)).trans (.motion_of_fault (addFault_kept hunit _))

theorem axisFault_motion {cause : Nat} (h : cause < 1024) (s : P1) :
    MotionKept a s (axisFault a cause s) := by
  unfold axisFault
  split
  · exact wr_motion (motionCell_of_faultCell _ (by decide)) _ s
  · exact (axisFaultAdded_motion h s).trans (axisStop_motion _)

/-! ### Compare entries on the way (R338–R340) -/

/-- A write of a cell of the axis other than its position. -/
theorem wrAxis_motion {sub : Nat} (h : sub < 256) (hpos : sub ≠ 0x16) (v : Int) (s : P1) :
    MotionKept a s (s.wr (axKey a sub) v) :=
  wr_motion (motionCell_axKey a h hpos) v s

theorem putEntries_motion (g : List CmpEntry → List CmpEntry) (s : P1) :
    MotionKept a s (setAxis a (fun x => { x with entries := g x.entries }) s) :=
  setAxis_motion s

theorem queueEvent_motion (e : CmpEntry) (falling : Bool) (ns : Nat) (s : P1) :
    MotionKept a s (queueEvent a e falling ns s) := by
  have hqueued (b : List Byte) (t : P1) : MotionKept a t
      (setAxis a (fun x => { x with events := x.events ++ [b], lost := false }) t) := setAxis_motion t
  have hlost (t : P1) : MotionKept a t (setAxis a (fun x => { x with lost := true }) t) :=
    setAxis_motion t
  unfold queueEvent
  dsimp only
  split
  · exact hqueued _ s
  · exact (hlost s).trans (wrAxis_motion (sub := 0x29) (by decide) (by decide) _ _)

theorem fireEntry_motion (falling : Bool) (ns : Nat) (e : CmpEntry) (s : P1) :
    MotionKept a s (fireEntry a falling ns e s) := by
  have hevent (b : Bool) (t : P1) :
      MotionKept a t (if b then queueEvent a e falling ns t else t) := by
    split
    · exact queueEvent_motion e falling ns t
    · exact .refl _ _ t
  have hpulse (b : Bool) (g : Nat) (t : P1) :
      MotionKept a t (if b then setAxis a (fun x => { x with pulseEnd := some g }) t else t) := by
    split
    · exact setAxis_motion t
    · exact .refl _ _ t
  have hcounted := wrAxis_motion (a := a) (sub := 0x27) (by decide) (by decide)
    (satAdd (topOf (axKey a 0x27)) (s.rd (axKey a 0x27)) 1) s
  exact ((hcounted.trans (hevent _ _)).trans (hpulse _ _ _)).trans (putEntries_motion _ _)

theorem reachEntry_motion (falling : Bool) (ns : Nat) (e : CmpEntry) (s : P1) :
    MotionKept a s (reachEntry a falling ns e s) := by
  unfold reachEntry
  split
  · exact fireEntry_motion falling ns e s
  · exact putEntries_motion _ s

theorem countBehind_motion (l : List CmpEntry) (s : P1) : MotionKept a s (countBehind a l s) :=
  wrAxis_motion (sub := 0x28) (by decide) (by decide) _ s

theorem reevaluate_motion (s : P1) : MotionKept a s (reevaluate a s) :=
  (putEntries_motion (fun _ => (s.axes[a]).entries.map fun e => writtenEntry a e s) s).trans (countBehind_motion _ _)

/-! ### Emulated outputs (R347) -/

theorem emuFollow_motion (o : Fin 2) (p : Int) (ns : Nat) (s : P1) :
    MotionKept a s (emuFollow o p ns s) := by
  have hcell {sub : Nat} (h : sub < 256) (v : Int) (t : P1) :
      MotionKept a t (t.wr (ob (0x5210 + o) sub) v) :=
    wr_motion (motionCell_of_emulationCell _ (emulationCell_ob o.isLt h)) v t
  unfold emuFollow
  split
  · exact .refl _ _ s
  · extract_lets e d lagging could n left l4 c cw last t u
    have hmoved : MotionKept a s t := ⟨.of_od rfl, rfl⟩
    have hrecorded : MotionKept a t u := by
      unfold u
      split
      · exact record_motion _ _ t
      · exact .refl _ _ t
    exact ((hmoved.trans hrecorded).trans (hcell (by decide) _ u)).trans (hcell (by decide) _ _)

theorem emuAxis_motion (p : Int) (ns : Nat) (s : P1) : MotionKept a s (emuAxis a p ns s) := by
  have hfollow (o : Fin 2) (t : P1) : MotionKept a t
      (if t.rd (ob (0x5210 + o) 2) = a.val && !t.stopped (unitAddr 1 1 2 0 (8 + o)) then emuFollow o p ns t else t) := by
    split
    · exact emuFollow_motion o p ns t
    · exact .refl _ _ t
  exact (hfollow 0 s).trans (hfollow 1 _)

/-! ### Sector entries (R341) -/

theorem queuePulse_motion (up : Bool) (s : P1) : MotionKept a s (queuePulse a up s) := by
  have hqueued : MotionKept a s
      (setAxis a (fun x => if up then { x with up := x.up + 1 } else { x with down := x.down + 1 }) s) :=
    setAxis_motion s (fun x => by cases up <;> rfl)
  have hfull : MotionKept a s (axisFault a 0x105 s) := axisFault_motion (by decide) s
  unfold queuePulse
  generalize (if up then (s.axes[a]).up else (s.axes[a]).down) = n
  split
  · exact hfull
  · exact hqueued

theorem passSector_motion (p d : Int) (j : Nat) (s : P1) : MotionKept a s (passSector a p d j s) := by
  have hturned (e : SectorEntry) (t : P1) : MotionKept a t
      (setAxis a (fun x => { x with sectors := x.sectors.set j e }) t) := setAxis_motion t
  unfold passSector
  split
  · exact .refl _ _ s
  · dsimp only
    split
    · exact (hturned _ s).trans (queuePulse_motion true _)
    · split
      · exact (hturned _ s).trans (queuePulse_motion false _)
      · exact .refl _ _ s

theorem passSectors_motion (p d : Int) (s : P1) : MotionKept a s (passSectors a p d s) :=
  Kept.foldl (fun t j => by
    split
    · exact .refl _ _ t
    · exact passSector_motion p d j t) _ s

/-- The sector entries that an axis loads (R341). -/
theorem loadSectors_motion (rd : Nat → Int) (s : P1) : MotionKept a s (loadSectors rd a s) := by
  have hloaded (l : List SectorEntry) (t : P1) : MotionKept a t
      (setAxis a (fun x => { x with sectors := l, loads := x.loads + 1 }) t) := setAxis_motion t
  unfold loadSectors
  split
  · exact .refl _ _ s
  · exact (wrAxis_motion (sub := 0x1A) (by decide) (by decide) _ s).trans (hloaded _ _)

/-! ### The motion (R337, R342) -/

/-- The display of the position writes it and its scaled value. -/
theorem showPos_kept (p : Int) (s : P1) : Kept axisCell (P1.butMotion a) s (showPos a p s) :=
  ⟨((CellsKept.wr (axisCell_axKey a (by decide)) p s).trans (.wr (axisCell_axKey a (by decide)) _ _)).trans (.of_od rfl),
    rfl⟩

theorem showPos_position {s : P1} (hwf : odWf s.od = true) (p : Int) : (showPos a p s).rd (axKey a 0x16) = p := by
  have hother : axKey a 0x16 ≠ axKey a 0x17 := by simp only [axKey, ob]; omega
  exact (P1.wr_rd_other hother _ _).trans ((P1.wr_rd hwf _ _ p).trans (if_pos rfl))

/-- The axis once a motion has shown its position: what is left of the motion follows it. -/
def positionMoved (a : Fin 8) (d : Int) (edge : Bool) (ns : Nat) (s : P1) : P1 :=
  let falling := decide (d < 0)
  let reversed := s.bit (axKey a 0x1A) 23 ≠ falling
  let t := (reachedEntries a (s.rd (axKey a 0x16)) d s).foldl (fun t e => reachEntry a falling ns e t) s
  setAxis a (fun x => { x with
    edges := if edge then keepEdge x.edges reversed ns else if reversed then [] else x.edges
    travel := x.travel + d }) (showPos a (wrapPos a (s.rd (axKey a 0x16) + d) s) (t.setBit (axKey a 0x1A) 23 falling))

theorem moveBy_none (edge : Bool) (ns : Nat) (s : P1) : moveBy a 0 edge ns s = s := if_pos rfl

theorem moveBy_some {d : Int} (h : d ≠ 0) (edge : Bool) (ns : Nat) (s : P1) :
    moveBy a d edge ns s = passSectors a (s.rd (axKey a 0x16)) d (emuAxis a (wrapPos a (s.rd (axKey a 0x16) + d) s) ns
      (armEntries a (wrapPos a (s.rd (axKey a 0x16) + d) s) (positionMoved a d edge ns s))) :=
  if_neg h

/-- What is left of a motion leaves the position. -/
theorem moveBy_follows {d : Int} (h : d ≠ 0) (edge : Bool) (ns : Nat) (s : P1) :
    MotionKept a (positionMoved a d edge ns s) (moveBy a d edge ns s) := by
  rw [moveBy_some h]
  exact ((putEntries_motion _ _).trans (emuAxis_motion _ _ _)).trans (passSectors_motion _ _ _)

theorem positionMoved_kept (d : Int) (edge : Bool) (ns : Nat) (s : P1) :
    Kept axisCell (P1.butMotion a) s (positionMoved a d edge ns s)
      ∧ (odWf s.od = true →
        (positionMoved a d edge ns s).rd (axKey a 0x16) = wrapPos a (s.rd (axKey a 0x16) + d) s) := by
  have hreached (l : List CmpEntry) (falling : Bool) : MotionKept a s
      ((l.foldl (fun t e => reachEntry a falling ns e t) s).setBit (axKey a 0x1A) 23 falling) :=
    (Kept.foldl (fun t e => reachEntry_motion falling ns e t) l s).trans
      (wrAxis_motion (sub := 0x1A) (by decide) (by decide) _ _)
  have htravel (r : Prop) [Decidable r] (t : P1) : MotionKept a t (setAxis a (fun x => { x with
      edges := if edge then keepEdge x.edges r ns else if r then [] else x.edges
      travel := x.travel + d }) t) := setAxis_motion t
  refine ⟨(((hreached _ _).mono axisCell_of_motionCell).trans (showPos_kept _ _)).trans
    ((htravel _ _).mono axisCell_of_motionCell), fun hwf => ?_⟩
  unfold positionMoved
  dsimp only
  rw [setAxis_rd]
  exact showPos_position ((hreached _ _).cells.canonical hwf) _

theorem moveBy_kept (d : Int) (edge : Bool) (ns : Nat) (s : P1) :
    Kept axisCell (P1.butMotion a) s (moveBy a d edge ns s) := by
  by_cases hd : d = 0
  · rw [hd, moveBy_none]
    exact .refl _ _ s
  · exact (positionMoved_kept d edge ns s).1.trans ((moveBy_follows hd edge ns s).mono axisCell_of_motionCell)

/-- A linear axis shows the position that it moves to. -/
theorem moveTo_position {s : P1} (hwf : odWf s.od = true) (hlinear : isModulo a s = false) (q : Int) (ns : Nat) :
    (moveTo a q ns s).rd (axKey a 0x16) = q := by
  have hway : wayTo a (s.rd (axKey a 0x16)) (wrapPos a q s) s = q - s.rd (axKey a 0x16) := by
    simp [wayTo, wrapPos, hlinear]
  unfold moveTo
  dsimp only
  rw [hway]
  by_cases hd : q - s.rd (axKey a 0x16) = 0
  · rw [hd, moveBy_none]
    omega
  · obtain ⟨hmoved, hposition⟩ := positionMoved_kept (a := a) (q - s.rd (axKey a 0x16))
      (coarseEdge a (q - s.rd (axKey a 0x16)) s) ns s
    have hleft := (moveBy_follows hd (coarseEdge a (q - s.rd (axKey a 0x16)) s) ns s).cells.same
      (hmoved.cells.canonical hwf) _ (motionCell_position a)
    rw [hleft, hposition hwf]
    simp [wrapPos, hlinear]

theorem moveTo_kept (q : Int) (ns : Nat) (s : P1) : Kept axisCell (P1.butMotion a) s (moveTo a q ns s) := moveBy_kept _ _ _ _

theorem changePos_kept (q : Int) (s : P1) : Kept axisCell (P1.butMotion a) s (changePos a q s) :=
  (showPos_kept _ _).trans (((reevaluate_motion _).trans (emuAxis_motion _ _ _)).mono axisCell_of_motionCell)

theorem changePos_position {s : P1} (hwf : odWf s.od = true) (q : Int) :
    (changePos a q s).rd (axKey a 0x16) = wrapPos a q s := by
  have hfollows := (reevaluate_motion (a := a) (showPos a (wrapPos a q s) s)).trans (emuAxis_motion (wrapPos a q s) s.ns _)
  exact (hfollows.cells.same ((showPos_kept _ s).cells.canonical hwf) _ (motionCell_position a)).trans
    (showPos_position hwf _)

/-- A counted signal error (R330, R333). -/
theorem signalError_motion (s : P1) : MotionKept a s (signalError a s) := by
  have hnoted (l : List Nat) (t : P1) : MotionKept a t (setAxis a (fun x => { x with errors := l }) t) :=
    setAxis_motion t
  have hcounted (l : List Nat) : MotionKept a s
      ((setAxis a (fun x => { x with errors := l }) s).inc (axKey a 0x20)) :=
    (hnoted l s).trans (wrAxis_motion (sub := 0x20) (by decide) (by decide) _ _)
  unfold signalError
  dsimp only
  split
  · exact (hcounted _).trans (axisFault_motion (by decide) _)
  · exact hcounted _

end

end Sys2Proof.Machine
end

section
/-! SUPPORT. Encoder axes (R331–R347, R356): what a count, an index, a read, a window and a signal fault do to an axis that
runs. -/

namespace Sys2Proof.Machine

section
variable {a : Fin 8} {s : P1}

theorem setAxis_axis (a : Fin 8) (f : AxisState → AxisState) (s : P1) : (setAxis a f s).axes[a] = f s.axes[a] :=
  upd_get _ _ _

/-! ### An axis that is disabled or stopped -/

theorem countEdge_idle (h : axisRuns a s = false) (q : Int) (ns : Nat) : countEdge a q ns s = s := if_pos (by simp [h])

theorem indexPulse_idle (h : axisRuns a s = false) (c : Int) : indexPulse a c s = s := if_pos (by simp [h])

theorem absoluteStart_idle (h : axisRuns a s = false) : absoluteStart a s = s := if_neg (by simp [h])

theorem absoluteDone_idle (h : axisRuns a s = false) (r : AbsRead) : absoluteDone a r s = s := if_neg (by simp [h])

theorem speedWindow_idle (h : axisRuns a s = false) : speedWindow a s = s := if_neg (by simp [h])

theorem axisSignalFault_idle (h : axisRuns a s = false) (c : Fin 6) : axisSignalFault a c s = s := if_neg (by simp [h])

/-- An axis that runs is not stopped. -/
theorem works_of_axisRuns (h : axisRuns a s = true) : s.stopped (axisAddr a) = false := by
  simpa using (Bool.and_eq_true_iff.mp h).2

/-! ### Counts (R337) -/

/-- A count of an incremental axis is its motion; its time and a signal error follow. -/
theorem countEdge_follows (hruns : axisRuns a s = true) (htype : s.rd (axKey a 2) = 1) (q : Int) (ns : Nat) :
    MotionKept a (moveTo a q ns s) (countEdge a q ns s) := by
  have htimed (t : P1) : MotionKept a t (setAxis a (fun x => { x with coarse := [], valueAt := (ns : Int) }) t) :=
    setAxis_motion t
  unfold countEdge
  dsimp only
  rw [if_neg (by simp [hruns, htype])]
  simp only [htype]
  split
  · exact (htimed _).trans (signalError_motion _)
  · exact htimed _

/-! ### The index (R341, R345, R346) -/

theorem P1.setBit_bit (hwf : odWf s.od = true) (k n m : Nat) (b : Bool) :
    (s.setBit k n b).bit k m = if m = n then b else s.bit k m := by
  rw [P1.bit, P1.setBit_rd hwf, if_pos rfl]
  split
  · next hm => rw [hm, bitOf_withBit]
  · next hm => exact bitOf_withBit_other _ _ _ _ hm

/-- Loading the sector entries sets SECTOR_LOADED and touches the axis in them alone. -/
theorem loadReferenced_cases (a : Fin 8) (s : P1) : loadReferenced a s = s ∨
    ∃ l, loadReferenced a s =
      setAxis a (fun x => { x with sectors := l, loads := x.loads + 1 }) (s.setBit (axKey a 0x1A) 21 true) := by
  unfold loadReferenced loadSectors
  split_ifs
  · exact .inl rfl
  · exact .inr ⟨_, rfl⟩
  · exact .inl rfl

theorem reference_motion (s : P1) : MotionKept a s (reference a s) := by
  have hbit := wrAxis_motion (a := a) (sub := 0x1A) (by decide) (by decide) (withBit (s.rd (axKey a 0x1A)) 16 true) s
  have hload (t : P1) : MotionKept a t (loadReferenced a t) := by
    unfold loadReferenced
    split
    · exact loadSectors_motion _ t
    · exact .refl _ _ t
  exact (hbit.trans (record_motion _ _ _)).trans (hload _)

/-- A reference keeps the anchor and the index of its axis. -/
theorem reference_axis (a : Fin 8) (s : P1) :
    (reference a s).axes[a].anchor = s.axes[a].anchor ∧ (reference a s).axes[a].index = s.axes[a].index := by
  have haxes (code param : Nat) (t : P1) : (record code param t).axes = t.axes :=
    have hsame : (record code param t).butRecord.axes = t.butRecord.axes := congrArg P1.axes (record_butRecord code param t)
    hsame
  unfold reference
  rcases loadReferenced_cases a (record 0x0A01 (packDetails [(8, a.val)]) (s.setBit (axKey a 0x1A) 16 true)) with h | ⟨l, h⟩
  · rw [h, haxes]
    exact ⟨rfl, rfl⟩
  · rw [h, setAxis_axes, upd_get, P1.setBit_axes, haxes]
    exact ⟨rfl, rfl⟩

/-- A reference shows itself (R345). -/
theorem reference_bit (hwf : odWf s.od = true) : (reference a s).bit (axKey a 0x1A) 16 = true := by
  have hstatus : answerCounter (axKey a 0x1A) = false := by revert a; decide
  have hset : odWf (s.setBit (axKey a 0x1A) 16 true).od = true := odWf_odPut hwf _ _
  have hrecorded := record_cellsKept 0x0A01 (packDetails [(8, a.val)]) (s.setBit (axKey a 0x1A) 16 true)
  have hbit : (record 0x0A01 (packDetails [(8, a.val)]) (s.setBit (axKey a 0x1A) 16 true)).bit (axKey a 0x1A) 16 = true :=
    (congrArg (bitOf · 16) (hrecorded.same hset _ hstatus)).trans ((P1.setBit_bit hwf _ _ _ _).trans (if_pos rfl))
  unfold reference
  rcases loadReferenced_cases a (record 0x0A01 (packDetails [(8, a.val)]) (s.setBit (axKey a 0x1A) 16 true)) with h | ⟨l, h⟩
  · rw [h, hbit]
  · rw [h]
    exact (P1.setBit_bit (hrecorded.canonical hset) _ _ _ _).trans hbit

/-- An axis whose anchor is an index count (R345). -/
def AxisState.anchored (c : Int) (x : AxisState) : AxisState := { x with anchor := some c, index := c }

/-- The first index after an enable becomes the anchor (R345). -/
theorem indexPulse_first (hruns : axisRuns a s = true) (hmode : s.field (axKey a 0x11) 0 2 ≠ 0)
    (hcount : isAbsolute a s = false) (hanchor : s.axes[a].anchor = none) (hhome : s.bit (axKey a 0x11) 2 = false) (c : Int) :
    indexPulse a c s = reference a (setAxis a (AxisState.anchored c) s) := by
  unfold indexPulse firstIndex
  rw [if_neg (by simp [hruns, hmode, hcount]), hanchor]
  exact if_neg (by simp [hhome])

/-- An index at the expected count clears INDEX_ERROR and ends the alarms of the axis (R346). -/
theorem indexPulse_expected {x c : Int} (hruns : axisRuns a s = true) (hmode : s.field (axKey a 0x11) 0 2 ≠ 0)
    (hcount : isAbsolute a s = false) (hanchor : s.axes[a].anchor = some x) (hexpected : expectedCount x (cprOf a s) c = c) :
    indexPulse a c s = lowerAll 0x0A02 (fun p => p % 256 = a.val)
      ((setAxis a (fun y => { y with index := c }) s).setBit (axKey a 0x1A) 17 false) := by
  have hcpr : cprOf a (setAxis a (fun y => { y with index := c }) s) = cprOf a s := rfl
  unfold indexPulse laterIndex
  rw [if_neg (by simp [hruns, hmode, hcount]), hanchor]
  dsimp only
  rw [hcpr, hexpected]
  exact if_pos (Int.sub_self c)

theorem lowerAll_kept (code : Nat) (p : Nat → Bool) (s : P1) : FaultKept s (lowerAll code p s) :=
  Kept.foldl (fun t (x : Alarm) => ⟨(lower_cellsKept code x.param t).mono faultCell_of_raiseCell,
    P1.butFault_of_alarm (lower_butAlarm code x.param t)⟩) _ s

/-- The cells of an axis are none of a fault's. -/
theorem faultCell_axKey (a : Fin 8) {sub : Nat} (h : sub < 256) : faultCell (axKey a sub) = false := by
  refine Bool.eq_false_iff.mpr fun hcell => ?_
  have hindex : axKey a sub / 256 = 0x5200 + a := by simp only [axKey, ob]; omega
  simp only [faultCell, raiseCell, alarmCell, answerCounter, answerCell, Bool.or_eq_true, decide_eq_true_eq] at hcell
  simp only [ob] at hcell
  omega

/-! ### Absolute reads (R331) -/

theorem absoluteStart_due (hruns : axisRuns a s = true) (habs : isAbsolute a s = true)
    (hdue : s.grainIndex % readPeriod (s.rd (axKey a 9)) = 0) :
    absoluteStart a s = setAxis a (fun x => { x with reading := some s.ns }) s :=
  if_pos (by simp [hruns, habs, hdue])

theorem absoluteDone_reading (hruns : axisRuns a s = true) (habs : isAbsolute a s = true)
    (hreading : s.axes[a].reading.isSome = true) (r : AbsRead) :
    absoluteDone a r s = if readFails a r s then failedRead a s else goodRead a r s :=
  if_pos (by simp [hruns, habs, hreading, -Fin.getElem_fin])

/-- P1 with one more failed read of an axis counted. -/
def readFailed (a : Fin 8) (s : P1) : P1 :=
  (setAxis a (fun x => { x with failedReads := s.axes[a].failedReads + 1, reading := none }) s).inc (axKey a 0x20)

theorem failedRead_early (h : s.axes[a].failedReads < 2) : failedRead a s = readFailed a s :=
  if_neg (show ¬3 ≤ s.axes[a].failedReads + 1 by omega)

theorem failedRead_third (h : 2 ≤ s.axes[a].failedReads) : failedRead a s = axisFault a 0x103 (readFailed a s) :=
  if_pos (show 3 ≤ s.axes[a].failedReads + 1 by omega)

/-- A good read ends, with no failed read before the next (R331). -/
theorem goodRead_axis (a : Fin 8) (r : AbsRead) (s : P1) :
    (goodRead a r s).axes[a].failedReads = 0 ∧ (goodRead a r s).axes[a].reading = none := by
  have hkept (f : AxisState → AxisState) (hfailed : ∀ x, (f x).failedReads = 0) (hreading : ∀ x, (f x).reading = none)
      (u t : P1) (h : Kept axisCell (P1.butMotion a) (setAxis a f u) t) :
      t.axes[a].failedReads = 0 ∧ t.axes[a].reading = none := by
    have haxis := P1.axis_of_motion h.same
    rw [setAxis_axes, upd_get] at haxis
    exact ⟨(congrArg AxisState.failedReads haxis).trans (hfailed _), (congrArg AxisState.reading haxis).trans (hreading _)⟩
  unfold goodRead
  extract_lets p ns warn t
  refine hkept _ (fun _ => rfl) (fun _ => rfl) _ _ (?_ : Kept axisCell (P1.butMotion a) t _)
  split
  · exact moveTo_kept _ _ t
  · exact (changePos_kept _ t).trans ((reference_motion _).mono axisCell_of_motionCell)

/-! ### Faults (R333) -/

theorem P1.stopped_of_inForce {x y : P1} (h : y.inForce = x.inForce) (addr : Nat) : y.stopped addr = x.stopped addr :=
  congrArg (fun l : List FaultRec × List FaultRec =>
    (l.1 ++ l.2).any fun f => levelOf f.addr ≠ 5 && blockHolds f.addr addr) h

/-- The stop of an axis ends no fault, and leaves the axis not referenced and without sector entries. -/
theorem axisStop_stops (a : Fin 8) (s : P1) : (axisStop a s).inForce = s.inForce ∧ (axisStop a s).axes[a].sectors = []
    ∧ (odWf s.od = true → (axisStop a s).bit (axKey a 0x1A) 16 = false) := by
  have hstatus : emulationCell (axKey a 0x1A) = false := by revert a; decide
  obtain ⟨hcells, hheld⟩ := holdEmulation_cells (a := a)
    (setAxis a AxisState.halted (s.setBits (axKey a 0x1A) [(16, false), (21, false)]))
  have haxes := congrArg P1.axes hheld
  have hforce : (setAxis a AxisState.halted (s.setBits (axKey a 0x1A) [(16, false), (21, false)])).inForce = s.inForce :=
    (P1.inForce_of_cells (P1.setBits_butCells (axKey a 0x1A) [(16, false), (21, false)] s) :)
  rw [axisStop_eq]
  refine ⟨(P1.inForce_of_cells hheld).trans hforce,
    (congrArg (fun v : Vector AxisState 8 => v[a].sectors) haxes).trans
      (congrArg AxisState.sectors (setAxis_axis a AxisState.halted _)), fun hwf => ?_⟩
  have hset : odWf (s.setBit (axKey a 0x1A) 16 false).od = true := odWf_odPut hwf _ _
  exact (congrArg (bitOf · 16) (hcells.same (odWf_odPut hset _ _) _ hstatus)).trans
    ((P1.setBit_bit hset _ _ _ _).trans ((P1.setBit_bit hwf _ _ _ _).trans (if_pos rfl)))

/-- A fault of an axis that runs stops it (R333). -/
theorem axisFault_stops {cause : Nat} (hcause : cause < 1024) (hworks : s.stopped (axisAddr a) = false) :
    (axisFault a cause s).stopped (axisAddr a) = true ∧ (axisFault a cause s).axes[a].sectors = []
      ∧ (odWf s.od = true → (axisFault a cause s).bit (axKey a 0x1A) 16 = false) := by
  obtain ⟨hforce, hsectors, hbit⟩ := axisStop_stops a (axisFaultAdded a cause s)
  have hlevel : levelOf (axisAddr a + cause) ≠ 5 :=
    levelOf_package (by have ha := a.isLt; simp only [axisAddr, unitAddr]; omega)
  have hrecorded := P1.stopped_of_inForce (P1.inForce_of_alarm
    (recordAlarm_butAlarm true 0x0A00 (axisFaultParam a cause) (axisFaultParam a cause) s)) (axisAddr a)
  have hadded := addFault_stops hlevel (s := recordAlarm true 0x0A00 (axisFaultParam a cause) (axisFaultParam a cause) s)
    (by rw [blockOf_axisFault a hcause, hrecorded, hworks])
  rw [blockOf_axisFault a hcause] at hadded
  rw [axisFault_running hworks]
  exact ⟨(P1.stopped_of_inForce hforce _).trans hadded, hsectors,
    fun hwf => hbit ((axisFaultAdded_motion hcause s).cells.canonical hwf)⟩

theorem axisSignalFault_runs (h : axisRuns a s = true) (c : Fin 6) :
    axisSignalFault a c s = axisFault a (0x100 + c) (if c = 1 then s.add (axKey a 0x20) 8 else s) :=
  if_pos h

/-- A signal fault of an axis that runs stops it (R333). -/
theorem axisSignalFault_stops (h : axisRuns a s = true) (c : Fin 6) :
    (axisSignalFault a c s).stopped (axisAddr a) = true ∧ (axisSignalFault a c s).axes[a].sectors = []
      ∧ (odWf s.od = true → (axisSignalFault a c s).bit (axKey a 0x1A) 16 = false) := by
  have hcause : 0x100 + c.val < 1024 := by omega
  rw [axisSignalFault_runs h]
  split
  · obtain ⟨hstopped, hsectors, hbit⟩ :=
      axisFault_stops (s := s.add (axKey a 0x20) 8) hcause ((works_of_axisRuns h : s.stopped (axisAddr a) = false) :)
    exact ⟨hstopped, hsectors, fun hwf => hbit (odWf_odPut hwf _ _)⟩
  · exact axisFault_stops hcause (works_of_axisRuns h)

/-! ### Speed windows and compare pulses (R335, R340) -/

theorem showSpeed_butCells (v : Rat) (s : P1) : (showSpeed a v s).butCells = (s.drawN 2).butCells := by
  have hshown (n : Nat) (l : List (Nat × Int)) (b : Bool) : (((s.wrs l).setBit (axKey a 0x1A) n b).drawN 2).butCells
      = (s.drawN 2).butCells :=
    show ((s.wrs l).butCells.drawN 2).butCells = (s.butCells.drawN 2).butCells by rw [P1.wrs_butCells]
  exact hshown _ _ _

/-- A speed window ends in its grain, once (R335). -/
theorem speedWindow_due (hruns : axisRuns a s = true) (hclass : s.rd (axKey a 0x0B) = 1)
    (hdue : s.grainIndex % (s.rdN (axKey a 0x0F) * 1000) = 0) (hnew : s.axes[a].windowAt ≠ some s.elapsed) :
    ∃ v, speedWindow a s = showSpeed a v
      (setAxis a (fun x => { x with windowTravel := s.before.axes[a].travel, windowAt := some s.elapsed }) s) :=
  ⟨_, if_pos (by simp [hruns, hclass, hdue, hnew, -Fin.getElem_fin])⟩

theorem comparePulseEnd_due {g : Nat} (hpulse : s.axes[a].pulseEnd = some g) (h : g ≤ s.elapsed) :
    comparePulseEnd a s = setAxis a (fun x => { x with pulseEnd := none }) s :=
  if_pos (by simp [hpulse, h, -Fin.getElem_fin])

theorem comparePulseEnd_early {g : Nat} (hpulse : s.axes[a].pulseEnd = some g) (h : s.elapsed < g) :
    comparePulseEnd a s = s :=
  if_neg (by simp [hpulse, h, -Fin.getElem_fin])

/-! ### Writes (R342) -/

theorem setPositionRule_mode_commissioning {v : Int} (h : s.mode = 1) : (setPositionRule a v).mode s = 0 := if_pos h

theorem setPositionRule_mode_elsewhere {v : Int} (h : s.mode ≠ 1) : (setPositionRule a v).mode s = abMode := if_neg h

theorem setPositionRule_check_free {v : Int} (h : s.bit (axKey a 0x1A) 21 = false) : (setPositionRule a v).check s = 0 :=
  if_neg (by simp [h])

theorem setPositionRule_check_used {v : Int} (h : s.bit (axKey a 0x1A) 21 = true) :
    (setPositionRule a v).check s = abRange :=
  if_pos h

end

/-- Settles O42: an event of an axis acts through the lemma of its rule, and what follows a motion, a reference or a fault
leaves the cells and the parts of the axis that the statement names. -/
theorem axesCountReferenceAndStop : Obligations.AxesCountReferenceAndStop := by
  intro s a hup hserves
  refine ⟨fun hidle q n r c => ⟨onP1_idle hup (countEdge_idle hidle q n), onP1_idle hup (indexPulse_idle hidle q),
      onP1_idle hup (absoluteStart_idle hidle), onP1_idle hup (absoluteDone_idle hidle r),
      onP1_idle hup (speedWindow_idle hidle), onP1_idle hup (axisSignalFault_idle hidle c)⟩,
    fun q n hruns htype hlinear hwf => ?count, fun c hruns hmode hcount hanchor hhome hwf => ?firstIndex,
    fun c x hruns hmode hcount hanchor hexpected hwf => ?expectedIndex,
    fun hruns habs hdue => ⟨_, onP1_next hup (absoluteStart_due hruns habs hdue),
      congrArg AxisState.reading (setAxis_axis a _ s.p1), rfl⟩,
    fun r hruns habs hreading hfails hearly => ?failedRead, fun r hruns habs hreading hfails hthird => ?thirdFailure,
    fun r hruns habs hreading hgood => ?goodRead, fun hruns hclass hdue hnew => ?window,
    fun c hruns hwf => ?signalFault,
    fun g hpulse hdue => ⟨_, onP1_next hup (comparePulseEnd_due hpulse hdue),
      congrArg AxisState.pulseEnd (setAxis_axis a _ s.p1), rfl⟩,
    fun g hpulse hearly => onP1_idle hup (comparePulseEnd_early hpulse hearly),
    fun w v hacc hmode hfree => ⟨onReq_accepted (r := setPositionRule a v) hserves hacc
      (setPositionRule_mode_commissioning hmode) (setPositionRule_check_free hfree) rfl,
      fun hwf => changePos_position hwf v⟩,
    fun w v hacc hmode => onReq_modeRefused hserves hacc (by decide) (setPositionRule_mode_elsewhere hmode),
    fun w v hacc hmode hused => onReq_checkRefused hserves hacc (by decide) (setPositionRule_mode_commissioning hmode)
      (setPositionRule_check_used hused),
    fun w v hacc => onReq_eff hserves hacc,
    fun w o v hacc => onReq_effect (r := emulationRule o v) hserves hacc rfl rfl rfl rfl⟩
  case count =>
    have hmoved := moveTo_kept (a := a) q n s.p1
    have hleft := countEdge_follows hruns htype q n
    refine ⟨_, onP1_next hup rfl, ?_, rfl, rfl, fun b hb => ?_⟩
    · exact (hleft.cells.same (hmoved.cells.canonical hwf) _ (motionCell_position a)).trans
        (moveTo_position hwf (by simpa [isModulo] using hlinear) q n)
    · exact P1.otherAxis_of_motion (hleft.same.trans hmoved.same) hb
  case firstIndex =>
    have hset : odWf (setAxis a (AxisState.anchored c) s.p1).od = true := hwf
    obtain ⟨hkeptAnchor, hkeptIndex⟩ := reference_axis a (setAxis a (AxisState.anchored c) s.p1)
    refine ⟨_, onP1_next hup (indexPulse_first hruns hmode hcount hanchor hhome c), ?_, ?_, reference_bit hset, ?_⟩
    · exact hkeptAnchor.trans (congrArg AxisState.anchor (setAxis_axis a _ s.p1))
    · exact hkeptIndex.trans (congrArg AxisState.index (setAxis_axis a _ s.p1))
    · exact (reference_motion (a := a) _).cells.same hset _ (motionCell_position a)
  case expectedIndex =>
    have hset : odWf ((setAxis a (fun y => { y with index := c }) s.p1).setBit (axKey a 0x1A) 17 false).od = true :=
      odWf_odPut hwf _ _
    have hlowered := lowerAll_kept 0x0A02 (fun p => p % 256 = a.val)
      ((setAxis a (fun y => { y with index := c }) s.p1).setBit (axKey a 0x1A) 17 false)
    have hother {sub : Nat} (h : sub ≠ 0x1A) : axKey a sub ≠ axKey a 0x1A := fun he => h (Nat.add_left_cancel he)
    have hcell {sub : Nat} (h : sub < 256) := hlowered.cells.same hset (axKey a sub) (faultCell_axKey a h)
    have haxes := congrArg (fun t : P1 => t.axes[a].index) hlowered.same
    refine ⟨_, onP1_next hup (indexPulse_expected hruns hmode hcount hanchor hexpected), ?_, ?_, ?_, ?_⟩
    · exact haxes.trans (congrArg AxisState.index (setAxis_axis a _ s.p1))
    · exact (congrArg (bitOf · 17) (hcell (sub := 0x1A) (by decide))).trans
        ((P1.setBit_bit (s := setAxis a (fun y => { y with index := c }) s.p1) hwf _ _ _ _).trans (if_pos rfl))
    · exact (hcell (sub := 0x16) (by decide)).trans (P1.wr_rd_other (hother (by decide)) _ _)
    · exact (hcell (sub := 0x1D) (by decide)).trans (P1.wr_rd_other (hother (by decide)) _ _)
  case failedRead =>
    refine ⟨_, onP1_next hup ((absoluteDone_reading hruns habs hreading r).trans ((if_pos hfails).trans
      (failedRead_early hearly))), ?_, ?_, rfl⟩
    · exact congrArg AxisState.failedReads (setAxis_axis a _ s.p1)
    · exact congrArg AxisState.reading (setAxis_axis a _ s.p1)
  case thirdFailure =>
    exact ⟨_, onP1_next hup ((absoluteDone_reading hruns habs hreading r).trans ((if_pos hfails).trans
      (failedRead_third hthird))), (axisFault_stops (s := readFailed a s.p1) (by decide) (works_of_axisRuns hruns :)).1⟩
  case goodRead =>
    exact ⟨_, onP1_next hup ((absoluteDone_reading hruns habs hreading r).trans (if_neg (by simp [hgood]))),
      goodRead_axis a r s.p1⟩
  case window =>
    obtain ⟨v, hended⟩ := speedWindow_due hruns hclass hdue hnew
    have hshown := showSpeed_butCells (a := a) v (setAxis a (fun x => { x with
      windowTravel := s.p1.before.axes[a].travel, windowAt := some s.p1.elapsed }) s.p1)
    have haxis := (congrArg (fun t : P1 => t.axes[a]) hshown).trans (setAxis_axis a _ s.p1)
    exact ⟨_, onP1_next hup hended, congrArg AxisState.windowTravel haxis, congrArg AxisState.windowAt haxis,
      congrArg P1.free hshown⟩
  case signalFault =>
    obtain ⟨hstopped, hsectors, hbit⟩ := axisSignalFault_stops hruns c
    exact ⟨_, onP1_next hup rfl, hstopped, hbit hwf, hsectors⟩

end Sys2Proof.Machine
end

section
/-! SUPPORT. Compare lists, probes, filter outputs and shunts (R339–R344, R351, R352, R358, R375): what a write stages, what a
read or a latch queues, and what the judgement of an output leaves of its display. -/

namespace Sys2Proof.Machine

/-! ### Compare entries (R339, R341, R358) -/

section
variable {a : Fin 8} {s : P1}

theorem compareListRule_check_formed {b : List Byte} (h : listOk b = true) : (compareListRule a b).check s = 0 := if_pos h

theorem compareListRule_check_malformed {b : List Byte} (h : listOk b = false) : (compareListRule a b).check s = abRange :=
  if_neg (by simp [h])

theorem compareEntryRule_check_user {b : List Byte} (hlength : b.length = 20) (hno : leAt b 0 4 < 248) :
    (compareEntryRule a b).check s = 0 :=
  if_pos (by simp [hlength, hno])

theorem compareEntryRule_check_other {b : List Byte} (h : b.length ≠ 20 ∨ 248 ≤ leAt b 0 4) :
    (compareEntryRule a b).check s = abRange :=
  if_neg (by rcases h with h | h <;> simp [h])

/-- Staged entries come into force, each judged at the position of that time (R339). -/
theorem adoptEntries_waiting (h : s.axes[a].staged ≠ [] ∨ s.axes[a].restage = true) :
    (adoptEntries a s).axes[a] = { s.axes[a] with
      entries := (s.axes[a].staged.map fun e => writtenEntry a e s).foldl (fun l e => putEntry e l)
        (if s.axes[a].restage then [] else s.axes[a].entries)
      staged := [], restage := false } := by
  have hwaits : ¬(s.axes[a].staged = [] && !s.axes[a].restage) = true := by
    rcases h with h | h <;> simp [h, -Fin.getElem_fin]
  unfold adoptEntries
  dsimp only
  rw [if_neg hwaits]
  exact setAxis_axis a _ s

end

/-! ### Reads that remove (R340, R344) -/

theorem answerData_butAnswer (w k : Nat) (b : List Byte) (s : P1) : (answerData w k b s).butAnswer = s.butAnswer := by
  unfold answerData
  split
  · rfl
  · exact answerWith_butAnswer ..

theorem setProbe_probe (k : Fin 2) (f : Probe → Probe) (s : P1) : (setProbe k f s).probes[k] = f s.probes[k] := upd_get _ _ _

/-! ### Probes (R343, R344) -/

section
variable {k : Fin 2} {s : P1}

theorem probeLatch_off (h : s.rd (prKey k 1) ≠ 1) (falling : Bool) (ns : Nat) (glitch : Bool) :
    probeLatch k falling ns glitch s = s :=
  if_pos (by simp [h])

/-- A probe that takes both edges. -/
theorem probeLatch_both (hon : s.rd (prKey k 1) = 1) (hworks : s.stopped (unitAddr 1 1 2 0 (10 + k)) = false)
    (hboth : s.rd (prKey k 3) = 2) (falling : Bool) (ns : Nat) (glitch : Bool) :
    probeLatch k falling ns glitch s = if glitch && s.rd (prKey k 4) ≠ 0 then s.inc (prKey k 9)
      else setProbe k (fun p => { p with latched := p.latched ++ [latchNow k falling ns s] }) s :=
  if_neg (by simp [hon, hworks, hboth])

theorem probeQueued_none (h : s.probes[k].latched = []) : probeQueued k s = s := by
  unfold probeQueued
  rw [h]

theorem probeQueued_incomplete {b : ProbeLatch} {r : List ProbeLatch} (h : s.probes[k].latched = b :: r)
    (hcomplete : latchComplete b s = false) : probeQueued k s = s := by
  unfold probeQueued
  rw [h]
  exact if_pos (by simp [hcomplete])

/-- A complete latch with room becomes a record (R343). -/
theorem probeQueued_room {b : ProbeLatch} {r : List ProbeLatch} (h : s.probes[k].latched = b :: r)
    (hcomplete : latchComplete b s = true) (hroom : s.probes[k].records.length < 16) :
    (probeQueued k s).probes[k] = ⟨r, s.probes[k].records ++ [probeRecord k b s]⟩ := by
  unfold probeQueued
  rw [h]
  dsimp only
  rw [if_neg (by simp [hcomplete]), if_pos hroom]
  exact setProbe_probe k _ (s.drawN 8)

/-- A complete latch without room is lost (R344). -/
theorem probeQueued_full {b : ProbeLatch} {r : List ProbeLatch} (h : s.probes[k].latched = b :: r)
    (hcomplete : latchComplete b s = true) (hfull : 16 ≤ s.probes[k].records.length) :
    (probeQueued k s).probes[k] = ⟨r, s.probes[k].records⟩ := by
  unfold probeQueued
  rw [h]
  dsimp only
  rw [if_neg (by simp [hcomplete]), if_neg (by omega)]
  exact setProbe_probe k _ s

end

/-! ### What the judgement of an output leaves (R330, R352–R354, R375) -/

/-- Every cell but those of the filter channels. -/
def besideFilters (k : Nat) : Bool := k < ob 0x5310 0 || ob 0x5330 0 ≤ k

theorem besideFilters_of_axisCell (k : Nat) (h : axisCell k = true) : besideFilters k = true := by
  simp only [axisCell, motionCell, emulationCell, faultCell, raiseCell, alarmCell, answerCounter, answerCell,
    Bool.or_eq_true, Bool.and_eq_true, decide_eq_true_eq] at h
  simp only [besideFilters, ob, Bool.or_eq_true, decide_eq_true_eq] at h ⊢
  omega

theorem besideFilters_of_raiseCell (k : Nat) (h : raiseCell k = true) : besideFilters k = true :=
  besideFilters_of_axisCell k (axisCell_of_motionCell k (motionCell_of_faultCell k (faultCell_of_raiseCell k h)))

theorem besideFilters_fiKey (c : Fin 32) {sub : Nat} (h : sub < 256) : besideFilters (fiKey c sub) = false := by
  refine Bool.eq_false_iff.mpr fun hbeside => ?_
  simp only [besideFilters, Bool.or_eq_true, decide_eq_true_eq] at hbeside
  simp only [fiKey, ob] at hbeside
  omega

/-- The cells of an analog input. -/
theorem besideFilters_ai (i : Nat) : besideFilters (ob 0x5503 i) = true ∧ besideFilters (ob 0x5504 i) = true := by
  simp only [besideFilters, ob, Bool.or_eq_true, decide_eq_true_eq]
  omega

/-- An operation keeps the canonical form of the cells, what a channel shows of its output, its last output, and every other
channel. -/
structure OutputKept (c : Fin 32) (a b : P1) : Prop where
  canonical : odWf a.od = true → odWf b.od = true
  value : odWf a.od = true → b.rd (fiKey c 0x0B) = a.rd (fiKey c 0x0B)
  overload : odWf a.od = true → b.bit (fiKey c 0x0D) 1 = a.bit (fiKey c 0x0D) 1
  last : b.filt[c].last = a.filt[c].last
  others : ∀ d : Fin 32, d ≠ c → b.filt[d] = a.filt[d]

section
variable {c : Fin 32}

theorem OutputKept.refl (c : Fin 32) (s : P1) : OutputKept c s s := ⟨id, fun _ => rfl, fun _ => rfl, rfl, fun _ _ => rfl⟩

theorem OutputKept.trans {x y z : P1} (hxy : OutputKept c x y) (hyz : OutputKept c y z) : OutputKept c x z where
  canonical h := hyz.canonical (hxy.canonical h)
  value h := (hyz.value (hxy.canonical h)).trans (hxy.value h)
  overload h := (hyz.overload (hxy.canonical h)).trans (hxy.overload h)
  last := hyz.last.trans hxy.last
  others d hd := (hyz.others d hd).trans (hxy.others d hd)

/-- What leaves the filter channels and their cells. -/
theorem OutputKept.of_cells {s t : P1} (h : CellsKept besideFilters s t) (hfilt : t.filt = s.filt) : OutputKept c s t where
  canonical := h.canonical
  value hwf := h.same hwf _ (besideFilters_fiKey c (by decide))
  overload hwf := congrArg (bitOf · 1) (h.same hwf _ (besideFilters_fiKey c (by decide)))
  last := by rw [hfilt]
  others _ _ := by rw [hfilt]

/-- A change of the channel that leaves its last output. -/
theorem OutputKept.setFilt (s : P1) {f : FilterChan → FilterChan} (h : ∀ x, (f x).last = x.last := by intro x; rfl) :
    OutputKept c s (setFilt c f s) where
  canonical := id
  value _ := rfl
  overload _ := rfl
  last := (congrArg FilterChan.last (upd_get s.filt c f)).trans (h _)
  others _ hd := upd_get_other hd s.filt f

/-- A write of another bit of the channel's status. -/
theorem OutputKept.setBit {n : Nat} (h : 1 ≠ n) (b : Bool) (s : P1) : OutputKept c s (s.setBit (fiKey c 0x0D) n b) where
  canonical hwf := odWf_odPut hwf _ _
  value _ := P1.wr_rd_other (fun he => absurd (Nat.add_left_cancel he) (by decide)) _ s
  overload hwf := (P1.setBit_bit hwf _ _ _ _).trans (if_neg h)
  last := rfl
  others _ _ := rfl

theorem crossThreshold_kept (low set : Bool) (s : P1) : OutputKept c s (crossThreshold c low set s) := by
  have hbit : OutputKept c s (s.setBit (fiKey c 0x0D) (if low then 3 else 2) set) := .setBit (by cases low <;> decide) set s
  exact hbit.trans ⟨id, fun _ => rfl, fun _ => rfl, rfl, fun _ _ => rfl⟩

theorem judgeThresholds_kept (v : Int) (s : P1) : OutputKept c s (judgeThresholds c v s) := by
  unfold judgeThresholds
  extract_lets k hys up dn s1
  have hupper : OutputKept c s s1 := by
    unfold s1
    split_ifs
    · exact crossThreshold_kept false true s
    · exact crossThreshold_kept false false s
    · exact .refl c s
  split_ifs
  · exact hupper.trans (crossThreshold_kept true true s1)
  · exact hupper.trans (crossThreshold_kept true false s1)
  · exact hupper

theorem setAiFault_kept (n kind : Nat) (set : Bool) (s : P1) : OutputKept c s (setAiFault n kind set s) := by
  have hset : OutputKept c s (s.setBit (ob 0x5504 (n + 1)) kind set) := .of_cells (.wr (besideFilters_ai (n + 1)).2 _ s) rfl
  have hrecorded (p q : Nat) (t : P1) : OutputKept c t (recordAlarm set 0x0B05 p q t) :=
    .of_cells ((recordAlarm_cellsKept set 0x0B05 p q t).mono besideFilters_of_raiseCell)
      (show (recordAlarm set 0x0B05 p q t).butAlarm.filt = t.butAlarm.filt by rw [recordAlarm_butAlarm])
  unfold setAiFault
  split
  · exact .refl c s
  · exact hset.trans (hrecorded _ _ _)

theorem judgeAi_kept (n : Nat) (v : Int) (s : P1) : OutputKept c s (judgeAi n v s) := by
  unfold judgeAi
  dsimp only
  split
  · exact (setAiFault_kept n 0 _ s).trans (setAiFault_kept n 1 _ _)
  · exact (setAiFault_kept n 0 _ s).trans (setAiFault_kept n 1 _ _)

theorem showAi_kept (n : Nat) (v : Int) (s : P1) : OutputKept c s (showAi n v s) := by
  have hshown (x : Int) : OutputKept c s ((s.wr (ob 0x5503 (n + 1)) x).draw) :=
    .of_cells ((CellsKept.wr (besideFilters_ai (n + 1)).1 x s).trans (.of_od rfl)) rfl
  exact hshown _

theorem judgeShunt_kept (overload : Bool) (s : P1) : OutputKept c s (judgeShunt c overload s) := by
  have hsince (g : Option Nat) : OutputKept c s (setFilt c (fun x => { x with overSince := g }) s) := .setFilt s
  have hopened (t : P1) : OutputKept c t (setFilt c (fun x => { x with shuntAt := s.elapsed }) t) := .setFilt t
  unfold judgeShunt
  extract_lets since t
  have ht : OutputKept c s t := hsince since
  clear_value t since
  cases since with
  | none => exact ht
  | some g =>
    dsimp only
    split
    · exact (ht.trans (hopened t)).trans (setAiFault_kept _ _ _ _)
    · exact ht

theorem settledOutput_kept (v : Int) (s : P1) : OutputKept c s (settledOutput c v s) := by
  have hsettled : OutputKept c s (setFilt c (fun x => { x with settled := ((s.elapsed, v) :: x.settled).take 2 }) s) :=
    .setFilt s
  unfold settledOutput
  dsimp only
  split
  · exact hsettled
  · exact ((hsettled.trans (judgeThresholds_kept v _)).trans (judgeAi_kept _ v _)).trans (showAi_kept _ v _)

/-- A pair of track outputs acts on its axis alone (R330). -/
theorem sineOutput_kept (a : Fin 8) (sine cosine ts : Int) (s : P1) :
    Kept axisCell (P1.butMotion a) s (sineOutput a sine cosine ts s) := by
  have hnoted (x : Int × Int) (n : Nat) (b : Bool) (m : Int) : MotionKept a s
      ((setAxis a (fun y => { y with
        outs := (x :: y.outs).take 6, badOuts := n, valueAt := if b then ts else y.valueAt }) s).wr (axKey a 0x2A) m) :=
    (setAxis_motion s).trans (wrAxis_motion (by decide) (by decide) m _)
  have hmoved (b : Bool) (d : Int) (t : P1) :
      Kept axisCell (P1.butMotion a) t (if b then moveBy a d false ts.toNat t else t) := by
    split
    · exact moveBy_kept d false _ t
    · exact .refl _ _ t
  have hsignal (b : Bool) (t : P1) : Kept axisCell (P1.butMotion a) t (if b then signalError a t else t) := by
    split
    · exact (signalError_motion t).mono axisCell_of_motionCell
    · exact .refl _ _ t
  unfold sineOutput
  split
  · exact .refl _ _ s
  · extract_lets q cl raw amp bad n newer t u v
    have hjudged : Kept axisCell (P1.butMotion a) s v :=
      (((hnoted _ n newer _).mono axisCell_of_motionCell).trans (hmoved newer _ t)).trans (hsignal _ u)
    split
    · exact hjudged.trans ((axisFault_motion (by decide) v).mono axisCell_of_motionCell)
    · exact hjudged

theorem trackOutput_kept (v ts : Int) (s : P1) : OutputKept c s (trackOutput c v ts s) := by
  have hpair (x : Int) : OutputKept c s (sineOutput (trackAxis c) x v ts s) :=
    .of_cells ((sineOutput_kept (trackAxis c) x v ts s).cells.mono besideFilters_of_axisCell)
      (P1.filt_of_motion (sineOutput_kept (trackAxis c) x v ts s).same)
  unfold trackOutput
  split
  · split
    · exact hpair _
    · exact .refl c s
  · exact .refl c s

/-! ### Filter outputs (R351, R352) -/

theorem filterOutput_off {s : P1} (h : filtOn c s = false) (v : Int) (o : Bool) : filterOutput c v o s = s :=
  if_pos (by simp [h])

theorem filterOutput_early {s : P1} (h : outputDue c s = false) (v : Int) (o : Bool) : filterOutput c v o s = s :=
  if_pos (by simp [h])

/-- P1 once an output can have started an unsettled run (R352). -/
def runStarted (c : Fin 32) (v : Int) (overload : Bool) (s : P1) : P1 := if overload || isStep c v s then startRun c s else s

/-- The cells of a channel that show an output, with what is left of the run. -/
def outputCells (c : Fin 32) (v : Int) (overload : Bool) (s t : P1) : P1 :=
  (((t.wrs [(fiKey c 0x0B, sat32 v), (fiKey c 0x0C, representedTime c s % 4294967296)]).draw.setField (fiKey c 0x0D) 8 8
    (t.field (fiKey c 0x0D) 8 8 - 1)).setBits (fiKey c 0x0D) [(0, t.field (fiKey c 0x0D) 8 8 ≠ 0), (1, overload)])

/-- P1 once an output is shown, before it is judged. -/
def outputShown (c : Fin 32) (v : Int) (overload : Bool) (s : P1) : P1 :=
  setFilt c (fun x => { x with last := some v, outAt := some s.elapsed })
    (outputCells c v overload s (runStarted c v overload s))

/-- An output that is due is shown, and its judgement leaves what is shown. -/
theorem filterOutput_due {s : P1} (hon : filtOn c s = true) (hdue : outputDue c s = true) (v : Int) (o : Bool) :
    OutputKept c (outputShown c v o s) (filterOutput c v o s) := by
  have hjudged := judgeShunt_kept (c := c) o (outputShown c v o s)
  have hused (b : Prop) [Decidable b] (ts : Int) (t : P1) :
      OutputKept c t (if b then trackOutput c v ts (settledOutput c v t) else t) := by
    split
    · exact (settledOutput_kept v t).trans (trackOutput_kept v ts _)
    · exact .refl c t
  unfold filterOutput
  rw [if_neg (by simp [hon, hdue])]
  exact hjudged.trans (hused _ _ _)

theorem odWf_runStarted {s : P1} (hwf : odWf s.od = true) (v : Int) (o : Bool) : odWf (runStarted c v o s).od = true := by
  unfold runStarted
  split
  · exact odWf_odPut (odWf_odPut hwf _ _) _ _
  · exact hwf

theorem runStarted_filt (v : Int) (o : Bool) (s : P1) : (runStarted c v o s).filt = s.filt := by
  unfold runStarted
  split <;> rfl

/-- What a channel shows of an output. -/
theorem outputShown_cells {s : P1} (hwf : odWf s.od = true) (v : Int) (o : Bool) :
    odWf (outputShown c v o s).od = true ∧ (outputShown c v o s).rd (fiKey c 0x0B) = sat32 v
      ∧ (outputShown c v o s).bit (fiKey c 0x0D) 1 = o := by
  have hne {m n : Nat} (h : m ≠ n) : fiKey c m ≠ fiKey c n := fun he => h (Nat.add_left_cancel he)
  have hrun := odWf_runStarted (c := c) hwf v o
  have hwritten : odWf ((runStarted c v o s).wrs
      [(fiKey c 0x0B, sat32 v), (fiKey c 0x0C, representedTime c s % 4294967296)]).od = true := odWf_wrs hrun _
  have hstatus (x y z : Int) (t : P1) (ht : odWf t.od = true) :
      odWf (((t.wr (fiKey c 0x0D) x).wr (fiKey c 0x0D) y).wr (fiKey c 0x0D) z).od = true :=
    odWf_odPut (odWf_odPut (odWf_odPut ht _ _) _ _) _ _
  refine ⟨hstatus _ _ _ _ hwritten, ?_, ?_⟩
  · refine (P1.wr_rd_other (hne (by decide)) _ _).trans ((P1.wr_rd_other (hne (by decide)) _ _).trans
      ((P1.wr_rd_other (hne (by decide)) _ _).trans ((P1.wr_rd_other (hne (by decide)) _ _).trans ?_)))
    exact (P1.wr_rd hrun _ _ _).trans (if_pos rfl)
  · exact (P1.setBit_bit (odWf_odPut (odWf_odPut hwritten _ _) _ _) _ _ _ _).trans (if_pos rfl)

theorem outputShown_filt (v : Int) (o : Bool) (s : P1) : (outputShown c v o s).filt[c].last = some v
    ∧ ∀ d : Fin 32, d ≠ c → (outputShown c v o s).filt[d] = s.filt[d] := by
  have hshown (t : P1) : (outputCells c v o s t).filt = t.filt := by
    have hstatus (l : List (Nat × Bool)) (u : P1) : (u.setBits (fiKey c 0x0D) l).filt = u.filt :=
      have hsame : (u.setBits (fiKey c 0x0D) l).butCells.filt = u.butCells.filt :=
        congrArg P1.filt (P1.setBits_butCells _ l u)
      hsame
    have hvalue (l : List (Nat × Int)) : (t.wrs l).filt = t.filt :=
      have hsame : (t.wrs l).butCells.filt = t.butCells.filt := congrArg P1.filt (P1.wrs_butCells l t)
      hsame
    exact (hstatus _ _).trans (hvalue _)
  have hfilt : (outputShown c v o s).filt = upd s.filt c (fun x => { x with last := some v, outAt := some s.elapsed }) := by
    rw [outputShown, setFilt_filt, hshown, runStarted_filt]
  rw [hfilt]
  exact ⟨congrArg FilterChan.last (upd_get s.filt c _), fun d hd => upd_get_other hd s.filt _⟩

/-! ### Shunts of analog inputs (R375) -/

theorem shuntRetry_idle {n : Fin 16} {s : P1}
    (h : s.bit (ob 0x5504 (n.val + 1)) 2 = false ∨ s.elapsed < s.filt[chanOf n].shuntAt + 1000000) (o : Bool) :
    shuntRetry n o s = s := by
  refine if_pos ?_
  rcases h with h | h
  · simp [h]
  · exact Bool.or_eq_true_iff.mpr (.inr (decide_eq_true h))

theorem shuntRetry_due {n : Fin 16} {s : P1} (hopen : s.bit (ob 0x5504 (n.val + 1)) 2 = true)
    (hdue : s.filt[chanOf n].shuntAt + 1000000 ≤ s.elapsed) (o : Bool) :
    shuntRetry n o s =
      if o then setFilt (chanOf n) (fun x => { x with shuntAt := s.elapsed }) s else setAiFault n 2 false s := by
  refine if_neg fun h => ?_
  rcases Bool.or_eq_true_iff.mp h with h | h
  · simp [hopen] at h
  · exact Nat.not_lt.mpr hdue (of_decide_eq_true h)

/-- The end of an open shunt shows itself (R375, R376). -/
theorem setAiFault_bit {n : Fin 16} {s : P1} (hwf : odWf s.od = true) (kind : Nat) (b : Bool) :
    (setAiFault n kind b s).bit (ob 0x5504 (n.val + 1)) kind = b := by
  have hcell : raiseCell (ob 0x5504 (n.val + 1)) = false := by revert n; decide
  have hbit : (s.setBit (ob 0x5504 (n.val + 1)) kind b).bit (ob 0x5504 (n.val + 1)) kind = b :=
    (P1.setBit_bit hwf _ _ _ _).trans (if_pos rfl)
  unfold setAiFault
  split
  · next h => exact h
  · exact (congrArg (bitOf · kind) ((recordAlarm_cellsKept _ _ _ _ _).same (odWf_odPut hwf _ _) _ hcell)).trans hbit

end

/-- Settles O43: each write passes or fails the tests of its rule, a read removes the oldest entry beside its answer, and the
judgement of an output leaves what the channel shows. -/
theorem compareListsProbesAndFilters : Obligations.CompareListsProbesAndFilters := by
  intro s w hup hserves
  refine ⟨fun a b hacc hok => ⟨onReq_effect (r := compareListRule a b) hserves hacc rfl
      (compareListRule_check_formed hok) rfl rfl,
      congrArg AxisState.staged (setAxis_axis a _ s.p1), congrArg AxisState.restage (setAxis_axis a _ s.p1)⟩,
    fun a hwaits => ?adopted,
    fun a b hacc hbad => onReq_checkRefused hserves hacc (by decide) rfl
      (compareListRule_check_malformed (a := a) (s := s.p1) hbad),
    fun a b hacc hlength hno => ⟨onReq_effect (r := compareEntryRule a b) hserves hacc rfl
      (compareEntryRule_check_user hlength hno) rfl rfl, congrArg AxisState.staged (setAxis_axis a _ s.p1)⟩,
    fun a b hacc hbad => onReq_checkRefused hserves hacc (by decide) rfl
      (compareEntryRule_check_other (a := a) (s := s.p1) hbad),
    fun a => ?eventRead, fun k => ?recordRead,
    fun k f n g hoff => onP1_idle hup (probeLatch_off hoff f n g),
    fun k f n hon hworks hboth hfilter => onP1_next hup ((probeLatch_both hon hworks hboth f n true).trans
      (if_pos (by simp [hfilter]))),
    fun k f n hon hworks hboth => ⟨_, onP1_next hup ((probeLatch_both hon hworks hboth f n false).trans
      (if_neg (by simp))), rfl, congrArg Probe.latched (setProbe_probe k _ s.p1)⟩,
    fun k b r hlatched hcomplete hroom => ⟨_, onP1_next hup rfl, probeQueued_room hlatched hcomplete hroom⟩,
    fun k b r hlatched hcomplete hfull => ⟨_, onP1_next hup rfl, probeQueued_full hlatched hcomplete hfull⟩,
    fun k b r hlatched hcomplete => onP1_idle hup (probeQueued_incomplete hlatched hcomplete),
    fun k hnone => onP1_idle hup (probeQueued_none hnone),
    fun c v o hoff => onP1_idle hup (filterOutput_off hoff v o),
    fun c v o hearly => onP1_idle hup (filterOutput_early hearly v o), fun c v o hon hdue hwf => ?output,
    fun n o hidle => onP1_idle hup (shuntRetry_idle hidle o),
    fun n hopen hdue => ⟨_, onP1_next hup (shuntRetry_due hopen hdue true),
      congrArg FilterChan.shuntAt (upd_get s.p1.filt (chanOf n) _), rfl⟩,
    fun n hopen hdue hwf => ⟨_, onP1_next hup (shuntRetry_due hopen hdue false), setAiFault_bit hwf 2 false⟩⟩
  case adopted =>
    rw [adoptEntries_waiting hwaits]
    exact ⟨rfl, rfl, rfl⟩
  case eventRead =>
    have hread := onSup_run (f := fun t => answerData w (axKey a 0x26) (nextCompare a t) (popCompare a t)) hserves
    have haxes := congrArg P1.axes (answerData_butAnswer w (axKey a 0x26) (nextCompare a s.p1) (popCompare a s.p1))
    exact ⟨_, hread, (congrArg (fun v : Vector AxisState 8 => v[a].events) haxes).trans
      (congrArg AxisState.events (setAxis_axis a _ s.p1))⟩
  case recordRead =>
    have hread := onSup_run (f := fun t => answerData w (prKey k 7) (nextProbe k t) (popProbe k t)) hserves
    have hprobes := congrArg P1.probes (answerData_butAnswer w (prKey k 7) (nextProbe k s.p1) (popProbe k s.p1))
    have hpopped := (congrArg (fun v : Vector Probe 2 => v[k]) hprobes).trans (setProbe_probe k _ s.p1)
    exact ⟨_, hread, congrArg Probe.records hpopped, (congrArg Probe.latched hpopped :)⟩
  case output =>
    obtain ⟨hshownWf, hvalue, hoverload⟩ := outputShown_cells (c := c) hwf v o
    obtain ⟨hlast, hothers⟩ := outputShown_filt (c := c) v o s.p1
    have hkept := filterOutput_due hon hdue v o
    exact ⟨_, onP1_next hup rfl, (hkept.value hshownWf).trans hvalue, (hkept.overload hshownWf).trans hoverload,
      hkept.last.trans hlast, fun d hd => (hkept.others d hd).trans (hothers d hd)⟩

end Sys2Proof.Machine
end

section
/-! SUPPORT. The evaluation of the safety channels read condition by condition (R393), and what an event leaves of it. -/

namespace Sys2Proof.Machine

/-! ### Channels of P2 -/

theorem P2.setChan_chan (p : P2) (c : Chan) (f : GuardChan → GuardChan) : (p.setChan c f).chan c = f (p.chan c) := by
  cases c <;> rfl

theorem P2.setChan_other (p : P2) (c : Chan) (f : GuardChan → GuardChan) :
    (p.setChan c f).chan (otherChan c) = p.chan (otherChan c) := by
  cases c <;> rfl

/-! ### The conditions of R393 -/

theorem cond3_iff {p : P2} {k : GuardChan} {g : Fin 4} :
    cond3 p k g = true ↔ ∀ n : Fin 8, p.groupBit (ob 0x6802 (n.val + 1)) g = true → inDemand p k n = false := by
  simp [cond3, imp_iff_not_or]

theorem cond4_iff {p : P2} {k : GuardChan} {g : Fin 4} :
    cond4 p k g = true ↔ ∀ a : Fin 8, axisInhibits p k a = true → axisGroup p a ≠ g.val := by
  simp [cond4, imp_iff_not_or]

theorem cond5_iff {p : P2} {k : GuardChan} {g : Fin 4} :
    cond5 p k g = true ↔ (p.groupBit (ob 0x6800 2) g = true → k.silent = false) := by
  simp [cond5, imp_iff_not_or]

theorem cond6_iff {p : P2} {g : Fin 4} :
    cond6 p g = true ↔ p.swFault[2 * g.val]'(by omega) = false ∧ p.swFault[2 * g.val + 1]'(by omega) = false := by
  simp [cond6]

theorem cond2_iff {p : P2} : cond2 p = true ↔ p.confirmed = true ∧ p.startDone = true := by simp [cond2]

/-- The conditions whose failure sets AWAIT_RESTART hold exactly when each of them does. -/
theorem baseConds_iff {p : P2} {k : GuardChan} {g : Fin 4} :
    baseConds p k g = true ↔ cond1 p g = true ∧ cond2 p = true ∧ cond3 p k g = true ∧ cond5 p k g = true ∧ cond6 p g = true := by
  simp [baseConds, and_assoc]

theorem restartConds_iff {p : P2} {k : GuardChan} {g : Fin 4} :
    restartConds p k g = true ↔ baseConds p k g = true ∧ cond4 p k g = true := by
  simp [restartConds]

theorem mayClose_iff {p : P2} {k : GuardChan} {g : Fin 4} :
    mayClose p k g = true ↔
      p.powered = true ∧ k.st = .running ∧ restartConds p k g = true ∧ nextAwait p k g = false := by
  simp [mayClose, and_assoc]

/-! ### A settled event -/

/-- P2 but for its test under way and its reports. -/
def P2.butTest (p : P2) : P2 := { p.butReports with slot := none, pulse := none, passed := false, skipped := 0 }

/-- Beside its test and its reports, an event leaves P2 as both channels evaluate it. -/
theorem settle_butTest (old new : P2) : (settle old new).butTest = (evaluate (compareRegions new)).butTest := by
  have htest := abandonTest_butReports old
    (reportClosed old (reportInhibits old (reportDemands old (evaluate (compareRegions new)))))
  rw [reports_butReports] at htest
  exact htest

theorem settle_chan (old new : P2) (c : Chan) : (settle old new).chan c = evalChan (compareRegions new) (new.chan c) := by
  obtain ⟨-, hsaf, hwin⟩ := settle_channels old new
  cases c
  · exact hsaf
  · exact hwin

/-- The test under way and the reports are no part of a condition of R393. -/
theorem baseConds_butTest (p : P2) (k : GuardChan) (g : Fin 4) : baseConds p.butTest k g = baseConds p k g := rfl

theorem cond4_butTest (p : P2) (k : GuardChan) (g : Fin 4) : cond4 p.butTest k g = cond4 p k g := rfl

/-- No switch and no AWAIT_RESTART is part of conditions 1 to 6 of R393. -/
theorem baseConds_evaluate (p : P2) (k : GuardChan) (g : Fin 4) :
    baseConds (evaluate p) (evalChan p k) g = baseConds p k g := rfl

theorem cond4_evaluate (p : P2) (k : GuardChan) (g : Fin 4) : cond4 (evaluate p) (evalChan p k) g = cond4 p k g := rfl

/-- A disagreement of sectors is part of condition 4 alone. -/
theorem baseConds_compareRegions (p : P2) (k : GuardChan) (g : Fin 4) :
    baseConds (compareRegions p) k g = baseConds p k g := rfl

/-- After an event the conditions but for the fourth stand as the event left them. -/
theorem settle_baseConds (old new : P2) (c : Chan) (g : Fin 4) :
    baseConds (settle old new) ((settle old new).chan c) g = baseConds new (new.chan c) g := by
  rw [settle_chan, ← baseConds_butTest, settle_butTest, baseConds_butTest, baseConds_evaluate, baseConds_compareRegions]

/-- After an event the fourth condition stands as the comparison of the regions left it (R400). -/
theorem settle_cond4 (old new : P2) (c : Chan) (g : Fin 4) :
    cond4 (settle old new) ((settle old new).chan c) g = cond4 (compareRegions new) (new.chan c) g := by
  rw [settle_chan, ← cond4_butTest, settle_butTest, cond4_butTest, cond4_evaluate]

theorem settle_block (old new : P2) : (settle old new).block = new.block :=
  (congrArg P2.block (settle_butEvaluation old new) :)

/-- AWAIT_RESTART after an event (R393), by the conditions as they stand after it. -/
theorem settle_await (old new : P2) (c : Chan) (g : Fin 4) :
    ((settle old new).chan c).await[g] =
      if !baseConds (settle old new) ((settle old new).chan c) g then true
      else if (settle old new).groupBit (ob 0x6800 6) g && cond4 (settle old new) ((settle old new).chan c) g then false
      else (new.chan c).await[g] := by
  rw [settle_baseConds, settle_cond4, P2.groupBit, P2.blk, settle_block, settle_chan]
  exact Vector.getElem_ofFn ..

/-- A switch is closed after an event exactly where the channel has its grounds (R393, R581). -/
theorem settle_closed (old new : P2) (c : Chan) (g : Fin 4) :
    ((settle old new).chan c).closed[g] = true ↔
      (settle old new).powered = true ∧ ((settle old new).chan c).st = .running
        ∧ restartConds (settle old new) ((settle old new).chan c) g = true ∧ ((settle old new).chan c).await[g] = false := by
  have hclosed : ((settle old new).chan c).closed[g] = mayClose (compareRegions new) (new.chan c) g := by
    rw [settle_chan]
    exact Vector.getElem_ofFn ..
  have hawait : ((settle old new).chan c).await[g] = nextAwait (compareRegions new) (new.chan c) g := by
    rw [settle_chan]
    exact Vector.getElem_ofFn ..
  rw [hclosed, hawait, restartConds_iff, settle_baseConds, settle_cond4, (settle_channels old new).1, settle_chan,
    mayClose_iff, restartConds_iff, baseConds_compareRegions]
  exact Iff.rfl

/-! ### The seven conditions -/

/-- A restart of groups in a working channel clears AWAIT_RESTART of the groups that meet conditions 1 to 6 (R393–R395). -/
theorem restartGroups_await {c : Chan} {p : P2} (hworks : p.works c = true) (mask : Nat) (g : Fin 4) :
    ((restartGroups c mask p).chan c).await[g] =
      ((p.chan c).await[g] && !(mask.testBit g && restartConds p (p.chan c) g)) := by
  rw [restartGroups, if_pos hworks, P2.setChan_chan]
  exact Vector.getElem_ofFn ..

/-- The start of a channel sets AWAIT_RESTART for every group (R393). -/
theorem runChannel_await (c : Chan) (p : P2) : ((runChannel c p).chan c).await = Vector.replicate 4 true := by
  cases c <;> rfl

/-- Settles O46: the evaluation closes a switch on its grounds alone, and AWAIT_RESTART is a case of conditions 1, 2, 3, 5
and 6, of automatic restart, and of neither. -/
theorem switchesFollowTheSevenConditions : Obligations.SwitchesFollowTheSevenConditions := by
  intro old new c g p k one two three four five six
  have hbase : baseConds p k g = true ↔ one ∧ two ∧ three ∧ five ∧ six := by
    rw [baseConds_iff, cond2_iff, cond3_iff, cond5_iff, cond6_iff]
    exact Iff.rfl
  have hfour : cond4 p k g = true ↔ four := cond4_iff
  have hawait : k.await[g] = if !baseConds p k g then true
      else if p.groupBit (ob 0x6800 6) g && cond4 p k g then false else (new.chan c).await[g] := settle_await old new c g
  refine ⟨fun hclosed => ?closed, fun hfails => ?set, fun h1 h2 h3 h4 h5 h6 hauto => ?cleared,
    fun h1 h2 h3 h5 h6 hnot => ?kept, runChannel_await c new, fun mask hworks => restartGroups_await hworks mask g⟩
  case closed =>
    obtain ⟨-, -, hconds, hfree⟩ := (settle_closed old new c g).mp hclosed
    obtain ⟨hbase', hcond4⟩ := restartConds_iff.mp hconds
    obtain ⟨h1, h2, h3, h5, h6⟩ := hbase.mp hbase'
    exact ⟨h1, h2, h3, hfour.mp hcond4, h5, h6, hfree⟩
  case set =>
    have hfalse : baseConds p k g = false := Bool.eq_false_iff.mpr (mt hbase.mp hfails)
    rw [hawait, hfalse]
    rfl
  case cleared =>
    rw [hawait, hbase.mpr ⟨h1, h2, h3, h5, h6⟩, hauto, hfour.mpr h4]
    rfl
  case kept =>
    have hno : (p.groupBit (ob 0x6800 6) g && cond4 p k g) = false :=
      Bool.eq_false_iff.mpr fun h => hnot ((Bool.and_eq_true_iff.mp h).imp id hfour.mp)
    rw [hawait, hbase.mpr ⟨h1, h2, h3, h5, h6⟩, hno]
    rfl

end Sys2Proof.Machine
end

section
/-! SUPPORT. The grounds of closed switches (R393, R581) over every operation that reaches P2: each leaves P2's switches and
their grounds alone, opens the switches, or ends in an evaluation, which closes a switch on its grounds alone. -/

namespace Sys2Proof.Machine

/-- Every switch that a channel of P2 holds closed has its grounds. -/
def P2.grounded (p : P2) : Prop := ∀ g : Fin 4, closedSafely p p.saf g ∧ closedSafely p p.win g

theorem switchesSafe_iff (s : State) : switchesSafe s ↔ s.p2.grounded := Iff.rfl

/-! ### P2 -/

/-- An open switch needs no grounds. -/
theorem grounded_of_open {p : P2} (h : ∀ g : Fin 4, p.saf.closed[g] = false ∧ p.win.closed[g] = false) : p.grounded := by
  intro g
  obtain ⟨hsaf, hwin⟩ := h g
  exact ⟨fun hclosed => absurd hclosed (by simp [hsaf]), fun hclosed => absurd hclosed (by simp [hwin])⟩

/-- The evaluation that ends an event closes a switch on its grounds alone. -/
theorem settle_grounded (old new : P2) : (settle old new).grounded := fun g =>
  ⟨(settle_closed old new .saf g).mp, (settle_closed old new .winter g).mp⟩

/-- The end of a test slot touches no ground of a switch. -/
theorem closeSlot_grounded {p : P2} (h : p.grounded) : (closeSlot p).grounded := by
  unfold closeSlot
  split
  · exact h
  · split
    · exact h
    · exact h

theorem restartP2_grounded (p : P2) : (restartP2 p).grounded :=
  grounded_of_open fun g => (restartP2_open p g).imp id And.left

/-- Settles O7: at reset P2 is as after a restart of it, with every switch open. -/
theorem resetHasNoClosedSwitch : Obligations.ResetHasNoClosedSwitch := by
  refine ⟨restartP2_grounded P2.reset, fun g => ?_⟩
  obtain ⟨hsaf, hwin, hsafAwait, hwinAwait⟩ := restartP2_open P2.reset g
  exact ⟨hsaf, hwin, hsafAwait, hwinAwait, rfl, rfl⟩

/-! ### Events of P2 and of P3 -/

/-- A next state in which an event of P2 has been settled. -/
theorem onP2_grounded (f : P2 → P2) (s : State) : (onP2 f s).p2.grounded := by
  rw [onP2_p2]
  exact settle_grounded _ _

theorem onP3_p2 (d : FieldDie) (f : P3 → P3) (r : P1 → P1) (s : State) : (onP3 d f r s).p2 = s.p2 := by
  unfold onP3
  refine (syncField_coreOnly _).1.trans ?_
  split <;> rfl

/-! ### Links (R60, R405) -/

theorem guardLinkFail_grounded {s : State} (h : s.p2.grounded) : (guardLinkFail s).p2.grounded := by
  unfold guardLinkFail
  dsimp only
  rw [(coreLinkDown_coreOnly _).1]
  split <;> exact h

theorem fieldLinkFail_p2 (k : FieldDie) (s : State) : (fieldLinkFail k s).p2 = s.p2 := by
  unfold fieldLinkFail
  dsimp only
  split <;> rfl

theorem linkReturn_grounded (d : Die) {s : State} (h : s.p2.grounded) : (linkReturn d s).p2.grounded := by
  have hguard : (if (!s.p2.powered) = true then s
      else syncGuard { s with p2 := { s.p2 with link := true }, p1 := endLinkFault 0xBFFFFC06 s.p1 }).p2.grounded := by
    split
    · exact h
    · rw [(syncGuard_coreOnly _).1]
      exact h
  have hfield (k : FieldDie) (t : State) (ht : t.p2 = s.p2) : (linkBack k t).p2.grounded := by
    unfold linkBack
    rw [(syncField_coreOnly _).1]
    exact ht ▸ h
  cases d with
  | g | w => exact hguard
  | f0 | f1 => exact hfield _ _ rfl
  | c | t | n => exact h

/-- The core's writes act on P2 in their order as one event (R405). -/
theorem flushGuard_p2 {s : State} (h : s.p1.linkOut ≠ []) :
    (flushGuard s).p2 = settle s.p2 (s.p1.linkOut.foldl (fun q m => guardMessage m q) s.p2) := by
  have hevent := onP2_p2 (fun p => s.p1.linkOut.foldl (fun q m => guardMessage m q) p)
    { s with p1 := { s.p1 with linkOut := [] } }
  rw [flushGuard, if_neg h]
  split
  · dsimp only
    exact hevent
  · exact hevent

theorem flushGuard_grounded {s : State} (h : s.p2.grounded) : (flushGuard s).p2.grounded := by
  by_cases hnone : s.p1.linkOut = []
  · rw [flushGuard, if_pos hnone]
    exact h
  · rw [flushGuard_p2 hnone]
    exact settle_grounded _ _

theorem flushLinks_grounded {s : State} (h : s.p2.grounded) : (flushLinks s).p2.grounded := by
  unfold flushLinks
  dsimp only
  split
  · exact h
  · split
    · exact (onP3_p2 ..).symm ▸ flushGuard_grounded h
    · exact flushGuard_grounded h

/-! ### Faults (R55, R59–R61) -/

theorem faultAt_grounded (addr : Nat) {s : State} (h : s.p2.grounded) : (faultAt addr s).p2.grounded := by
  unfold faultAt
  dsimp only
  split
  · split
    · exact guardLinkFail_grounded h
    · rw [(coreLinkDown_coreOnly _).1]
      split <;> exact onP2_grounded _ _
  · split
    · split_ifs <;> simpa only [fieldLinkFail_p2] using h
    · split <;> exact (syncField_coreOnly _).1.symm ▸ h
  · split <;> exact h

theorem linkFail_grounded (d : Die) {s : State} (h : s.p2.grounded) : (linkFail d s).p2.grounded := by
  cases d with
  | c | t | n => exact faultAt_grounded _ h
  | g | w => exact guardLinkFail_grounded h
  | f0 | f1 => exact (fieldLinkFail_p2 ..).symm ▸ h

theorem linkCheckFail_grounded (d : Die) {s : State} (h : s.p2.grounded) : (linkCheckFail d s).p2.grounded := by
  unfold linkCheckFail
  extract_lets e n put
  split
  · exact h
  · split
    · exact linkFail_grounded d h
    · exact h

theorem wrespLost_grounded (x : WriteItem) {s : State} (h : s.p2.grounded) : (wrespLost x s).p2.grounded := by
  cases x with
  | block a => exact faultAt_grounded _ h
  | recorderCommit | dmaDescriptor d | solverResult e =>
    unfold wrespLost
    dsimp only
    split <;> exact h

theorem dieHalt_grounded (d : Die) (c : HaltCause) {s : State} (h : s.p2.grounded) : (dieHalt d c s).p2.grounded := by
  unfold dieHalt
  dsimp only
  split <;> exact faultAt_grounded _ h

/-! ### Resets and starts (R87–R95) -/

theorem restartModule_grounded (o : Nat) (spring : Bool) (k : KeptChecks) {s : State} (h : s.p2.grounded) :
    (restartModule o spring k s).p2.grounded := by
  unfold restartModule
  dsimp only
  split_ifs
  · exact restartP2_grounded s.p2
  · exact h
  · exact h

theorem resetRelease_grounded (i : ResetInput) (n : Nat) (k : KeptChecks) {s : State} (h : s.p2.grounded) :
    (resetRelease i n k s).p2.grounded := by
  unfold resetRelease
  split_ifs
  · exact h
  · exact restartModule_grounded _ _ _ h
  · exact restartModule_grounded _ _ _ h
  · exact h

theorem raiseAnew_p2 (s : State) : (raiseAnew s).p2 = s.p2 := by
  unfold raiseAnew
  exact (syncGuard_coreOnly _).1.trans (syncField_coreOnly _).1

/-- The start of P1 reaches P2 through the blocks that fail their self-test alone (R93). -/
theorem serveAgain_grounded (failed : List Word32) {s : State} (h : s.p2.grounded) : (serveAgain failed s).p2.grounded := by
  unfold serveAgain
  rw [raiseAnew_p2]
  exact List.foldlRecOn (motive := fun t : State => t.p2.grounded) failed failBlock h
    fun t ht _ _ => faultAt_grounded _ ht

/-! ### Writes and requests (R435, R468, R538, R547–R549) -/

theorem writeObject_grounded (ans : Nat → P1 → P1) (w k : Nat) (x : Val) {s : State} (h : s.p2.grounded) :
    (writeObject ans w k x s).p2.grounded := by
  unfold writeObject
  split
  · exact h
  · exact flushLinks_grounded h

theorem writeSegmentWith_grounded (ans : Nat → P1 → P1) (w k offset : Nat) (b : List Byte) (last : Bool) {s : State}
    (h : s.p2.grounded) : (writeSegmentWith ans w k offset b last s).p2.grounded := by
  unfold writeSegmentWith
  extract_lets whole r ab
  split
  · exact writeObject_grounded _ _ _ _ h
  · split
    · exact h
    · split
      · exact flushLinks_grounded h
      · exact h

/-- A request of a session reaches P2 through what it asks for alone. -/
theorem aoaFrom_grounded (q : AoaHead) (op index sub : Nat) (x : Val) {f : State → State} {s : State}
    (hf : ∀ t : State, t.p2.grounded → (f t).p2.grounded) (h : s.p2.grounded) :
    (aoaFrom q op index sub x f s).p2.grounded := by
  have hserved (p : P1) : (aoaServed q op index sub f { s with p1 := p }).p2.grounded := by
    unfold aoaServed
    split_ifs
    · exact h
    all_goals
      split
      · exact h
      · split_ifs
        · exact hf _ h
        · exact h
        · split <;> exact h
        · exact h
  unfold aoaFrom
  split_ifs
  · exact h
  · exact h
  · split
    · exact hserved _
    · exact h

theorem sdoDown_grounded (c : Fin 4) (k : Nat) (block : Bool) (b : List Byte) (last ok : Bool) (op opEnd : Nat) {s : State}
    (h : s.p2.grounded) : (sdoDown c k block b last ok op opEnd s).p2.grounded := by
  unfold sdoDown
  extract_lets w had p before all t
  split_ifs
  · exact h
  · exact h
  · exact writeSegmentWith_grounded _ _ _ _ _ _ h
  · exact writeObject_grounded _ _ _ _ h
  · exact h

theorem dmaComplete_grounded (d : Fin 16) (readback : Bool) {s : State} (h : s.p2.grounded) :
    (dmaComplete d readback s).p2.grounded := by
  unfold dmaComplete
  extract_lets c
  split
  · exact h
  · split
    · exact h
    · split
      · exact h
      · extract_lets t q
        split_ifs
        · exact h
        · exact writeObject_grounded _ _ _ _ h
        · exact h

theorem onLinkReq_grounded {w k : Nat} {x : Val} {r : Rule P1} {s t : State} (h : s.p2.grounded)
    (hnext : onLinkReq w k x r s = .next t) : t.p2.grounded := by
  unfold onLinkReq at hnext
  split at hnext <;> obtain rfl := Host.Outcome.next.inj hnext
  · exact flushLinks_grounded h
  · exact h

/-! ### Partners (R467, R468, R478) -/

theorem applyWrite_grounded (f : ForwardedWrite) {s : State} (h : s.p2.grounded) : (applyWrite f s).p2.grounded := by
  unfold applyWrite
  dsimp only
  split
  · exact h
  · exact flushLinks_grounded h

theorem takeMirror_grounded (m : Mirror) {s : State} (h : s.p2.grounded) : (takeMirror m s).p2.grounded := by
  unfold takeMirror
  dsimp only
  split
  · exact List.foldlRecOn (motive := fun t : State => t.p2.grounded) _ _ h fun t ht f _ => applyWrite_grounded f ht
  · exact h

theorem takeCycle_grounded (m : SetMessage) {s : State} (h : s.p2.grounded) : (takeCycle m s).p2.grounded := by
  unfold takeCycle
  dsimp only
  split
  · exact h
  · split
    · exact takeMirror_grounded _ h
    · exact h

theorem takeHandOver_grounded (m : SetMessage) {s : State} (h : s.p2.grounded) : (takeHandOver m s).p2.grounded := by
  unfold takeHandOver
  dsimp only
  split
  · exact h
  · split
    · split
      · exact takeMirror_grounded _ h
      · exact h
    · exact h

theorem takeStaged_grounded {s : State} (h : s.p2.grounded) : (takeStaged s).p2.grounded := by
  unfold takeStaged
  exact List.foldlRecOn (motive := fun t : State => t.p2.grounded) _ _ h fun t ht g _ => applyWrite_grounded _ ht

/-- A station cycle reaches P2 through the staged writes that it takes alone (R468). -/
theorem stationCycle_p2 (s : State) :
    (stationCycle s).p2 = s.p2 ∨ ∃ p : P1, (stationCycle s).p2 = (takeStaged { s with p1 := p }).p2 := by
  unfold stationCycle
  dsimp only
  split
  · exact .inl rfl
  · split
    · exact .inl rfl
    · right
      dsimp only
      exact ⟨_, rfl⟩

theorem stationCycle_grounded {s : State} (h : s.p2.grounded) : (stationCycle s).p2.grounded := by
  rcases stationCycle_p2 s with hcycle | ⟨p, hcycle⟩ <;> rw [hcycle]
  · exact h
  · exact takeStaged_grounded h

/-! ### One grain (R10, R47) -/

theorem wakeWrites_grounded {s : State} (h : s.p2.grounded) : (wakeWrites s).p2.grounded := by
  unfold wakeWrites
  split
  · exact h
  · exact List.foldlRecOn (motive := fun t : State => t.p2.grounded) _ _ h fun t ht e _ => flushLinks_grounded ht

theorem tick_grounded {s : State} (h : s.p2.grounded) : (tick s).p2.grounded := by
  unfold tick
  dsimp only
  rw [tickGuard_p2]
  exact closeSlot_grounded (p := { (wakeWrites s).p2 with clock := (wakeWrites s).p2.clock + 1 }) (wakeWrites_grounded h)

/-! ### Every step -/

/-- A next state that is named by the operation which made it. -/
theorem grounded_of_next {s u : State} (h : u.p2.grounded) (hnext : (.next u : Out) = .next s) : s.p2.grounded :=
  Host.Outcome.next.inj hnext ▸ h

theorem grounded_of_onP2 {f : P2 → P2} {s t : State} (hnext : (.next (onP2 f s) : Out) = .next t) : t.p2.grounded :=
  grounded_of_next (onP2_grounded f s) hnext

/-- An event of P3 leaves P2 alone. -/
theorem grounded_of_onP3 {d : FieldDie} {f : P3 → P3} {r : P1 → P1} {s t : State} (h : s.p2.grounded)
    (hnext : (.next (onP3 d f r s) : Out) = .next t) : t.p2.grounded :=
  grounded_of_next ((onP3_p2 d f r s).symm ▸ h) hnext

/-- A command with a condition leaves P2 grounded when both its branches do. -/
theorem grounded_of_ite {b : Prop} [Decidable b] {u v t : State} (hu : u.p2.grounded) (hv : v.p2.grounded)
    (hnext : (if b then .next u else .next v : Out) = .next t) : t.p2.grounded := by
  split at hnext
  · exact grounded_of_next hu hnext
  · exact grounded_of_next hv hnext

theorem fieldFrame_p2 (d : FieldDie) (s : State) : (fieldFrame d s).p2 = s.p2 := by
  unfold fieldFrame
  split
  · rfl
  · exact (syncField_coreOnly _).1

/-- An edge of a digital input acts on P3 and on the core. -/
theorem diEdge_p2 (n : Fin 32) (level : Bool) (s : State) : (diEdge n level s).p2 = s.p2 := by
  unfold diEdge
  split
  · rfl
  · dsimp only
    split
    · rw [onP3_p2]
    · exact onP3_p2 ..

/-- The end of the start checks is an event of P2, and a fault of the core where they were made anew (R410, R582). -/
theorem startChecks_grounded (c : Chan) (ok1 ok2 : Bool) (s : State) : (startChecks c ok1 ok2 s).p2.grounded := by
  have hevent := onP2_grounded (checksDone c ok1 ok2) s
  unfold startChecks
  dsimp only
  split_ifs
  · exact hevent
  · exact hevent
  · exact hevent

theorem sdoInReset_p2 (c : Fin 4) (k : Nat) (b : List Byte) (last : Bool) (s : State) :
    (sdoInReset c k b last s).p2 = s.p2 := by
  unfold sdoInReset
  split <;> rfl

/-- Octets of a download reach P2 through the write that they end alone (R549). -/
theorem sdoDownload_grounded (c : Fin 4) (k : Nat) (block : Bool) (b : List Byte) (last ok : Bool) (op opEnd : Nat) {s : State}
    (h : s.p2.grounded) :
    (if s.p1.serves then sdoDown c k block b last ok op opEnd s else sdoInReset c k b last s).p2.grounded := by
  split
  · exact sdoDown_grounded _ _ _ _ _ _ _ _ h
  · rw [sdoInReset_p2]
    exact h

/-- A report that the core takes leaves the queue of reports alone changed in P2 (R405). -/
theorem safetyReport_grounded {e : SafetyEvent} {n : Nat} {s t : State} (h : s.p2.grounded)
    (hnext : execSafetyReport e n s = .next t) : t.p2.grounded := by
  unfold execSafetyReport at hnext
  refine grounded_of_ite ?_ h hnext
  rw [(syncGuard_coreOnly _).1]
  exact h

theorem safetyBlockWrite_grounded {w index sub : Nat} {v : Int} {s t : State} (h : s.p2.grounded)
    (hnext : execSafetyBlockWrite w index sub v s = .next t) : t.p2.grounded := by
  unfold execSafetyBlockWrite at hnext
  split at hnext
  · exact onLinkReq_grounded h hnext
  · exact grounded_of_next h hnext

/-- The end of the self-test starts P1 where a cold start waits for it (R93). -/
theorem selfTestComplete_grounded {failed : List Word32} {s t : State} (h : s.p2.grounded)
    (hnext : execSelfTestComplete failed s = .next t) : t.p2.grounded := by
  unfold execSelfTestComplete at hnext
  split at hnext
  · exact grounded_of_next (serveAgain_grounded failed h) hnext
  · exact grounded_of_next h hnext

/-- Every command leaves each closed switch with its grounds. The cases group the commands that can reach P2 or P3 by how they do:
events of P2 and P3, writes over a link, faults, resets, requests of clients and partners. -/
theorem exec_grounded {c : Instr} {s t : State} (h : s.p2.grounded) (hnext : exec c s = .next t) : t.p2.grounded := by
  cases hcore : coreCommand c with
  | true =>
    obtain ⟨hp2, -, -⟩ := exec_coreOnly hcore hnext
    exact hp2 ▸ h
  | false =>
    cases c with
    | safetyInputChange | discrepancy | restartPress | sectorPulse | sectorDisagree | sectorHold | channelSilence | testSlot
      | testPulseEnd | switchFault | testOverdue | heartbeatEdge | checkValuePlaced => exact grounded_of_onP2 hnext
    | positionFrame => exact grounded_of_ite (onP2_grounded _ _) h hnext
    | safetyBlockTransfer => exact grounded_of_ite h (onP2_grounded _ _) hnext
    | fieldSilence | fldMeasurement | doReadback | doShort | doThermal | groupLimit | aoReadback =>
      exact grounded_of_onP3 h hnext
    | shortRetry => exact grounded_of_ite ((onP3_p2 ..).symm ▸ h) h hnext
    | fieldFrame d => exact grounded_of_next ((fieldFrame_p2 d s).symm ▸ h) hnext
    | doCommandWrite | aoCodeWrite => exact (coreOnly_of_next hnext).1 ▸ h
    | clearLatchedFaults | restartBlock | restartWrite | confirm | authorisationKeyWrite => exact onLinkReq_grounded h hnext
    | blockFault | safClockFail | fieldLogicPowerFail => exact grounded_of_next (faultAt_grounded _ h) hnext
    | wrespLost x => exact grounded_of_next (wrespLost_grounded x h) hnext
    | linkCheckFail d => exact grounded_of_next (linkCheckFail_grounded d h) hnext
    | dieHalt d x => exact grounded_of_next (dieHalt_grounded d x h) hnext
    | crossBarrierLinkReturn d => exact grounded_of_ite h (linkReturn_grounded d h) hnext
    | resetInputRelease i n k => exact grounded_of_next (resetRelease_grounded i n k h) hnext
    | powerApplied => exact grounded_of_ite (restartModule_grounded _ _ _ h) h hnext
    | springStartComplete failed => exact grounded_of_ite (serveAgain_grounded failed h) h hnext
    | stationCycleStart => exact grounded_of_next (stationCycle_grounded h) hnext
    | cycleMessage m => exact grounded_of_ite (takeCycle_grounded m h) h hnext
    | relinquishMessage m => exact grounded_of_ite (takeHandOver_grounded m h) h hnext
    | dmaDescriptorComplete d readback => exact grounded_of_ite (dmaComplete_grounded d readback h) h hnext
    | parameterWrite =>
      refine grounded_of_ite (writeObject_grounded _ _ _ _ h) ?_ hnext
      exact h
    | aoaRead | aoaReadSegment | aoaInformation | aoaClose =>
      refine grounded_of_next (aoaFrom_grounded _ _ _ _ _ ?_ h) hnext
      exact fun _ ht => ht
    | aoaWrite =>
      exact grounded_of_next (aoaFrom_grounded _ _ _ _ _ (fun _ ht => writeObject_grounded _ _ _ _ ht) h) hnext
    | aoaWriteSegment =>
      exact grounded_of_next (aoaFrom_grounded _ _ _ _ _ (fun _ ht => writeSegmentWith_grounded _ _ _ _ _ _ ht) h) hnext
    | diEdge n level => exact grounded_of_next (u := { diEdge n level s with p1 := _ }) (diEdge_p2 n level s ▸ h) hnext
    | selfTestComplete => exact selfTestComplete_grounded h hnext
    | startChecksDone c ok1 ok2 => exact grounded_of_next (startChecks_grounded c ok1 ok2 s) hnext
    | safetyBlockWrite => exact safetyBlockWrite_grounded h hnext
    | safetyReport => exact safetyReport_grounded h hnext
    | sdoDownload | sdoBlockDownload => exact grounded_of_next (sdoDownload_grounded _ _ _ _ _ _ _ _ h) hnext
    | _ => exact absurd hcore.symm Bool.false_ne_true

/-- Settles O6: one grain and every command keep the grounds of closed switches. -/
theorem closedSwitchesKeepTheirGrounds : Obligations.ClosedSwitchesKeepTheirGrounds := by
  intro s t hsafe hstep
  rw [switchesSafe_iff] at hsafe ⊢
  unfold step at hstep
  split at hstep
  · exact grounded_of_next (tick_grounded hsafe) hstep
  · next c r _ => exact exec_grounded (s := { s with pending := r }) hsafe hstep

end Sys2Proof.Machine
end

section
/-! SUPPORT. What the events of the safety channels make of P2 (R390–R402), each as one lemma about its effect, and what a
settled event leaves of it. -/

namespace Sys2Proof.Machine

/-! ### What a settled event leaves -/

theorem onP2_p3 (f : P2 → P2) (s : State) : (onP2 f s).p3 = s.p3 := (syncGuard_coreOnly _).2.1

/-- An event whose effect is `q` but for reports leaves P2 as `q` but for its evaluation. -/
theorem onP2_effect {f : P2 → P2} {s : State} {q : P2} (h : (f s.p2).butReports = q.butReports) :
    (onP2 f s).p2.butEvaluation = q.butEvaluation := by
  rw [onP2_p2, settle_butEvaluation]
  exact (congrArg P2.butEvaluation h :)

theorem P2.butEvaluation_chan (p : P2) (c : Chan) : p.butEvaluation.chan c = (p.chan c).butSwitches := by
  cases c <;> rfl

/-- An event whose effect is `q` but for reports leaves each channel as in `q` but for its switches and AWAIT_RESTART. -/
theorem onP2_chan {f : P2 → P2} {s : State} {q : P2} (h : (f s.p2).butReports = q.butReports) (c : Chan) :
    ((onP2 f s).p2.chan c).butSwitches = (q.chan c).butSwitches := by
  rw [← P2.butEvaluation_chan, ← P2.butEvaluation_chan, onP2_effect h]

/-- An event that changes a channel alone leaves the other one but for its switches and AWAIT_RESTART. -/
theorem onP2_otherChan {f : P2 → P2} {s : State} {c : Chan} {g : GuardChan → GuardChan}
    (h : (f s.p2).butReports = (s.p2.setChan c g).butReports) :
    ((onP2 f s).p2.chan (otherChan c)).butSwitches = (s.p2.chan (otherChan c)).butSwitches :=
  (onP2_chan h _).trans (congrArg GuardChan.butSwitches (P2.setChan_other s.p2 c g))

/-- An event that changes a channel alone has that effect there but for its switches and AWAIT_RESTART. -/
theorem onP2_ownChan {f : P2 → P2} {s : State} {c : Chan} {g : GuardChan → GuardChan}
    (h : (f s.p2).butReports = (s.p2.setChan c g).butReports) :
    ((onP2 f s).p2.chan c).butSwitches = (g (s.p2.chan c)).butSwitches :=
  (onP2_chan h _).trans (congrArg GuardChan.butSwitches (P2.setChan_chan s.p2 c g))

/-! ### Inputs (R390, R391) -/

/-- A sample gives its input the readings of its lines. -/
theorem inputChange_works {c : Chan} {p : P2} (h : p.works c = true) (n : Fin 8) (a b : Bool) :
    ∃ x : SafetyInput, x.a = a ∧ x.b = b
      ∧ inputChange c n a b p = p.setChan c fun t => { t with inputs := t.inputs.set n x } := by
  exact ⟨_, (apply_ite SafetyInput.a _ _ _).trans (ite_self a), (apply_ite SafetyInput.b _ _ _).trans (ite_self b),
    if_neg (by simp [h])⟩

/-- A line that has demanded alone for the discrepancy time sets DISCREPANCY of its input. -/
theorem discrepancy_due {c : Chan} {n : Fin 8} {p : P2} {g : Nat} (hworks : p.works c = true)
    (hdiffer : demandsA (p.chan c).inputs[n] ≠ demandsB p n (p.chan c).inputs[n])
    (hclear : (p.chan c).inputs[n].discrep = false) (halone : (p.chan c).inputs[n].alone = some g)
    (hlong : (p.blk (ob 0x6800 5)).toNat * 1000 ≤ p.clock - g) :
    discrepancy c n p = report 0x0C07 (packDetails [(8, n.val)])
      (p.setChan c fun t => { t with inputs := t.inputs.set n { (p.chan c).inputs[n] with discrep := true, both := false } }) := by
  refine if_pos ?_
  simp [-Fin.getElem_fin, hworks, hdiffer, hclear, halone, hlong]

/-! ### Restarts (R393–R395) -/

/-- AWAIT_RESTART that an event has cleared in a group which meets conditions 1 to 6 stays clear (R393). -/
theorem settle_restarted {old new : P2} {c : Chan} {g : Fin 4} (hconds : restartConds new (new.chan c) g = true)
    (hfree : (new.chan c).await[g] = false) : ((settle old new).chan c).await[g] = false := by
  obtain ⟨hbase, -⟩ := restartConds_iff.mp hconds
  rw [settle_await, settle_baseConds, hbase, hfree]
  simp

/-- A restart of groups leaves the conditions of both channels alone. -/
theorem restartGroups_conds (c d : Chan) (mask : Nat) (p : P2) (g : Fin 4) :
    restartConds (restartGroups c mask p) ((restartGroups c mask p).chan d) g = restartConds p (p.chan d) g := by
  unfold restartGroups
  split
  · cases c <;> cases d <;> rfl
  · rfl

theorem restartGroups_works (c d : Chan) (mask : Nat) (p : P2) : (restartGroups c mask p).works d = p.works d := by
  unfold restartGroups
  split
  · cases c <;> cases d <;> rfl
  · rfl

theorem restartGroups_other (c : Chan) (mask : Nat) (p : P2) :
    (restartGroups c mask p).chan (otherChan c) = p.chan (otherChan c) := by
  unfold restartGroups
  split
  · exact P2.setChan_other ..
  · rfl

/-- A group of the mask that meets conditions 1 to 6 restarts (R393). -/
theorem restartGroups_restarted {c : Chan} {p : P2} {mask : Nat} {g : Fin 4} (hworks : p.works c = true)
    (hmask : mask.testBit g = true) (hconds : restartConds p (p.chan c) g = true) :
    ((restartGroups c mask p).chan c).await[g] = false := by
  simp [restartGroups_await hworks, hmask, hconds]

/-- A relayed restart acts in both channels (R394). -/
theorem guardMessage_restarted {p : P2} {mask : Nat} {c : Chan} {g : Fin 4} (hsaf : p.works .saf = true)
    (hwin : p.works .winter = true) (hmask : mask.testBit g = true) (hconds : restartConds p (p.chan c) g = true) :
    ((guardMessage (.restart mask) p).chan c).await[g] = false
      ∧ restartConds (guardMessage (.restart mask) p) ((guardMessage (.restart mask) p).chan c) g = true := by
  have hrelay : guardMessage (.restart mask) p = restartGroups .winter mask (restartGroups .saf mask p) := if_pos hsaf
  rw [hrelay, restartGroups_conds, restartGroups_conds]
  refine ⟨?_, hconds⟩
  cases c with
  | saf =>
    have hkept := restartGroups_other .winter mask (restartGroups .saf mask p)
    exact hkept ▸ restartGroups_restarted hsaf hmask hconds
  | winter =>
    refine restartGroups_restarted ?_ hmask ?_
    · rwa [restartGroups_works]
    · rwa [restartGroups_conds]

/-- The press of an input that has been acted on. -/
def pressTaken (n : Fin 8) (k : GuardChan) : GuardChan :=
  { k with inputs := k.inputs.set n { k.inputs[n] with press := none } }

/-- A press is no part of conditions 1 to 6. -/
theorem restartConds_pressTaken (p : P2) (c : Chan) (n : Fin 8) (g : Fin 4) :
    restartConds (p.setChan c (pressTaken n)) ((p.setChan c (pressTaken n)).chan c) g = restartConds p (p.chan c) g := by
  have hdemand (k : GuardChan) (m : Fin 8) : inDemand p (pressTaken n k) m = inDemand p k m := by
    have hline (f : SafetyInput → Bool) (hf : f { k.inputs[n] with press := none } = f k.inputs[n]) :
        f (pressTaken n k).inputs[m] = f k.inputs[m] := by
      by_cases hm : n = m
      · subst hm
        simpa [pressTaken] using hf
      · simp [pressTaken, Fin.val_ne_of_ne hm]
    unfold inDemand
    rw [hline demandsA rfl, hline (demandsB p m) rfl, hline SafetyInput.discrep rfl]
  have hcond3 (k : GuardChan) : cond3 p (pressTaken n k) g = cond3 p k g := by
    unfold cond3
    simp only [hdemand]
  rw [P2.setChan_chan]
  cases c
  · exact congrArg (fun b => cond1 p g && cond2 p && b && cond5 p p.saf g && cond6 p g && cond4 p p.saf g) (hcond3 p.saf)
  · exact congrArg (fun b => cond1 p g && cond2 p && b && cond5 p p.win g && cond6 p g && cond4 p p.win g) (hcond3 p.win)

/-- A press of a restart input of 100 ms to below 3 s restarts every group (R394). -/
theorem restartPress_acts {c : Chan} {n : Fin 8} {d : Int} {p : P2} {q : Nat} (hworks : p.works c = true)
    (hinput : p.blk (ob 0x6801 (n.val + 1)) = 2) (hclear : (p.chan c).inputs[n].discrep = false)
    (hpress : (p.chan c).inputs[n].press = some q) (hlo : 100000 ≤ ownSpan q d) (hhi : ownSpan q d < 3000000) :
    restartPress c n d p = restartGroups c 0xF (p.setChan c (pressTaken n)) := by
  have htaken : (p.setChan c fun t => { t with inputs := t.inputs.set n { (p.chan c).inputs[n] with press := none } })
      = p.setChan c (pressTaken n) := by
    cases c <;> rfl
  unfold restartPress
  dsimp only
  rw [hpress, htaken]
  simp [-Fin.getElem_fin, hworks, hinput, hclear, hlo, hhi]

/-- A press of a restart input of any other length is reported alone (R394). -/
theorem restartPress_ignored {c : Chan} {n : Fin 8} {d : Int} {p : P2} {q : Nat} (hworks : p.works c = true)
    (hinput : p.blk (ob 0x6801 (n.val + 1)) = 2) (hclear : (p.chan c).inputs[n].discrep = false)
    (hpress : (p.chan c).inputs[n].press = some q) (hlength : ownSpan q d < 100000 ∨ 3000000 ≤ ownSpan q d) :
    restartPress c n d p = report 0x0C0D (min 0xFFFFFFFF (ownSpan q d / 1000)) (p.setChan c fun t =>
      { t with inputs := t.inputs.set n { (p.chan c).inputs[n] with press := none } }) := by
  have hno : ¬(100000 ≤ ownSpan q d ∧ ownSpan q d < 3000000) := by omega
  unfold restartPress
  dsimp only
  rw [hpress]
  simp [-Fin.getElem_fin, hworks, hinput, hclear, hno]

/-! ### Sectors (R396–R401) -/

/-- A pulse moves Winter logic's region by one round the circle (R397). -/
theorem sectorPulse_moves {a : Fin 8} {p : P2} {r : Nat} (hworks : p.works .winter = true) (hcount : 0 < boundaryCount p a)
    (hregion : p.win.region[a] = some r) (up : Bool) :
    sectorPulse a up p = p.setChan .winter fun t =>
      { t with region := t.region.set a (some ((r + if up then 1 else boundaryCount p a - 1) % boundaryCount p a)) } := by
  have hsome : ¬(!p.works .winter || boundaryCount p a = 0) = true := by simp [hworks, hcount.ne']
  unfold sectorPulse
  dsimp only
  rw [if_neg hsome, hregion]

/-- P2 with the start region of a sector axis in both channels, the position in SAF and the load seen (R397). -/
def sectorStarted (a : Fin 8) (r : Option Nat) (pos : Int) (loads : Nat) (p : P2) : P2 :=
  { p with
    seenLoads := p.seenLoads.set a loads
    saf := { p.saf with region := p.saf.region.set a r, position := p.saf.position.set a (some pos) }
    win := { p.win with region := p.win.region.set a r } }

/-- The first position frame after a sector load ends the hold and gives both channels the region of its position (R397, R401). -/
theorem positionFrame_starts {a : Fin 8} {pos : Int} {loads : Nat} {p : P2} (hworks : p.works .saf = true)
    (hlink : p.link = true) (hcount : 0 < boundaryCount p a) (hnew : loads ≠ p.seenLoads[a]) :
    (positionFrame a pos loads true p).butReports = (sectorStarted a (regionOf p a pos) pos loads
      { p with hold := p.hold.set a false, frameAt := p.frameAt.set a p.clock }).butReports := by
  have hsome : ¬(!p.works .saf || !p.link || boundaryCount p a = 0) = true := by simp [hworks, hlink, hcount.ne']
  have hheld := reportIf_butReports p.hold[a] 0x0C0C (packDetails [(8, 0), (8, a.val)])
    { p with hold := p.hold.set a false, frameAt := p.frameAt.set a p.clock }
  have hstarted := congrArg (sectorStarted a (regionOf p a pos) pos loads) hheld
  unfold positionFrame
  rw [if_neg hsome, if_neg (by simp)]
  dsimp only
  rw [if_pos hnew]
  exact hstarted

/-- AWAIT_RESTART set in a channel for the group of a sector axis (R400). -/
def axisAwaits (p : P2) (a : Fin 8) (k : GuardChan) : GuardChan :=
  { k with await := Vector.ofFn fun (g : Fin 4) => k.await[g] || axisGroup p a = g.val }

/-- Regions that have differed for 100 ms are a disagreement, which sets AWAIT_RESTART for the group of the axis (R400). -/
theorem sectorDisagree_due {a : Fin 8} {p : P2} {g : Nat} (hworks : p.works .saf = true) (hclear : p.disagree[a] = false)
    (hsince : p.differ[a] = some g) (hlong : 100000 ≤ p.clock - g) :
    sectorDisagree a p = report 0x0C0B (packDetails [(8, a.val)])
      ((({ p with disagree := p.disagree.set a true }).setChan .saf (axisAwaits p a)).setChan .winter (axisAwaits p a)) :=
  if_pos (by simp [-Fin.getElem_fin, hworks, hclear, hsince, hlong])

/-- A disagreement that an event finds between regions that differ stands after it (R400). -/
theorem settle_disagrees {old new : P2} {a : Fin 8} (hset : new.disagree[a] = true) (hdiffer : regionsDiffer new a = true) :
    (settle old new).disagree[a] = true := by
  have hcompared : (settle old new).disagree = (compareRegions new).disagree := (congrArg P2.disagree (settle_butTest old new) :)
  rw [hcompared]
  simpa [compareRegions, hdiffer] using hset

/-- An axis without frames, without the link or without its sectors enters hold (R401). -/
theorem sectorHold_due {a : Fin 8} {loaded : Bool} {p : P2} (hpowered : p.powered = true) (hclear : p.hold[a] = false)
    (hbound : p.blk (ob (0x6820 + a) 1) ≠ 0xFF) (hlost : loaded = false ∨ p.link = false ∨ 750 ≤ p.clock - p.frameAt[a]) :
    sectorHold a loaded p = report 0x0C0C (packDetails [(8, 1), (8, a.val)]) { p with hold := p.hold.set a true } := by
  refine if_pos ?_
  rcases hlost with hlost | hlost | hlost <;> simp [-Fin.getElem_fin, hpowered, hclear, hbound, hlost]

/-! ### Silence (R402) -/

/-- The finding of a channel on the other one. -/
def foundSilent (b : Bool) (k : GuardChan) : GuardChan := { k with silent := b, good := 0 }

theorem setSilent_butReports (c : Chan) (b : Bool) (p : P2) :
    (setSilent c b p).butReports = (p.setChan c (foundSilent b)).butReports := reportIf_butReports ..

/-- An interval that reaches 2 ms is a silence. -/
theorem channelSilence_due {c : Chan} {p : P2} (hworks : p.works c = true) (hlong : 2000 ≤ p.clock - (p.chan c).edgeAt) :
    channelSilence c p = setSilent c true p :=
  if_pos (by simp [hworks, hlong])

theorem channelSilence_early {c : Chan} {p : P2} (hshort : p.clock - (p.chan c).edgeAt < 2000) : channelSilence c p = p :=
  if_neg (by simp [hshort])

/-- The edge of the other channel's heartbeat at a time. -/
def beatAt (clock : Nat) (k : GuardChan) : GuardChan := { k with edgeAt := clock }

/-- An interval out of range is a silence (R402). -/
theorem heartbeatEdge_bad {c : Chan} {d : Int} {p : P2} (hworks : p.works c = true) (hother : p.works (otherChan c) = true)
    (hbad : ownSpan (p.clock - (p.chan c).edgeAt) d < 500 ∨ 2000 ≤ ownSpan (p.clock - (p.chan c).edgeAt) d) :
    (heartbeatEdge c d p).butReports = (p.setChan c fun k => foundSilent true (beatAt p.clock k)).butReports := by
  have hedge : heartbeatEdge c d p = setSilent c true (p.setChan c (beatAt p.clock)) := by
    unfold heartbeatEdge
    rw [if_neg (by simp [hworks, hother])]
    exact if_pos (by simpa using hbad)
  rw [hedge, setSilent_butReports]
  cases c <;> rfl

/-- The thousandth good interval in a row ends a silence (R402). -/
theorem heartbeatEdge_ends {c : Chan} {d : Int} {p : P2} (hworks : p.works c = true) (hother : p.works (otherChan c) = true)
    (hlo : 500 ≤ ownSpan (p.clock - (p.chan c).edgeAt) d) (hhi : ownSpan (p.clock - (p.chan c).edgeAt) d < 2000)
    (hsilent : (p.chan c).silent = true) (hgood : (p.chan c).good = 999) :
    (heartbeatEdge c d p).butReports = (p.setChan c fun k => foundSilent false (beatAt p.clock k)).butReports := by
  have hedge : heartbeatEdge c d p = setSilent c false (p.setChan c (beatAt p.clock)) := by
    unfold heartbeatEdge
    rw [if_neg (by simp [hworks, hother])]
    exact (if_neg (by simp; omega)).trans (if_pos (by simp [hsilent, hgood]))
  rw [hedge, setSilent_butReports]
  cases c <;> rfl

/-- A good interval before the thousandth counts (R402). -/
theorem heartbeatEdge_counts {c : Chan} {d : Int} {p : P2} (hworks : p.works c = true) (hother : p.works (otherChan c) = true)
    (hlo : 500 ≤ ownSpan (p.clock - (p.chan c).edgeAt) d) (hhi : ownSpan (p.clock - (p.chan c).edgeAt) d < 2000)
    (hgood : (p.chan c).good < 999) :
    heartbeatEdge c d p = p.setChan c fun k => { beatAt p.clock k with good := k.good + 1 } := by
  have hedge : heartbeatEdge c d p = (p.setChan c (beatAt p.clock)).setChan c fun k => { k with good := k.good + 1 } := by
    unfold heartbeatEdge
    rw [if_neg (by simp [hworks, hother])]
    exact (if_neg (by simp; omega)).trans (if_neg (by simp; omega))
  rw [hedge]
  cases c <;> rfl

/-! ### Writes that reach P2 over the guard link (R394, R405) -/

theorem answer_linkOut (w k abort : Nat) (s : P1) : (answer w k abort s).linkOut = s.linkOut :=
  (congrArg P1.linkOut (answer_butAnswer w k abort s) :)

theorem forward_linkOut (w k : Nat) (x : Val) (s : P1) : (forward w k x s).linkOut = s.linkOut := by
  rw [forward_frame]

/-- With nothing to send, the links change nothing. -/
theorem flushLinks_none {s : State} (h : s.p1.linkOut = []) : flushLinks s = s := if_pos h

theorem flushGuard_p3 (s : State) : (flushGuard s).p3 = s.p3 := by
  have hevent := onP2_p3 (fun p => s.p1.linkOut.foldl (fun q m => guardMessage m q) p)
    { s with p1 := { s.p1 with linkOut := [] } }
  unfold flushGuard
  split
  · rfl
  · split
    · dsimp only
      exact hevent
    · exact hevent

/-- A message to P2 that is sent alone acts there as one event, and leaves P3 alone. -/
theorem flushLinks_guard {s : State} {m : LinkMsg} (h : s.p1.linkOut = [m]) (hclear : LinkMsg.clearLatched ≠ m)
    (hresume : resumed [m] = []) (hhalt : haltedBlocks [m] = []) :
    (flushLinks s).p2 = settle s.p2 (guardMessage m s.p2) ∧ (flushLinks s).p3 = s.p3 := by
  have hp2 : (flushGuard s).p2 = settle s.p2 (guardMessage m s.p2) := by
    rw [flushGuard_p2 (by simp [h]), h]
    rfl
  have hp3 := flushGuard_p3 s
  have hnone : ¬[m].contains .clearLatched = true := by simpa using hclear
  rw [flushLinks, if_neg (by simp [h]), h, if_neg hnone, hresume, hhalt]
  refine ⟨hp2, ?_⟩
  simp [hp3]

/-- A write that hands a message to P2 acts there as one event. -/
theorem onLinkReq_guard {w k : Nat} {x : Val} {r : Rule P1} {m : LinkMsg} {s : State} (hserves : s.p1.serves = true)
    (hacc : accepted w k x s.p1) (hmode : r.mode s.p1 = 0) (hcheck : r.check s.p1 = 0) (hbusy : r.busy s.p1 = 0)
    (hsends : (r.eff s.p1).linkOut = [m]) (hclear : LinkMsg.clearLatched ≠ m) (hresume : resumed [m] = [])
    (hhalt : haltedBlocks [m] = []) :
    ∃ t, onLinkReq w k x r s = .next t ∧ t.p2 = settle s.p2 (guardMessage m s.p2) ∧ t.p3 = s.p3 := by
  have hout : (written w k x r.eff s).p1.linkOut = [m] := by
    rw [written, answer_linkOut, forward_linkOut, hsends]
  exact ⟨_, onLinkReq_accepted hserves hacc hmode hcheck hbusy, flushLinks_guard hout hclear hresume hhalt⟩

/-- A write that the busy test of its rule refuses reaches no package. -/
theorem onLinkReq_busyRefused {w k a : Nat} {x : Val} {r : Rule P1} {s : State} (hserves : s.p1.serves = true)
    (hacc : accepted w k x s.p1) (ha : a ≠ 0) (hmode : r.mode s.p1 = 0) (hcheck : r.check s.p1 = 0) (hbusy : r.busy s.p1 = a)
    (hnone : (r.refused a s.p1).linkOut = []) :
    onLinkReq w k x r s = .next (s.core (answer w k a (r.refused a s.p1))) := by
  have hverdict : verdict w k x r s.p1 = a := verdict_busyRefused hacc hmode hcheck hbusy
  have hout : (s.core (answer w k a (r.refused a s.p1))).p1.linkOut = [] := (answer_linkOut ..).trans hnone
  have hrequest : request w k x r s.p1 = answer w k a (r.refused a s.p1) := by
    rw [request_refused (hverdict ▸ ha), hverdict]
  rw [onLinkReq, if_pos hserves, hrequest]
  exact congrArg _ (flushLinks_none hout)

/-! ### The events settled -/

theorem pressTaken_works (p : P2) (c : Chan) (n : Fin 8) : (p.setChan c (pressTaken n)).works c = p.works c := by
  cases c <;> rfl

/-- A pulse leaves its line's queue in the core and is an event of P2 (R397). -/
theorem exec_sectorPulse (a : Fin 8) (up : Bool) (s : State) :
    ∃ p : P1, exec (.sectorPulse a up) s = .next (onP2 (sectorPulse a up) (s.core p)) := ⟨_, rfl⟩

/-- A pulse as an event: Winter logic's region moves, SAF's stays (R397). -/
theorem onP2_sectorPulse {a : Fin 8} {r : Nat} {s : State} (hworks : s.p2.works .winter = true)
    (hcount : 0 < boundaryCount s.p2 a) (hregion : s.p2.win.region[a] = some r) (up : Bool) :
    let p := (onP2 (sectorPulse a up) s).p2
    p.saf.region = s.p2.saf.region
      ∧ p.win.region[a] = some ((r + if up then 1 else boundaryCount s.p2 a - 1) % boundaryCount s.p2 a) := by
  intro p
  have heffect := congrArg P2.butReports (sectorPulse_moves hworks hcount hregion up)
  have hwin := congrArg GuardChan.region (onP2_ownChan heffect)
  refine ⟨(congrArg GuardChan.region (onP2_otherChan heffect) :), ?_⟩
  exact (congrArg (fun v : Vector (Option Nat) 8 => v[a]) hwin).trans (Vector.getElem_set_self ..)

theorem sectorStarted_shown (a : Fin 8) (r : Option Nat) (pos : Int) (loads : Nat) (p : P2) :
    (sectorStarted a r pos loads p).saf.region[a] = r ∧ (sectorStarted a r pos loads p).win.region[a] = r
      ∧ (sectorStarted a r pos loads p).seenLoads[a] = loads :=
  ⟨Vector.getElem_set_self .., Vector.getElem_set_self .., Vector.getElem_set_self ..⟩

/-- The first position frame after a sector load, as an event (R397, R401). -/
theorem onP2_positionFrame {a : Fin 8} {pos : Int} {loads : Nat} {s : State} (hworks : s.p2.works .saf = true)
    (hlink : s.p2.link = true) (hcount : 0 < boundaryCount s.p2 a) (hnew : loads ≠ s.p2.seenLoads[a]) :
    let p := (onP2 (positionFrame a pos loads true) s).p2
    p.saf.region[a] = regionOf s.p2 a pos ∧ p.win.region[a] = regionOf s.p2 a pos ∧ p.seenLoads[a] = loads
      ∧ p.hold[a] = false := by
  intro p
  have heffect := positionFrame_starts (pos := pos) hworks hlink hcount hnew
  obtain ⟨hsaf, hwin, hloads⟩ := sectorStarted_shown a (regionOf s.p2 a pos) pos loads
    { s.p2 with hold := s.p2.hold.set a false, frameAt := s.p2.frameAt.set a s.p2.clock }
  have hsaf' := congrArg GuardChan.region (onP2_chan heffect .saf)
  have hwin' := congrArg GuardChan.region (onP2_chan heffect .winter)
  have hloads' := congrArg P2.seenLoads (onP2_effect heffect)
  have hhold' := congrArg P2.hold (onP2_effect heffect)
  refine ⟨(congrArg (fun v : Vector (Option Nat) 8 => v[a]) hsaf').trans hsaf,
    (congrArg (fun v : Vector (Option Nat) 8 => v[a]) hwin').trans hwin,
    (congrArg (fun v : Vector Nat 8 => v[a]) hloads').trans hloads, ?_⟩
  refine (congrArg (fun v : Vector Bool 8 => v[a]) hhold').trans ?_
  exact Vector.getElem_set_self ..

/-- An event that sets one input of a channel changes no other input. -/
theorem onP2_inputs {f : P2 → P2} {s : State} {c : Chan} {n : Fin 8} {x : SafetyInput}
    (h : (f s.p2).butReports = (s.p2.setChan c fun t => { t with inputs := t.inputs.set n x }).butReports) :
    ((onP2 f s).p2.chan c).inputs = (s.p2.chan c).inputs.set n x
      ∧ ((onP2 f s).p2.chan (otherChan c)).inputs = (s.p2.chan (otherChan c)).inputs :=
  ⟨(congrArg GuardChan.inputs (onP2_ownChan h) :), (congrArg GuardChan.inputs (onP2_otherChan h) :)⟩

/-- Settles O47: each event has the effect of its lemma in the channel that sees it, and the evaluation that follows leaves
what it shows. -/
theorem safetyEventsReachTheirChannel : Obligations.SafetyEventsReachTheirChannel := by
  intro s
  refine ⟨fun c n a b hworks => ?sample, fun c n hworks _ hdiffer hclear g halone hlong => ?discrepancy,
    fun c n q d hworks hinput hclear hpress hlo hhi => ?press, fun c n q d hworks hinput hclear hpress hlength => ?ignored,
    fun w v hserves hacc hlink hnone hsaf hwin => ?relayed, fun w v hserves hacc hlink hnone => ?unlinked,
    fun a up r hworks hcount hregion => ?pulse, fun a q hup hworks hlink hcount hloaded hnew => ?frame,
    fun a hworks hdiffer hclear g hsince hlong => ?disagree, fun a hpowered hclear hbound hlost => ?hold,
    fun c hworks hlong => ?silence, fun c hworks hshort => ?early, fun c m d hworks hother hm hbad => ?bad,
    fun c m d hworks hother hm hlo hhi hsilent => ?good⟩
  case sample =>
    obtain ⟨x, rfl, rfl, hx⟩ := inputChange_works hworks n a b
    obtain ⟨hown, hother⟩ := onP2_inputs (congrArg P2.butReports hx)
    refine ⟨_, rfl, ?_, ?_, fun m hm => ?_, hother, onP2_p3 ..⟩ <;> rw [hown]
    · exact congrArg SafetyInput.a (Vector.getElem_set_self ..)
    · exact congrArg SafetyInput.b (Vector.getElem_set_self ..)
    · exact Vector.getElem_set_ne _ _ (Fin.val_ne_of_ne hm.symm)
  case discrepancy =>
    have heffect := (congrArg P2.butReports (discrepancy_due hworks hdiffer hclear halone hlong)).trans (report_butReports ..)
    obtain ⟨hown, hother⟩ := onP2_inputs heffect
    refine ⟨_, rfl, ?_, onP2_p3 .., hother⟩
    rw [hown]
    exact congrArg SafetyInput.discrep (Vector.getElem_set_self ..)
  case press =>
    refine ⟨_, rfl, onP2_p3 .., fun g hconds => ?_⟩
    rw [onP2_p2, restartPress_acts hworks hinput hclear hpress hlo hhi]
    have hconds' := (restartConds_pressTaken s.p2 c n g).trans hconds
    refine settle_restarted ((restartGroups_conds ..).trans hconds') (restartGroups_restarted ?_ ?_ hconds')
    · rwa [pressTaken_works]
    · exact (by decide : ∀ g : Fin 4, (0xF).testBit g = true) g
  case ignored =>
    exact congrArg (fun p => Host.Outcome.next (syncGuard { s with p2 := settle s.p2 p }))
      (restartPress_ignored hworks hinput hclear hpress hlength)
  case relayed =>
    have hbusy : (restartRule s.p2 v).busy s.p1 = 0 := if_pos hlink
    obtain ⟨t, hnext, hp2, hp3⟩ := onLinkReq_guard hserves hacc rfl rfl hbusy (r := restartRule s.p2 v)
      (m := .restart v) (congrArg (· ++ [LinkMsg.restart v]) hnone) nofun rfl rfl
    refine ⟨t, hnext, hp3, fun c g hmask hconds => ?_⟩
    obtain ⟨hfree, hkept⟩ := guardMessage_restarted hsaf hwin hmask hconds
    exact hp2 ▸ settle_restarted hkept hfree
  case unlinked =>
    have hbusy : (restartRule s.p2 v).busy s.p1 = abHardware := if_neg (by simp [hlink])
    exact ⟨_, onLinkReq_busyRefused hserves hacc (by decide) rfl rfl hbusy hnone, rfl⟩
  case pulse =>
    obtain ⟨p, hnext⟩ := exec_sectorPulse a up s
    obtain ⟨hsaf, hwin⟩ := onP2_sectorPulse (s := s.core p) hworks hcount hregion up
    exact ⟨_, hnext, onP2_p3 .., hsaf, hwin⟩
  case frame =>
    have hnext : exec (.positionFrame a q) s = .next (onP2 (positionFrame a q s.p1.axes[a].loads true) s) := by
      refine (if_pos hup).trans ?_
      rw [hloaded]
    exact ⟨_, hnext, onP2_p3 .., onP2_positionFrame hworks hlink hcount hnew⟩
  case disagree =>
    have heffect := (congrArg P2.butReports (sectorDisagree_due hworks hclear hsince hlong)).trans (report_butReports ..)
    have hdiffers : regionsDiffer s.p2 a = true := decide_eq_true hdiffer
    have hset := congrArg (fun p : P2 => p.disagree[a]) heffect
    have hregions := congrArg (fun p : P2 => regionsDiffer p a) heffect
    refine ⟨_, rfl, ?_, onP2_p3 ..⟩
    rw [onP2_p2]
    exact settle_disagrees (hset.trans (Vector.getElem_set_self ..)) (hregions.trans hdiffers)
  case hold =>
    have heffect := (congrArg P2.butReports (sectorHold_due hpowered hclear hbound hlost)).trans (report_butReports ..)
    have hhold := congrArg (fun p : P2 => p.hold[a]) (onP2_effect heffect)
    exact ⟨_, rfl, hhold.trans (Vector.getElem_set_self ..), onP2_p3 .., (congrArg GuardChan.region (onP2_chan heffect .saf) :),
      (congrArg GuardChan.region (onP2_chan heffect .winter) :)⟩
  case silence =>
    have heffect := (congrArg P2.butReports (channelSilence_due hworks hlong)).trans (setSilent_butReports ..)
    exact ⟨_, rfl, (congrArg GuardChan.silent (onP2_ownChan heffect) :), (congrArg GuardChan.silent (onP2_otherChan heffect) :),
      onP2_p3 ..⟩
  case early =>
    have heffect := congrArg P2.butReports (channelSilence_early hshort)
    exact ⟨_, rfl, (congrArg GuardChan.silent (onP2_chan heffect c) :)⟩
  case bad =>
    subst hm
    have hown := onP2_ownChan (heartbeatEdge_bad hworks hother hbad)
    exact ⟨_, rfl, (congrArg GuardChan.silent hown :), (congrArg GuardChan.edgeAt hown :), onP2_p3 ..⟩
  case good =>
    subst hm
    refine ⟨_, rfl, fun hgood => ?_, fun hgood => ?_⟩
    · have hown := onP2_ownChan (heartbeatEdge_ends hworks hother hlo hhi hsilent hgood)
      exact (congrArg GuardChan.silent hown :)
    · have hown := onP2_ownChan (congrArg P2.butReports (heartbeatEdge_counts hworks hother hlo hhi hgood))
      exact ⟨(congrArg GuardChan.silent hown :).trans hsilent, (congrArg GuardChan.good hown :)⟩

end Sys2Proof.Machine
end

section
/-! SUPPORT. A test slot whose item waits for the end of its slot (R406), in a state whose pulse belongs to no slot. -/

namespace Sys2Proof.Machine

/-- With no slot under way, an event leaves the pulse as it is (R408). -/
theorem settle_pulse {old new : P2} (h : old.slot = none) : (settle old new).pulse = new.pulse := by
  have hkept : settle old new = reportClosed old (reportInhibits old (reportDemands old (evaluate (compareRegions new)))) := by
    rw [settle, abandonTest, h]
  rw [hkept]
  exact (congrArg P2.pulse (reports_butReports old _) :)

/-- The item of an open group whose own switch is closed is skipped, and no pulse is touched (R406). -/
theorem testSlot_skipped {p : P2} {i : Fin 8} (hworks : p.works .winter = true)
    (hdue : p.slotAt + (p.blk (ob 0x6800 3)).toNat * 1000 ≤ p.clock) (hitem : nextItem p = some i)
    (hopen : groupClosed p (itemGroup i) = false) (hclosed : switchClosed p (itemChan i) (itemGroup i) = true) :
    testSlot p = { p with rotation := after i, slotAt := p.clock } := by
  unfold testSlot
  rw [if_neg (by simp [hworks, hdue]), hitem]
  simp [hopen, hclosed]

/-- Group 0 in use and half closed: SAF holds HS0 closed on its grounds, Winter logic awaits a restart. A slot is due, none is
under way, and LS0 is under a pulse that belongs to none. -/
def strayPulse : P2 :=
  { P2.reset with
    block := [(ob 0x6800 1, 1), (ob 0x6800 3, 500)], haveBlock := true, startDone := true, confirmed := true
    saf := { GuardChan.reset with st := .running, await := #v[false, true, true, true], closed := #v[true, false, false, false] }
    win := { GuardChan.reset with st := .running }
    pulse := some 1, clock := 500000 }

/-- Refutes O48: nothing in its second clause excludes a pulse that belongs to no slot, and an item that is skipped leaves such
a pulse as it is, where the clause has none under way. -/
theorem not_safetyTestsBlockAndConfirmation : ¬ Obligations.SafetyTestsBlockAndConfirmation := by
  intro h
  have hworks : strayPulse.works .winter = true := by decide
  have hdue : strayPulse.slotAt + (strayPulse.blk (ob 0x6800 3)).toNat * 1000 ≤ strayPulse.clock := by decide
  have hitem : nextItem strayPulse = some 0 := by decide
  have hopen : groupClosed strayPulse (itemGroup 0) = false := by decide
  have hclosed : switchClosed strayPulse (itemChan 0) (itemGroup 0) = true := by decide
  obtain ⟨-, hslot, -⟩ := h { State.reset with p2 := strayPulse }
  obtain ⟨t, hnext, hnone, -⟩ := hslot 0 hworks hitem hopen rfl hdue
  obtain rfl : onP2 testSlot { State.reset with p2 := strayPulse } = t := Host.Outcome.next.inj hnext
  rw [onP2_p2, settle_pulse rfl, testSlot_skipped hworks hdue hitem hopen hclosed] at hnone
  exact absurd hnone (by decide)

end Sys2Proof.Machine
end

section
/-! SUPPORT. The order of the tests of a write (R538), forwarding (R468), the object map and what reset leaves of it (R536). -/

namespace Sys2Proof.Machine

/-- Settles O1: a step takes the command that stands first. -/
theorem stepRunsFrontCommand : Obligations.StepRunsFrontCommand := by
  intro s c r h
  simp only [step, h]

/-- Settles O10: a written cell reads its value, and the canonical map keeps its form. -/
theorem cellReadsBackWhatWasWritten : Obligations.CellReadsBackWhatWasWritten := by
  intro p k j v h
  refine ⟨?_, fun hj => ?_, odWf_odPut h k v⟩
  · rw [P1.wr_rd h, if_pos rfl]
  · rw [P1.wr_rd h, if_neg hj]

/-- Settles O12: the list of writes that travel is all that forwarding extends, and it does so on a Lead in a set alone. -/
theorem forwardingTouchesNoCell : Obligations.ForwardingTouchesNoCell := by
  intro w k x p
  refine ⟨?_, fun h => ?_⟩
  · unfold forward
    split
    · split
      · exact ⟨_, rfl⟩
      · exact ⟨[], by simp⟩
    · exact ⟨[], by simp⟩
  · have hstays (acc : Acc) : travels w k acc p = false := by
      rcases h with h | h <;> simp [travels, h]
    unfold forward
    split
    · rw [hstays]; rfl
    · rfl

/-- The first test of a list decides where it fails, and the rest of the list where it passes. -/
theorem firstAbort_cons (failed : Bool) (abort : Nat) (l : List (Bool × Nat)) :
    ((((failed, abort) :: l).find? fun e => e.1).map fun e => e.2).getD 0 =
      if failed then abort else ((l.find? fun e => e.1).map fun e => e.2).getD 0 := by
  cases failed <;> rfl

/-- Settles O8: the verdict is the list of tests read from its head, whose last test gives 0 where it passes. -/
theorem requestTestsInOrder : Obligations.RequestTestsInOrder := by
  intro w k x r p
  have hlast : r.busy p = if r.busy p ≠ 0 then r.busy p else 0 := by
    split
    · rfl
    · next h => exact Decidable.not_not.mp h
  unfold verdict requestTests
  simp only [firstAbort_cons]
  cases rowOf k with
  | none => rfl
  | some row =>
    simp only [Option.any_some, Option.isNone_some, decide_eq_true_eq, Bool.false_eq_true, if_false]
    conv_lhs => rw [hlast]
    rfl

/-- A cell that the map does not list holds its default. -/
theorem odGet_of_unlisted {k : Nat} : ∀ {o : Od}, k ∉ o.map (·.1) → odGet o k = defaultOf k
  | [], _ => rfl
  | e :: o, h => by
    obtain ⟨hne, hrest⟩ := not_or.mp (List.mem_cons.not.mp h)
    rw [odGet, if_neg (Ne.symm hne), odGet_of_unlisted hrest]

/-- Settles O59: the map after reset lists the seven objects alone, and every other part of the state is as it starts. -/
theorem resetHoldsTheDefaults : Obligations.ResetHoldsTheDefaults := by
  refine ⟨fun k hk => odGet_of_unlisted hk, by decide, fun _ => rfl, rfl, rfl, rfl, rfl, by decide, rfl, rfl, rfl, by decide,
    by decide, rfl, rfl, rfl⟩

end Sys2Proof.Machine
end

section
/-! SUPPORT. Every command answers a next state with the queue as it was (R18, R48): what each operation on the whole state leaves
of the queue, then the commands by the shape through which they enter. -/

namespace Sys2Proof.Machine

/-! ### Operations on the whole state -/

theorem onP2_pending (f : P2 → P2) (s : State) : (onP2 f s).pending = s.pending := (syncGuard_coreOnly _).2.2

theorem onP3_pending (d : FieldDie) (f : P3 → P3) (r : P1 → P1) (s : State) : (onP3 d f r s).pending = s.pending := by
  unfold onP3
  refine (syncField_coreOnly _).2.2.trans ?_
  split <;> rfl

theorem fieldFrame_pending (d : FieldDie) (s : State) : (fieldFrame d s).pending = s.pending := by
  unfold fieldFrame
  split
  · rfl
  · exact (syncField_coreOnly _).2.2

theorem diEdge_pending (n : Fin 32) (level : Bool) (s : State) : (diEdge n level s).pending = s.pending := by
  unfold diEdge
  split
  · rfl
  · dsimp only
    split <;> simp only [onP3_pending]

theorem flushGuard_pending (s : State) : (flushGuard s).pending = s.pending := by
  unfold flushGuard
  dsimp only
  split
  · rfl
  · split <;> simp only [onP2_pending]

theorem flushLinks_pending (s : State) : (flushLinks s).pending = s.pending := by
  unfold flushLinks
  dsimp only
  split
  · rfl
  · split
    · exact (onP3_pending ..).trans (flushGuard_pending s)
    · exact flushGuard_pending s

/-! ### Faults, links and halts (R55, R59–R61) -/

theorem guardLinkFail_pending (s : State) : (guardLinkFail s).pending = s.pending := by
  unfold guardLinkFail
  dsimp only
  rw [(coreLinkDown_coreOnly _).2.2]
  split <;> rfl

theorem fieldLinkFail_pending (k : FieldDie) (s : State) : (fieldLinkFail k s).pending = s.pending := by
  unfold fieldLinkFail
  dsimp only
  split <;> rfl

theorem faultAt_pending (addr : Nat) (s : State) : (faultAt addr s).pending = s.pending := by
  unfold faultAt
  dsimp only
  split
  · split
    · exact guardLinkFail_pending s
    · rw [(coreLinkDown_coreOnly _).2.2]
      split <;> exact onP2_pending _ _
  · split
    · split_ifs <;> simp only [fieldLinkFail_pending]
    · split <;> exact (syncField_coreOnly _).2.2
  · split <;> rfl

theorem linkFail_pending (d : Die) (s : State) : (linkFail d s).pending = s.pending := by
  cases d with
  | c | t | n => exact faultAt_pending _ s
  | g | w => exact guardLinkFail_pending s
  | f0 | f1 => exact fieldLinkFail_pending _ s

theorem linkCheckFail_pending (d : Die) (s : State) : (linkCheckFail d s).pending = s.pending := by
  unfold linkCheckFail
  extract_lets e n put
  split
  · rfl
  · split
    · exact linkFail_pending d _
    · rfl

theorem linkReturn_pending (d : Die) (s : State) : (linkReturn d s).pending = s.pending := by
  cases d with
  | g | w =>
    unfold linkReturn
    dsimp only
    split
    · rfl
    · exact (syncGuard_coreOnly _).2.2
  | f0 | f1 => exact (syncField_coreOnly _).2.2
  | c | t | n => rfl

theorem wrespLost_pending (x : WriteItem) (s : State) : (wrespLost x s).pending = s.pending := by
  cases x with
  | block a => exact faultAt_pending _ s
  | recorderCommit | dmaDescriptor d | solverResult e =>
    unfold wrespLost
    dsimp only
    split <;> rfl

theorem dieHalt_pending (d : Die) (c : HaltCause) (s : State) : (dieHalt d c s).pending = s.pending := by
  unfold dieHalt
  dsimp only
  split <;> exact faultAt_pending _ s

theorem startChecks_pending (c : Chan) (ok1 ok2 : Bool) (s : State) : (startChecks c ok1 ok2 s).pending = s.pending := by
  unfold startChecks
  dsimp only
  split_ifs <;> exact onP2_pending _ s

/-! ### Resets and starts (R87–R95) -/

theorem restartModule_pending (o : Nat) (spring : Bool) (k : KeptChecks) (s : State) :
    (restartModule o spring k s).pending = s.pending := by
  unfold restartModule
  dsimp only

theorem resetRelease_pending (i : ResetInput) (n : Nat) (k : KeptChecks) (s : State) :
    (resetRelease i n k s).pending = s.pending := by
  unfold resetRelease
  split_ifs
  · rfl
  · exact restartModule_pending ..
  · exact restartModule_pending ..
  · rfl

theorem serveAgain_pending (failed : List Word32) (s : State) : (serveAgain failed s).pending = s.pending := by
  unfold serveAgain raiseAnew
  rw [(syncGuard_coreOnly _).2.2, (syncField_coreOnly _).2.2]
  exact List.foldlRecOn (motive := fun t : State => t.pending = s.pending) failed failBlock rfl
    fun t ht _ _ => (faultAt_pending _ _).trans ht

/-! ### Writes and requests (R435, R468, R538, R547–R549) -/

theorem writeObject_pending (ans : Nat → P1 → P1) (w k : Nat) (x : Val) (s : State) :
    (writeObject ans w k x s).pending = s.pending := by
  unfold writeObject
  split
  · rfl
  · exact flushLinks_pending _

theorem writeSegmentWith_pending (ans : Nat → P1 → P1) (w k offset : Nat) (b : List Byte) (last : Bool) (s : State) :
    (writeSegmentWith ans w k offset b last s).pending = s.pending := by
  unfold writeSegmentWith
  extract_lets whole r ab
  split
  · exact writeObject_pending ..
  · split
    · rfl
    · split
      · exact flushLinks_pending _
      · rfl

theorem aoaServed_pending (q : AoaHead) (op index sub : Nat) {f : State → State} (hf : ∀ t, (f t).pending = t.pending)
    (s : State) : (aoaServed q op index sub f s).pending = s.pending := by
  unfold aoaServed
  split
  · rfl
  · split
    · rfl
    · split_ifs
      · exact hf _
      · rfl
      · split <;> rfl
      · rfl

theorem aoaFrom_pending (q : AoaHead) (op index sub : Nat) (x : Val) {f : State → State} (hf : ∀ t, (f t).pending = t.pending)
    (s : State) : (aoaFrom q op index sub x f s).pending = s.pending := by
  unfold aoaFrom
  split_ifs
  · rfl
  · rfl
  · split
    · exact aoaServed_pending q op index sub hf _
    · rfl

theorem sdoDown_pending (c : Fin 4) (k : Nat) (block : Bool) (b : List Byte) (last ok : Bool) (op opEnd : Nat) (s : State) :
    (sdoDown c k block b last ok op opEnd s).pending = s.pending := by
  unfold sdoDown
  extract_lets w had p before all t
  split_ifs
  · rfl
  · rfl
  · exact writeSegmentWith_pending ..
  · exact writeObject_pending ..
  · rfl

theorem sdoInReset_pending (c : Fin 4) (k : Nat) (b : List Byte) (last : Bool) (s : State) :
    (sdoInReset c k b last s).pending = s.pending := by
  unfold sdoInReset
  split <;> rfl

theorem dmaComplete_pending (d : Fin 16) (readback : Bool) (s : State) : (dmaComplete d readback s).pending = s.pending := by
  unfold dmaComplete
  extract_lets c
  split
  · rfl
  · split
    · rfl
    · split
      · rfl
      · extract_lets t q
        split_ifs
        · rfl
        · exact writeObject_pending ..
        · rfl

/-! ### Partners and the station cycle (R467, R468, R478) -/

theorem applyWrite_pending (f : ForwardedWrite) (s : State) : (applyWrite f s).pending = s.pending := by
  unfold applyWrite
  dsimp only
  split
  · rfl
  · exact flushLinks_pending _

theorem takeMirror_pending (m : Mirror) (s : State) : (takeMirror m s).pending = s.pending := by
  unfold takeMirror
  dsimp only
  split
  · exact List.foldlRecOn (motive := fun t : State => t.pending = s.pending) _ _ rfl
      fun t ht f _ => (applyWrite_pending f t).trans ht
  · rfl

theorem takeCycle_pending (m : SetMessage) (s : State) : (takeCycle m s).pending = s.pending := by
  unfold takeCycle
  dsimp only
  split
  · rfl
  · split
    · exact takeMirror_pending _ _
    · rfl

theorem takeHandOver_pending (m : SetMessage) (s : State) : (takeHandOver m s).pending = s.pending := by
  unfold takeHandOver
  dsimp only
  split
  · rfl
  · split
    · split
      · exact takeMirror_pending _ s
      · rfl
    · rfl

theorem takeStaged_pending (s : State) : (takeStaged s).pending = s.pending := by
  unfold takeStaged
  exact List.foldlRecOn (motive := fun t : State => t.pending = s.pending) _ _ rfl
    fun t ht g _ => (applyWrite_pending _ t).trans ht

theorem stationCycle_pending (s : State) : (stationCycle s).pending = s.pending := by
  unfold stationCycle
  dsimp only
  split
  · rfl
  · split
    · rfl
    · simp only [takeStaged_pending]

/-! ### Outcomes -/

/-- An outcome is a next state with the queue of `s`. -/
def answersOn (s : State) (o : Out) : Prop := ∃ t, o = .next t ∧ t.pending = s.pending

theorem answersOn_next {s u : State} (h : u.pending = s.pending) : answersOn s (.next u) := ⟨u, rfl, h⟩

/-- A change of P1 leaves the queue. -/
theorem answersOn_core {s : State} {p : P1} : answersOn s (.next { s with p1 := p }) := answersOn_next rfl

theorem answersOn_ite {s u v : State} {b : Prop} [Decidable b] (hu : u.pending = s.pending) (hv : v.pending = s.pending) :
    answersOn s (if b then .next u else .next v) := by
  split
  · exact answersOn_next hu
  · exact answersOn_next hv

theorem answersOn_coreIte {s : State} {p q : P1} {b : Prop} [Decidable b] :
    answersOn s (if b then .next { s with p1 := p } else .next { s with p1 := q }) := answersOn_ite rfl rfl

/-- Every command answers a next state and leaves the queue. The cases group the commands by the shape through which they enter:
P1 alone, under a condition or not, a write over a link, an event of P2 or P3, and the operations above. -/
theorem exec_answersOn (c : Instr) (s : State) : answersOn s (exec c s) := by
  cases c with
  | stationCycleStart => exact answersOn_next (stationCycle_pending s)
  | blockFault | safClockFail | fieldLogicPowerFail => exact answersOn_next (faultAt_pending _ s)
  | wrespLost x => exact answersOn_next (wrespLost_pending x s)
  | linkCheckFail d => exact answersOn_next (linkCheckFail_pending d s)
  | dieHalt d x => exact answersOn_next (dieHalt_pending d x s)
  | crossBarrierLinkReturn d => exact answersOn_ite rfl (linkReturn_pending d s)
  | startChecksDone c a b => exact answersOn_next (startChecks_pending c a b s)
  | resetInputRelease i n k => exact answersOn_next (resetRelease_pending i n k s)
  | powerApplied => exact answersOn_ite (restartModule_pending ..) rfl
  | springStartComplete failed => exact answersOn_ite (serveAgain_pending failed s) rfl
  | selfTestComplete failed =>
    show answersOn s (execSelfTestComplete failed s)
    unfold execSelfTestComplete
    split
    · exact answersOn_next (serveAgain_pending failed s)
    · exact answersOn_next rfl
  | restartBlock | restartWrite | confirm | clearLatchedFaults | authorisationKeyWrite =>
    exact answersOn_ite (flushLinks_pending _) rfl
  | safetyBlockWrite w i b v =>
    show answersOn s (execSafetyBlockWrite w i b v s)
    unfold execSafetyBlockWrite
    split
    · exact answersOn_ite (flushLinks_pending _) rfl
    · exact answersOn_next rfl
  | safetyReport => exact answersOn_ite (syncGuard_coreOnly _).2.2 rfl
  | safetyInputChange | discrepancy | restartPress | sectorPulse | sectorDisagree | sectorHold | channelSilence | testSlot
    | testPulseEnd | switchFault | testOverdue | heartbeatEdge | checkValuePlaced => exact answersOn_next (onP2_pending _ _)
  | positionFrame => exact answersOn_ite (onP2_pending _ _) rfl
  | safetyBlockTransfer => exact answersOn_ite rfl (onP2_pending _ _)
  | fieldFrame d => exact answersOn_next (fieldFrame_pending d s)
  | fieldSilence | fldMeasurement | doReadback | doShort | doThermal | groupLimit | aoReadback =>
    exact answersOn_next (onP3_pending _ _ _ s)
  | shortRetry => exact answersOn_ite (onP3_pending _ _ _ s) rfl
  | diEdge n level => exact answersOn_next (diEdge_pending n level s)
  | aoaRead | aoaReadSegment | aoaInformation | aoaClose =>
    refine answersOn_next (aoaFrom_pending _ _ _ _ _ ?_ s)
    exact fun _ => rfl
  | aoaWrite => exact answersOn_next (aoaFrom_pending _ _ _ _ _ (fun _ => writeObject_pending ..) s)
  | aoaWriteSegment => exact answersOn_next (aoaFrom_pending _ _ _ _ _ (fun _ => writeSegmentWith_pending ..) s)
  | parameterWrite => exact answersOn_ite (writeObject_pending ..) rfl
  | sdoDownload | sdoBlockDownload =>
    refine answersOn_next ?_
    split
    · exact sdoDown_pending ..
    · exact sdoInReset_pending ..
  | dmaDescriptorComplete d readback => exact answersOn_ite (dmaComplete_pending d readback s) rfl
  | cycleMessage m => exact answersOn_ite (takeCycle_pending m s) rfl
  | relinquishMessage m => exact answersOn_ite (takeHandOver_pending m s) rfl
  | releaseOverrun | servoTick | inertialPropagation | cycleChangeEffect | snapProgrammedTime |
    dieTemperatureAlarm | supplyInputChange | springStepComplete | fastPacketTimeout | lidarFrameTimeout |
    timeModelBlockEnd | disputeLimit | headingDisputeLimit | upgradeTime | holdLimit | alignIssue |
    suspectClearTime | structureSwap | waypointDwellEnd | waveRefitIssue | waveFitAgeExpiry | waveExitTime |
    thrusterFeedbackFrame | testDurationExpiry | timeSecond | sourceLost | holdoverLimit | leapSecond | timeSave
    | ptpSync | ptpAnnounceTimeout | ppsPulse | evtEdge | channelAssignment | channelLockLoss | gnssEpoch |
    antennaStateChange | gnssWake | gnssWakeEnd | countEdge | comparePulseEnd | axisSignalFault |
    absoluteReadStart | absoluteReadDone | speedWindowEnd | probeLatch | probeRecordQueued | indexPulse |
    filterOutput | shuntRetry | fieldFrameConfirm | prpFrameReceived | prpSupervision | sfpModuleChange |
    nodeForget | igmpQuery | aoaDatagramDiscard | setMessageSegmentTimeout | vacancy | rejoinHoldEnd |
    canFrameSent | canBusOffRecovery | canFrameExpiry | serialBreak | serialOverrun | periodBoundary |
    recordCommit | commitComplete | freezeExpiry | dmaDescriptorStart | dmaPaused | saveStepComplete |
    channelLock | canReceiveError | ptpAnnounce | ptpMasterSync | sensorPortDatagram | templateFrameGap |
    sentenceSyntaxDiscard | serialCharacterError | secondsRead | evtEventRead | compareEventRead | probeRecordRead |
    sessionIdle | receiveBufferTimeout | dmaCompletionRead | sdoUpload | sdoBlockUpload | sdoAbort | sdoTimeout |
    challengeRead | lockoutEnd | canopenHeartbeat | pllUnlock | pllLockHeld | jobIssue | jobStart | jobComplete |
    jobDeadline | engineCheckJob | waveSample | refWarm | lanFault | linkChange | canAttemptFail => exact answersOn_coreIte
  | _ => exact answersOn_core

/-- Settles O3: whatever its shape, a command answers a next state. -/
theorem everyCommandAnswersNext : Obligations.EveryCommandAnswersNext := fun c s =>
  let ⟨t, hnext, _⟩ := exec_answersOn c s
  ⟨t, hnext⟩

/-- Settles O4: the next state that a command answers has the queue that the command found. -/
theorem commandsKeepQueue : Obligations.CommandsKeepQueue := by
  intro c s t h
  obtain ⟨u, hnext, hqueue⟩ := exec_answersOn c s
  obtain rfl := Host.Outcome.next.inj (hnext.symm.trans h)
  exact hqueue

end Sys2Proof.Machine
end

section
/-! SUPPORT. Errors of a serial line (R448–R450): what each event makes of a channel that hears its line, and of one that does not. -/

namespace Sys2Proof.Machine

theorem setSer_chan (k : Fin 8) (f : SerialChan → SerialChan) (s : P1) : (setSer k f s).serial[k] = f s.serial[k] := upd_get _ _ _

/-- The counter of a character error (R448). -/
def charCounter : CharError → Nat
  | .framing => 8
  | .parity => 9

theorem serialOverrun_heard {k : Fin 8} {s : State} (hup : s.p1.up = true) (hon : serialOn k s.p1 = true) :
    exec (.serialOverrun k) s = .next (s.core (s.p1.inc (serKey k 0x0A))) :=
  onP1_next hup (if_pos hon)

theorem serialCharacterError_heard {k : Fin 8} {s : State} (hup : s.p1.up = true) (hon : serialOn k s.p1 = true)
    (e : CharError) : exec (.serialCharacterError k e) s =
      .next (s.core (setSer k (fun x => { x with spoilt := true }) (s.p1.inc (serKey k (charCounter e))))) := by
  cases e <;> exact onP1_next hup (if_pos hon)

theorem serialBreak_heard {k : Fin 8} {s : State} (hup : s.p1.up = true) (hon : serialOn k s.p1 = true) :
    exec (.serialBreak k) s = .next (s.core (setSer k (fun x => { x with inBreak := true }) (s.p1.inc (serKey k 0x0D)))) :=
  onP1_next hup (if_pos hon)

/-- A sentence channel alone drops a frame of bad syntax (R449). -/
theorem sentenceSyntaxDiscard_next {k : Fin 8} {s : State} (hup : s.p1.up = true) :
    exec (.sentenceSyntaxDiscard k) s =
      .next (if serialOn k s.p1 && s.p1.rd (serKey k 4) = 0 then s.core (dropSerial k 2 s.p1) else s) := by
  split
  · next h => exact onP1_next hup (if_pos h)
  · next h => exact onP1_idle hup (if_neg h)

/-- A template channel alone drops a frame with a gap (R450). -/
theorem templateFrameGap_next {k : Fin 8} {s : State} (hup : s.p1.up = true) :
    exec (.templateFrameGap k) s =
      .next (if serialOn k s.p1 && s.p1.rd (serKey k 4) = 1 then s.core (dropSerial k 2 s.p1) else s) := by
  split
  · next h => exact onP1_next hup (if_pos h)
  · next h => exact onP1_idle hup (if_neg h)

/-- Settles O30: each event acts where the channel hears its line in the format that the event is of. -/
theorem serialLineErrorsAreCounted : Obligations.SerialLineErrorsAreCounted := by
  intro s k hup
  refine ⟨fun hon => ⟨serialOverrun_heard hup hon, ?_, ?_, ?_, fun hfmt => ?_, fun hfmt => ?_⟩, fun hoff => ?_,
    fun w v hserves h => onReq_eff hserves h⟩
  · exact ⟨_, serialCharacterError_heard hup hon .framing, congrArg SerialChan.spoilt (setSer_chan ..), rfl⟩
  · exact ⟨_, serialCharacterError_heard hup hon .parity, congrArg SerialChan.spoilt (setSer_chan ..), rfl⟩
  · exact ⟨_, serialBreak_heard hup hon, congrArg SerialChan.inBreak (setSer_chan ..), rfl⟩
  · rw [sentenceSyntaxDiscard_next hup, templateFrameGap_next hup]
    simp [hon, hfmt]
  · rw [sentenceSyntaxDiscard_next hup, templateFrameGap_next hup]
    simp [hon, hfmt]
  · simp only [List.forall_mem_cons, List.not_mem_nil, false_imp_iff, implies_true, and_true]
    refine ⟨onP1_idle hup ?_, onP1_idle hup ?_, onP1_idle hup ?_, onP1_idle hup ?_, onP1_idle hup ?_⟩ <;> simp [hoff]

end Sys2Proof.Machine
end

section
/-! SUPPORT. What the answer and the forwarding after an accepted write leave of its effect (R434, R468, R547). -/

namespace Sys2Proof.Machine

/-- P1 but for what forwarding and answering an accepted write touch. -/
def P1.butWritten (s : P1) : P1 := { s.butAnswer with red := { s.red with forward := [] } }

theorem forward_butWritten (w k : Nat) (x : Val) (s : P1) : (forward w k x s).butWritten = s.butWritten := by
  rw [forward_frame]
  rfl

theorem answer_butWritten (w k a : Nat) (s : P1) : (answer w k a s).butWritten = s.butWritten := by
  have h := answer_butAnswer w k a s
  have hred : (answer w k a s).red = s.red := (congrArg P1.red h :)
  simp only [P1.butWritten, h, hred]

/-- An accepted write leaves its effect but for what travels and what answers. -/
theorem written_butWritten (w k : Nat) (x : Val) (f : P1 → P1) (s : State) :
    (written w k x f s).p1.butWritten = (f s.p1).butWritten :=
  (answer_butWritten ..).trans (forward_butWritten ..)

theorem answer_forward_sameCells (w k : Nat) (x : Val) (s : P1) :
    sameCells answerCounter s (answer w k 0 (forward w k x s)) := by
  have hforward : sameCells answerCounter s (forward w k x s) := .of_od (by rw [forward_frame])
  exact hforward.trans (answer_sameCells _ _ _ _)

/-- A cell that no answer counts in stands as the effect of the write left it. -/
theorem written_rd {j : Nat} (h : answerCounter j = false) (w k : Nat) (x : Val) (f : P1 → P1) (s : State) :
    (written w k x f s).p1.rd j = (f s.p1).rd j :=
  answer_forward_sameCells w k x (f s.p1) j h

end Sys2Proof.Machine
end

section
/-! SUPPORT. DMA channels (R511–R521): what the operations on a channel make of it, what they leave of the other channels and of the
cells, and the outcome of each command. -/

namespace Sys2Proof.Machine

/-! ### One channel -/

theorem setDma_chan (d : Fin 16) (f : DmaChan → DmaChan) (s : P1) : (setDma d f s).dma[d] = f s.dma[d] := upd_get _ _ _

theorem setDma_other {d e : Fin 16} (h : e ≠ d) (f : DmaChan → DmaChan) (s : P1) : (setDma d f s).dma[e] = s.dma[e] :=
  upd_get_other h _ _

theorem written_dma (w k : Nat) (x : Val) (f : P1 → P1) (s : State) : (written w k x f s).p1.dma = (f s.p1).dma :=
  (congrArg P1.dma (written_butWritten w k x f s) :)

theorem P1.dma_of_record {a b : P1} (h : b.butRecord = a.butRecord) : b.dma = a.dma := (congrArg P1.dma h :)

theorem P1.dma_of_cells {a b : P1} (h : b.butCells = a.butCells) : b.dma = a.dma := (congrArg P1.dma h :)

theorem showRun_dma (d : Fin 16) (r : DmaRun) (s : P1) : (showRun d r s).dma = s.dma :=
  P1.dma_of_cells (P1.wrs_butCells _ s)

/-! ### The end of descriptors (R517–R521) -/

section
variable (d : Fin 16) (s : P1)

/-- A descriptor that ends leaves its channel idle with one more completion (R519). -/
theorem dmaFinish_chan (r : DmaRun) (ok readback committed : Bool) (cause : Nat) :
    ((dmaFinish d r ok readback committed cause s).dma[d]).run = none
      ∧ ((dmaFinish d r ok readback committed cause s).dma[d]).done.length = (s.dma[d]).done.length + 1 := by
  have hchan (f : DmaChan → DmaChan) (b : Bool) (t : P1) :
      (if b then setDma d f t else (setDma d f t).inc (ob (0x5800 + d) 0x0D)).dma[d] = f t.dma[d] := by
    cases b <;> exact setDma_chan d f t
  unfold dmaFinish
  dsimp only
  rw [hchan]
  exact ⟨rfl, List.length_append⟩

theorem dmaEndOne_run (cause : Nat) (r : DmaRun) : ((dmaEndOne d cause r s).dma[d]).run = none := by
  unfold dmaEndOne
  rw [P1.dma_of_record (record_butRecord _ _ _)]
  exact (dmaFinish_chan d s r false false false cause).1

theorem dmaEndOne_cellsKept (cause : Nat) (r : DmaRun) : CellsKept (fun _ => true) s (dmaEndOne d cause r s) := by
  have hfinish : CellsKept (fun _ => true) s (dmaFinish d r false false false cause s) := by
    unfold dmaFinish
    extract_lets c t
    rw [if_neg Bool.false_ne_true]
    exact CellsKept.trans (a := s) (b := t) (.of_od rfl) (.inc rfl t)
  exact hfinish.trans ((record_cellsKept _ _ _).mono fun _ _ => rfl)

/-- The end of a channel's work leaves it idle, empty and neither pausing nor paused (R521). -/
theorem dmaEndAll_chan (cause : Nat) : ∃ c : DmaChan, (dmaEndAll d cause s).dma[d] = c
    ∧ c.ring = [] ∧ c.run = none ∧ c.paused = false ∧ c.pausing = false := by
  unfold dmaEndAll
  extract_lets c t u
  have ht : (t.dma[d]).run = none := by
    unfold t
    split
    · exact dmaEndOne_run ..
    · assumption
  have hu : (u.dma[d]).run = none :=
    List.foldlRecOn (motive := fun v : P1 => (v.dma[d]).run = none) _ _ ht fun v _ x _ => dmaEndOne_run ..
  exact ⟨_, setDma_chan d _ u, rfl, hu, rfl, rfl⟩

theorem dmaEndAll_canonical {s : P1} (h : odWf s.od = true) (cause : Nat) : odWf (dmaEndAll d cause s).od = true := by
  unfold dmaEndAll
  extract_lets c t u
  have ht : odWf t.od = true := by
    unfold t
    split
    · exact (dmaEndOne_cellsKept ..).canonical h
    · exact h
  exact (CellsKept.foldl (fun v (x : Desc) => dmaEndOne_cellsKept d v cause ⟨x, 0, x.backward, false, none⟩) c.ring t).canonical ht

end

/-! ### Reads that remove (R519) -/

/-- A read that removes no completion leaves every channel; one of 5800h+d:06 removes the oldest of its channel. -/
theorem afterRead_dma (w k : Nat) (s : P1) :
    (afterRead w k s).dma = s.dma ∨ ∃ d, (afterRead w k s).dma = (popCompletion d s).dma := by
  unfold afterRead
  extract_lets i b
  split
  · exact .inl rfl
  · split
    · exact .inl rfl
    · split
      · exact .inl rfl
      · split
        · split <;> exact .inl rfl
        · split
          · split <;> exact .inl rfl
          · split
            · split <;> exact .inl rfl
            · split
              · next d _ =>
                split
                · exact .inr ⟨d, rfl⟩
                · exact .inl rfl
              · exact .inl rfl

theorem afterRead_paused (w k : Nat) (s : P1) (d : Fin 16) : ((afterRead w k s).dma[d]).paused = (s.dma[d]).paused := by
  rcases afterRead_dma w k s with h | ⟨e, h⟩ <;> rw [h]
  by_cases he : d = e
  · subst he
    rw [popCompletion, setDma_chan]
  · exact congrArg DmaChan.paused (setDma_other he _ s)

/-- Moving a running descriptor on changes no more of its channel than the descriptor (R514, R516). -/
theorem moveOn_paused (p : P2) (d : Fin 16) (r : DmaRun) (n : Nat) (s : P1) :
    ((moveOn p d r n s).dma[d]).paused = (s.dma[d]).paused := by
  have hread : ((readSource (s.rdN (ob (0x5800 + d) 0x0B)) r s).dma[d]).paused = (s.dma[d]).paused := by
    unfold readSource
    split
    · exact afterRead_paused ..
    · rfl
  unfold moveOn dmaStep
  dsimp only
  rw [showRun_dma, setDma_chan]
  dsimp only
  rw [P1.wr_dma]
  split
  · exact hread
  · exact hread

/-- A completion read is one of 5800h+d:06, which the user channels alone have (R519). -/
theorem completion_read (d : Fin 16) :
    (readVerdict (ob (0x5800 + d) 6) = 0 ↔ 8 ≤ d.val) := by
  revert d
  decide +kernel

theorem afterRead_completion (w : Nat) (d : Fin 16) (s : P1) : afterRead w (ob (0x5800 + d) 6) s = popCompletion d s := by
  have hd := d.isLt
  have hkey : ob (0x5800 + d) 6 = (0x5800 + d) * 256 + 6 := rfl
  have hi : ob (0x5800 + d) 6 / 256 = 0x5800 + d := by omega
  have hb : ob (0x5800 + d) 6 % 256 = 6 := by omega
  have hpick : pick 0x5800 16 (0x5800 + d) = some d := by simp [pick]
  unfold afterRead
  dsimp only
  rw [if_neg (by simp only [ob]; omega), if_neg (by simp only [ob]; omega), if_neg (by simp only [ob]; omega), hi, hb, hpick]
  simp [pick, show ¬ (0x5800 + d.val - 0x5024 < 2) by omega, show ¬ (0x5800 + d.val - 0x5200 < 8) by omega,
    show ¬ (0x5800 + d.val - 0x5218 < 2) by omega]

/-! ### Outcomes -/

section
variable {d : Fin 16} {p : P1}

/-- A descriptor starts whose destination no other writer holds (R511, R520). -/
theorem dmaStart_runs {x : Desc} {r : List Desc} (hrun : (p.dma[d]).run = none) (hring : (p.dma[d]).ring = x :: r)
    (hpaused : (p.dma[d]).paused = false) (hpausing : (p.dma[d]).pausing = false) (hworks : p.stopped (dmaAddr d) = false)
    (hfree : x.dstKind ≠ 1 ∨ ∀ b ∈ p.bufs, b.key = x.dstKey → b.holder = .channel d) :
    dmaStart d p = showRun d ⟨x, 0, x.backward, false, none⟩
      (setDma d (fun y => { y with ring := r, run := some ⟨x, 0, x.backward, false, none⟩ }) p) := by
  have hheld : ¬(x.dstKind = 1 && p.bufs.any (fun b => b.key = x.dstKey && b.holder ≠ .channel d)) = true := by
    rcases hfree with h | h
    · simp [h]
    · simp only [Bool.and_eq_true, List.any_eq_true, decide_eq_true_eq]
      rintro ⟨-, b, hb, hkey, hother⟩
      exact hother (h b hb hkey)
  unfold dmaStart
  simp only [hrun, hring]
  rw [if_neg (by simp [hpaused, hpausing, hworks, -Fin.getElem_fin])]
  exact if_neg hheld

/-- A channel that runs a descriptor, has none, or stands starts none (R511, R516). -/
theorem dmaStart_idle (h : (p.dma[d]).run.isSome = true ∨ (p.dma[d]).ring = [] ∨ (p.dma[d]).paused = true
    ∨ (p.dma[d]).pausing = true ∨ p.stopped (dmaAddr d) = true) : dmaStart d p = p := by
  unfold dmaStart
  dsimp only
  split
  · next hrun hring =>
    refine if_pos ?_
    rcases h with h | h | h | h | h
    · simp [hrun, -Fin.getElem_fin] at h
    · simp [hring, -Fin.getElem_fin] at h
    all_goals simp [h, -Fin.getElem_fin]
  · rfl

theorem dmaPaused_idle (h : (p.dma[d]).pausing = false) : dmaPaused d p = p := if_neg (by simp [h, -Fin.getElem_fin])

/-- Enabling writes the binding, and empties the completions of a channel that was not bound so (R512). -/
theorem dmaEnable_binds (w : Nat) (hwf : odWf p.od = true) :
    ((dmaEnableRule w d 1).eff p).rd (ob (0x5800 + d) 2) = 1 ∧ ((dmaEnableRule w d 1).eff p).rd (ob (0x5800 + d) 0x0B) = w
      ∧ (((dmaEnableRule w d 1).eff p).dma[d]).ring = (p.dma[d]).ring := by
  have hbound : ((p.wr (ob (0x5800 + d) 2) 1).wr (ob (0x5800 + d) 0x0B) w).rd (ob (0x5800 + d) 2) = 1
      ∧ ((p.wr (ob (0x5800 + d) 2) 1).wr (ob (0x5800 + d) 0x0B) w).rd (ob (0x5800 + d) 0x0B) = w := by
    rw [P1.wr_rd_other (by simp only [ob]; omega), P1.wr_rd hwf, P1.wr_rd (odWf_odPut hwf _ _), if_pos rfl, if_pos rfl]
    exact ⟨rfl, rfl⟩
  dsimp only [dmaEnableRule]
  rw [if_pos rfl]
  split
  · exact ⟨hbound.1, hbound.2, rfl⟩
  · exact ⟨hbound.1, hbound.2, by rw [setDma_chan]; rfl⟩

/-- Disabling ends the work of the channel and frees it (R512, R521). -/
theorem dmaDisable_frees (w : Nat) (hwf : odWf p.od = true) :
    ((dmaEnableRule w d 0).eff p).rd (ob (0x5800 + d) 2) = 0 ∧ ((dmaEnableRule w d 0).eff p).rd (ob (0x5800 + d) 0x0B) = 0
      ∧ (((dmaEnableRule w d 0).eff p).dma[d]).ring = [] ∧ (((dmaEnableRule w d 0).eff p).dma[d]).run = none := by
  obtain ⟨c, hc, hring, hrun, -, -⟩ := dmaEndAll_chan d p 7
  have hended := dmaEndAll_canonical d hwf 7
  dsimp only [dmaEnableRule]
  rw [if_neg (by decide), P1.wr_rd (odWf_odPut hended _ _), if_pos rfl, P1.wr_rd_other (by simp only [ob]; omega),
    P1.wr_rd hended, if_pos rfl]
  exact ⟨rfl, rfl, (congrArg DmaChan.ring hc).trans hring, (congrArg DmaChan.run hc).trans hrun⟩

theorem dmaPauseFlag_resume : (dmaPauseFlag d 0 p).dma[d] = { p.dma[d] with pausing := false, paused := false } := by
  unfold dmaPauseFlag
  dsimp only
  rw [if_neg (by decide), setDma_chan]
  rfl

theorem dmaPauseFlag_pause (v : Int) (hv : v = 1) (hpaused : (p.dma[d]).paused = false) :
    ((dmaPauseFlag d v p).dma[d]).pausing = true ∧ ((dmaPauseFlag d v p).dma[d]).paused = false := by
  unfold dmaPauseFlag
  dsimp only
  rw [if_pos hv, if_neg (by simp [hpaused, -Fin.getElem_fin]), setDma_chan]
  exact ⟨rfl, hpaused⟩

/-- A pause that comes while a descriptor runs moves it on to the octets read, and flags its channel (R516). -/
theorem dmaPause_flags (g : P2) (n : Nat) (hpaused : (p.dma[d]).paused = false) :
    ((dmaPause g d 1 n p).dma[d]).pausing = true ∧ ((dmaPause g d 1 n p).dma[d]).paused = false := by
  unfold dmaPause
  split
  · split
    · exact dmaPauseFlag_pause 1 rfl ((moveOn_paused ..).trans hpaused)
    · exact dmaPauseFlag_pause 1 rfl hpaused
  · exact dmaPauseFlag_pause 1 rfl hpaused

/-- A descriptor that may complete does so by its failure, its read-back or its commit (R517–R520). -/
theorem dmaComplete_lost {r : DmaRun} {c : Nat} {s : State} (hrun : (s.p1.dma[d]).run = some r) (hlost : r.lost = some c)
    (hworks : s.p1.stopped (dmaAddr d) = false) (hpaused : (s.p1.dma[d]).paused = false)
    (hpausing : (s.p1.dma[d]).pausing = false) (b : Bool) :
    dmaComplete d b s = s.core (dmaFinish d r false false false c s.p1) := by
  unfold dmaComplete
  simp only [hrun, hlost]
  exact if_neg (by simp [hworks, hpaused, hpausing, -Fin.getElem_fin])

theorem dmaComplete_moved {r : DmaRun} {s : State} (hrun : (s.p1.dma[d]).run = some r) (hlost : r.lost = none)
    (hworks : s.p1.stopped (dmaAddr d) = false) (hpaused : (s.p1.dma[d]).paused = false)
    (hpausing : (s.p1.dma[d]).pausing = false) (b : Bool) {t : P1}
    (ht : t = if r.moved < r.desc.len then moveOn s.p2 d r r.desc.len s.p1 else s.p1) :
    dmaComplete d b s =
      if !b then s.core (dmaFinish d { r with moved := r.desc.len } false true false 6 t)
      else if r.desc.commit && r.desc.dstKind = 1 then dmaCommit d { r with moved := r.desc.len } (s.core t)
      else s.core (dmaFinish d { r with moved := r.desc.len } true (readbackMade t) false 0 t.draw) := by
  unfold dmaComplete
  simp only [hrun, hlost, ← ht]
  exact if_neg (by simp [hworks, hpaused, hpausing, -Fin.getElem_fin])

/-- A completion read is answered with the abort of its tests, or with the oldest completion, which it takes (R519). -/
theorem dmaCompletionRead_next {w : Nat} {s : State} (hserves : s.p1.serves = true) :
    exec (.dmaCompletionRead w d) s = .next (s.core (
      if readVerdict (ob (0x5800 + d) 6) ≠ 0 then answer w (ob (0x5800 + d) 6) (readVerdict (ob (0x5800 + d) 6)) s.p1
      else answerData w (ob (0x5800 + d) 6) (readOctets w s.p2 (ob (0x5800 + d) 6) s.p1)
        (afterRead w (ob (0x5800 + d) 6) s.p1))) :=
  if_pos hserves

/-- The completions of a channel of the module's own are no object (R519). -/
theorem dmaCompletionRead_none {w : Nat} {s : State} (hserves : s.p1.serves = true) (h : d.val < 8) :
    exec (.dmaCompletionRead w d) s =
      .next (s.core (answer w (ob (0x5800 + d) 6) (readVerdict (ob (0x5800 + d) 6)) s.p1)) := by
  rw [dmaCompletionRead_next hserves, if_pos (mt (completion_read d).mp (by omega))]

/-- A read takes the oldest completion of a user channel (R519). -/
theorem dmaCompletionRead_user {w : Nat} {s : State} (hserves : s.p1.serves = true) (h : 8 ≤ d.val) :
    exec (.dmaCompletionRead w d) s = .next (s.core (answerData w (ob (0x5800 + d) 6)
      (readOctets w s.p2 (ob (0x5800 + d) 6) s.p1) (popCompletion d s.p1))) := by
  rw [dmaCompletionRead_next hserves, if_neg (not_not_intro ((completion_read d).mpr h)), afterRead_completion]

end

/-- The cells 2 and 0Bh of a channel count no answer. -/
theorem answerCounter_dma (d : Fin 16) :
    answerCounter (ob (0x5800 + d) 2) = false ∧ answerCounter (ob (0x5800 + d) 0x0B) = false := by
  revert d
  decide

/-- Settles O54: each write passes or fails the tests of its rule, whose effect on the channel stands beside the answer, and each
event is its work where its condition holds. -/
theorem dmaChannelsRunTheirRings : Obligations.DmaChannelsRunTheirRings := by
  intro s w d hup hserves
  obtain ⟨hcell2, hcellB⟩ := answerCounter_dma d
  refine ⟨fun h howner _ hwf => ?enable, fun v h hbound hother => ?busy, fun h howner hwf => ?disable,
    fun b h hcheck hworks hroom => ?enqueue, fun b h hother => ?notOwner,
    fun x r hrun hring hpaused hpausing hworks hfree => ?start, fun h => onP1_idle hup (dmaStart_idle h), fun h => ?pauseEnds,
    fun h => onP1_idle hup (dmaPaused_idle h), fun n h hpaused => ?pause, fun h => ?resume, fun v h => ?reset, fun b h => ?none,
    fun b r c hrun hlost hworks hpaused hpausing => ?lost, fun r t hrun hlost hworks hpaused hpausing ht => ?moved, ?read⟩
  case enable =>
    have hbusy : (dmaEnableRule w d 1).busy s.p1 = 0 := if_neg (by simp [howner])
    obtain ⟨hon, hbound, hring⟩ := dmaEnable_binds (d := d) w hwf
    refine ⟨_, onReq_accepted hserves h rfl rfl hbusy, (written_rd hcell2 ..).trans hon, ?_, ?_⟩
    · exact congrArg Int.toNat ((written_rd hcellB ..).trans hbound)
    · rw [written_dma, hring]
  case busy =>
    exact onReq_busyRefused hserves h (by decide) rfl rfl (if_pos (by simp [hbound, hother]))
  case disable =>
    have hbusy : (dmaEnableRule w d 0).busy s.p1 = 0 := if_neg (by simp [howner])
    obtain ⟨hoff, hfree, hring, hrun⟩ := dmaDisable_frees (d := d) w hwf
    refine ⟨_, onReq_accepted hserves h rfl rfl hbusy, (written_rd hcell2 ..).trans hoff, ?_, ?_, ?_⟩
    · exact congrArg Int.toNat ((written_rd hcellB ..).trans hfree)
    · rw [written_dma, hring]
    · rw [written_dma, hrun]
  case enqueue =>
    have hbusy : (dmaEnqueueRule s.p2 w d b).busy s.p1 = 0 :=
      (if_neg (by simp [hworks])).trans (if_neg (by omega))
    refine ⟨_, onReq_accepted hserves h rfl hcheck hbusy, ?_, fun e he => ?_⟩
    · rw [written_dma]
      exact congrArg DmaChan.ring (setDma_chan d _ _)
    · rw [written_dma]
      exact setDma_other he _ _
  case notOwner =>
    exact onReq_checkRefused hserves h (by decide) rfl (if_pos (by simp [hother]))
  case start =>
    refine ⟨_, onP1_next hup (dmaStart_runs hrun hring hpaused hpausing hworks hfree), ?_, ?_, fun e he => ?_⟩
    · exact congrArg DmaChan.run ((congrArg (·[d]) (showRun_dma ..)).trans (setDma_chan d _ _))
    · exact congrArg DmaChan.ring ((congrArg (·[d]) (showRun_dma ..)).trans (setDma_chan d _ _))
    · exact (congrArg (·[e]) (showRun_dma ..)).trans (setDma_other he _ _)
  case pauseEnds =>
    refine ⟨_, onP1_next hup (if_pos h), ?_, ?_, rfl⟩
    · exact congrArg DmaChan.paused (setDma_chan d _ _)
    · exact congrArg DmaChan.pausing (setDma_chan d _ _)
  case pause =>
    obtain ⟨hpausing, hpaused⟩ := dmaPause_flags s.p2 n hpaused
    refine ⟨_, onReq_eff hserves h, ?_, ?_⟩
    · rw [written_dma, hpausing]
    · rw [written_dma, hpaused]
  case resume =>
    have hchan : (written w (ob (0x5800 + d) 3) (.num 0) (dmaPauseFlag d 0) s).p1.dma[d] =
        { s.p1.dma[d] with pausing := false, paused := false } := by
      rw [written_dma, dmaPauseFlag_resume]
    exact ⟨_, onReq_eff hserves h, (congrArg DmaChan.pausing hchan :), (congrArg DmaChan.paused hchan :),
      (congrArg DmaChan.ring hchan :), (congrArg DmaChan.run hchan :)⟩
  case reset =>
    obtain ⟨c, hc, hring, hrun, hpaused, hpausing⟩ := dmaEndAll_chan d s.p1 7
    have hchan : (written w (ob (0x5800 + d) 4) (.num v) (dmaEndAll d 7) s).p1.dma[d] = c := by
      rw [written_dma, hc]
    refine ⟨_, onReq_eff hserves h, ?_⟩
    rw [hchan]
    exact ⟨hring, hrun, hpaused, hpausing⟩
  case none =>
    have hidle : dmaComplete d b s = s := by
      unfold dmaComplete
      simp only [h]
    exact (if_pos hup).trans (congrArg _ hidle)
  case lost =>
    exact ⟨(if_pos hup).trans (congrArg _ (dmaComplete_lost hrun hlost hworks hpaused hpausing b)), dmaFinish_chan d s.p1 ..⟩
  case moved =>
    have hcomplete (b : Bool) : exec (.dmaDescriptorComplete d b) s = .next (dmaComplete d b s) := if_pos hup
    rw [hcomplete, hcomplete, dmaComplete_moved hrun hlost hworks hpaused hpausing true ht,
      dmaComplete_moved hrun hlost hworks hpaused hpausing false ht]
    refine ⟨fun hkept => congrArg _ ((if_neg (by decide)).trans (if_neg ?_)), fun hcommit hobject => congrArg _ ((if_neg (by decide)).trans (if_pos ?_)), rfl⟩
    · rcases hkept with h | h <;> simp [h]
    · simp [hcommit, hobject]
  case read =>
    rcases Nat.lt_or_ge d.val 8 with hlow | huser
    · have hnone : (answer w (ob (0x5800 + d) 6) (readVerdict (ob (0x5800 + d) 6)) s.p1).dma = s.p1.dma :=
        (congrArg P1.dma (answer_butAnswer ..) :)
      refine ⟨_, dmaCompletionRead_none hserves hlow, ?_⟩
      rw [State.core_p1, hnone, if_neg (by omega)]
      exact ⟨rfl, rfl⟩
    · have hpops (b : List Byte) : (answerData w (ob (0x5800 + d) 6) b (popCompletion d s.p1)).dma = (popCompletion d s.p1).dma :=
        (congrArg P1.dma (answerData_butAnswer ..) :)
      refine ⟨_, dmaCompletionRead_user hserves huser, ?_⟩
      rw [State.core_p1, hpops, popCompletion, setDma_chan, if_pos huser]
      exact ⟨rfl, rfl⟩

end Sys2Proof.Machine
end

section
/-! SUPPORT. Sessions beside answers and session events (R434, R498, R544–R547), refused writes over a link, authorisation
(R551, R552), acknowledgements (R554) and SDO servers (R544). -/

namespace Sys2Proof.Machine

/-! ### What an answer leaves of the sessions (R434, R547) -/

/-- A session but for the answer that it keeps for repeats. -/
def Session.butLast (x : Session) : Session := { x with last := none }

/-- The sessions but for the answers that they keep. -/
def P1.openSessions (s : P1) : List Session := s.sessions.map Session.butLast

theorem answerWith_openSessions (a : Answer) (s : P1) : (answerWith a s).openSessions = s.openSessions := by
  have hkeep (x : Session) : (keepAnswer a x).butLast = x.butLast := by
    unfold keepAnswer
    split <;> rfl
  simp only [P1.openSessions, answerWith_sessions, List.map_map, Function.comp_def, hkeep]

theorem answer_openSessions (w k a : Nat) (s : P1) : (answer w k a s).openSessions = s.openSessions := by
  unfold answer
  split
  · rfl
  · exact answerWith_openSessions ..

theorem answerData_openSessions (w k : Nat) (b : List Byte) (s : P1) : (answerData w k b s).openSessions = s.openSessions := by
  unfold answerData
  split
  · rfl
  · exact answerWith_openSessions ..

theorem written_openSessions (w k : Nat) (x : Val) (f : P1 → P1) (s : State) :
    (written w k x f s).p1.openSessions = (f s.p1).openSessions :=
  (answer_openSessions ..).trans (by rw [forward_frame]; rfl)

/-- The session of a number, but for its answer, stands in the open sessions. -/
theorem openSessions_find (w : Nat) (s : P1) :
    s.openSessions.find? (fun x => x.no = w) = (session? w s).map Session.butLast := by
  simp only [P1.openSessions, List.find?_map, Function.comp_def]
  rfl

theorem session_of_open {a b : P1} (h : b.openSessions = a.openSessions) (w : Nat) :
    (session? w b).map Session.butLast = (session? w a).map Session.butLast := by
  rw [← openSessions_find, ← openSessions_find, h]

theorem isSome_of_open {a b : P1} (h : b.openSessions = a.openSessions) (w : Nat) :
    (session? w b).isSome = (session? w a).isSome := by
  have := congrArg Option.isSome (session_of_open h w)
  simpa only [Option.isSome_map] using this

theorem none_of_open {a b : P1} (h : b.openSessions = a.openSessions) {w : Nat} (hnone : session? w a = none) :
    session? w b = none := by
  have hsome := isSome_of_open h w
  rw [hnone] at hsome
  exact Option.isNone_iff_eq_none.mp (Option.isSome_eq_false_iff.mp hsome)

theorem authorised_of_open {a b : P1} (h : b.openSessions = a.openSessions) (w : Nat) : authorised w b = authorised w a := by
  have hopen (s : P1) : s.sessions.any (fun x => x.no = w && x.auth) = s.openSessions.any (fun x => x.no = w && x.auth) := by
    simp only [P1.openSessions, List.any_map, Function.comp_def]
    rfl
  simp only [authorised, hopen, h]

theorem sessEvent_sessions (e w d : Nat) (s : P1) : (sessEvent e w d s).sessions = s.sessions :=
  (congrArg P1.sessions (sessEvent_butRecord e w d s) :)

/-! ### A session changed -/

/-- A change of a session that leaves its number is found under it. -/
theorem session_setSession {f : Session → Session} (hno : ∀ x, (f x).no = x.no) (w : Nat) (s : P1) :
    session? w (setSession w f s) = (session? w s).map f := by
  have hkeeps (x : Session) : (if x.no = w then f x else x).no = x.no := by
    split
    · exact hno x
    · rfl
  simp only [session?, setSession, List.find?_map, Function.comp_def, hkeeps]
  cases hfind : s.sessions.find? fun x => decide (x.no = w) with
  | none => rfl
  | some x =>
    have hfound : x.no = w := by simpa using List.find?_some hfind
    simp [hfound]

/-! ### Refused writes over a link -/

/-- A write over a link that its tests refuse reaches no package. -/
theorem onLinkReq_refused {w k a : Nat} {x : Val} {r : Rule P1} {s : State} (hserves : s.p1.serves = true)
    (hverdict : verdict w k x r s.p1 = a) (ha : a ≠ 0) (hnone : (r.refused a s.p1).linkOut = []) :
    onLinkReq w k x r s = .next (s.core (answer w k a (r.refused a s.p1))) := by
  have hrequest : request w k x r s.p1 = answer w k a (r.refused a s.p1) := by
    rw [request_refused (hverdict ▸ ha), hverdict]
  rw [onLinkReq, if_pos hserves, hrequest]
  exact congrArg _ (flushLinks_none ((answer_linkOut ..).trans hnone))

/-! ### Authorisation (R551, R552) -/

/-- A response is the expected one of an open session alone (R551). -/
theorem session_of_responseGood {g : P2} {w : Nat} {b : List Byte} {p : P1} (h : responseGood g w b p = true) :
    ∃ x, session? w p = some x := by
  unfold responseGood at h
  cases hx : session? w p with
  | none => simp [hx] at h
  | some x => exact ⟨x, rfl⟩

theorem authorised_of_session {w : Nat} {x : Session} {p : P1} (h : session? w p = some x) (hauth : x.auth = true) :
    authorised w p = true := by
  have hmem := List.mem_of_find?_eq_some h
  have hno : x.no = w := by simpa using List.find?_some h
  simp only [authorised, Bool.or_eq_true, List.any_eq_true, Bool.and_eq_true, decide_eq_true_eq]
  exact .inr ⟨x, hmem, hno, hauth⟩

/-- The effect of an accepted response authorises its session (R551). -/
theorem responseRule_authorises {g : P2} {w : Nat} {b : List Byte} {p : P1} (h : responseGood g w b p = true) :
    authorised w ((responseRule g w b).eff p) = true := by
  obtain ⟨x, hx⟩ := session_of_responseGood h
  have hopen : session? w ((responseRule g w b).eff p) = some { x with auth := true, challenge := none } := by
    have hchanged := session_setSession (f := fun y => { y with auth := true, challenge := none }) (fun _ => rfl) w p
    rw [hx] at hchanged
    unfold session? at hchanged ⊢
    exact (congrArg _ (sessEvent_sessions ..)).trans hchanged
  exact authorised_of_session hopen rfl

/-- A refused response authorises nobody and takes no authorisation (R551). -/
theorem refuseAuth_authorised (w j : Nat) (p : P1) : authorised j (refuseAuth w p) = authorised j p := by
  have hsessions : (refuseAuth w p).sessions = (setSession w (fun x => { x with challenge := none }) p).sessions := by
    unfold refuseAuth
    dsimp only
    split
    · exact sessEvent_sessions ..
    · exact sessEvent_sessions ..
  have hsame (x : Session) : (decide ((if x.no = w then { x with challenge := none } else x).no = j)
      && (if x.no = w then { x with challenge := none } else x).auth) = (decide (x.no = j) && x.auth) := by
    split <;> rfl
  unfold authorised
  rw [hsessions]
  simp only [setSession, List.any_map, Function.comp_def, hsame]

theorem lockoutEnds_over {p : P1} {g : Nat} (h : p.lockout.since = some g) (hover : g + 60000000 ≤ p.elapsed) :
    lockoutEnds p = { p with lockout := ⟨[], none⟩ } := by
  unfold lockoutEnds
  rw [h]
  exact if_pos hover

theorem lockoutEnds_lasts {p : P1} {g : Nat} (h : p.lockout.since = some g) (hlasts : p.elapsed < g + 60000000) :
    lockoutEnds p = p := by
  unfold lockoutEnds
  rw [h]
  exact if_neg (Nat.not_le.mpr hlasts)

/-! ### Acknowledgements (R554) -/

/-- An acknowledged alarm stays on the list while it is active. -/
theorem acknowledge_active (v : Int) (p : P1) {a : Alarm} (h : a ∈ ((acknowledgeRule v).eff p).alarms)
    (hclass : bitOf v a.cls = true) : a.acked = true ∧ a.active = true := by
  obtain ⟨hmem, hstays⟩ := List.mem_filter.mp h
  obtain ⟨b, -, rfl⟩ := List.mem_map.mp hmem
  have hcls : bitOf v b.cls = true := by
    split at hclass
    · assumption
    · exact hclass
  rw [if_pos hcls] at hstays ⊢
  exact ⟨rfl, by simpa using hstays⟩

/-! ### SDO servers (R544, R545) -/

theorem P1.sessions_of_record {a b : P1} (h : b.butRecord = a.butRecord) : b.sessions = a.sessions := (congrArg P1.sessions h :)

/-- A server that is enabled has its session open. -/
theorem sdoEnable_opens (c : Fin 4) (p : P1) : (session? (17 + c) ((sdoEnableRule c 1).eff p)).isSome = true := by
  dsimp only [sdoEnableRule, effRule]
  split
  · next h =>
    unfold session?
    rw [sessEvent_sessions, List.find?_isSome]
    exact ⟨_, List.mem_append_right _ (List.mem_singleton.mpr rfl), by simp [sdoSession]⟩
  · next h =>
    rw [if_neg (by simp)]
    exact Option.isSome_iff_ne_none.mpr (by simpa using h)

/-- A session that closes is open no more (R545). -/
theorem closeSession_closed (w : Nat) (p : P1) : session? w (closeSession w p) = none := by
  unfold closeSession session?
  extract_lets t u v
  rw [List.find?_eq_none]
  intro x hx
  simpa using (List.mem_filter.mp hx).2

theorem sdoDisable_closes (c : Fin 4) (p : P1) : session? (17 + c) ((sdoEnableRule c 0).eff p) = none := by
  dsimp only [sdoEnableRule, effRule]
  rw [if_neg (by simp)]
  split
  · exact closeSession_closed ..
  · next h => simpa using h

/-- Settles O52: each write passes or fails the tests of its rule, whose effect on the sessions, the alarms and the guard package
stands beside the answer. -/
theorem authorisationAlarmsAndServers : Obligations.AuthorisationAlarmsAndServers := by
  intro s w hserves
  refine ⟨?challenge, fun b h hlink hgood => ?good, fun b h hlink hbad => ?bad, fun g hg hover => ?lockoutOver, fun g hg hlasts => ?lockoutLasts,
    fun v h => onReq_eff hserves h, fun b h hmode hauth hlen hlink hnone => ?key, fun b h hmode hnone => ?keyMode, fun v h => ?ack,
    fun c h => ?enable, fun c h => ?disable⟩
  case challenge =>
    have hkept (g : P1) : (answerData w (ob 0x6600 3) (freshChallenge s.p1) g).free = g.free :=
      (congrArg P1.free (answerData_butAnswer ..) :)
    have hnext : exec (.challengeRead w) s =
        .next (s.core (answerData w (ob 0x6600 3) (freshChallenge s.p1) (takeChallenge w s.p1))) := if_pos hserves
    refine ⟨_, hnext, hkept _, rfl, rfl, fun x hx => ?_⟩
    have hopen := session_of_open (answerData_openSessions w (ob 0x6600 3) (freshChallenge s.p1) (takeChallenge w s.p1)) w
    have htaken : session? w (takeChallenge w s.p1) = some { x with challenge := some (freshChallenge s.p1, s.p1.elapsed) } := by
      have := session_setSession (f := fun x => { x with challenge := some (freshChallenge s.p1, s.p1.elapsed) }) (fun _ => rfl) w
        s.p1.draw
      exact this.trans (congrArg _ hx)
    rw [htaken] at hopen
    obtain ⟨y, hy, hlast⟩ := Option.map_eq_some_iff.mp hopen
    exact ⟨y, hy, (congrArg Session.challenge hlast :)⟩
  case good =>
    have hcheck : (responseRule s.p2 w b).check s.p1 = 0 := (if_neg (by simp [hlink])).trans (if_pos hgood)
    have hnext := onReq_accepted (r := responseRule s.p2 w b) hserves h rfl hcheck rfl
    refine ⟨hnext, _, hnext, ?_⟩
    rw [authorised_of_open (written_openSessions ..), responseRule_authorises hgood]
  case bad =>
    have hcheck : (responseRule s.p2 w b).check s.p1 = abAuth := (if_neg (by simp [hlink])).trans (if_neg (by simp [hbad]))
    exact ⟨onReq_checkRefused (r := responseRule s.p2 w b) hserves h (by decide) rfl hcheck, fun j => refuseAuth_authorised w j s.p1⟩
  case lockoutOver => exact (onSup_run hserves).trans (congrArg _ (congrArg s.core (lockoutEnds_over hg hover)))
  case lockoutLasts => exact (onSup_run hserves).trans (congrArg _ (congrArg s.core (lockoutEnds_lasts hg hlasts)))
  case key =>
    have hmode' : (keyRule s.p2 w b).mode s.p1 = 0 := if_pos hmode
    have hcheck : (keyRule s.p2 w b).check s.p1 = 0 := (if_neg (by simp [hauth])).trans (if_neg (by simp [hlen]))
    have hsends : ((keyRule s.p2 w b).eff s.p1).linkOut = [.key b] := by
      change s.p1.linkOut ++ [.key b] = [.key b]
      rw [hnone, List.nil_append]
    obtain ⟨t, hnext, hp2, hp3⟩ := onLinkReq_guard (r := keyRule s.p2 w b) hserves h hmode' hcheck (if_pos hlink) hsends
      (by simp) rfl rfl
    have hsettled := settle_butEvaluation s.p2 (guardMessage (.key b) s.p2)
    rw [← hp2] at hsettled
    exact ⟨t, hnext, (congrArg P2.key hsettled :), (congrArg P2.block hsettled :), (congrArg P2.confirmed hsettled :), hp3⟩
  case keyMode =>
    exact onLinkReq_refused hserves (verdict_modeRefused h (by decide) (if_neg hmode)) (by decide) hnone
  case ack =>
    refine ⟨_, onReq_eff hserves h, rfl, fun a ha hclass => ?_⟩
    have halarms : (written w (ob 0x6200 3) (.num v) (acknowledgeRule v).eff s).p1.alarms = ((acknowledgeRule v).eff s.p1).alarms :=
      (congrArg P1.alarms (written_butWritten ..) :)
    exact acknowledge_active v s.p1 (halarms ▸ ha) hclass
  case enable =>
    refine ⟨_, onReq_eff hserves h, ?_⟩
    rw [isSome_of_open (written_openSessions ..)]
    exact sdoEnable_opens c s.p1
  case disable =>
    exact ⟨_, onReq_eff hserves h, none_of_open (written_openSessions ..) (sdoDisable_closes c s.p1)⟩

end Sys2Proof.Machine
end

section
/-! SUPPORT. AOA requests (R433–R435, R543–R548, R588): how a request reaches its operation, and what opening and closing make of the
sessions. -/

namespace Sys2Proof.Machine

/-! ### From the interface to the operation (R434) -/

section
variable {h : AoaHead} {op index sub : Nat} {x : Val} {f : State → State} {s : State}

/-- A request that its interface admits is served. -/
theorem aoaFrom_admitted {p : P1} (hserves : s.p1.serves = true) (hup : ifaceUp h.iface s.p1 = true)
    (hadmit : admitAoa h.iface s.p1 = some p) : aoaFrom h op index sub x f s = aoaServed h op index sub f (s.core p) := by
  unfold aoaFrom
  rw [if_neg (by simp [hserves]), if_neg (by simp [hup]), hadmit]
  rfl

/-- A request that finds the receive queue of its interface full is counted (R50, R427). -/
theorem aoaFrom_full (hserves : s.p1.serves = true) (hup : ifaceUp h.iface s.p1 = true)
    (hfull : admitAoa h.iface s.p1 = none) : aoaFrom h op index sub x f s = s.core (s.p1.inc (ob 0x5900 0x11)) := by
  unfold aoaFrom
  rw [if_neg (by simp [hserves]), if_neg (by simp [hup]), hfull]
  rfl

theorem aoaServed_open {y : Session} (hsession : h.session ≠ 0) (hrange : h.session ≤ 16)
    (hopen : session? h.session s.p1 = some y) : aoaServed h op index sub f s =
      if h.seq % 65536 = (y.seq + 1) % 65536 && !inProgress y.no s.p1 then f (s.core (takeRequest h s.p1))
      else if h.seq % 65536 = y.seq then
        if inProgress y.no s.p1 then s
        else match y.last with
        | some a => s.core (repeatLast h a s.p1)
        | none => s.core (countDiscard s.p1)
      else s.core (countDiscard s.p1) := by
  unfold aoaServed
  rw [if_neg hsession, if_pos hrange, hopen]
  rfl

/-- The next request of an open session reaches its operation. -/
theorem aoaFrom_next {y : Session} {p : P1} (hnext : nextRequest h y p s) :
    aoaFrom h op index sub x f s = f (s.core (takeRequest h p)) := by
  obtain ⟨hserves, hup, hadmit, hsession, hrange, hopen, hseq, hfree⟩ := hnext
  rw [aoaFrom_admitted hserves hup hadmit, aoaServed_open (s := s.core p) hsession hrange hopen]
  exact if_pos (by simpa [hseq] using hfree)

/-- A repeat of the last request is answered as before. -/
theorem aoaServed_repeat {y : Session} {a : Answer} (hsession : h.session ≠ 0) (hrange : h.session ≤ 16)
    (hopen : session? h.session s.p1 = some y) (hfree : inProgress y.no s.p1 = false) (hseq : h.seq % 65536 = y.seq)
    (hlast : y.last = some a) : aoaServed h op index sub f s = s.core (repeatLast h a s.p1) := by
  have hnot : h.seq % 65536 ≠ (y.seq + 1) % 65536 := by omega
  rw [aoaServed_open hsession hrange hopen, if_neg (by simp [hnot]), if_pos hseq, if_neg (by simp [hfree]), hlast]

/-- A request with a sequence that is neither the last nor the next is discarded. -/
theorem aoaServed_discard {y : Session} (hsession : h.session ≠ 0) (hrange : h.session ≤ 16)
    (hopen : session? h.session s.p1 = some y) (hseq : h.seq % 65536 ≠ y.seq) (hnext : h.seq % 65536 ≠ (y.seq + 1) % 65536) :
    aoaServed h op index sub f s = s.core (countDiscard s.p1) := by
  rw [aoaServed_open hsession hrange hopen, if_neg (by simp [hnext]), if_neg hseq]

end

/-! ### The operations (R547, R548) -/

section
variable {w k : Nat} {g : P2} {p : P1}

theorem readWhole_read (hread : readVerdict k = 0) (hkind : isDomain k = false) :
    readWhole w k g p = answerOctets w 1 k 0 0 0 (readOctets w g k p) (afterRead w k p) := by
  unfold readWhole
  rw [if_neg (by simp [hread]), if_neg (by simp [hkind])]

theorem readWhole_refused (hread : readVerdict k ≠ 0) : readWhole w k g p = answerOp w 1 k (readVerdict k) p := if_pos hread

theorem readSegment_read {off len : Nat} (hread : readVerdict k = 0) (hkind : isDomain k = true) (hlo : 1 ≤ len) (hhi : len ≤ 1428) :
    readSegment w k off len g p = answerOctets w 3 k off (readOctets w g k p).length (p.gen k)
      (((readOctets w g k p).drop off).take len) (afterRead w k p) := by
  unfold readSegment
  rw [if_neg (by simp [hread]), if_neg (by simp [hkind]), if_neg (by simp; omega)]

theorem inform_known (hindex : indexExists (k / 256) = true) (hsub : (rowOf k).isSome = true) :
    inform w k p = answerOctets w 5 k 0 0 0 (information k) p := by
  unfold inform
  rw [if_neg (by simp [hindex]), if_neg (by simpa [Option.isNone_iff_eq_none, Option.isSome_iff_ne_none] using hsub)]

/-- A segment that is not the last joins the receive buffer (R548). -/
theorem writeSegmentWith_part {ans : Nat → P1 → P1} {off : Nat} {b : List Byte} {s : State} (hkind : isDomain k = true)
    (hpass : verdict w k (.bytes ((bufferOf w k s.p1).getD [] ++ b))
      (segmentRule w k off false (ruleOf s.p2 w k (.bytes ((bufferOf w k s.p1).getD [] ++ b)) s.p1)) s.p1 = 0) :
    writeSegmentWith ans w k off b false s =
      s.core (ans 0 { s.p1 with bufs := putBuffer (.session w) k off b s.p1.elapsed s.p1.bufs }) := by
  unfold writeSegmentWith
  dsimp only
  rw [if_neg (by simp [hkind]), if_neg (not_not_intro hpass), if_neg (by decide)]
  rfl

end

/-! ### Opening and closing (R545) -/

theorem admitAoa_sessions {i : Iface} {p q : P1} (h : admitAoa i p = some q) : q.sessions = p.sessions := by
  cases i with
  | dp => rw [Option.some.inj h]
  | svc0 | svc1 =>
    unfold admitAoa at h
    dsimp only at h
    split at h
    · rw [← Option.some.inj h]; rfl
    · cases h

/-- Taking a request changes its session and leaves every number. -/
theorem takeRequest_isSome (h : AoaHead) (j : Nat) (p : P1) : (session? j (takeRequest h p)).isSome = (session? j p).isSome := by
  have hno (x : Session) : (if x.no = h.session then { x with
      seq := h.seq % 65536, ip := h.ip, port := h.port, iface := ifaceNo h.iface, lastGrain := p.elapsed } else x).no = x.no := by
    split <;> rfl
  simp only [session?, takeRequest, setSession, List.find?_map, Function.comp_def, hno, Option.isSome_map]

theorem answerOp_openSessions (w op k a : Nat) (p : P1) : (answerOp w op k a p).openSessions = p.openSessions :=
  answerWith_openSessions ..

theorem dmaEndSession_sessions (w : Nat) (p : P1) : (dmaEndSession w p).sessions = p.sessions := by
  have hone (d : Fin 16) (cause : Nat) (r : DmaRun) (t : P1) : (dmaEndOne d cause r t).sessions = t.sessions := by
    refine (P1.sessions_of_record (record_butRecord ..)).trans ?_
    unfold dmaFinish
    dsimp only
    split <;> rfl
  have hall (d : Fin 16) (t : P1) : (dmaEndAll d 8 t).sessions = t.sessions := by
    unfold dmaEndAll
    extract_lets c u v
    have hu : u.sessions = t.sessions := by
      unfold u
      split
      · exact hone ..
      · rfl
    exact List.foldlRecOn (motive := fun q : P1 => q.sessions = t.sessions) c.ring _ hu fun q hq x _ => (hone d 8 _ q).trans hq
  unfold dmaEndSession
  refine List.foldlRecOn (motive := fun q : P1 => q.sessions = p.sessions) _ _ rfl fun q hq d _ => ?_
  split
  · exact (hall d q).trans hq
  · exact hq

/-- A session that closes leaves every other one open. -/
theorem closeSession_other {w j : Nat} (h : j ≠ w) (p : P1) : session? j (closeSession w p) = session? j p := by
  unfold closeSession
  extract_lets t u v
  have hu : u.sessions = p.sessions := by
    unfold u
    split
    · exact sessEvent_sessions ..
    · exact sessEvent_sessions ..
  have hv : v.sessions = p.sessions := (dmaEndSession_sessions ..).trans hu
  have hstays (x : Session) : decide (decide (x.no ≠ w) = true ∧ decide (x.no = j) = true) = decide (x.no = j) := by
    by_cases hx : x.no = j
    · simp [hx, h]
    · simp [hx]
  simp only [session?, hv, List.find?_filter, hstays]

/-- A session opened under a free number stands beside those that were. -/
theorem newSession_session (n : Nat) (h : AoaHead) (id : List Byte) (p : P1) :
    (session? n (newSession n h id p)).isSome = true ∧ ∀ j, j ≠ n → session? j (newSession n h id p) = session? j p := by
  unfold newSession session?
  simp only [sessEvent_sessions, List.find?_append, List.find?_singleton]
  refine ⟨by simp, fun j hj => ?_⟩
  simp [hj.symm]

theorem answerOpen_sessions (h : AoaHead) (a : Nat) (b : List Byte) (p : P1) : (answerOpen h a b p).sessions = p.sessions :=
  sendResponse_sessions ..

theorem aoaOpen_served {h : AoaHead} {id : List Byte} {p q : P1} (hserves : p.serves = true) (hup : ifaceUp h.iface p = true)
    (hadmit : admitAoa h.iface p = some q) : aoaOpen h id p = openServed h id q := by
  unfold aoaOpen
  rw [if_neg (by simp [hserves, hup]), hadmit]

/-- Settles O50: a request reaches its operation by its sequence, and each operation answers by its tests. -/
theorem aoaRequestsReadAndWrite : Obligations.AoaRequestsReadAndWrite := by
  intro s h p
  refine ⟨fun x hnext => ?_, fun hserves hup hadmit => ⟨fun x a hses hrange hopen hfree hseq hlast => ?_,
    fun x hses hrange hopen hseq hother i b d => ?_, fun hses hnew n id hn => ?_, fun hses hnew hfull id => ?_⟩,
    fun hserves hup hfull i b d => ?_, fun hup hiface => onP1_next hup (if_pos hiface)⟩
  · refine ⟨fun i b hread hkind => ?_, fun i b hread => ?_, fun i b d => congrArg _ (aoaFrom_next hnext),
      fun i b off len hread hkind hlo hhi => ?_, fun i b off d hkind hpass => ?_, fun i b hindex hsub => ?_, ?_⟩
    · exact congrArg _ ((aoaFrom_next hnext).trans (congrArg s.core (readWhole_read hread hkind)))
    · exact congrArg _ ((aoaFrom_next hnext).trans (congrArg s.core (readWhole_refused hread)))
    · exact congrArg _ ((aoaFrom_next hnext).trans (congrArg s.core (readSegment_read hread hkind hlo hhi)))
    · exact congrArg _ ((aoaFrom_next hnext).trans (writeSegmentWith_part hkind hpass))
    · exact congrArg _ ((aoaFrom_next hnext).trans (congrArg s.core (inform_known hindex hsub)))
    · have hclosed : exec (.aoaClose h) s = .next (s.core (closeSession h.session
          (answerOp h.session 0x11 0 0 (takeRequest h p)))) := congrArg _ (aoaFrom_next hnext)
      refine ⟨_, hclosed, closeSession_closed .., rfl, rfl, fun j hj => ?_⟩
      obtain ⟨-, -, hadmit, -⟩ := hnext
      have hsessions : (session? j p).isSome = (session? j s.p1).isSome := by
        rw [session?, admitAoa_sessions hadmit, session?]
      refine (congrArg Option.isSome (closeSession_other hj _)).trans ?_
      exact (isSome_of_open (answerOp_openSessions ..) j).trans ((takeRequest_isSome h j p).trans hsessions)
  · have hserved (op index sub : Nat) (v : Val) (f : State → State) : aoaFrom h op index sub v f s = s.core (repeatLast h a p) :=
      (aoaFrom_admitted hserves hup hadmit).trans (aoaServed_repeat (s := s.core p) hses hrange hopen hfree hseq hlast)
    exact ⟨congrArg _ (hserved ..), fun i b d => congrArg _ (hserved ..)⟩
  · have hserved (op index sub : Nat) (v : Val) (f : State → State) : aoaFrom h op index sub v f s = s.core (countDiscard p) :=
      (aoaFrom_admitted hserves hup hadmit).trans (aoaServed_discard (s := s.core p) hses hrange hopen hseq hother)
    exact ⟨congrArg _ (hserved ..), congrArg _ (hserved ..)⟩
  · have hopened : aoaOpen h id s.p1 = answerOpen h 0 (le 2 n) (newSession n h id p) := by
      rw [aoaOpen_served hserves hup hadmit, openServed, if_neg (not_not_intro hses), hnew, hn]
    obtain ⟨hnumber, hothers⟩ := newSession_session n h id p
    refine ⟨s.core (aoaOpen h id s.p1), rfl, ?_, rfl, rfl, fun j hj => ?_⟩
    · rw [State.core_p1, hopened, session?, answerOpen_sessions]
      exact hnumber
    · rw [State.core_p1, hopened, session?, answerOpen_sessions]
      refine (hothers j hj).trans ?_
      rw [session?, admitAoa_sessions hadmit, session?]
  · have hbusy : aoaOpen h id s.p1 = answerOpen h abBusy [] p := by
      rw [aoaOpen_served hserves hup hadmit, openServed, if_neg (not_not_intro hses), hnew, hfull]
    exact congrArg (fun q => (.next (s.core q) : Out)) hbusy
  · have hopen : aoaOpen h d s.p1 = s.p1.inc (ob 0x5900 0x11) := by
      unfold aoaOpen
      rw [if_neg (by simp [hserves, hup]), hfull]
    exact ⟨congrArg _ (aoaFrom_full hserves hup hfull), congrArg (fun q => (.next (s.core q) : Out)) hopen⟩

end Sys2Proof.Machine
end

section
/-! SUPPORT. What the bus state of the CAN channels is, and what leaves it (R441–R446): failure reports, queues, alarms and the way of a
frame into the slots, to a thruster and to the set move frames, and change no error count, no ALONE and no pending write. -/

namespace Sys2Proof.Machine

/-- A channel but for the frames that stand in it. -/
def CanChan.bus (x : CanChan) : CanChan := { x with q0 := [], q1 := [], q2 := [], q3 := [], rx0 := [], rx1 := [], fast := [] }

/-- The bus state of the channels. -/
def P1.buses (s : P1) : Vector CanChan 4 := s.can.map CanChan.bus

theorem P1.buses_get (s : P1) (c : Fin 4) : s.buses[c] = s.can[c].bus := Vector.getElem_map ..

theorem P1.bus_of_buses {a b : P1} (h : b.buses = a.buses) (c : Fin 4) : b.can[c].bus = a.can[c].bus := by
  rw [← P1.buses_get, h, P1.buses_get]

theorem P1.buses_of_can {a b : P1} (h : b.can = a.can) : b.buses = a.buses := congrArg (Vector.map CanChan.bus) h

theorem P1.buses_of_record {a b : P1} (h : b.butRecord = a.butRecord) : b.buses = a.buses :=
  show b.butRecord.buses = a.butRecord.buses by rw [h]

theorem P1.buses_of_cells {a b : P1} (h : b.butCells = a.butCells) : b.buses = a.buses :=
  P1.buses_of_record (P1.butRecord_of_cells h)

/-- A change of the frames of a channel leaves its bus state. -/
theorem setCan_buses (c : Fin 4) {f : CanChan → CanChan} (h : ∀ x, (f x).bus = x.bus) (s : P1) : (setCan c f s).buses = s.buses := by
  refine Vector.ext fun d hd => ?_
  have hchan : (upd s.can c f)[(⟨d, hd⟩ : Fin 4)].bus = s.can[(⟨d, hd⟩ : Fin 4)].bus := by
    by_cases hc : ⟨d, hd⟩ = c
    · subst hc
      rw [upd_get]
      exact h _
    · rw [upd_get_other hc]
  exact (P1.buses_get (setCan c f s) ⟨d, hd⟩).trans (hchan.trans (P1.buses_get s ⟨d, hd⟩).symm)

theorem foldl_buses {α : Type} {f : P1 → α → P1} (h : ∀ t a, (f t a).buses = t.buses) (l : List α) (s : P1) :
    (l.foldl f s).buses = s.buses :=
  List.foldlRecOn (motive := fun t : P1 => t.buses = s.buses) l f rfl fun t ht a _ => (h t a).trans ht

theorem ite_buses {c : Prop} [Decidable c] {a b s : P1} (ha : a.buses = s.buses) (hb : b.buses = s.buses) :
    (if c then a else b).buses = s.buses := by
  split
  · exact ha
  · exact hb

/-! ### Queues, alarms and what a Lead gives up (R439–R441, R476, R554) -/

theorem CanChan.setQueue_bus (x : CanChan) (p : Nat) (l : List TxFrame) : (x.setQueue p l).bus = x.bus := by
  unfold CanChan.setQueue
  split <;> rfl

theorem canReportFailed_buses (c : Fin 4) (prio : Nat) (f : TxFrame) (cause : Nat) (s : P1) :
    (canReportFailed c prio f cause s).buses = s.buses :=
  (P1.buses_of_record (record_butRecord ..)).trans rfl

theorem canReportAll_buses (c : Fin 4) (prio cause : Nat) :
    ∀ (l : List TxFrame) (s : P1), (canReportAll c prio cause l s).buses = s.buses
  | [], _ => rfl
  | f :: r, s => (canReportAll_buses c prio cause r _).trans (canReportFailed_buses c prio f cause s)

theorem canQueue_buses (c : Fin 4) (prio : Nat) (f : TxFrame) (s : P1) : (canQueue c prio f s).buses = s.buses := by
  unfold canQueue
  split
  · exact canReportFailed_buses ..
  · split
    · exact canReportFailed_buses ..
    · split
      · exact canReportFailed_buses ..
      · exact setCan_buses c (fun x => x.setQueue_bus ..) s

theorem eachCan_buses {f : Fin 4 → P1 → P1} (h : ∀ c t, (f c t).buses = t.buses) (s : P1) : (eachCan f s).buses = s.buses :=
  (h 3 _).trans ((h 2 _).trans ((h 1 _).trans (h 0 s)))

theorem emcy_buses (e code param : Nat) (s : P1) : (emcy e code param s).buses = s.buses := by
  refine eachCan_buses (fun c t => ?_) s
  split
  · exact canQueue_buses ..
  · rfl

theorem classRise_buses (cls code param : Nat) (s : P1) : (classRise cls code param s).buses = s.buses := by
  unfold classRise
  have hsnap (t : P1) : (snapLater 2 t).buses = t.buses := P1.buses_of_can rfl
  exact ite_buses ((hsnap _).trans (emcy_buses ..)) (emcy_buses ..)

theorem showAlarms_buses (s : P1) : (showAlarms s).buses = s.buses := by simp [P1.buses, showAlarms]

theorem raiseIn_buses (cls code param : Nat) (s : P1) : (raiseIn cls code param s).buses = s.buses := by
  unfold raiseIn
  dsimp only
  split
  · rfl
  · split
    · exact (classRise_buses ..).trans (showAlarms_buses _)
    · split
      · exact (classRise_buses ..).trans (showAlarms_buses _)
      · exact (classRise_buses ..).trans (showAlarms_buses _)

theorem raise_buses (code param : Nat) (s : P1) : (raise code param s).buses = s.buses := raiseIn_buses ..

theorem lower_buses (code param : Nat) (s : P1) : (lower code param s).buses = s.buses := by
  unfold lower
  dsimp only
  split
  · exact ite_buses (showAlarms_buses _) ((emcy_buses ..).trans (showAlarms_buses _))
  · rfl

theorem recordAlarm_buses (bad : Bool) (code p q : Nat) (s : P1) : (recordAlarm bad code p q s).buses = s.buses := by
  have hrecord : (record code p s).buses = s.buses := P1.buses_of_record (record_butRecord ..)
  unfold recordAlarm
  dsimp only
  split
  · exact (raise_buses ..).trans hrecord
  · exact (lower_buses ..).trans hrecord

theorem canDropLead_buses (c : Fin 4) (s : P1) : (canDropLead c s).buses = s.buses :=
  (canReportAll_buses ..).trans (setCan_buses c (f := fun x => { x with q0 := x.q0.filter fun f => !f.leads }) (fun _ => rfl) s)

theorem analogSafeAll_buses (s : P1) : (analogSafeAll s).buses = s.buses := by
  have hset (n : Nat) (code : Int) (t : P1) : (aoSet n code true t).buses = t.buses := by
    unfold aoSet
    split
    · exact (P1.buses_of_cells (P1.setBits_butCells ..)).trans rfl
    · rfl
  have hput (i : Fin 16) (sub : Nat) (t : P1) : (if t.rd (thrKey i sub) = 0xFF then t
      else aoSet (t.rdN (thrKey i sub)) (aoSafeCode (t.rdN (thrKey i sub)) t) true t).buses = t.buses := by
    split
    · rfl
    · exact hset ..
  exact foldl_buses (fun t i => (hput i 6 _).trans (hput i 5 t)) _ s

theorem stopLeading_buses (s : P1) : (stopLeading s).buses = s.buses :=
  (analogSafeAll_buses _).trans (eachCan_buses canDropLead_buses _)

theorem netSend_buses (cls : Fin 8) (x : NetItem) (s : P1) : (netSend cls x s).buses = s.buses := by
  unfold netSend
  split_ifs <;> rfl

theorem setRole_buses (r : Nat) (s : P1) : (setRole r s).buses = s.buses := P1.buses_of_cells (setRole_butCells ..)

theorem recordGiveUp_buses (code p : Nat) (s : P1) : (recordGiveUp code p s).buses = s.buses := by
  unfold recordGiveUp
  split
  · exact (lower_buses ..).trans (recordAlarm_buses ..)
  · exact P1.buses_of_record (record_butRecord ..)

theorem relinquishAs_buses (code p cls nominee newRole : Nat) (s : P1) :
    (relinquishAs code p cls nominee newRole s).buses = s.buses := by
  have hgive (t : P1) : (recordGiveUp code p ((setRole newRole t).inc (ob 0x6400 0x0F))).buses = t.buses :=
    (recordGiveUp_buses ..).trans (setRole_buses newRole t)
  have hsend : (if canSend s then netSend 7 (.setMessage (buildMessage nominee cls (lastMirror s) s) true) (stopLeading s)
      else stopLeading s).buses = s.buses := by
    split
    · exact (netSend_buses ..).trans (stopLeading_buses s)
    · exact stopLeading_buses s
  unfold relinquishAs
  dsimp only
  split
  · exact (setRole_buses ..).trans (stopLeading_buses s)
  · split
    · exact (hgive _).trans hsend
    · exact (hgive _).trans hsend

theorem takeLeadFrame_buses (id : Nat) (s : P1) : (takeLeadFrame id s).buses = s.buses := by
  have hnote (t : P1) : (noteLead id t).buses = t.buses := by
    unfold noteLead
    split
    · exact relinquishAs_buses ..
    · rfl
  unfold takeLeadFrame
  split
  · split
    · exact hnote _
    · rfl
  · rfl

/-! ### Measurements (R102, R117–R120) -/

theorem republish_buses (i : Fin 64) (x : RepubItem) (s : P1) : (republish i x s).buses = s.buses := by
  unfold republish
  dsimp only
  split
  · split
    · exact netSend_buses ..
    · exact netSend_buses ..
  · rfl

theorem eachSlot_buses {f : Fin 64 → P1 → P1} (h : ∀ i t, (f i t).buses = t.buses) (s : P1) : (eachSlot f s).buses = s.buses :=
  foldl_buses (fun t i => h i t) _ s

theorem enterTag_buses (i : Fin 64) (ta tag : Int) (s : P1) : (enterTag i ta tag s).buses = s.buses := by
  have hclose : (closeBlock i ta s).buses = s.buses := by
    unfold closeBlock
    split
    · split
      · rfl
      · rfl
    · rfl
  exact hclose

theorem judgeAlign_buses (i : Fin 64) (d p : Rat) (s : P1) : (judgeAlign i d p s).buses = s.buses := by
  unfold judgeAlign
  extract_lets m above below t un
  split
  · exact (P1.buses_of_record (record_butRecord ..)).trans rfl
  · split
    · exact (P1.buses_of_record (record_butRecord ..)).trans rfl
    · rfl

theorem modelTag_buses (i : Fin 64) (ta tag : Int) (s : P1) : (modelTag i ta tag s).buses = s.buses := by
  unfold modelTag
  dsimp only
  split
  · exact enterTag_buses ..
  · exact (judgeAlign_buses ..).trans (enterTag_buses i ta tag s)

theorem measureTime_buses (i : Fin 64) (ta : Int) (tag : Option Int) (s : P1) : (measureTime i ta tag s).2.buses = s.buses := by
  unfold measureTime
  extract_lets late
  split
  · rfl
  · next t =>
    have htag : (((modelTag i ta t s).setBit (slKey i 0x14) bUntagged false).draw).buses = s.buses := modelTag_buses i ta t s
    extract_lets u m base4 v
    split
    · exact htag
    · split
      · exact htag
      · exact htag

theorem arrive_buses (i : Fin 64) (ta : Int) (m : Meas) (tag : Option Int) (quality : Nat) (sigma : Option Rat) (s : P1) :
    (arrive i ta m tag quality sigma s).2.buses = s.buses :=
  measureTime_buses i ta tag s

theorem setSlot_buses (i : Fin 64) (f : SlotState → SlotState) (s : P1) : (setSlot i f s).buses = s.buses := rfl

theorem deliver_buses (f : Fix) (s : P1) : (deliver f s).buses = s.buses := by
  unfold deliver
  dsimp only
  split <;> rfl

theorem takeFound_buses (i : Fin 64) (ta : Int) (x : Found) (s : P1) : (takeFound i ta x s).buses = s.buses := by
  cases x with
  | nothing => rfl
  | error code => rfl
  | date y m d tod =>
    have hdates : (eachSlot (fun j t => if sameSource i j t then setSlot j (fun x => { x with date := some (daysOf y m d) }) t
        else t) s).buses = s.buses := by
      refine eachSlot_buses (fun j t => ?_) s
      split <;> rfl
    unfold takeFound
    dsimp only
    split
    · exact (enterTag_buses ..).trans hdates
    · exact hdates
  | gst time sigma =>
    unfold takeFound
    dsimp only
    split <;> rfl
  | fix m tod tag quality sigma time =>
    have hreset : (if quality ≠ 0 && quality ≠ s.slots[i].lastQuality && s.slots[i].lastQuality ≠ 0 then resetBias i s
        else s).buses = s.buses := by
      split <;> rfl
    rw [takeFound]
    refine ite_buses ?_ ?_
    · exact (setSlot_buses ..).trans ((arrive_buses ..).trans hreset)
    · exact (deliver_buses ..).trans ((setSlot_buses ..).trans ((arrive_buses ..).trans hreset))

theorem slotPgn_buses (i : Fin 64) (ta : Int) (pgn : Nat) (b : List Byte) (s : P1) : (slotPgn i ta pgn b s).buses = s.buses := by
  unfold slotPgn
  split
  · split
    · exact takeFound_buses ..
    · rfl
  · rfl

/-! ### Frames (R109, R280, R446) -/

theorem templateFrame_buses (c : Fin 4) (ident : Nat) (x : Bool) (b : List Byte) (s : P1) :
    (templateFrame (.can c ident x) b s).buses = s.buses := by
  unfold templateFrame
  dsimp only
  split
  · refine eachSlot_buses (fun i t => ?_) s
    split
    · split
      · exact (takeFound_buses ..).trans (republish_buses ..)
      · exact republish_buses ..
    · rfl
  · rfl

theorem pgnMessage_buses (c : Fin 4) (ident : Nat) (b : List Byte) (s : P1) : (pgnMessage c ident b s).buses = s.buses := by
  refine eachSlot_buses (fun i t => ?_) s
  split
  · exact slotPgn_buses ..
  · rfl

theorem removeFast_buses (c : Fin 4) (pgn source : Nat) (s : P1) : (removeFast c pgn source s).buses = s.buses :=
  setCan_buses c (f := fun x => { x with fast := x.fast.filter fun f => !f.is pgn source }) (fun _ => rfl) s

theorem putFast_buses (c : Fin 4) (f : FastPacket) (s : P1) : (putFast c f s).buses = s.buses :=
  (setCan_buses c (f := fun x => { x with fast := x.fast ++ [f] }) (fun _ => rfl) _).trans (removeFast_buses c f.pgn f.source s)

theorem dropFast_buses (only : Option (Fin 64)) (c : Fin 4) (ident : Nat) (s : P1) : (dropFast only c ident s).buses = s.buses := by
  refine (eachSlot_buses (fun i t => ?_) _).trans (removeFast_buses c (pgnOf ident) (fastSource only ident) s)
  split
  · split
    · split <;> rfl
    · rfl
  · rfl

theorem fastDone_buses (only : Option (Fin 64)) (ta : Int) (c : Fin 4) (ident : Nat) (b : List Byte) (s : P1) :
    (fastDone only ta c ident b s).buses = s.buses := by
  unfold fastDone
  split
  · exact slotPgn_buses ..
  · exact pgnMessage_buses ..

theorem fastFrame_buses (only : Option (Fin 64)) (ta : Int) (c : Fin 4) (ident : Nat) (b : List Byte) (s : P1) :
    (fastFrame only ta c ident b s).buses = s.buses := by
  unfold fastFrame
  extract_lets x counter no pgn source total begun
  have hbegun (t : P1) : (begun t).buses = t.buses := by
    exact ite_buses (fastDone_buses ..) (putFast_buses ..)
  split
  · exact ite_buses (hbegun s) rfl
  · refine ite_buses ?_ ?_
    · exact ite_buses ((fastDone_buses ..).trans (removeFast_buses ..)) (putFast_buses ..)
    · exact ite_buses ((hbegun _).trans (dropFast_buses ..)) (dropFast_buses ..)

theorem pgnFrame_buses (c : Fin 4) (f : CanFrame) (s : P1) : (pgnFrame c f s).buses = s.buses := by
  have hrepublish : (republishPgn c f.ident f.data s).buses = s.buses := by
    refine eachSlot_buses (fun i t => ?_) s
    split
    · exact republish_buses ..
    · rfl
  unfold pgnFrame
  dsimp only
  split
  · exact (fastFrame_buses ..).trans hrepublish
  · exact (pgnMessage_buses ..).trans hrepublish

theorem takeFeedback_buses (i : Fin 16) (b : List Byte) (s : P1) : (takeFeedback i b s).buses = s.buses := by
  unfold takeFeedback
  extract_lets f t
  have ht : t.buses = s.buses := (P1.buses_of_cells (P1.wrs_butCells ..)).trans rfl
  exact ite_buses ht ht

theorem feedbackFrame_buses (c : Fin 4) (ident : Nat) (b : List Byte) (s : P1) : (feedbackFrame c ident b s).buses = s.buses := by
  refine foldl_buses (fun t i => ?_) _ s
  dsimp only
  split
  · exact takeFeedback_buses ..
  · rfl

theorem frameReaches_buses (c : Fin 4) (f : CanFrame) (s : P1) : (frameReaches c f s).buses = s.buses := by
  have hfeedback : (if feedbackOf c f s then feedbackFrame c f.ident f.data s else s).buses = s.buses := by
    split
    · exact feedbackFrame_buses ..
    · rfl
  unfold frameReaches
  dsimp only
  split
  · exact (pgnFrame_buses ..).trans ((templateFrame_buses ..).trans hfeedback)
  · exact (templateFrame_buses ..).trans hfeedback

theorem canRxFull_buses (c : Fin 4) (hit : Fin 64 → P1 → Bool) (s : P1) : (canRxFull c hit s).buses = s.buses := by
  refine eachSlot_buses (fun i t => ?_) _
  split <;> rfl

end Sys2Proof.Machine
end

section
/-! SUPPORT. CAN frames and error states (R438–R446): what a transmission, a failed attempt, an expiry and a reception make of a channel. -/

namespace Sys2Proof.Machine

/-! ### Queues of a channel (R439) -/

theorem CanChan.setQueue_queue (x : CanChan) (p : Nat) (l : List TxFrame) : (x.setQueue p l).queue p = l :=
  match p with
  | 0 | 1 | 2 | _ + 3 => rfl

/-- A frame that replaces the head of the highest queue is the head. -/
theorem CanChan.putHead_head {x : CanChan} {p : Nat} {f : TxFrame} (h : x.head = some (p, f)) (g : TxFrame) :
    (x.putHead p g).head = some (p, g) := by
  unfold CanChan.head at h ⊢
  split at h
  case h_5 => cases h
  all_goals
    obtain ⟨rfl, -⟩ := Prod.mk.inj (Option.some.inj h)
    simp_all [CanChan.putHead, CanChan.setQueue, CanChan.queue]

/-! ### Channels after a report, and after new error counts (R441, R442) -/

theorem record_can (code param : Nat) (s : P1) : (record code param s).can = s.can :=
  (congrArg P1.can (record_butRecord code param s) :)

theorem canReportFailed_can (c : Fin 4) (prio : Nat) (f : TxFrame) (cause : Nat) (s : P1) :
    (canReportFailed c prio f cause s).can = s.can := record_can ..

theorem canReportAll_can (c : Fin 4) (prio cause : Nat) :
    ∀ (l : List TxFrame) (s : P1), (canReportAll c prio cause l s).can = s.can
  | [], _ => rfl
  | f :: r, s => (canReportAll_can c prio cause r _).trans (canReportFailed_can c prio f cause s)

theorem canFail_can {cause : Nat} (h : cause ≠ 2) (c : Fin 4) (prio : Nat) (f : TxFrame) (s : P1) :
    (canFail c prio f cause s).can = s.can := by
  unfold canFail
  rw [if_neg h]
  exact canReportFailed_can ..

theorem setErrCounts_can (c : Fin 4) (tec rxErr : Nat) (s : P1) :
    (setErrCounts c tec rxErr s).can = upd s.can c fun x => { x with tec := tec, rxErr := rxErr, errState := errStateOf tec rxErr } := by
  unfold setErrCounts
  dsimp only
  split
  · exact record_can ..
  · split
    · exact record_can ..
    · rfl

theorem breakAlone_can {c : Fin 4} {s : P1} (h : s.can[c].alone = false) :
    (breakAlone c s).can = upd s.can c fun x => { x with alone := false, aloneRun := 0 } := by
  unfold breakAlone
  rw [if_neg (by simp [h, -Fin.getElem_fin])]
  rfl

/-- ALONE ends, and the run towards it (R443). -/
theorem breakAlone_bus (c : Fin 4) (s : P1) :
    (breakAlone c s).can[c].bus = { s.can[c].bus with alone := false, aloneRun := 0 } := by
  have hset : (setCan c (fun x => { x with alone := false, aloneRun := 0 }) s).can[c].bus
      = { s.can[c].bus with alone := false, aloneRun := 0 } := by
    rw [setCan_can, upd_get]
    rfl
  unfold breakAlone
  dsimp only
  split
  · exact (P1.bus_of_buses (recordAlarm_buses ..) c).trans hset
  · exact hset

/-! ### Frames sent, received and expired (R439, R440, R445) -/

section
variable {c : Fin 4} {p : Nat} {f : TxFrame} {s : P1}

theorem canFrameSent_can (hhead : s.can[c].head = some (p, f)) (hon : canOn c s = true) (hlisten : listenOnly c s = false)
    (hstate : s.can[c].errState ≠ 2) (halone : s.can[c].alone = false) :
    (canFrameSent c s).can = upd (upd (upd s.can c fun x => x.pop p) c fun x => { x with
      tec := s.can[c].tec - 1, rxErr := s.can[c].rxErr, errState := errStateOf (s.can[c].tec - 1) s.can[c].rxErr }) c
        fun x => { x with alone := false, aloneRun := 0 } := by
  have hpop : (s.can[c].pop p).alone = false :=
    (congrArg CanChan.alone (CanChan.setQueue_bus s.can[c] p ((s.can[c].queue p).drop 1))).trans halone
  have hsent : canFrameSent c s = breakAlone c (setErrCounts c (s.can[c].tec - 1) s.can[c].rxErr
      ((setCan c (fun x => x.pop p) s).incWrap (ob (0x5600 + c) 0x10))) := by
    unfold canFrameSent
    rw [hhead]
    exact if_pos (by simp [hon, hlisten, hstate, -Fin.getElem_fin])
  have hcounts := setErrCounts_can c (s.can[c].tec - 1) s.can[c].rxErr ((setCan c (fun x => x.pop p) s).incWrap (ob (0x5600 + c) 0x10))
  rw [hsent, breakAlone_can ?_, hcounts]
  · rfl
  · rw [hcounts, upd_get]
    exact (congrArg CanChan.alone (upd_get ..)).trans hpop

theorem canExpire_can (c : Fin 4) (s : P1) :
    (canExpire c s).can = upd s.can c fun x => { x with q0 := x.q0.filter fun f => !f.old s } := canReportAll_can ..

end

/-- A frame received ends ALONE, whatever it reaches (R443). -/
theorem canReceived_alone {c : Fin 4} {s : P1} (hon : canOn c s = true) (hstate : s.can[c].errState ≠ 2) (f : CanFrame) :
    (canReceived c f s).can[c].bus.alone = false ∧ (canReceived c f s).can[c].bus.aloneRun = 0 := by
  unfold canReceived
  rw [if_neg (by simp [hon, hstate, -Fin.getElem_fin])]
  extract_lets s1 s2 s3 hit
  have hlead : s3.buses = s2.buses := by
    unfold s3
    split
    · exact takeLeadFrame_buses ..
    · rfl
  have hends : s2.can[c].bus.alone = false ∧ s2.can[c].bus.aloneRun = 0 := by
    rw [show s2.can[c].bus = _ from breakAlone_bus ..]
    exact ⟨rfl, rfl⟩
  have hrest {t : P1} (h : t.buses = s3.buses) : t.can[c].bus.alone = false ∧ t.can[c].bus.aloneRun = 0 := by
    rw [P1.bus_of_buses (h.trans hlead) c]
    exact hends
  refine hrest (ite_buses ?_ (ite_buses ?_ rfl))
  · exact ite_buses (canRxFull_buses ..) ((frameReaches_buses ..).trans
      (setCan_buses c (f := fun x => { x with rx0 := x.rx0 ++ [f] }) (fun _ => rfl) s3))
  · exact ite_buses (canRxFull_buses ..) ((frameReaches_buses ..).trans
      (setCan_buses c (f := fun x => { x with rx1 := x.rx1 ++ [f] }) (fun _ => rfl) s3))

/-! ### Failed attempts (R441, R442) -/

/-- A frame after one more failed attempt. -/
def TxFrame.failed (f : TxFrame) (x : AttemptCause) : TxFrame :=
  { f with attempts := f.attempts + 1, onlyAck := f.onlyAck && x = .ackError, lastArb := x = .lostArbitration }

/-- The error counts after a failed attempt. -/
def attemptCounted (c : Fin 4) (x : AttemptCause) (s : P1) : P1 :=
  setErrCounts c (tecAfter s.can[c].tec s.can[c].errState x) s.can[c].rxErr s

theorem attemptCounted_can (c : Fin 4) (x : AttemptCause) (s : P1) :
    (attemptCounted c x s).can = upd s.can c fun y => { y with
      tec := tecAfter s.can[c].tec s.can[c].errState x, rxErr := s.can[c].rxErr
      errState := errStateOf (tecAfter s.can[c].tec s.can[c].errState x) s.can[c].rxErr } := setErrCounts_can ..

theorem canAttemptFail_idle {c : Fin 4} {s : P1} (h : s.can[c].head = none) (x : AttemptCause) : canAttemptFail c x s = s := by
  unfold canAttemptFail
  rw [h]

section
variable {c : Fin 4} {p : Nat} {f : TxFrame} {x : AttemptCause} {s : P1}
  (hhead : s.can[c].head = some (p, f)) (hon : canOn c s = true) (hlisten : listenOnly c s = false) (hstate : s.can[c].errState ≠ 2)
include hhead hon hlisten hstate

theorem canAttemptFail_head : canAttemptFail c x s =
    if (attemptCounted c x s).can[c].errState = 2 then
      recordAlarm true 0x0D02 c.val c.val (canFail c p (f.failed x) 4 (setCan c (fun y => y.pop p) (attemptCounted c x s)))
    else if s.rdN (ob (0x5600 + c) (0x0A + p)) < f.attempts + 1 then
      canFail c p (f.failed x) (limitCause (f.failed x)) (setCan c (fun y => y.pop p) (attemptCounted c x s))
    else setCan c (fun y => y.putHead p (f.failed x)) (attemptCounted c x s) := by
  unfold canAttemptFail
  rw [hhead]
  exact if_pos (by simp [hon, hlisten, hstate, -Fin.getElem_fin])

/-- An attempt that leaves the channel below bus-off, within the limit of its priority: the frame stays. -/
theorem canAttemptFail_retried (hbus : errStateOf (tecAfter s.can[c].tec s.can[c].errState x) s.can[c].rxErr ≠ 2)
    (hlimit : f.attempts + 1 ≤ s.rdN (ob (0x5600 + c) (0x0A + p))) :
    canAttemptFail c x s = setCan c (fun y => y.putHead p (f.failed x)) (attemptCounted c x s) := by
  rw [canAttemptFail_head hhead hon hlisten hstate, if_neg ?_, if_neg (by omega)]
  rw [attemptCounted_can, upd_get]
  exact hbus

/-- An attempt beyond the limit: the frame is reported failed. -/
theorem canAttemptFail_spent (hbus : errStateOf (tecAfter s.can[c].tec s.can[c].errState x) s.can[c].rxErr ≠ 2)
    (hlimit : s.rdN (ob (0x5600 + c) (0x0A + p)) ≤ f.attempts) :
    canAttemptFail c x s = canFail c p (f.failed x) (limitCause (f.failed x)) (setCan c (fun y => y.pop p) (attemptCounted c x s)) := by
  rw [canAttemptFail_head hhead hon hlisten hstate, if_neg ?_, if_pos (by omega)]
  rw [attemptCounted_can, upd_get]
  exact hbus

/-- An attempt that takes the channel into bus-off. -/
theorem canAttemptFail_busOff (hbus : errStateOf (tecAfter s.can[c].tec s.can[c].errState x) s.can[c].rxErr = 2) :
    canAttemptFail c x s =
      recordAlarm true 0x0D02 c.val c.val (canFail c p (f.failed x) 4 (setCan c (fun y => y.pop p) (attemptCounted c x s))) := by
  rw [canAttemptFail_head hhead hon hlisten hstate, if_pos]
  rw [attemptCounted_can, upd_get]
  exact hbus

end

/-! ### Recovery and writes of a channel (R438, R442) -/

theorem canBusOffRecovery_off {c : Fin 4} {s : P1} (hstate : s.can[c].errState = 2) (hon : canOn c s = true) :
    canBusOffRecovery c s = recordAlarm false 0x0D03 c.val c.val (lower 0x0D02 c.val
      ((setCan c (fun x => { x with tec := 0, rxErr := 0, errState := 0 }) s).inc (ob (0x5600 + c) 0x15))) :=
  if_pos (by simp [hstate, hon, -Fin.getElem_fin])

theorem canReceiveError_counts {c : Fin 4} {s : P1} (hon : canOn c s = true) (hlisten : listenOnly c s = false)
    (hstate : s.can[c].errState ≠ 2) (n : Nat) :
    canReceiveError c n s = setErrCounts c s.can[c].tec (min 255 (s.can[c].rxErr + n)) s :=
  if_pos (by simp [hon, hlisten, hstate, -Fin.getElem_fin])

theorem canDropAll_buses (c : Fin 4) (cause : Nat) (s : P1) : (canDropAll c cause s).buses = s.buses := by
  have hempty : (setCan c (fun y => { y with q0 := [], q1 := [], q2 := [], q3 := [] }) s).buses = s.buses :=
    setCan_buses c (f := fun y => { y with q0 := [], q1 := [], q2 := [], q3 := [] }) (fun _ => rfl) s
  exact (canReportAll_buses ..).trans ((canReportAll_buses ..).trans ((canReportAll_buses ..).trans
    ((canReportAll_buses ..).trans hempty)))

theorem canReconfigure_buses (c : Fin 4) (s : P1) : (canReconfigure c s).buses = s.buses := by
  unfold canReconfigure
  extract_lets t
  have ht : t.buses = s.buses := by
    unfold t
    split
    · exact (canReportFailed_buses ..).trans (setCan_buses c (fun x => x.setQueue_bus ..) s)
    · rfl
  exact ite_buses ((canDropAll_buses ..).trans ht) ht

/-- A channel takes its writes and is off the bus for this grain. -/
theorem adoptCan_written {c : Fin 4} {s : P1} (h : s.can[c].writes ≠ []) :
    (adoptCan c s).can[c].bus.writes = [] ∧ (adoptCan c s).can[c].bus.away = true := by
  have hcan (t : P1) : (setCan c (fun x => { x with writes := [], away := true }) t).can[c].bus
      = { t.can[c].bus with writes := [], away := true } := by
    rw [setCan_can, upd_get]
    rfl
  unfold adoptCan
  rw [if_neg h, P1.bus_of_buses (canReconfigure_buses ..) c, hcan]
  exact ⟨rfl, rfl⟩

theorem adoptCan_unwritten {c : Fin 4} {s : P1} (h : s.can[c].writes = []) : (adoptCan c s).can[c].away = false := by
  unfold adoptCan
  rw [if_pos h]
  split
  · exact congrArg CanChan.away (upd_get ..)
  · next haway => exact Bool.eq_false_iff.mpr haway

/-- The content test of a channel write has one abort. -/
theorem canWriteCheck_refuses {c : Fin 4} {b : Nat} {v : Int} {s : P1} (h : canWriteCheck c b v s ≠ 0) :
    canWriteCheck c b v s = abRange := by
  unfold canWriteCheck at h ⊢
  grind

/-- A write of 5600h+c, as its command carries it. -/
theorem canChannelWrite_request {c : Fin 4} {b : Nat} (hb : b < 256) (hclear : b ≠ 0x19) (w : Nat) (v : Int) (s : State) :
    exec (.canChannelWrite w c b v) s = onReq w (ob (0x5600 + c) b) (.num v) (canChannelRule c b v) s := by
  have hmod : b % 256 = b := Nat.mod_eq_of_lt hb
  change execCanChannelWrite w c b v s = _
  unfold execCanChannelWrite
  rw [hmod, if_neg hclear]

/-- Settles O56: each event is one case of its function, and what records, alarms and deliveries leave is the bus state. -/
theorem canFramesAndErrorStates : Obligations.CanFramesAndErrorStates := by
  intro s c hup hserves
  refine ⟨fun x => onP1_next (f := fun t => judgeRelinquish (canAttemptFail c x t)) hup rfl, fun hhead => fun x => ⟨onP1_idle hup ?idle, canAttemptFail_idle hhead x⟩,
    fun p f hhead hon hlisten hstate halone => ?sent, fun p f x hhead hon hlisten hstate hbus hlimit => ?retried,
    fun p f hhead hon hlisten hstate hbus hlimit => ?spent, fun p f hhead hon hlisten hstate htec => ?busOff,
    fun hstate hon => ?recovery, fun hstate => onP1_idle hup (if_neg ?active), ?expiry, fun hoff f => onMeasured_idle hup (if_pos ?unheard),
    fun hon hstate f => ?received, fun n hon hlisten hstate htec => ?error, fun n hoff => onP1_idle hup (if_neg ?silent),
    fun w b v hb hclear hacc hcheck => ?write, fun hwrites => ?adopt, adoptCan_unwritten,
    fun w b v hb hclear hacc hcheck => ?refused, fun w v hacc => onReq_eff hserves hacc⟩
  case idle => unfold canFrameSent; rw [hhead]
  case sent =>
    have hcan := canFrameSent_can hhead hon hlisten hstate halone
    refine ⟨_, onP1_next hup rfl, ?_, ?_, fun d hd => ?_⟩
    · rw [State.core_p1, hcan, upd_get, upd_get]
    · rw [State.core_p1, hcan, upd_get, upd_get, upd_get]
      exact CanChan.setQueue_queue ..
    · rw [State.core_p1, hcan, upd_get_other hd, upd_get_other hd, upd_get_other hd]
  case retried =>
    dsimp only
    rw [canAttemptFail_retried hhead hon hlisten hstate hbus hlimit, setCan_can, attemptCounted_can]
    refine ⟨?_, ?_, fun d hd => by rw [upd_get_other hd, upd_get_other hd]⟩
    · rw [upd_get, upd_get]
      exact congrArg CanChan.tec (CanChan.setQueue_bus ..)
    · rw [upd_get, upd_get]
      exact CanChan.putHead_head (x := { s.p1.can[c] with
        tec := tecAfter s.p1.can[c].tec s.p1.can[c].errState x, rxErr := s.p1.can[c].rxErr
        errState := errStateOf (tecAfter s.p1.can[c].tec s.p1.can[c].errState x) s.p1.can[c].rxErr }) hhead _
  case spent =>
    have hcause : limitCause (f.failed .otherError) ≠ 2 := by simp [limitCause, TxFrame.failed]
    rw [canAttemptFail_spent (x := .otherError) hhead hon hlisten hstate hbus hlimit, canFail_can hcause, setCan_can, attemptCounted_can, upd_get, upd_get]
    exact CanChan.setQueue_queue ..
  case busOff =>
    have hstill : errStateOf (s.p1.can[c].tec + 8) s.p1.can[c].rxErr = 2 := if_pos (by omega)
    have hchan : (canAttemptFail c .otherError s.p1).can[c].bus = { s.p1.can[c].bus with
        tec := s.p1.can[c].tec + 8, rxErr := s.p1.can[c].rxErr, errState := errStateOf (s.p1.can[c].tec + 8) s.p1.can[c].rxErr } := by
      rw [canAttemptFail_busOff (x := .otherError) hhead hon hlisten hstate hstill, P1.bus_of_buses (recordAlarm_buses ..) c, canFail_can (by decide),
        setCan_can, attemptCounted_can, upd_get, upd_get]
      exact CanChan.setQueue_bus ..
    exact ⟨(congrArg CanChan.errState hchan).trans hstill, congrArg CanChan.tec hchan⟩
  case recovery =>
    have hchan : (canBusOffRecovery c s.p1).can[c].bus = { s.p1.can[c].bus with tec := 0, rxErr := 0, errState := 0 } := by
      rw [canBusOffRecovery_off hstate hon, P1.bus_of_buses ((recordAlarm_buses ..).trans (lower_buses ..)) c]
      exact congrArg CanChan.bus (upd_get ..)
    exact ⟨_, onP1_next hup rfl, congrArg CanChan.errState hchan, congrArg CanChan.tec hchan, congrArg CanChan.rxErr hchan, rfl, rfl⟩
  case active => simp [hstate, -Fin.getElem_fin]
  case unheard => rcases hoff with h | h <;> simp [h, -Fin.getElem_fin]
  case silent => rcases hoff with h | h | h <;> simp [h, -Fin.getElem_fin]
  case expiry =>
    refine ⟨_, onP1_next hup rfl, ?_, ?_, fun d hd => ?_⟩
    · rw [State.core_p1, canExpire_can, upd_get]
    · rw [State.core_p1, canExpire_can, upd_get]
    · rw [State.core_p1, canExpire_can, upd_get_other hd]
  case received =>
    obtain ⟨halone, hrun⟩ := canReceived_alone hon hstate f
    exact ⟨_, onMeasured_next hup rfl, halone, hrun, rfl, rfl⟩
  case error =>
    refine ⟨_, onP1_next hup (canReceiveError_counts hon hlisten hstate n), ?_, ?_⟩
    · rw [State.core_p1, setErrCounts_can, upd_get]
    · rw [State.core_p1, setErrCounts_can, upd_get]
  case write =>
    rw [canChannelWrite_request hb hclear]
    exact onReq_check hserves hacc hcheck
  case adopt =>
    obtain ⟨hnone, haway⟩ := adoptCan_written hwrites
    have haway : (adoptCan c s.p1).can[c].away = true := haway
    exact ⟨hnone, haway, by simp [canOn, haway, -Fin.getElem_fin]⟩
  case refused =>
    rw [canChannelWrite_request hb hclear]
    exact onReq_checkRefused hserves hacc (by decide) rfl (canWriteCheck_refuses hcheck)

end Sys2Proof.Machine
end

section
/-! SUPPORT. Messages and requests of a redundant set (R461–R484): what a message leaves of the set's state, and the mode that a Shadow
follows. -/

namespace Sys2Proof.Machine

/-! ### Messages of partners (R464, R467, R474) -/

theorem noteCheck_red (id : Nat) (was now : Bool) (s : P1) : (noteCheck id was now s).red = s.red := by
  have halarm (bad : Bool) (p q : Nat) : (recordAlarm bad 0x0E06 p q s).red = s.red :=
    (congrArg P1.red (recordAlarm_butAlarm bad 0x0E06 p q s) :)
  unfold noteCheck
  dsimp only
  split
  · exact halarm ..
  · split
    · exact halarm ..
    · rfl

theorem noteCheck_cellsKept (id : Nat) (was now : Bool) (s : P1) : CellsKept raiseCell s (noteCheck id was now s) := by
  unfold noteCheck
  dsimp only
  split
  · exact recordAlarm_cellsKept ..
  · split
    · exact recordAlarm_cellsKept ..
    · exact .refl ..

/-- A message is held as the newest of its partner, beside those of the others (R464). -/
theorem takeMessage_partners {m : SetMessage} (h : m.role ≠ .lead) (s : P1) :
    ∃ q : Partner, (takeMessage m s).red.partners = s.red.partners.filter (fun x => x.id ≠ m.source) ++ [q]
      ∧ q.id = m.source ∧ q.msg = m ∧ q.age = 0 := by
  unfold takeMessage
  extract_lets old again check seq mir o run since p t u
  rw [if_neg h, show u.red = t.red from noteCheck_red ..]
  exact ⟨p, rfl, rfl, rfl, rfl⟩

/-- A module that is not Lead notes the Lead it hears (R481). -/
theorem noteLead_follower {id : Nat} {s : P1} (h : s.role ≠ 2) :
    noteLead id s = setRed (fun r => { r with leadNow := if r.leadNow.contains id then r.leadNow else r.leadNow ++ [id] }) s :=
  if_neg (by simp [h])

/-- A Lead's message reaches a module that is not Lead: cells beside those of an alarm stay. -/
theorem takeMessage_cellsKept {m : SetMessage} {s : P1} (hlead : m.role = .lead) (hrole : s.role ≠ 2) (hwf : odWf s.od = true) :
    CellsKept raiseCell s (takeMessage m s) := by
  unfold takeMessage
  extract_lets old again check seq mir o run since p t u
  have ht : CellsKept raiseCell s t := .of_od rfl
  have hu : CellsKept raiseCell s u := ht.trans (noteCheck_cellsKept ..)
  have hfollows : u.role ≠ 2 := by
    rw [P1.role, P1.rdN, hu.same hwf kRole (by decide)]
    exact hrole
  rw [if_pos hlead, noteLead_follower hfollows]
  exact hu.trans (.of_od rfl)

theorem role_of_raise {a b : P1} (h : sameCells raiseCell a b) : b.role = a.role :=
  congrArg Int.toNat (h kRole (by decide))

/-! ### The mirror on a Shadow (R467) -/

/-- The cells that a Shadow sets beside its mode. -/
def besideMode (k : Nat) : Bool := k ≠ kMode

/-- The state in the mode of a mirror. -/
def modeFollowed (m : Mirror) (s : P1) : P1 := if m.mode = s.mode then s else s.wrs [(kMode, m.mode), (ob 0x2100 8, s.stamp)]

theorem modeFollowed_mode {s : P1} (hwf : odWf s.od = true) (m : Mirror) : (modeFollowed m s).mode = m.mode := by
  unfold modeFollowed
  split
  · next h => exact h.symm
  · have hmode : ((s.wr kMode m.mode).wr (ob 0x2100 8) s.stamp).rd kMode = m.mode := by
      rw [P1.wr_rd_other (by decide), P1.wr_rd hwf, if_pos rfl]
    exact congrArg Int.toNat hmode

theorem followMirror_mode {s : P1} (hwf : odWf s.od = true) (m : Mirror) : (followMirror m s).mode = m.mode := by
  have hpoints : ∀ e ∈ setPointKeys.zip m.setPoints, besideMode e.1 = true := fun e he =>
    (by decide : ∀ k ∈ setPointKeys, besideMode k = true) _ (List.of_mem_zip he).1
  unfold followMirror
  extract_lets t entered u g v
  have hentered : sameCells besideMode t entered := by
    unfold entered
    split
    · exact .of_od rfl
    · exact sameCells.refl _ _
  have hu : sameCells besideMode entered u :=
    ((sameCells.wr (by decide) _ _).trans (.wr (by decide) _ _)).trans (.wr (by decide) _ _)
  have hv : sameCells besideMode u v := (sameCells.wrs hpoints u).trans (.of_od rfl)
  exact (((hentered.trans hu).trans hv).mode (by decide)).trans (modeFollowed_mode hwf m)

theorem red_ite {c : Prop} [Decidable c] {a b s : P1} (ha : a.red = s.red) (hb : b.red = s.red) :
    (if c then a else b).red = s.red := by
  split
  · exact ha
  · exact hb

theorem P1.wrs_red (l : List (Nat × Int)) (s : P1) : (s.wrs l).red = s.red := (congrArg P1.red (P1.wrs_butCells l s) :)

theorem followMirror_red (m : Mirror) (s : P1) : (followMirror m s).red = s.red := by
  have hlaw (q : P1) (n : Nat) (c : Control) : ({ q with lawMode := n, ctl := c } : P1).red = q.red := rfl
  have hdwell (q : P1) : (followDwell m q).red = q.red := rfl
  have hwave (q : P1) : (enterCloseHold q).red = q.red := rfl
  unfold followMirror
  extract_lets t entered u g v
  have ht : t.red = s.red := red_ite rfl (P1.wrs_red _ _)
  have hentered : entered.red = s.red := red_ite ((hwave t).trans ht) ht
  have hu : u.red = entered.red := (P1.wr_red ..).trans ((P1.wr_red ..).trans (P1.wr_red ..))
  exact (hlaw v _ _).trans ((hdwell _).trans ((P1.wrs_red _ u).trans (hu.trans hentered)))

theorem takeCycle_mirror {m : SetMessage} {x : Mirror} {s : State} (hpartner : fromPartner m s.p1 = true) (hlead : m.role = .lead)
    (hmirror : m.mirror = some x) : takeCycle m s = takeMirror x { s with p1 := takeMessage m s.p1 } := by
  unfold takeCycle
  rw [if_neg (by simp [hpartner]), hlead, hmirror]

theorem takeMirror_shadow {m : Mirror} {s : State} (hrole : s.p1.role = 1) (hwrites : m.writes = []) :
    takeMirror m s = s.core (setRed (fun r => { r with replay := some m })
      (followMirror m (setRed (fun r => { r with mirror := some m }) s.p1))) := by
  unfold takeMirror
  dsimp only
  rw [if_pos (show (setRed (fun r => { r with mirror := some m }) s.p1).role = 1 from hrole), hwrites]
  rfl

theorem takeHandOver_bare {m : SetMessage} {s : State} (hpartner : fromPartner m s.p1 = true) (hmirror : m.mirror = none) :
    takeHandOver m s = s.core (takeRelinquish m s.p1) := by
  unfold takeHandOver
  rw [if_neg (by simp [hpartner]), hmirror]
  rfl

theorem source_lt_of_fromPartner {m : SetMessage} {s : P1} (h : fromPartner m s = true) : m.source < 4 := by
  simp only [fromPartner, Bool.and_eq_true, decide_eq_true_eq] at h
  omega

/-- The state without the LEAD frames of a module that relinquishes (R474, R479). -/
def senderDropped (m : SetMessage) (s : P1) : P1 :=
  setRed (fun r => { r with
    canLead := if h : m.source < 4 then r.canLead.set m.source 0 else r.canLead
    leadNow := r.leadNow.filter (· ≠ m.source) }) s

theorem canLeadSeen_of_none {s : P1} (h : ∀ j : Fin 4, s.red.canLead[j] = 0) : canLeadSeen s = false := by
  refine List.any_eq_false.mpr fun n hn => ?_
  obtain ⟨j, hj, rfl⟩ := List.mem_iff_getElem.mp hn
  simpa using h ⟨j, by simpa using hj⟩

/-- Where no other module's LEAD frames count, the sender's were no obstacle, and eligibility stays. -/
theorem isEligible_senderDropped {m : SetMessage} {s : P1} (hsource : m.source < 4) (helig : isEligible s = true)
    (hnone : ∀ j : Fin 4, j.val ≠ m.source → s.red.canLead[j] = 0) : isEligible (senderDropped m s) = true := by
  have hseen : canLeadSeen (senderDropped m s) = false := by
    refine canLeadSeen_of_none fun j => ?_
    simp only [senderDropped, setRed, dif_pos hsource]
    by_cases hj : j.val = m.source
    · simp [hj]
    · simpa [Vector.getElem_set, Ne.symm hj] using hnone j hj
  have hmember : isMember (senderDropped m s) = isMember s := rfl
  have hhealth (k : Nat) : (senderDropped m s).rd k = s.rd k := rfl
  simp only [isEligible, P1.bit, Bool.and_eq_true] at helig ⊢
  obtain ⟨⟨⟨hm, hh⟩, hb⟩, -⟩ := helig
  exact ⟨⟨⟨hmember ▸ hm, hh⟩, hb⟩, by simp [hseen]⟩

theorem takeRelinquish_nominee {m : SetMessage} {s : P1} (hnominee : m.nominee = s.rdN kModuleId) (hrole : s.role = 1)
    (helig : isEligible (senderDropped m s) = true) :
    takeRelinquish m s = setRed (fun r => { r with takeover := some (m.source, m.mirror) }) (senderDropped m s) := by
  have hshadow : (senderDropped m s).role = 1 := hrole
  unfold takeRelinquish
  have hboth : ((senderDropped m s).role = 1 && isEligible (senderDropped m s)) = true := by simp [hshadow, helig]
  exact (if_pos hnominee).trans (if_pos hboth)

theorem takeRelinquish_other {m : SetMessage} {s : P1} (hnominee : m.nominee ≠ s.rdN kModuleId) (hlo : 1 ≤ m.nominee)
    (hhi : m.nominee ≤ 3) : takeRelinquish m s =
      setRed (fun r => { r with relinquish := some ⟨m.source, m.nominee, 0, m.mirror⟩ }) (senderDropped m s) := by
  unfold takeRelinquish
  exact (if_neg hnominee).trans (if_pos (by simp [hlo, hhi]))

/-! ### Rejoin hold (R474) -/

theorem odWf_setBits {p : P1} (h : odWf p.od = true) (k : Nat) (l : List (Nat × Bool)) : odWf (p.setBits k l).od = true :=
  List.foldlRecOn (motive := fun t : P1 => odWf t.od = true) l _ h fun _ ht _ _ => odWf_odPut ht _ _

/-- Bits that are not named stay. -/
theorem P1.setBits_bit_other {p : P1} (hwf : odWf p.od = true) {k n : Nat} {l : List (Nat × Bool)} (h : ∀ e ∈ l, n ≠ e.1) :
    (p.setBits k l).bit k n = p.bit k n :=
  (List.foldlRecOn (motive := fun t : P1 => odWf t.od = true ∧ t.bit k n = p.bit k n) l _ ⟨hwf, rfl⟩ fun t ht e he => by
    refine ⟨odWf_odPut ht.1 _ _, ?_⟩
    rw [P1.bit, P1.setBit_rd ht.1, if_pos rfl, bitOf_withBit_other _ _ _ _ (h e he)]
    exact ht.2).2

/-- 6400h:01 after `showSet` has bit 2 as before: rejoin hold is not one of the bits that it shows. -/
theorem showSet_hold {p : P1} (hwf : odWf p.od = true) : (showSet p).bit kRed 2 = p.bit kRed 2 := by
  unfold showSet
  extract_lets heard t u
  have ht : odWf t.od = true := odWf_setBits hwf ..
  have hbits : t.bit kRed 2 = p.bit kRed 2 := P1.setBits_bit_other hwf (by simp)
  have hlead : u.bit kRed 2 = t.bit kRed 2 := by
    unfold u
    rw [P1.bit, P1.setField_rd ht, if_pos rfl, bitOf_withField_below _ _ _ _ _ (by decide)]
    rfl
  have hshown : ∀ n ∈ [1, 2, 3], kRed ≠ ob 0x6401 n := by decide
  refine (List.foldlRecOn (motive := fun v : P1 => v.rd kRed = u.rd kRed) [1, 2, 3] _ rfl fun v hv n hn => ?_ :
    _ = u.rd kRed) |> congrArg (bitOf · 2) |>.trans (hlead.trans hbits)
  split
  · exact (P1.wr_rd_other (hshown n hn) _ _).trans hv
  · exact (P1.wr_rd_other (hshown n hn) _ _).trans hv

theorem P1.setBits_red (k : Nat) (l : List (Nat × Bool)) (s : P1) : (s.setBits k l).red = s.red :=
  (congrArg P1.red (P1.setBits_butCells k l s) :)

theorem showSet_red (p : P1) : (showSet p).red = p.red := by
  unfold showSet
  extract_lets heard t u
  have hu : u.red = p.red := (P1.wr_red ..).trans (P1.setBits_red ..)
  refine List.foldlRecOn (motive := fun v : P1 => v.red = p.red) [1, 2, 3] _ hu fun v hv n _ => ?_
  split
  · exact (P1.wr_red ..).trans hv
  · exact (P1.wr_red ..).trans hv

theorem rejoinEnd_due {p : P1} {g : Nat} (hsince : p.red.rejoinSince = some g)
    (hdue : p.rdN (ob 0x6400 8) * 1000000 ≤ p.elapsed - g) :
    rejoinEnd p = showSet (setRed (fun r => { r with rejoinSince := none }) (p.setBit kRed 2 false)) := by
  unfold rejoinEnd
  rw [hsince]
  exact if_pos hdue

theorem rejoinEnd_early {p : P1} {g : Nat} (hsince : p.red.rejoinSince = some g)
    (hearly : p.elapsed - g < p.rdN (ob 0x6400 8) * 1000000) : rejoinEnd p = p := by
  unfold rejoinEnd
  rw [hsince]
  exact if_neg (by omega)

/-- Settles O55: a message acts by its sender's role, a request by the role of this module, and what a Shadow follows is the mirror. -/
theorem redundancyMessagesAndRequests : Obligations.RedundancyMessagesAndRequests := by
  intro s w hup hserves
  refine ⟨fun m hother => ⟨?stranger, ?strangerHandOver⟩, fun m hpartner hrole => ?message,
    fun m x hpartner hlead hmirror hwrites hrole hwf => ?mirror, fun m hpartner hmirror hnominee hrole helig hnone => ?nominee,
    fun m hpartner hmirror hnominee hlo hhi => ?other, fun v hacc hv hrole hset hable => ?switch, fun v hacc hv hrole => ?noLead,
    fun g hsince hdue hwf => ?hold, fun g hsince hearly => onP1_idle hup (rejoinEnd_early hsince hearly),
    fun i x n hone => onMeasured_idle hup (if_pos (by simp [inSet, hone])), fun i x n hdp hset hhome => ?homeless,
    fun i x n u hdp hset hhome haway hu htakes => ?away, fun hdp => onP1_next hup (if_pos hdp), fun v hacc => onReq_eff hserves hacc⟩
  case stranger =>
    refine (if_pos hup).trans ?_
    unfold takeCycle
    rw [if_pos (by simp [hother])]
  case strangerHandOver =>
    refine (if_pos hup).trans ?_
    unfold takeHandOver
    rw [if_pos (by simp [hother])]
  case message =>
    obtain ⟨q, hpartners, hid, hmsg, hage⟩ := takeMessage_partners hrole s.p1
    have htaken : exec (.cycleMessage m) s = .next (s.core (takeMessage m s.p1)) := by
      refine (if_pos hup).trans ?_
      unfold takeCycle
      rw [if_neg (by simp [hpartner])]
      split
      · next h _ => exact absurd h hrole
      · rfl
    refine ⟨_, htaken, rfl, rfl, ⟨q, ?_, hid, hmsg, hage⟩, fun p hp hne => ?_⟩
    · simp [hpartners]
    · rw [State.core_p1, hpartners]
      exact List.mem_append_left _ (List.mem_filter.mpr ⟨hp, by simpa using hne⟩)
  case mirror =>
    have hfollows : s.p1.role ≠ 2 := by omega
    have hkept := takeMessage_cellsKept hlead hfollows hwf
    have hshadow : (takeMessage m s.p1).role = 1 := (role_of_raise (hkept.same hwf)).trans hrole
    have htaken : exec (.cycleMessage m) s = .next (s.core (setRed (fun r => { r with replay := some x })
        (followMirror x (setRed (fun r => { r with mirror := some x }) (takeMessage m s.p1))))) := by
      refine (if_pos hup).trans (congrArg _ ?_)
      rw [takeCycle_mirror hpartner hlead hmirror, takeMirror_shadow hshadow hwrites]
      rfl
    refine ⟨_, htaken, ?_, ?_, ?_, rfl, rfl, rfl⟩
    · exact followMirror_mode (s := setRed (fun r => { r with mirror := some x }) (takeMessage m s.p1)) (hkept.canonical hwf) x
    · rw [State.core_p1, setRed_red, followMirror_red]
      rfl
    · rw [State.core_p1, setRed_red]
  case nominee =>
    have helig := isEligible_senderDropped (source_lt_of_fromPartner hpartner) helig hnone
    have htaken : exec (.relinquishMessage m) s = .next (s.core (takeRelinquish m s.p1)) :=
      (if_pos hup).trans (congrArg _ (takeHandOver_bare hpartner hmirror))
    rw [takeRelinquish_nominee hnominee hrole helig, hmirror] at htaken
    exact ⟨_, htaken, rfl, hrole⟩
  case other =>
    have htaken : exec (.relinquishMessage m) s = .next (s.core (takeRelinquish m s.p1)) :=
      (if_pos hup).trans (congrArg _ (takeHandOver_bare hpartner hmirror))
    rw [takeRelinquish_other hnominee hlo hhi, hmirror] at htaken
    exact ⟨_, htaken, rfl, rfl, rfl, rfl⟩
  case switch =>
    have hany : ((recent s.p1).any fun p => (p.id : Int) = v && ableInView p s.p1) = true := by
      obtain ⟨p, hp, hid, habove⟩ := hable
      exact List.any_eq_true.mpr ⟨p, hp, by simp [hid, habove]⟩
    refine onReq_effect (r := switchOverRule w v) hserves hacc rfl ?_ rfl (if_neg hv)
    exact (if_neg hv).trans (if_pos (by simp [hrole, hset, hany]))
  case noLead =>
    exact onReq_checkRefused (r := switchOverRule w v) hserves hacc (by decide) rfl ((if_neg hv).trans (if_neg (by simp [hrole])))
  case hold =>
    have hbit : (s.p1.setBit kRed 2 false).bit kRed 2 = false := (P1.setBit_bit hwf ..).trans (if_pos rfl)
    refine ⟨_, onP1_next hup (rejoinEnd_due hsince hdue), ?_, ?_⟩
    · rw [State.core_p1, showSet_red]
      rfl
    · exact (showSet_hold (p := setRed (fun r => { r with rejoinSince := none }) (s.p1.setBit kRed 2 false))
        (odWf_odPut hwf ..)).trans hbit
  case homeless =>
    refine onMeasured_next hup ?_
    unfold takeRepublication
    dsimp only
    rw [if_neg (by simp [hdp, hset]), if_neg (by simp [hhome])]
  case away =>
    subst hu
    refine onMeasured_next hup ?_
    unfold takeRepublication
    dsimp only
    rw [if_neg (by simp [hdp, hset]), if_pos (by simp [hhome, haway, htakes])]

end Sys2Proof.Machine
end

section
/-! SUPPORT. Parameter writes and the store (R523, R527, R528, R530, R545, R548): what a save makes of the banks, step by step. -/

namespace Sys2Proof.Machine

/-! ### Parameter writes (R523) -/

theorem writeObject_plain {ans : Nat → P1 → P1} {w k : Nat} {x : Val} {s : State} (h : heldDie k = none) :
    writeObject ans w k x s = flushLinks (s.core (requestWith ans w k x (ruleOf s.p2 w k x s.p1) s.p1)) := by
  unfold writeObject
  rw [h]
  rfl

theorem requestWith_refused {ans : Nat → P1 → P1} {w k : Nat} {x : Val} {r : Rule P1} {p : P1} (h : verdict w k x r p ≠ 0) :
    requestWith ans w k x r p = ans (verdict w k x r p) (r.refused (verdict w k x r p) p) := if_neg h

theorem requestWith_taken {ans : Nat → P1 → P1} {w k : Nat} {x : Val} {r : Rule P1} {p : P1} (h : verdict w k x r p = 0)
    (hstages : stages w k x p = false) : requestWith ans w k x r p = ans 0 (forward w k x (takeEffect k x r.eff p)) := by
  unfold requestWith
  rw [if_pos h, if_neg (by simp [hstages])]

theorem parameterWrite_served {s : State} (hserves : s.p1.serves = true) (w i b : Nat) (d : List Byte) :
    exec (.parameterWrite w i b d) s =
      .next (writeObject (answer w (keyOf i b)) w (keyOf i b) (spelled (keyOf i b) d) s) := if_pos hserves

/-! ### The store beside records, alarms and answers -/

/-- The save under way, a save held, and the banks. -/
def P1.store (s : P1) : Option Save × Bool × Option Bank × Option Bank := (s.save, s.saveHeld, s.bankA, s.bankB)

theorem P1.store_of_alarm {a b : P1} (h : b.butAlarm = a.butAlarm) : b.store = a.store :=
  show b.butAlarm.store = a.butAlarm.store by rw [h]

theorem P1.store_of_written {a b : P1} (h : b.butWritten = a.butWritten) : b.store = a.store :=
  show b.butWritten.store = a.butWritten.store by rw [h]

theorem P1.bank_of_store {a b : P1} (h : b.store = a.store) (n : Nat) : b.bank n = a.bank n := by
  have hbanks (q : P1) : q.bank n = if n = 0 then q.store.2.2.1 else q.store.2.2.2 := rfl
  rw [hbanks, hbanks, h]

theorem P1.save_of_store {a b : P1} (h : b.store = a.store) : b.save = a.save := congrArg Prod.fst h

theorem P1.setBank_bank (s : P1) (n : Nat) (x : Option Bank) : (s.setBank n x).bank n = x := by
  unfold P1.setBank P1.bank
  split <;> rfl

theorem P1.setBank_other {n : Nat} (h : n < 2) (s : P1) (x : Option Bank) : (s.setBank n x).bank (1 - n) = s.bank (1 - n) := by
  unfold P1.setBank P1.bank
  rcases n with _ | _ | n
  · rfl
  · rfl
  · omega

theorem P1.setBank_save (s : P1) (n : Nat) (x : Option Bank) : (s.setBank n x).save = s.save := by
  unfold P1.setBank
  split <;> rfl

theorem P1.setBank_saveHeld (s : P1) (n : Nat) (x : Option Bank) : (s.setBank n x).saveHeld = s.saveHeld := by
  unfold P1.setBank
  split <;> rfl

theorem P1.setBank_od (s : P1) (n : Nat) (x : Option Bank) : (s.setBank n x).od = s.od := by
  unfold P1.setBank
  split <;> rfl

theorem P1.store_of_cells {a b : P1} (h : b.butCells = a.butCells) : b.store = a.store :=
  show b.butCells.store = a.butCells.store by rw [h]

theorem P1.store_wr (k : Nat) (v : Int) (s : P1) : (s.wr k v).store = s.store := P1.store_of_cells (P1.wr_butCells ..)

theorem P1.store_inc (k : Nat) (s : P1) : (s.inc k).store = s.store := P1.store_wr ..

theorem P1.store_setBit (k n : Nat) (b : Bool) (s : P1) : (s.setBit k n b).store = s.store := P1.store_wr ..

theorem showStore_store (s : P1) : (showStore s).store = s.store := (P1.store_setBit ..).trans (P1.store_setBit ..)

/-- 6500h:02 alone shows the state of the store. -/
theorem showStore_sameCells (s : P1) : sameCells (· = ob 0x6500 2) s (showStore s) :=
  (sameCells.wr (by simp) _ s).trans (.wr (by simp) _ _)

/-! ### Saves (R527, R528) -/

/-- The bank that is not active. -/
def saveTarget (s : P1) : Nat := if s.rdN (ob 0x6500 3) = 0 then 1 else 0

theorem saveTarget_lt (s : P1) : saveTarget s < 2 := by
  unfold saveTarget
  split <;> omega

/-- The save that begins now. -/
def newSave (s : P1) : Save :=
  ⟨1, saveTarget s, ⟨if s.rdN (ob 0x6500 3) = 0xFF then 1 else (s.rdN (ob 0x6500 4) + 1) % 2 ^ 32, s.ns, setCheckOf s, imageBody s⟩,
    s.elapsed⟩

theorem beginSave_store (s : P1) :
    (beginSave s).store = (({ s with save := some (newSave s) } : P1).setBank (saveTarget s) none).store := showStore_store _

theorem requestSave_idle {s : P1} (h : s.save = none) : requestSave s = beginSave s := if_neg (by simp [h])

theorem requestSave_running {s : P1} (h : s.save.isSome = true) : requestSave s = showStore { s with saveHeld := true } := if_pos h

/-- The cells in which the end of a save shows, beside those of its counts and image. -/
def storeCell (k : Nat) : Bool := raiseCell k || k = ob 0x6500 2

theorem storeCell_of_raiseCell (k : Nat) (h : raiseCell k = true) : storeCell k = true := by simp [storeCell, h]

/-- Where no save is held, none follows. -/
theorem nextSave_none {s : P1} (h : s.saveHeld = false) :
    (nextSave s).store = s.store ∧ sameCells storeCell s (nextSave s) := by
  have hshow : nextSave s = showStore s := if_neg (by simp [h])
  rw [hshow]
  exact ⟨showStore_store s, (showStore_sameCells s).mono fun k hk => by simp_all [storeCell]⟩

theorem saveHeld_of_store {a b : P1} (h : b.store = a.store) : b.saveHeld = a.saveHeld := congrArg (fun x => x.2.1) h

/-- The end of a save that has succeeded, and of one that has failed: its record and alarm. -/
theorem saveEnd_keeps {s : P1} (h : s.saveHeld = false) (n : Nat) :
    (nextSave (lower 0x0F01 0 (record 0x0F00 n s))).store = s.store
      ∧ sameCells storeCell s (nextSave (lower 0x0F01 0 (record 0x0F00 n s))) := by
  have hstore : (lower 0x0F01 0 (record 0x0F00 n s)).store = s.store :=
    P1.store_of_alarm ((lower_butAlarm ..).trans (P1.butAlarm_of_can (P1.butCan_of_record (record_butRecord ..))))
  have hsame : sameCells raiseCell s (lower 0x0F01 0 (record 0x0F00 n s)) :=
    ((record_sameCounters _ _ _).mono raiseCell_of_answerCounter).trans ((lower_sameCells _ _ _).mono raiseCell_of_alarmCell)
  obtain ⟨hshown, hcells⟩ := nextSave_none ((saveHeld_of_store hstore).trans h)
  exact ⟨hshown.trans hstore, (hsame.mono storeCell_of_raiseCell).trans hcells⟩

theorem saveFailure_keeps {s : P1} (h : s.saveHeld = false) (n : Nat) :
    (nextSave (recordAlarm true 0x0F01 n 0 s)).store = s.store
      ∧ sameCells storeCell s (nextSave (recordAlarm true 0x0F01 n 0 s)) := by
  have hstore : (recordAlarm true 0x0F01 n 0 s).store = s.store := P1.store_of_alarm (recordAlarm_butAlarm ..)
  have hsame : sameCells raiseCell s (recordAlarm true 0x0F01 n 0 s) :=
    ((record_sameCounters _ _ _).mono raiseCell_of_answerCounter).trans (raiseIn_sameCells _ _ _ _)
  obtain ⟨hshown, hcells⟩ := nextSave_none ((saveHeld_of_store hstore).trans h)
  exact ⟨hshown.trans hstore, (hsame.mono storeCell_of_raiseCell).trans hcells⟩

/-- The image of a save stands in its bank, and the store names it. -/
def imageNamed (m : Save) (s : P1) : P1 :=
  ({ s with save := none }.setBank m.target (some m.image) |>.wr (ob 0x6500 3) m.target).wr (ob 0x6500 4) m.image.sequence

/-- The image of a save is the active bank. -/
def imageActive (m : Save) (s : P1) : P1 :=
  (((imageNamed m s).inc (ob 0x6500 5)).wr (ob 0x6500 7) m.image.saveTime).wr (ob 0x6500 8) (imageLength s)
    |>.setBit (ob 0x6500 2) 2 false

theorem imageActive_store (m : Save) (s : P1) :
    (imageActive m s).store = ({ s with save := none }.setBank m.target (some m.image)).store := by
  unfold imageActive imageNamed
  rw [P1.store_setBit, P1.store_wr, P1.store_wr, P1.store_inc, P1.store_wr, P1.store_wr]

/-- The cells that a save leaves beside the name of its bank. -/
def imageCell (k : Nat) : Bool := k = ob 0x6500 2 || k = ob 0x6500 5 || k = ob 0x6500 7 || k = ob 0x6500 8

theorem imageActive_sameCells (m : Save) (s : P1) : sameCells imageCell (imageNamed m s) (imageActive m s) :=
  (((sameCells.inc (by decide) _).trans (.wr (by decide) _ _)).trans (.wr (by decide) _ _)).trans (.wr (by decide) _ _)

theorem imageNamed_rd {s : P1} (hwf : odWf s.od = true) (m : Save) :
    (imageNamed m s).rd (ob 0x6500 3) = m.target ∧ (imageNamed m s).rd (ob 0x6500 4) = m.image.sequence := by
  have hbank : odWf ({ s with save := none }.setBank m.target (some m.image)).od = true := by
    rw [P1.setBank_od]
    exact hwf
  unfold imageNamed
  refine ⟨?_, ?_⟩
  · rw [P1.wr_rd_other (by decide), P1.wr_rd hbank, if_pos rfl]
  · rw [P1.wr_rd (odWf_odPut hbank ..), if_pos rfl]

/-- What the event of a step makes of a save that runs since an earlier grain. -/
theorem saveStep_later {s : P1} {m : Save} (hsave : s.save = some m) (hgrain : m.grain ≠ s.elapsed) (ok : Bool) :
    saveStep ok s =
      if s.stopped (dmaAddr 1) then saveFails m 7 s
      else if !ok then saveFails m 6 s
      else if m.step < 3 then { s with save := some { m with step := m.step + 1 } }
      else nextSave (lower 0x0F01 0 (record 0x0F00 (packDetails [(8, m.target), (24, m.image.sequence)]) (imageActive m s))) := by
  unfold saveStep
  rw [hsave]
  exact if_neg hgrain

theorem saveStep_sameGrain {s : P1} {m : Save} (hsave : s.save = some m) (hgrain : m.grain = s.elapsed) (ok : Bool) :
    saveStep ok s = s := by
  unfold saveStep
  rw [hsave]
  exact if_pos hgrain

theorem saveStep_none {s : P1} (h : s.save = none) (ok : Bool) : saveStep ok s = s := by
  unfold saveStep
  rw [h]

/-- A step that fails ends its save; the banks and the number of the active one stay. -/
theorem saveFails_keeps {s : P1} (hheld : s.saveHeld = false) (m : Save) (cause : Nat) :
    (saveFails m cause s).store = (none, false, s.bankA, s.bankB)
      ∧ (saveFails m cause s).rd (ob 0x6500 3) = s.rd (ob 0x6500 3) := by
  have hcounted : (({ s with save := none }.inc (ob 0x6500 6)).setBit (ob 0x6500 2) 2 true).store
      = (none, false, s.bankA, s.bankB) := by
    rw [P1.store_setBit, P1.store_inc, ← hheld]
    rfl
  have hcell : (({ s with save := none }.inc (ob 0x6500 6)).setBit (ob 0x6500 2) 2 true).rd (ob 0x6500 3) = s.rd (ob 0x6500 3) :=
    (P1.wr_rd_other (by decide) _ _).trans (P1.wr_rd_other (by decide) _ _)
  obtain ⟨hstore, hsame⟩ := saveFailure_keeps (congrArg (fun x => x.2.1) hcounted) (packDetails [(8, m.step), (8, cause)])
  exact ⟨hstore.trans hcounted, (hsame _ (by decide)).trans hcell⟩

/-- The third step ends the save: its image is the active bank, and the other bank stays. -/
theorem saveStep_third {s : P1} {m : Save} (hsave : s.save = some m) (hgrain : m.grain ≠ s.elapsed)
    (hworks : s.stopped (dmaAddr 1) = false) (hstep : 3 ≤ m.step) (hheld : s.saveHeld = false) :
    (saveStep true s).store = ({ s with save := none }.setBank m.target (some m.image)).store
      ∧ sameCells storeCell (imageActive m s) (saveStep true s) := by
  have hnone : (imageActive m s).saveHeld = false :=
    (saveHeld_of_store (imageActive_store m s)).trans ((P1.setBank_saveHeld ..).trans hheld)
  obtain ⟨hstore, hsame⟩ := saveEnd_keeps hnone (packDetails [(8, m.target), (24, m.image.sequence)])
  rw [saveStep_later hsave hgrain, if_neg (by simp [hworks]), if_neg (by simp), if_neg (by omega)]
  exact ⟨hstore.trans (imageActive_store m s), hsame⟩

theorem saved_rd {s : P1} {m : Save} (hwf : odWf s.od = true) {q : P1} (h : sameCells storeCell (imageActive m s) q) :
    q.rdN (ob 0x6500 3) = m.target ∧ q.rd (ob 0x6500 4) = m.image.sequence := by
  obtain ⟨hname, hsequence⟩ := imageNamed_rd hwf m
  have hcell : q.rd (ob 0x6500 3) = m.target :=
    (h _ (by decide)).trans ((imageActive_sameCells m s _ (by decide)).trans hname)
  refine ⟨?_, (h _ (by decide)).trans ((imageActive_sameCells m s _ (by decide)).trans hsequence)⟩
  rw [P1.rdN, hcell, Int.toNat_natCast]

theorem onSup_next {f : P1 → P1} {s : State} {p : P1} (hserves : s.p1.serves = true) (h : f s.p1 = p) :
    onSup f s = .next (s.core p) := by
  rw [onSup_run hserves, h]
  rfl

/-- Outside Dormant a save is taken. -/
theorem storeSave_accepted {s : State} {w : Nat} {v : Int} (hserves : s.p1.serves = true)
    (hacc : accepted w (ob 0x6500 1) (.num v) s.p1) (hmode : s.p1.mode ≠ 0) :
    exec (.storeSave w v) s = .next (written w (ob 0x6500 1) (.num v) requestSave s) :=
  onReq_accepted (r := saveRule) hserves hacc (if_neg hmode) rfl rfl

theorem sessionIdle_of {n : Nat} {x : Session} {p : P1} (h : session? n p = some x) :
    idleClose n p = if p.rdN (ob 0x6600 8) * 1000000 ≤ p.elapsed - x.lastGrain then closeSession n p else p := by
  unfold idleClose
  rw [h]

/-- Settles O51: a write goes by the verdict of its rule, a save by its steps, and what is idle ends at its time. -/
theorem parameterWritesAndTheStore : Obligations.ParameterWritesAndTheStore := by
  intro s w hup hserves
  refine ⟨fun i b d => ?refused, fun i b d => ?taken, fun v hacc hmode hsave => ?begins, fun v hacc hmode => ?dormant,
    fun v hacc hmode hsave => ?held, fun m hsave hgrain => ?sealed, fun b hsave => onP1_idle hup (saveStep_none hsave b),
    fun m b hsave hgrain => onP1_idle hup (saveStep_sameGrain hsave hgrain b), fun m hsave hgrain hworks hstep => ?step,
    fun m hsave hgrain hworks hstep htarget hheld hwf => ?third, fun m b hsave hgrain hfails hheld => ?fails,
    fun v hacc hmode => onReq_accepted (r := eraseRule) hserves hacc (if_pos hmode) rfl rfl, fun n x hopen hidle => ?idle,
    fun n x hopen hearly => ?early, fun i b g hg hholder hkey hidle => ?buffer, fun i b hearly => ?bufferEarly⟩
  case refused =>
    intro k x r hheld hlink hverdict hrefused
    rw [parameterWrite_served hserves, writeObject_plain hheld, requestWith_refused hverdict, flushLinks_none]
    exact (congrArg P1.linkOut (answer_butAnswer w k _ _) :).trans hrefused
  case taken =>
    intro k x r hheld hverdict hstages
    rw [parameterWrite_served hserves, writeObject_plain hheld, requestWith_taken hverdict hstages]
  case begins =>
    have hstore := P1.store_of_written (written_butWritten w (ob 0x6500 1) (.num v) requestSave s)
    rw [requestSave_idle hsave] at hstore
    have hbegun := hstore.trans (beginSave_store s.p1)
    refine ⟨_, newSave s.p1, storeSave_accepted hserves hacc hmode, ?_, rfl, rfl, ?_, ?_, rfl⟩
    · exact (P1.save_of_store hbegun).trans (P1.setBank_save ..)
    · exact (P1.bank_of_store hbegun _).trans (P1.setBank_bank ..)
    · exact (P1.bank_of_store hbegun _).trans (P1.setBank_other (saveTarget_lt s.p1) _ none)
  case dormant => exact onReq_modeRefused (r := saveRule) hserves hacc (by decide) (if_pos hmode)
  case held =>
    have hstore := P1.store_of_written (written_butWritten w (ob 0x6500 1) (.num v) requestSave s)
    rw [requestSave_running hsave, showStore_store] at hstore
    exact ⟨_, storeSave_accepted hserves hacc hmode, congrArg Prod.fst hstore, congrArg (fun x => x.2.1) hstore,
      congrArg (fun x => x.2.2.1) hstore, congrArg (fun x => x.2.2.2) hstore⟩
  case sealed =>
    unfold sealImage
    rw [hsave]
    dsimp only
    rw [if_pos hgrain]
    exact ⟨_, rfl, rfl, rfl, rfl, rfl, rfl⟩
  case step =>
    refine onP1_next hup ?_
    rw [saveStep_later hsave hgrain, if_neg (by simp [hworks]), if_neg (by simp), if_pos hstep]
  case third =>
    obtain ⟨hstore, hsame⟩ := saveStep_third hsave hgrain hworks hstep hheld
    obtain ⟨hname, hsequence⟩ := saved_rd hwf hsame
    refine ⟨_, onP1_next hup rfl, ?_, ?_, hname, hsequence, ?_⟩
    · exact (P1.save_of_store hstore).trans (P1.setBank_save ..)
    · exact (P1.bank_of_store hstore _).trans (P1.setBank_bank ..)
    · exact (P1.bank_of_store hstore _).trans (P1.setBank_other htarget _ _)
  case fails =>
    have hfailed : ∃ cause, saveStep b s.p1 = saveFails m cause s.p1 := by
      rw [saveStep_later hsave hgrain]
      split
      · exact ⟨7, rfl⟩
      · next hworks =>
        have hbad : b = false := hfails.resolve_right hworks
        exact ⟨6, if_pos (by simp [hbad])⟩
    obtain ⟨cause, hstep⟩ := hfailed
    obtain ⟨hstore, hcell⟩ := saveFails_keeps hheld m cause
    exact ⟨_, onP1_next hup hstep, congrArg Prod.fst hstore, congrArg (fun x => x.2.2.1) hstore,
      congrArg (fun x => x.2.2.2) hstore, hcell⟩
  case idle =>
    have hclosed : exec (.sessionIdle n) s = .next (s.core (closeSession (n + 1) s.p1)) :=
      onSup_next hserves ((sessionIdle_of hopen).trans (if_pos hidle))
    have hnone : session? (n + 1) (closeSession (n + 1) s.p1) = none := closeSession_closed ..
    exact ⟨_, hclosed, hnone, State.core_p2 .., State.core_p3 ..⟩
  case early => exact onSup_next hserves ((sessionIdle_of hopen).trans (if_neg (by omega)))
  case buffer =>
    have hdue : (s.p1.bufs.any fun g => g.holder = .session w && g.key = keyOf i b && 10000000 ≤ s.p1.elapsed - g.lastGrain) = true :=
      List.any_eq_true.mpr ⟨g, hg, by simp [hholder, hkey, hidle]⟩
    exact onSup_next (f := bufferTimeout w (keyOf i b)) hserves (if_pos hdue)
  case bufferEarly =>
    have hdue : ¬ (s.p1.bufs.any fun g => g.holder = .session w && g.key = keyOf i b && 10000000 ≤ s.p1.elapsed - g.lastGrain) = true := by
      simp only [List.any_eq_true, Bool.and_eq_true, decide_eq_true_eq, not_exists, not_and, and_imp, not_le]
      exact hearly
    exact onSup_next (f := bufferTimeout w (keyOf i b)) hserves (if_neg hdue)

end Sys2Proof.Machine
end

section
/-! SUPPORT. The DP pair, its nodes and groups, and the sensor and service ports (R421–R431, R454): what each event leaves of 5900h:01, of
the queues and of the node table. -/

namespace Sys2Proof.Machine

/-! ### The network beside cells, alarms and answers -/

theorem P1.net_of_alarm {a b : P1} (h : b.butAlarm = a.butAlarm) : b.net = a.net := (congrArg P1.net h :)

theorem recordAlarm_net (bad : Bool) (code p q : Nat) (s : P1) : (recordAlarm bad code p q s).net = s.net :=
  P1.net_of_alarm (recordAlarm_butAlarm ..)

theorem netSend_cellsKept (c : Fin 8) (x : NetItem) (s : P1) : CellsKept (· = ob 0x5900 0x11) s (netSend c x s) := by
  unfold netSend
  split
  · exact .refl ..
  · split
    · exact .of_od rfl
    · exact .inc (by simp) s

theorem netSend_joined (c : Fin 8) (x : NetItem) (s : P1) : (netSend c x s).net.joined = s.net.joined := by
  unfold netSend
  split
  · rfl
  · split <;> rfl

/-- An item enters its queue where a port of the pair and the network queues work, and the item may go (R422, R454). -/
theorem netSend_sent {c : Fin 8} {x : NetItem} {s : P1} (hdp : dpDown s = false) (hpkt : pktOn s = true)
    (hmay : x.bare = true ∨ s.rd (ob 0x5900 3) ≠ 0) (hroom : s.net.tx[c].length < 1024) :
    netSend c x s = { s with net := { s.net with
      tx := upd s.net.tx c fun l => l ++ [x]
      prpSeq := if x.bare then s.net.prpSeq else (s.net.prpSeq + 1) % 65536 } } := by
  unfold netSend
  rw [if_neg ?_, if_pos hroom]
  rcases hmay with h | h <;> simp [hdp, hpkt, h]

theorem netSend_noAddress {c : Fin 8} {x : NetItem} {s : P1} (hbare : x.bare = false) (haddress : s.rd (ob 0x5900 3) = 0) :
    netSend c x s = s := if_pos (by simp [hbare, haddress])

theorem sendResponse_joined (i : Nat) (a : Answer) (s : P1) : (sendResponse i a s).net.joined = s.net.joined := by
  unfold sendResponse
  split
  · split_ifs <;> rfl
  · extract_lets p
    split_ifs <;> rfl

theorem answer_joined (w k a : Nat) (s : P1) : (answer w k a s).net.joined = s.net.joined := by
  have hwith (q : Answer) : (answerWith q s).net.joined = s.net.joined := by
    unfold answerWith
    extract_lets keep t
    split
    · exact congrArg Network.joined (congrArg P1.net (canQueue_butCan ..) :)
    · split
      · exact sendResponse_joined ..
      · rfl
  unfold answer
  split
  · rfl
  · exact hwith _

theorem written_joined (w k : Nat) (x : Val) (f : P1 → P1) (s : State) :
    (written w k x f s).p1.net.joined = (f s.p1).net.joined :=
  (answer_joined ..).trans (by rw [forward_frame])

/-! ### Bits and fields of 5900h:01 -/

theorem fieldOf_withBit {n lo width : Nat} (h : n < lo ∨ lo + width ≤ n) (v : Int) (b : Bool) :
    fieldOf (withBit v n b) lo width = fieldOf v lo width :=
  fieldOf_congr _ _ _ _ fun i hi hlt => bitOf_withBit_other _ _ _ _ (by omega)

theorem setLanFault_status {s : P1} (hwf : odWf s.od = true) (p : DpPort) :
    odWf (setLanFault p s).od = true ∧ (setLanFault p s).rd kNet = withBit (s.rd kNet) (2 + dpIdx p) true := by
  have hkept := recordAlarm_cellsKept true 0x0D01 (packDetails [(8, 1), (8, dpIdx p)]) (packDetails [(8, 1), (8, dpIdx p)])
    (s.setBit kNet (2 + dpIdx p) true)
  have hset : odWf (s.setBit kNet (2 + dpIdx p) true).od = true := odWf_odPut hwf ..
  unfold setLanFault
  split
  · next h => exact ⟨hwf, (if_pos h).symm⟩
  · exact ⟨hkept.canonical hset, (hkept.same hset kNet (by decide)).trans ((P1.setBit_rd hwf ..).trans (if_pos rfl))⟩

theorem clearLanFault_status {s : P1} (hwf : odWf s.od = true) (p : DpPort) :
    odWf (clearLanFault p s).od = true ∧ (clearLanFault p s).rd kNet = withBit (s.rd kNet) (2 + dpIdx p) false := by
  have hkept := recordAlarm_cellsKept false 0x0D01 (packDetails [(8, 0), (8, dpIdx p)]) (packDetails [(8, 1), (8, dpIdx p)])
    (s.setBit kNet (2 + dpIdx p) false)
  have hset : odWf (s.setBit kNet (2 + dpIdx p) false).od = true := odWf_odPut hwf ..
  unfold clearLanFault
  split
  · exact ⟨hkept.canonical hset, (hkept.same hset kNet (by decide)).trans ((P1.setBit_rd hwf ..).trans (if_pos rfl))⟩
  · next h => exact ⟨hwf, (if_pos (Bool.eq_false_iff.mpr h)).symm⟩

theorem setLanFault_net (p : DpPort) (s : P1) : (setLanFault p s).net = s.net := by
  unfold setLanFault
  split
  · rfl
  · exact (recordAlarm_net ..).trans rfl

theorem clearLanFault_net (p : DpPort) (s : P1) : (clearLanFault p s).net = s.net := by
  unfold clearLanFault
  split
  · exact (recordAlarm_net ..).trans rfl
  · rfl

/-- RATE_MISMATCH is bit 4 of the status. -/
theorem judgeRates_status {s : P1} (hwf : odWf s.od = true) : ∃ b, (judgeRates s).rd kNet = withBit (s.rd kNet) 4 b := by
  have hbit (b : Bool) : (s.setBit kNet 4 b).rd kNet = withBit (s.rd kNet) 4 b := (P1.setBit_rd hwf ..).trans (if_pos rfl)
  unfold judgeRates
  dsimp only
  split
  · exact ⟨true, (raiseIn_sameCells _ _ _ _ kNet (by decide)).trans (hbit true)⟩
  · exact ⟨false, (lower_sameCells _ _ _ kNet (by decide)).trans (hbit false)⟩

/-! ### Links (R421, R425, R430, R431) -/

theorem record_status {s : P1} (hwf : odWf s.od = true) (code param : Nat) :
    odWf (record code param s).od = true ∧ (record code param s).rd kNet = s.rd kNet :=
  ⟨(record_cellsKept code param s).canonical hwf, record_sameCounters code param s kNet (by decide)⟩

theorem igmpReports_cellsKept (s : P1) : CellsKept (· = ob 0x5900 0x11) s (igmpReports s) :=
  .foldl (fun t g => netSend_cellsKept 4 (.igmpReport g) t) _ s

/-- The status with the link and rate of a DP port. -/
def linkStatus (d : DpPort) (up : Bool) (rate : Nat) (v : Int) : Int :=
  withField (withBit v (dpIdx d) up) (8 + 2 * dpIdx d) 2 (if up then rate else 0)

/-- The record of a link that goes up or down. -/
def linkRecorded (p : NetPort) (up : Bool) (s : P1) : P1 :=
  record 0x0D00 (packDetails [(8, if up then 0 else 1), (8, portIdx p)]) s

theorem linkRecorded_status {s : P1} (hwf : odWf s.od = true) (p : NetPort) (up : Bool) :
    odWf (linkRecorded p up s).od = true ∧ (linkRecorded p up s).rd kNet = s.rd kNet := record_status hwf ..

/-- A DP port once its link and rate are shown. -/
def portLinked (d : DpPort) (up : Bool) (rate : Nat) (s : P1) : P1 :=
  ((linkRecorded (.dp d) up s).setBit kNet (dpIdx d) up).setField kNet (8 + 2 * dpIdx d) 2 (if up then rate else 0)

/-- A DP port from whose link-up its silence counts. -/
def linkedNow (d : DpPort) (n : Nat) (s : P1) : P1 := { s with net := { s.net with linkAt := s.net.linkAt.set! (dpIdx d) n } }

theorem portLinked_status {s : P1} (hwf : odWf s.od = true) (d : DpPort) (up : Bool) (rate : Nat) :
    odWf (portLinked d up rate s).od = true ∧ (portLinked d up rate s).rd kNet = linkStatus d up rate (s.rd kNet) := by
  obtain ⟨hrecorded, hsame⟩ := linkRecorded_status hwf (.dp d) up
  have hbit : odWf ((linkRecorded (.dp d) up s).setBit kNet (dpIdx d) up).od = true := odWf_odPut hrecorded ..
  refine ⟨odWf_odPut hbit .., ?_⟩
  rw [portLinked, P1.setField_rd hbit, if_pos rfl, P1.setBit_rd hrecorded, if_pos rfl, hsame, linkStatus]

theorem linkChange_down {d : DpPort} {s : P1} (hon : dpOn (dpIdx d) s = true) (rate : Nat) :
    linkChange (.dp d) false rate s = judgeRates (setLanFault d (portLinked d false rate s)) := if_neg (by simp [hon])

theorem linkChange_up {d : DpPort} {rate : Nat} {s : P1} (hon : dpOn (dpIdx d) s = true) (hrate : rate = 1 ∨ rate = 2) :
    linkChange (.dp d) true rate s
      = judgeRates (igmpReports (clearLanFault d (linkedNow d s.elapsed (portLinked d true rate s)))) :=
  if_neg (by rcases hrate with rfl | rfl <;> simp [hon])

/-- A port whose link goes down has a LAN fault. -/
theorem linkChange_down_status {d : DpPort} {s : P1} (hon : dpOn (dpIdx d) s = true) (hwf : odWf s.od = true) (rate : Nat) :
    ∃ b, (linkChange (.dp d) false rate s).rd kNet = withBit (withBit (linkStatus d false rate (s.rd kNet)) (2 + dpIdx d) true) 4 b := by
  obtain ⟨hlinked, hlink⟩ := portLinked_status hwf d false rate
  obtain ⟨hfault, hstatus⟩ := setLanFault_status hlinked d
  obtain ⟨b, hrates⟩ := judgeRates_status hfault
  exact ⟨b, by rw [linkChange_down hon, hrates, hstatus, hlink]⟩

/-- A port whose link goes up has none. -/
theorem linkChange_up_status {d : DpPort} {rate : Nat} {s : P1} (hon : dpOn (dpIdx d) s = true) (hrate : rate = 1 ∨ rate = 2)
    (hwf : odWf s.od = true) :
    ∃ b, (linkChange (.dp d) true rate s).rd kNet = withBit (withBit (linkStatus d true rate (s.rd kNet)) (2 + dpIdx d) false) 4 b := by
  obtain ⟨hlinked, hlink⟩ := portLinked_status hwf d true rate
  obtain ⟨hclear, hstatus⟩ := clearLanFault_status (s := linkedNow d s.elapsed (portLinked d true rate s)) hlinked d
  have hreports := igmpReports_cellsKept (clearLanFault d (linkedNow d s.elapsed (portLinked d true rate s)))
  obtain ⟨b, hrates⟩ := judgeRates_status (hreports.canonical hclear)
  refine ⟨b, ?_⟩
  rw [linkChange_up hon hrate, hrates, hreports.same hclear kNet (by decide), hstatus]
  exact congrArg (fun v => withBit (withBit v (2 + dpIdx d) false) 4 b) hlink

/-- What 5900h:01 shows of a DP port. -/
theorem linkStatus_shows {d : DpPort} {up : Bool} {rate : Nat} {v : Int} {q : P1} (hrate : (if up then rate else 0) < 4) {b : Bool}
    (h : q.rd kNet = withBit (withBit (linkStatus d up rate v) (2 + dpIdx d) !up) 4 b) :
    q.bit kNet (dpIdx d) = up ∧ q.bit kNet (2 + dpIdx d) = !up
      ∧ q.field kNet (8 + 2 * dpIdx d) 2 = if up then rate else 0 := by
  have hidx : dpIdx d < 2 := by cases d <;> decide
  refine ⟨?_, ?_, ?_⟩
  · rw [P1.bit, h, bitOf_withBit_other _ _ _ _ (by omega), bitOf_withBit_other _ _ _ _ (by omega), linkStatus,
      bitOf_withField_below _ _ _ _ _ (by omega), bitOf_withBit]
  · rw [P1.bit, h, bitOf_withBit_other _ _ _ _ (by omega), bitOf_withBit]
  · rw [P1.field, h, fieldOf_withBit (by omega), fieldOf_withBit (by omega), linkStatus, fieldOf_withField]
    exact Nat.mod_eq_of_lt hrate

theorem sensorReports_cellsKept (q : Fin 4) (s : P1) : CellsKept (· = ob (0x5930 + q) 0x0C) s (sensorReports q s) := by
  refine .foldl (fun t g => ?_) _ s
  unfold sensorSend
  split
  · exact .of_od rfl
  · exact .inc (by simp) t

/-- A sensor port once its link and rate are shown. -/
def sensorLinked (q : Fin 4) (up : Bool) (rate : Nat) (s : P1) : P1 :=
  ((linkRecorded (.sensor q) up s).setBit kNet (12 + q) up).wr (ob (0x5930 + q) 5) (if up then rate else 0)

theorem linkChange_sensor_eq {q : Fin 4} {up : Bool} {rate : Nat} {s : P1} (hon : sensorOn q s = true)
    (hspeed : up = true → sensorSpeed q rate s = true) : linkChange (.sensor q) up rate s =
      if up then sensorReports q (sensorLinked q up rate s) else sensorLinked q up rate s := by
  refine if_neg ?_
  cases up with
  | false => simp [hon]
  | true => simp [hon, hspeed]

/-- The link of a sensor port shows in its bit and in its rate. -/
theorem linkChange_sensor {q : Fin 4} {up : Bool} {rate : Nat} {s : P1} (hon : sensorOn q s = true)
    (hspeed : up = true → sensorSpeed q rate s = true) (hwf : odWf s.od = true) :
    (linkChange (.sensor q) up rate s).bit kNet (12 + q) = up
      ∧ (linkChange (.sensor q) up rate s).rd (ob (0x5930 + q) 5) = if up then (rate : Int) else 0 := by
  obtain ⟨ht, -⟩ := linkRecorded_status hwf (.sensor q) up
  have hbit : odWf ((linkRecorded (.sensor q) up s).setBit kNet (12 + q) up).od = true := odWf_odPut ht ..
  have hlinked : odWf (sensorLinked q up rate s).od = true := odWf_odPut hbit ..
  have hkeys : ∀ p : Fin 4, kNet ≠ ob (0x5930 + p) 5 ∧ kNet ≠ ob (0x5930 + p) 0x0C ∧ ob (0x5930 + p) 5 ≠ ob (0x5930 + p) 0x0C := by
    decide
  obtain ⟨hrate, hcount, hapart⟩ := hkeys q
  have hlink : (sensorLinked q up rate s).bit kNet (12 + q) = up := by
    rw [sensorLinked, P1.bit, P1.wr_rd hbit, if_neg hrate]
    exact (P1.setBit_bit ht ..).trans (if_pos rfl)
  have hshown : (sensorLinked q up rate s).rd (ob (0x5930 + q) 5) = if up then (rate : Int) else 0 := by
    rw [sensorLinked, P1.wr_rd hbit, if_pos rfl]
  have hreports := (sensorReports_cellsKept q (sensorLinked q up rate s)).same hlinked
  rw [linkChange_sensor_eq hon hspeed]
  cases up with
  | false => exact ⟨hlink, hshown⟩
  | true =>
    refine ⟨?_, (hreports _ (decide_eq_false hapart)).trans hshown⟩
    rw [if_pos rfl, P1.bit, hreports kNet (decide_eq_false hcount)]
    exact hlink

theorem linkChange_service {q : Fin 2} {up : Bool} {rate : Nat} {s : P1} (hon : serviceOn q s = true)
    (hrate : up = true → rate = 1 ∨ rate = 2) (hwf : odWf s.od = true) :
    (linkChange (.service q) up rate s).bit kNet (16 + q) = up := by
  obtain ⟨ht, -⟩ := linkRecorded_status hwf (.service q) up
  have hlink : linkChange (.service q) up rate s = (linkRecorded (.service q) up s).setBit kNet (16 + q) up := by
    refine if_neg ?_
    simp only [hon, Bool.not_true, Bool.false_or, Bool.and_eq_true, decide_eq_true_eq, not_and, and_imp]
    exact fun h1 h2 h3 => (hrate h1).elim h2 h3
  rw [hlink]
  exact (P1.setBit_bit ht ..).trans (if_pos rfl)

/-- An SFP change shows the rate of its module, 0 for one of another type (R421, R570). -/
theorem sfpChange_rate {s : P1} (hwf : odWf s.od = true) (p : DpPort) (up : Bool) (rate : Nat) :
    (sfpChange p up rate s).field kNet (8 + 2 * dpIdx p) 2 = if up = true ∧ (rate = 1 ∨ rate = 2) then rate else 0 := by
  unfold sfpChange
  obtain ⟨ht, -⟩ := record_status hwf 0x0D08 (packDetails [(8, if up then 1 else 0), (8, dpIdx p)])
  obtain ⟨b, hrates⟩ := judgeRates_status (s := (record 0x0D08 (packDetails [(8, if up then 1 else 0), (8, dpIdx p)]) s).setField kNet
    (8 + 2 * (dpIdx p)) 2 (if up && (rate = 1 || rate = 2) then rate else 0)) (odWf_odPut ht ..)
  rw [P1.field, hrates, fieldOf_withBit (by omega), P1.setField_rd ht, if_pos rfl, fieldOf_withField]
  simp only [Bool.and_eq_true, Bool.or_eq_true, decide_eq_true_eq]
  refine Nat.mod_eq_of_lt ?_
  split
  · next h => rcases h.2 with rfl | rfl <;> decide
  · decide

/-! ### Frames and nodes (R423, R424) -/

theorem portHears_net (p : DpPort) (s : P1) :
    (portHears p s).net = { s.net with heardAt := s.net.heardAt.set! (dpIdx p) (some s.elapsed) } := clearLanFault_net ..

theorem portHears_elapsed (p : DpPort) (s : P1) : (portHears p s).elapsed = s.elapsed := by
  unfold portHears clearLanFault
  split
  · exact (congrArg P1.elapsed (recordAlarm_butAlarm ..) :)
  · rfl

theorem portHears_od {p : DpPort} {s : P1} (h : s.bit kNet (2 + dpIdx p) = false) : (portHears p s).od = s.od := by
  unfold portHears clearLanFault
  rw [if_neg (by rw [Bool.not_eq_true]; exact h)]

theorem P1.inc_od_congr {a b : P1} (h : b.od = a.od) (k : Nat) : (b.inc k).od = (a.inc k).od := by
  simp only [P1.inc, P1.add, P1.wr, P1.rd, h]

theorem prpFrame_off {p : DpPort} {s : P1} (h : portWorks p s = false) (f : DpFrame) : prpFrame p f s = s := by
  refine if_pos ?_
  simpa [portWorks, imp_iff_not_or, or_assoc] using h

/-- A frame that reaches a port is a fragment, has no trailer or has one. -/
theorem prpFrame_heard {p : DpPort} {s : P1} (h : portWorks p s = true) (f : DpFrame) : prpFrame p f s =
    if f.fragment then (portHears p s).inc (ob 0x5900 0x0E)
    else match f.lanId with
      | none => classify f.payload (portHears p s)
      | some l =>
        if f.payload = .ptp then classify f.payload (portHears p s)
        else
          let r := prpAccept p f (if l = 10 + dpIdx p then portHears p s else (portHears p s).inc (ob 0x5900 0x0D))
          if r.2 then classify f.payload r.1 else r.1 := by
  simp only [portWorks, Bool.and_eq_true] at h
  obtain ⟨⟨hon, hpkt⟩, hlink⟩ := h
  exact if_neg (by simp [hon, hpkt, hlink])

/-- A frame with the trailer of its own LAN goes through duplicate discard. -/
theorem prpFrame_trailer {p : DpPort} {f : DpFrame} {s : P1} (hworks : portWorks p s = true) (hfragment : f.fragment = false)
    (hlan : f.lanId = some (10 + dpIdx p)) (hptp : f.payload ≠ .ptp) :
    prpFrame p f s = if (prpAccept p f (portHears p s)).2 then classify f.payload (prpAccept p f (portHears p s)).1
      else (prpAccept p f (portHears p s)).1 := by
  rw [prpFrame_heard hworks, if_neg (by simp [hfragment]), hlan]
  dsimp only
  rw [if_neg hptp, if_pos rfl]

theorem prpAccept_duplicate {f : DpFrame} {n : Node} {s : P1} (hnode : (s.net.nodes.find? fun n => n.source = f.source) = some n)
    (hdup : n.duplicate f.seq s.elapsed = true) (p : DpPort) : prpAccept p f s =
      (({ s with net := { s.net with nodes := s.net.nodes.map fun x =>
        if x.source ≠ f.source then x else { x with lastGrain := s.elapsed } } } : P1).inc (ob 0x5900 0x0B), false) := by
  unfold prpAccept
  rw [hnode]
  simp [hdup]

theorem prpAccept_new {f : DpFrame} {s : P1} (hnode : (s.net.nodes.find? fun n => n.source = f.source) = none)
    (hroom : s.net.nodes.length < 512) (p : DpPort) : prpAccept p f s =
      (showNodes { s with net := { s.net with nodes := s.net.nodes ++ [⟨f.source, [(f.seq, s.elapsed)], s.elapsed⟩] } }, true) := by
  unfold prpAccept
  rw [hnode]
  exact if_pos hroom

theorem classify_nodes (x : DpPayload) (s : P1) : (classify x s).net.nodes = s.net.nodes := by
  unfold classify
  split
  · rfl
  · split <;> rfl

theorem nodeForget_nodes {n : Nat} {s : P1} (h : (s.net.nodes.any fun x => x.source = n && x.forgotten s) = true) :
    (nodeForget n s).net.nodes = s.net.nodes.filter fun x => x.source ≠ n := by
  have hlower : nodeForget n s = lower 0x0D00 nodeTableParam ((showNodes { s with net := { s.net with
      nodes := s.net.nodes.filter fun x => x.source ≠ n } }).setBit kNet 5 false) := if_pos h
  rw [hlower, P1.net_of_alarm (lower_butAlarm ..)]
  rfl

/-! ### Groups (R428) -/

theorem groupEnableRule_joins (k : Fin 16) (s : P1) : ((groupEnableRule k 1).eff s).net.joined
    = s.net.joined.filter (· ≠ s.rdN (ob (0x5910 + k) 2)) ++ [s.rdN (ob (0x5910 + k) 2)] := netSend_joined ..

/-- A group that no other enabled entry names is left. -/
theorem groupEnableRule_leaves {k : Fin 16} {s : P1} (hwf : odWf s.od = true)
    (halone : ∀ j : Fin 16, j ≠ k → s.rd (ob (0x5910 + j) 1) = 1 → s.rdN (ob (0x5910 + j) 2) ≠ s.rdN (ob (0x5910 + k) 2)) :
    ((groupEnableRule k 0).eff s).net.joined = s.net.joined.filter (· ≠ s.rdN (ob (0x5910 + k) 2)) := by
  have hnone : ¬ ((List.range 16).any fun j => (s.wr (ob (0x5910 + k) 1) 0).rd (ob (0x5910 + j) 1) = 1
      && (s.wr (ob (0x5910 + k) 1) 0).rdN (ob (0x5910 + j) 2) = s.rdN (ob (0x5910 + k) 2)) = true := by
    simp only [List.any_eq_true, List.mem_range, Bool.and_eq_true, decide_eq_true_eq, not_exists, not_and]
    intro j hj hon hgroup
    by_cases hjk : j = k
    · subst hjk
      rw [P1.wr_rd hwf, if_pos rfl] at hon
      exact absurd hon (by decide)
    · have hkeys : ob (0x5910 + j) 1 ≠ ob (0x5910 + k) 1 ∧ ob (0x5910 + j) 2 ≠ ob (0x5910 + k) 1 := by
        simp only [ob]
        omega
      rw [P1.wr_rd_other hkeys.1] at hon
      rw [P1.rdN, P1.wr_rd_other hkeys.2] at hgroup
      exact halone ⟨j, hj⟩ (fun h => hjk (congrArg Fin.val h)) hon hgroup
  have hleave : (groupEnableRule k 0).eff s = leaveGroup (s.rdN (ob (0x5910 + k) 2)) (s.wr (ob (0x5910 + k) 1) 0) := rfl
  rw [hleave, leaveGroup, if_neg hnone]
  split
  · exact netSend_joined ..
  · next hnot =>
    refine (List.filter_eq_self.mpr fun g hg => ?_).symm
    refine decide_eq_true fun h => hnot ?_
    rw [List.contains_iff_mem]
    exact h ▸ hg

theorem dpDown_of_dpIp {s : P1} (h : dpIp s = true) : dpDown s = false ∧ pktOn s = true ∧ s.rd (ob 0x5900 3) ≠ 0 := by
  simp only [dpIp, Bool.and_eq_true, Bool.or_eq_true, decide_eq_true_eq] at h
  obtain ⟨⟨hon, hpkt⟩, haddress⟩ := h
  refine ⟨?_, hpkt, haddress⟩
  rcases hon with h | h <;> simp [dpDown, h]

theorem igmpReports_noAddress {s : P1} (h : s.rd (ob 0x5900 3) = 0) : igmpReports s = s :=
  List.foldl_fixed' (fun _ => netSend_noAddress rfl h) _

/-! ### Sensor and service ports (R430, R431) -/

theorem sensorSend_room {p : Fin 4} {s : P1} (h : s.net.sensorTx[p].length < 4096) (x : NetItem) :
    (sensorSend p x s).net.sensorTx[p] = s.net.sensorTx[p] ++ [x] := by
  have hsent : sensorSend p x s = { s with net := { s.net with sensorTx := upd s.net.sensorTx p fun l => l ++ [x] } } := if_pos h
  rw [hsent]
  exact upd_get ..

theorem serviceSend_room {p : Fin 2} {s : P1} (h : s.net.serviceTx[p].length < 256) (x : NetItem) :
    (serviceSend p x s).net.serviceTx[p] = s.net.serviceTx[p] ++ [x] := by
  have hsent : serviceSend p x s = { s with net := { s.net with serviceTx := upd s.net.serviceTx p fun l => l ++ [x] } } := if_pos h
  rw [hsent]
  exact upd_get ..

theorem portDatagram_arp {p : Fin 4} {s : P1} (henabled : s.rd (ob (0x5930 + p) 1) ≠ 0) (hon : sensorOn p s = true)
    (hroom : sensorRoom p 2 s = true) : portDatagram (.sensor p) .arp s = sensorSend p .arpReply (sensorTake p 2 s) :=
  (if_neg (by simp [henabled, hon])).trans (if_neg (by simp [hroom]))

theorem portDatagram_echo {p : Fin 2} {s : P1} (hon : serviceOn p s = true) (hroom : serviceRoom p s = true) :
    portDatagram (.service p) .icmpEcho s = serviceSend p .echoReply (serviceTake p s) :=
  (if_neg (by simp [hon])).trans (if_pos hroom)

/-- Settles O49: a frame goes by its trailer and its node, a link by its port, a group by its entries, and a datagram by its port. -/
theorem networkLinksNodesAndGroups : Obligations.NetworkLinksNodesAndGroups := by
  intro s hup
  refine ⟨fun p f hworks hfragment => onP1_next hup ((prpFrame_heard hworks f).trans (if_pos hfragment)),
    fun p f hworks hfragment hlan => onP1_next hup ?bare, fun p f n hworks hfragment hlan hptp hnode hdup hclear => ?duplicate,
    fun p f hworks hfragment hlan hptp hnode hroom => ?newNode, fun p f hoff => onP1_idle hup (prpFrame_off hoff f),
    fun hdue hdp hpkt hroom => ?supervise, fun hdue => onP1_idle hup (if_neg (by simp [hdue])),
    fun p hon hfaulty hwf => ⟨?lanFault, ?lanBit, setLanFault_net ..⟩, fun d r hon hwf => ⟨?down, ?downStatus⟩,
    fun d r hon hrate hwf => ⟨?up, ?upStatus⟩, fun q b r hon hspeed hwf => ⟨?sensor, linkChange_sensor hon hspeed hwf⟩,
    fun q b r hon hrate hwf => ⟨?service, linkChange_service hon hrate hwf⟩,
    fun p b r hwf => ⟨_, onP1_next hup rfl, sfpChange_rate hwf p b r⟩, fun n hn => ⟨_, onP1_next hup rfl, nodeForget_nodes hn⟩,
    fun n hn => onP1_idle hup (if_neg (by simp [hn])), fun haddress => onP1_idle hup (igmpReports_noAddress haddress),
    fun g hdp hjoined hroom => ?query, fun w k hserves hacc => ?join, fun w k hserves hacc hwf halone => ?leave,
    fun p k hoff => onP1_idle hup (if_pos (by simp [hoff])), fun p henabled hon hroom hfree => ?arp,
    fun p hon hroom hfree => ?echo, fun w v hserves hacc => onReq_eff hserves hacc⟩
  case bare => rw [prpFrame_heard hworks, if_neg (by simp [hfragment]), hlan]
  case duplicate =>
    have hnet := portHears_net p s.p1
    have helapsed := portHears_elapsed p s.p1
    have hnode' : ((portHears p s.p1).net.nodes.find? fun n => n.source = f.source) = some n := by
      rw [hnet]
      exact hnode
    have hdropped := prpAccept_duplicate hnode' (helapsed ▸ hdup) p
    have hframe := prpFrame_trailer hworks hfragment hlan hptp
    rw [hdropped, if_neg (by simp)] at hframe
    refine ⟨_, onP1_next hup hframe, ?_, ?_, ?_⟩
    · exact P1.inc_od_congr (portHears_od hclear) _
    · rw [State.core_p1, P1.inc_net, hnet]
    · rw [State.core_p1, P1.inc_net, hnet, helapsed]
      simp only [ne_eq, ite_not]
  case newNode =>
    have hnet := portHears_net p s.p1
    have helapsed := portHears_elapsed p s.p1
    have hnodes : (portHears p s.p1).net.nodes = s.p1.net.nodes := (congrArg Network.nodes hnet :)
    have htaken := prpAccept_new (hnodes ▸ hnode) (hnodes ▸ hroom) p
    have hframe := prpFrame_trailer hworks hfragment hlan hptp
    rw [htaken, if_pos rfl] at hframe
    refine ⟨_, onP1_next hup hframe, rfl, rfl, (classify_nodes ..).trans ?_⟩
    rw [hnodes, helapsed]
    rfl
  case supervise =>
    have hsent := netSend_sent (c := 4) (x := .supervision) hdp hpkt (.inl rfl) hroom
    have hsupervised : supervise s.p1 = { s.p1 with net := { s.p1.net with
        tx := upd s.p1.net.tx 4 (fun l => l ++ [.supervision]), supervisedAt := some s.p1.elapsed } } := by
      unfold supervise
      rw [if_pos hdue, hsent]
      rfl
    exact ⟨_, onP1_next hup hsupervised, rfl, rfl, upd_get ..⟩
  case lanFault =>
    exact onP1_next (f := fun t => judgeRelinquish (lanFault p t)) hup (congrArg judgeRelinquish (if_pos (by simp [hon, hfaulty])))
  case lanBit =>
    rw [P1.bit, (setLanFault_status hwf p).2, bitOf_withBit]
  case down => exact onP1_next (f := fun t => judgeRelinquish (linkChange (.dp d) false r t)) hup rfl
  case downStatus =>
    obtain ⟨b, hstatus⟩ := linkChange_down_status hon hwf r
    exact linkStatus_shows (up := false) (by simp) hstatus
  case up => exact onP1_next (f := fun t => judgeRelinquish (linkChange (.dp d) true r t)) hup rfl
  case upStatus =>
    obtain ⟨b, hstatus⟩ := linkChange_up_status hon hrate hwf
    exact linkStatus_shows (up := true) (by rcases hrate with rfl | rfl <;> decide) hstatus
  case sensor => exact onP1_next (f := fun t => judgeRelinquish (linkChange (.sensor q) b r t)) hup rfl
  case service => exact onP1_next (f := fun t => judgeRelinquish (linkChange (.service q) b r t)) hup rfl
  case query =>
    obtain ⟨hdown, hpkt, haddress⟩ := dpDown_of_dpIp hdp
    have hreports : igmpReports s.p1 = netSend 4 (.igmpReport g) s.p1 := by
      unfold igmpReports
      rw [hjoined]
      rfl
    refine ⟨_, onP1_next hup (hreports.trans (netSend_sent hdown hpkt (.inr haddress) hroom)), upd_get ..⟩
  case join =>
    exact ⟨_, onReq_eff hserves hacc, (written_joined ..).trans (groupEnableRule_joins k s.p1)⟩
  case leave =>
    exact ⟨_, onReq_eff hserves hacc, (written_joined ..).trans (groupEnableRule_leaves hwf halone)⟩
  case arp =>
    exact ⟨_, onP1_next hup (portDatagram_arp henabled hon hroom), sensorSend_room (s := sensorTake p 2 s.p1) hfree .arpReply⟩
  case echo =>
    exact ⟨_, onP1_next hup (portDatagram_echo hon hroom), serviceSend_room (s := serviceTake p s.p1) hfree .echoReply⟩

end Sys2Proof.Machine
end
